-- ==== Sys2Proof/Word.lean ====
section
/-! DEFINITION. The word types of the GZ9128 and the type of the sparse maps that its state is held in. -/

namespace Sys2Proof

/-- One byte of a datagram, a BLOB or a frame. -/
abbrev Byte := BitVec 8
/-- A 32-bit word: a scalar register of a kernel, or a binary32 value (10 R237). -/
abbrev W32 := BitVec 32
/-- A 64-bit word: a binary64 value. -/
abbrev W64 := BitVec 64
/-- A run of bytes, lowest address first. -/
abbrev Bytes := List Byte
/-- A sparse map from Nat keys, kept with strictly rising keys and no default entry. -/
abbrev NMap (α : Type) := List (Nat × α)

/-- The value of one dictionary element (02 R67): a scalar as a number (the signed types as signed numbers,
BOOL as 0 or 1, F32 and F64 as their raw bits), or the bytes of a STR, BLOB or ARR. -/
inductive Val where
  | num (i : Int)
  | bytes (b : Bytes)
deriving DecidableEq, Repr, Inhabited

end Sys2Proof
end

