-- ==== Sys2Proof/Config.lean ====
section
/-! DEFINITION. What the spec fixes as constants of the part, and the free values it leaves open (opaque, no body). -/

namespace Sys2Proof.Config

/-! ### Free values: nothing constrains them. A statement holds whatever they are. -/

/-- sin of a binary32 angle, as a binary32 value. 07 R173 and R175 use it and state no rounding. Log entry 5. -/
opaque sinF32 : W32 → W32
/-- cos of a binary32 angle. 07 R173, R175. Log entry 5. -/
opaque cosF32 : W32 → W32
/-- tan of a binary32 angle, for the prewarping of 07 R168. Log entry 5. -/
opaque tanF32 : W32 → W32
/-- Which phase the planner of 04 R99 and R100 lengthens next by one axis beat where rounding alone would break a limit: by the motion's
start, goal and limits and by the rounds left. Log entry 6. -/
opaque planPhase : List Int → Nat → Nat
/-- A scratch word of a kernel at a beat start, which Table 10-3 calls undefined: by a counter of kernel runs and the address. Log entry 7. -/
opaque scratchWord : Nat → Nat → W32
/-- A byte of a factory value (SerialNumber, DeviceSalt, version strings) where the fuse rows have not given it. Log entry 8. -/
opaque factoryByte : Nat → Nat → Byte
/-- A stated operation whose result the spec does not state for these operands. Log entry 9. -/
opaque openValue : Nat → List Int → Int
/-- What a remote member of a cluster sends of itself with a network cycle, which the forager carries in a form the spec does not give (01 R21,
R24): by cluster, member index, network cycle and object key. Log entry 44. -/
opaque remoteMember : Nat → Nat → Nat → Nat → Int

/-! ### Constants of the part -/

/-- 00 R2: sleeves. -/
def numSleeves : Nat := 32
/-- 00 R2: cells. -/
def numCells : Nat := 128
/-- 04 Table 4-1: axes. -/
def numAxes : Nat := 416
/-- 02 R58: bytes of the hive event queue. -/
def eventQueueBytes : Nat := 1048576
/-- 05 R133: points of the cam pool. -/
def camPoolPoints : Nat := 1048576
/-- 16 R362: the live limit of the journal. -/
def journalLiveLimit : Nat := 12582912
/-- 16 Table 16-1: bytes of one region's record area. -/
def regionBytes : Nat := 25161728
/-- 11 R269: bytes of a recorder's stream buffer. -/
def streamBufferBytes : Nat := 65536
/-- 03 R76: units of the time counter in one nanosecond. -/
def counterPerNs : Nat := 4294967296
/-- Quanta of 62.5 ps in one nanosecond. -/
def quantaPerNs : Nat := 16
/-- Units of the time counter in one quantum of 62.5 ps. -/
def counterPerQuantum : Nat := 268435456
/-- Quanta in one step of 62.5 ns, the step of BeatPeriod. -/
def quantaPerStep : Nat := 1000

/-- 18 Table 18-5: power-on thresholds in microvolts. -/
def vcorePowerOn : Nat := 690000
/-- 18 Table 18-5. -/
def vddioPowerOn : Nat := 3000000
/-- 18 Table 18-5. -/
def vdd18PowerOn : Nat := 1650000
/-- 18 Table 18-5: brown-out thresholds in microvolts. -/
def vcoreBrownOut : Nat := 680000
/-- 18 Table 18-5. -/
def vddioBrownOut : Nat := 2950000
/-- 18 Table 18-5. -/
def vdd18BrownOut : Nat := 1620000
/-- 14 Table 14-3: VFIELD_LOW threshold in microvolts. -/
def vfieldLow : Nat := 18000000

end Sys2Proof.Config
end

