-- ==== Sys2Proof/Syntax.lean ====
section
/-! DEFINITION. The commands of the block: one constructor of Instr per row of spec/opcode_table.json, with its operands.
Units, objects, sessions and pins are given by the numbers of the manual; instants are in quanta of 62.5 ps of network time. -/

namespace Sys2Proof

/-- Where a datagram comes from: source IPv4 address and UDP port (02 R50). -/
structure Src where
  addr : Nat
  port : Nat
deriving DecidableEq, Repr, Inhabited

/-- A received UDP payload with its source and the address and port it was sent to; an IPv4 fragment is marked (02 R36, R38, R39). -/
structure Dgram where
  src : Src
  dst : Src
  fragment : Bool
  bytes : Bytes
deriving DecidableEq, Repr, Inhabited

/-- The request item that a write came from, whose reply it answers: session slot and identifier, request number, item index (02 R44). -/
structure Origin where
  slot : Nat
  sid : Nat
  req : Nat
  item : Nat
deriving DecidableEq, Repr, Inhabited

/-- One write to one element of a unit (02 R67): the data bytes, the byte offset and LAST of Table 2-3. -/
structure Write where
  unit : Nat
  elem : Nat := 0
  data : Bytes
  offset : Nat := 0
  last : Bool := false
  origin : Option Origin := none
deriving DecidableEq, Repr, Inhabited

/-- What a sleeve sees at a tick start (09 R214, R231): the bits of its three sigma-delta streams, newest first. -/
structure SleeveSample where
  sleeve : Nat
  sdI1 : List Bool
  sdI2 : List Bool
  sdVdc : List Bool
deriving DecidableEq, Repr, Inhabited

/-- The random draw of an OPEN (02 R49): the SessionId and the 32 challenge bytes. -/
structure OpenDraw where
  sid : Nat
  challenge : Bytes
deriving DecidableEq, Repr, Inhabited

/-- The roles of #0341 CellRole (01 Table 1-6). -/
inductive Role where
  | none | localServo | netGroup | virtGroup | recorder | coordinator
deriving DecidableEq, Repr, Inhabited

/-- A cell of the comb plan: role, clock in MHz and the units it serves (01, The comb plan). -/
structure CellPlan where
  cell : Nat
  role : Role
  clock : Nat
  units : List Nat
deriving DecidableEq, Repr, Inhabited

/-- A sleeve of the comb plan (08 R193, R198): the local axis bound to it (0 none), carrier divider, update mode, SyncOffset. -/
structure SleevePlan where
  sleeve : Nat
  axis : Nat
  divider : Nat
  mode : Nat
  syncOffset : Nat
deriving DecidableEq, Repr, Inhabited

/-- How a member is named beneath a cluster (01 R22): a unit of this device, or a member of another device by its index. -/
inductive Member where
  | device (unit : Nat)
  | remote (index : Nat)
deriving DecidableEq, Repr, Inhabited

/-- A cluster of the comb plan (01 R21, R26): members in order, the torque shares as binary32 bits, the lead member. -/
structure ClusterPlan where
  cluster : Nat
  coordinator : Nat
  members : List Member
  shares : List Nat
  lead : Nat
deriving DecidableEq, Repr, Inhabited

/-- A user kernel of the comb plan (10 R248): its number, cell, home unit and image bytes. -/
structure KernelPlan where
  kernel : Nat
  cell : Nat
  home : Nat
  image : Bytes
deriving DecidableEq, Repr, Inhabited

/-- What a comb plan states (01, The comb plan): powered quadrants, cells, sleeves, clusters, kernels, the SDCLK divider per bank.
The byte format of the image is not in the spec; signature is the CRC-32C of the image. -/
structure CombPlan where
  quadrants : List Nat
  cells : List CellPlan
  sleeves : List SleevePlan
  clusters : List ClusterPlan
  kernels : List KernelPlan
  sdDividers : List Nat
  signature : Nat
deriving DecidableEq, Repr, Inhabited

/-- Trip sources of 08 R205, in the bit order of TripLatch. -/
inductive TripSource where
  | pin | overCurrent | veil
deriving DecidableEq, Repr, Inhabited

/-- A trip source as it stands at a sleeve's input, high since a stamp (08 R205): the pin's filter takes it from there. -/
structure TripInput where
  source : TripSource
  stamp : Nat
deriving DecidableEq, Repr, Inhabited

/-- A received PTP message as the protocol engine sees it (03 R73 to R75). Times in 2^-16 ns. -/
structure PtpMsg where
  port : Nat
  domain : Nat
  seq : Nat
  twoStep : Bool
  source : Nat
  origin : Int
  correction : Int
  stamp : Int
  udp : Bool
deriving DecidableEq, Repr, Inhabited

/-- The data set an Announce carries, in the comparison order of IEEE 1588-2019 (03 R73). -/
structure Announce where
  port : Nat
  domain : Nat
  source : Nat
  priority1 : Nat
  clockClass : Nat
  accuracy : Nat
  variance : Nat
  priority2 : Nat
  identity : Nat
  stepsRemoved : Nat
  udp : Bool
deriving DecidableEq, Repr, Inhabited

/-- An ARP request as it arrives (02 R36). -/
structure ArpRequest where
  senderMac : Nat
  senderIp : Nat
  targetIp : Nat
deriving DecidableEq, Repr, Inhabited

/-- An ICMP echo request as it arrives (02 R36): a fragment is marked. -/
structure IcmpEcho where
  src : Nat
  dst : Nat
  ident : Nat
  seq : Nat
  data : Bytes
  fragment : Bool
deriving DecidableEq, Repr, Inhabited

/-- A serial frame as the veil snoops it (13 R295): of SSI the bits as they came, of FSP the reply's bytes. -/
inductive SnoopedFrame where
  | ssi (bits : List Bool)
  | fsp (bytes : Bytes)
deriving DecidableEq, Repr, Inhabited

/-- What the veil samples at the start of a cycle (13 R294, R295, R307, R312): the two channel levels of each safety input
ahead of its filter (true: not safe), the alive toggle of the safety lanes, STOFB levels,
and per sleeve the count change of its own decoder and the illegal transitions seen in the cycle. -/
structure VeilInputs where
  chanA : List Bool
  chanB : List Bool
  lanesAlive : Bool
  stofb : Nat
  counts : List (Nat × Int)
  illegal : List (Nat × Nat)
  diagFail : Option Nat
deriving DecidableEq, Repr, Inhabited

/-- A frame record of 15 Table 15-2, as it stands on the bus. -/
structure CanFrame where
  ident : Nat
  ide : Bool
  fdf : Bool
  brs : Bool
  rtr : Bool
  esi : Bool
  data : Bytes
deriving DecidableEq, Repr, Inhabited

/-- The kinds of transmit error of 15 R344: acknowledgement or any other; and whether the passive error flag of an
error-passive transmitter met no dominant bit (the exception of R345). -/
inductive CanTxErr where
  | ack (passiveFlagClean : Bool)
  | other
deriving DecidableEq, Repr, Inhabited

/-- A field-die channel with a switch (14 Table 14-1): an output or a sensor supply. -/
inductive FieldSwitch where
  | output (o : Nat)
  | supply (k : Nat)
deriving DecidableEq, Repr, Inhabited

/-- The reset sources of 17 Table 17-2. -/
inductive ResetSource where
  | por | borCore | borIo | pin | keeperWdg | fatal | veilReq | swReq | debug | thermal
deriving DecidableEq, Repr, Inhabited

/-- The reset reaches of 17 Table 17-3 that a source can take. -/
inductive Reach where
  | full | device | keeper | comb
deriving DecidableEq, Repr, Inhabited

/-- The supplies at an instant, in microvolts (17 Table 17-2, 18 Table 18-5). -/
structure Supplies where
  vcore : Nat
  vddio : Nat
  vdd18 : Nat
  vbat : Nat
deriving DecidableEq, Repr, Inhabited

/-- One fuse row as the array reads: 32 data bits and the 8-bit check (17 R377). -/
structure FuseRow where
  data : Nat
  check : Nat
deriving DecidableEq, Repr, Inhabited

/-- One constructor per row of the opcode table, in the table's order. -/
inductive Instr where
  | beatStart (samples : List SleeveSample)
  | tickStart (sample : SleeveSample)
  | cellCommit (cell : Nat) (registered : Nat)
  | deadline (cell : Nat)
  | carrierUpdate (sleeve : Nat)
  | pulseDecision (sleeve : Nat) (phase : Nat) (high : Bool)
  | delayCal (bank : Nat) (ok : Bool)
  | trip (sleeve : Nat) (source : TripInput)
  | tripSourceDeassert (sleeve : Nat) (source : TripSource)
  | tripClear (w : Write)
  | tripCleared (sleeve : Nat)
  | readback (sleeve : Nat) (pin : Nat) (level : Bool)
  | unitStop (unit : Nat) (origin : Option Origin)
  | unitDisable (unit : Nat) (origin : Option Origin)
  | unitEnable (unit : Nat) (origin : Option Origin)
  | unitStart (unit : Nat) (origin : Option Origin)
  | selfTestDone (cell : Nat) (pass : Bool)
  | combPlanApply (plan : CombPlan) (origin : Option Origin)
  | roleReassign (failed : Nat)
  | openSession (d : Dgram) (draw : OpenDraw)
  | proof (d : Dgram)
  | challengeTimeout (slot : Nat)
  | close (d : Dgram)
  | keepalive (d : Dgram)
  | sessionTimeout (slot : Nat)
  | read (d : Dgram)
  | write (d : Dgram)
  | stage (d : Dgram)
  | commit (d : Dgram)
  | revoke (d : Dgram)
  | waggleAck (d : Dgram)
  | pdOut (d : Dgram) (arrival : Nat)
  | arpRequest (r : ArpRequest)
  | icmpEchoRequest (r : IcmpEcho)
  | commissioningProbe (answered : Bool)
  | netApply (w : Write)
  | levelKey (w : Write)
  | waggleSend (slot : Nat)
  | waggleRepeat (slot : Nat)
  | gapAppend
  | pdMapApply (w : Write)
  | pdInLaunch
  | counterClear (obj : Nat) (w : Write)
  | objectWrite (obj : Nat) (w : Write)
  | sync (m : PtpMsg)
  | followUp (m : PtpMsg)
  | announce (a : Announce)
  | pdelayReq (m : PtpMsg)
  | pdelayResp (m : PtpMsg) (t1 t2 t3 : Int)
  | delayReq (m : PtpMsg)
  | delayResp (m : PtpMsg) (t1 t2 t3 : Int)
  | eventMessageForward (m : PtpMsg) (residence : Nat)
  | syncTimeout
  | timeOfDaySet (w : Write)
  | timingObjectWrite (obj : Nat) (w : Write)
  | ppsOutEdge
  | ppsInEdge (stamp : Nat)
  | segmentAppend (w : Write)
  | queueFlush (unit : Nat) (origin : Option Origin)
  | queueAbort (unit : Nat) (origin : Option Origin)
  | jobDiscard (w : Write)
  | commitLoaded
  | commitLoadCheck
  | phaseTrimAdd (w : Write)
  | camOpen (table : Nat) (origin : Option Origin)
  | camSeal (table : Nat) (origin : Option Origin)
  | camErase (table : Nat) (origin : Option Origin)
  | latchEdge (input : Nat) (level : Bool) (stamp : Nat)
  | latchEntryInsert (unit : Nat)
  | compareAppend (w : Write)
  | compareTargetInsert (unit : Nat)
  | compareFire (unit : Nat)
  | pulseEnd (pin : Nat)
  | compareFlush (unit : Nat) (origin : Option Origin)
  | compareStatusClear (w : Write)
  | torqueOffsetClear (unit : Nat) (origin : Option Origin)
  | bankSwapRequest (w : Write)
  | countEdge (sleeve : Nat) (a b : Bool) (stamp : Nat)
  | hallStep (sleeve : Nat) (a b c : Bool) (stamp : Nat)
  | indexEdge (sleeve : Nat) (stamp : Nat)
  | serialTransactionStart (sleeve : Nat)
  | ssiFrame (sleeve : Nat) (idleHigh : Bool) (bits : List Bool)
  | fspReply (sleeve : Nat) (bytes : Bytes) (framingOk : Bool)
  | fspTimeout (sleeve : Nat)
  | fspRegisterRequest (w : Write)
  | ocDetect (sleeve : Nat) (i1 i2 : List Bool)
  | sdStreamStuck (sleeve : Nat) (bits : List Bool)
  | nop (k : Nat)
  | add (k : Nat) (d a b : Fin 32)
  | sub (k : Nat) (d a b : Fin 32)
  | and (k : Nat) (d a b : Fin 32)
  | or (k : Nat) (d a b : Fin 32)
  | xor (k : Nat) (d a b : Fin 32)
  | shl (k : Nat) (d a b : Fin 32)
  | shr (k : Nat) (d a b : Fin 32)
  | sar (k : Nat) (d a b : Fin 32)
  | mul (k : Nat) (d a b : Fin 32)
  | mulh (k : Nat) (d a b : Fin 32)
  | slt (k : Nat) (d a b : Fin 32)
  | sltu (k : Nat) (d a b : Fin 32)
  | addi (k : Nat) (d : Fin 32) (imm : BitVec 19)
  | andi (k : Nat) (d : Fin 32) (imm : BitVec 19)
  | ori (k : Nat) (d : Fin 32) (imm : BitVec 19)
  | lui (k : Nat) (d : Fin 32) (imm : BitVec 19)
  | fadd (k : Nat) (d a b : Fin 32)
  | fsub (k : Nat) (d a b : Fin 32)
  | fmul (k : Nat) (d a b : Fin 32)
  | ffma (k : Nat) (d a b c : Fin 32)
  | fdiv (k : Nat) (d a b : Fin 32)
  | fsqrt (k : Nat) (d a : Fin 32)
  | itof (k : Nat) (d a : Fin 32)
  | ftoi (k : Nat) (d a : Fin 32)
  | flt (k : Nat) (d a b : Fin 32)
  | fneg (k : Nat) (d a : Fin 32)
  | fabs (k : Nat) (d a : Fin 32)
  | vld (k : Nat) (d : Fin 8) (p : Fin 8) (mode : Fin 4) (off : BitVec 14)
  | vst (k : Nat) (d : Fin 8) (p : Fin 8) (mode : Fin 4) (off : BitVec 14)
  | vbc (k : Nat) (d : Fin 8) (a : Fin 32)
  | vfma (k : Nat) (d : Fin 4) (a : Fin 32) (b : Fin 8)
  | vmul (k : Nat) (d : Fin 8) (a : Fin 32) (b : Fin 8)
  | vadd (k : Nat) (d a b : Fin 8)
  | aclr (k : Nat) (d : Fin 4)
  | amov (k : Nat) (d : Fin 8) (a : Fin 4)
  | vsum (k : Nat) (d : Fin 32) (a : Fin 8)
  | vget (k : Nat) (d : Fin 32) (a : Fin 8) (func : BitVec 4)
  | vput (k : Nat) (d : Fin 8) (a : Fin 32) (func : BitVec 4)
  | ld (k : Nat) (d : Fin 32) (p : Fin 8) (mode : Fin 4) (off : BitVec 14)
  | st (k : Nat) (d : Fin 32) (p : Fin 8) (mode : Fin 4) (off : BitVec 14)
  | pset (k : Nat) (d : Fin 8) (a : Fin 32)
  | bset (k : Nat) (d : Fin 8) (a : Fin 32)
  | lset (k : Nat) (d : Fin 8) (a : Fin 32)
  | pget (k : Nat) (d : Fin 32) (a : Fin 8)
  | srch (k : Nat) (d : Fin 32) (a : Fin 8) (b : Fin 32) (func : BitVec 4)
  | bz (k : Nat) (d : Fin 32) (imm : BitVec 19)
  | bnz (k : Nat) (d : Fin 32) (imm : BitVec 19)
  | br (k : Nat) (imm : BitVec 19)
  | loop (k : Nat) (d : Fin 32) (imm : BitVec 19)
  | jal (k : Nat) (d : Fin 32) (imm : BitVec 19)
  | jr (k : Nat) (a : Fin 32)
  | endK (k : Nat)
  | illegalInstruction (k : Nat) (word : W32)
  | kernelOverrun (k : Nat)
  | crcPoly (k : Nat) (v : W32)
  | crcCfg (k : Nat) (v : W32)
  | crcInit (k : Nat) (v : W32)
  | crcValue (k : Nat) (v : W32)
  | crcIn8 (k : Nat) (v : W32)
  | crcIn16 (k : Nat) (v : W32)
  | crcIn32 (k : Nat) (v : W32)
  | kernelRestart (w : Write)
  | kernelUpdateApply (w : Write)
  | triggerCondition (w : Write)
  | streamDatagramSend (recorder : Nat)
  | streamFlushTimeout (recorder : Nat)
  | faultHit (unit : Nat) (bit : Nat)
  | faultStickyClear (shadowed : Bool) (w : Write)
  | readyingDone (cell : Nat)
  | rehousingQueuedStart
  | roleGrant (cell : Nat)
  | quietPeriodEnd (unit : Nat) (channel : Option Nat)
  | retireRelease (w : Write)
  | operatingTimeSave
  | veilCycle (inp : VeilInputs)
  | veilFrame (sleeve : Nat) (good : Bool) (frame : SnoopedFrame) (received : Nat)
  | stoDarkTest (group : Nat) (lowSeen highSeen : Bool)
  | testPulse (output : Nat) (readsZero : List (Nat × Bool))
  | groupLatchClear (w : Write)
  | safetyKeyEnrol (w : Write)
  | enrolTimeout
  | safetyReset (w : Write)
  | veilSelfTestDone (pass : Bool)
  | seamFrameSend
  | seamFrameReceive (toField : Bool) (valid : Bool)
  | fieldSeamLoss
  | seamLoss
  | fieldInputSample (levels : Nat) (low : Nat)
  | outputSet (w : Write)
  | outputClear (w : Write)
  | currentLimitTimeout (ch : FieldSwitch)
  | outputRetry (ch : FieldSwitch)
  | outOvertemp (ch : FieldSwitch)
  | outOpenLoad (output : Nat)
  | tpOverload (output : Nat)
  | vfieldLow (microvolts : Nat)
  | dieOvertemp
  | txSlot (w : Write)
  | txAbort (w : Write)
  | rxRead (unit : Nat) (dataLength : Nat) (origin : Option Origin)
  | arbitration (unit : Nat) (won : Bool) (sof : Nat)
  | txDone (unit : Nat)
  | txError (unit : Nat) (e : CanTxErr)
  | busRecovered (unit : Nat)
  | canFrameReceive (unit : Nat) (f : CanFrame) (sof : Nat)
  | refMessageDue (unit : Nat)
  | journalCommit
  | renderNow (w : Write)
  | renderDone
  | retirementsAccept (w : Write)
  | pfail
  | firmwareApply (w : Write) (signatureOk : Bool)
  | firmwareConfirmed
  | por (v : Supplies)
  | borCore (v : Supplies)
  | borIo (v : Supplies)
  | pin
  | keeperWdg
  | debug
  | thermal (milliCelsius : Int)
  | resetRequestFull (origin : Option Origin)
  | resetRequestDevice (origin : Option Origin)
  | resetRequestKeeper (origin : Option Origin)
  | resetRequestComb (origin : Option Origin)
  | resetStretchEnd
  | fuseLoadDone (rows : List FuseRow)
  | keeperBootDone (signatureOk : Bool)
  | journalReplayDone
  | keeperResetDone (signatureOk : Bool)
  | combReset
  | drainRequest (unit : Nat) (origin : Option Origin)
  | drainCancel (unit : Nat) (origin : Option Origin)
  | drainIdle (unit : Nat)
  | unitReset (unit : Nat) (origin : Option Origin)
  | jtagUnlock (w : Write)
  | thermalHigh (milliCelsius : Int)
  | vfieldAbsent
  | fieldDiePowerUp
  | faultSourceInactive (unit : Nat) (bit : Nat)
  | resetSourceDeassert (source : ResetSource)
  | thermalRearm (milliCelsius : Int)
  | busError (unit : Nat)
deriving DecidableEq, Repr

end Sys2Proof
end

