-- ==== Sys2Proof/Decode.lean ====
section
/-! DEFINITION. Commands as words: the opcode table of this hardware gives no row any bits, so no word spells a command. -/

namespace Sys2Proof

/-- The command that a word of the opcode table spells: none, for every row has no bits there. -/
def decodeTableWord (_nbits _w : Nat) : Option Instr := none

end Sys2Proof
end

