-- ==== Sys2Proof/Machine/Codec.lean ====
section
/-! DEFINITION. Byte order, check values, HMAC-SHA-256 and the other pure byte functions that the chapters share. -/

namespace Sys2Proof.Machine

/-! ### Little-endian numbers (00 R4) -/

/-- n bytes of a number, least significant first. -/
def leBytes : Nat → Nat → Bytes
  | 0, _ => []
  | n + 1, v => BitVec.ofNat 8 v :: leBytes n (v / 256)

/-- The number that bytes spell, least significant first. -/
def leNat : Bytes → Nat
  | [] => 0
  | b :: r => b.toNat + 256 * leNat r

/-- n bytes of a signed number in two's complement. -/
def leBytesI (n : Nat) (v : Int) : Bytes := leBytes n (v % (2 ^ (8 * n) : Nat)).toNat

/-- A number of w bits read as two's complement. -/
def signed (w : Nat) (v : Nat) : Int := if v % 2 ^ w < 2 ^ (w - 1) then (v % 2 ^ w : Nat) else (v % 2 ^ w : Nat) - (2 ^ w : Nat)

/-- Two's complement of w bits: the value that a w-bit register holds after writing v. -/
def wrapI (w : Nat) (v : Int) : Int := signed w (v % (2 ^ w : Nat)).toNat

/-- The number modulo 2^w. -/
def wrapU (w : Nat) (v : Int) : Nat := (v % (2 ^ w : Nat)).toNat

/-- n bytes from offset o, read as a little-endian number. -/
def fieldLE (b : Bytes) (o n : Nat) : Nat := leNat ((b.drop o).take n)

/-- n bytes from offset o, read as a signed little-endian number. -/
def fieldLEI (b : Bytes) (o n : Nat) : Int := signed (8 * n) (fieldLE b o n)

/-- Bit i of a number. -/
def bitOf (v i : Nat) : Bool := v / 2 ^ i % 2 == 1

/-- v with bit i set. -/
def setBit (v i : Nat) : Nat := if bitOf v i then v else v + 2 ^ i

/-- v with bit i cleared. -/
def clrBit (v i : Nat) : Nat := if bitOf v i then v - 2 ^ i else v

/-- v with bit i as given. -/
def putBit (v i : Nat) (b : Bool) : Nat := if b then setBit v i else clrBit v i

/-- The number whose bits are listed, bit 0 first. -/
def bitsToNat : List Bool → Nat
  | [] => 0
  | b :: r => (if b then 1 else 0) + 2 * bitsToNat r

/-- Bits 0 to n - 1 that are set, in rising order. -/
def bitsOf (n v : Nat) : List Nat := (List.range n).filter (bitOf v)

/-! ### Check values -/

/-- One step of a reflected CRC by one bit. -/
def crcStepR (poly : Nat) (c : Nat) : Nat := if c % 2 = 1 then (c / 2).xor poly else c / 2

/-- n steps. -/
def crcStepsR (poly : Nat) : Nat → Nat → Nat
  | 0, c => c
  | n + 1, c => crcStepsR poly n (crcStepR poly c)

/-- CRC-32C of 02 R40: polynomial 0x1EDC6F41 (reflected 0x82F63B78), reflected in and out, initial value and final XOR of ones. -/
def crc32c (b : Bytes) : Nat :=
  (b.foldl (fun c x => crcStepsR 0x82F63B78 8 (c.xor x.toNat)) 0xFFFFFFFF).xor 0xFFFFFFFF

/-- One bit of a CRC of w bits that takes the most significant bit first. -/
def crcBitM (w poly : Nat) (c : Nat) (bit : Bool) : Nat :=
  let top := bitOf c (w - 1)
  let c' := 2 * c % 2 ^ w
  if top != bit then c'.xor poly else c'

/-- The bits of a number of w bits, most significant first. -/
def msbBits : Nat → Nat → List Bool
  | 0, _ => []
  | w + 1, v => bitOf v w :: msbBits w v

/-- A CRC of w bits over a bit string, first bit first. -/
def crcBits (w poly init : Nat) (bits : List Bool) : Nat := bits.foldl (crcBitM w poly) init

/-- The bits of bytes, each byte most significant bit first. -/
def byteBits (b : Bytes) : List Bool := b.flatMap fun x => msbBits 8 x.toNat

/-- v of w bits with its bit order reversed. -/
def revBits (w v : Nat) : Nat := bitsToNat (msbBits w v)

/-! ### HMAC-SHA-256 (02 R49) -/

/-- Rotation to the right of a 32-bit number. -/
def rotr (n x : Nat) : Nat := (x / 2 ^ n) + x % 2 ^ n * 2 ^ (32 - n)

/-- The largest number of b bits above r whose k-th power is at most n. -/
def rootBits (k n : Nat) : Nat → Nat → Nat
  | 0, r => r
  | b + 1, r => rootBits k n b (if (r + 2 ^ b) ^ k ≤ n then r + 2 ^ b else r)

/-- The first 32 bits of the fractional part of the k-th root of p. -/
def rootFraction (k p : Nat) : Nat := rootBits k (p * 2 ^ (32 * k)) 37 0 % 2 ^ 32

/-- The first 64 primes. -/
def shaPrimes : List Nat := (List.range 312).filter fun n => decide (2 ≤ n) && (List.range 18).all fun d => decide (d < 2 ∨ n < d * d) || n % d != 0

/-- The round constants of SHA-256: from the cube roots of the first 64 primes. -/
def shaConstants : List Nat := shaPrimes.map (rootFraction 3)

/-- The initial hash value of SHA-256: from the square roots of the first 8 primes. -/
def shaStart : List Nat := (shaPrimes.take 8).map (rootFraction 2)

/-- The exclusive-or of a word's rotations by the given numbers of bits. -/
def rotations (l : List Nat) (x : Nat) : Nat := l.foldl (fun y n => y.xor (rotr n x)) 0

/-- A message schedule, newest word first, with n more words. -/
def shaExtend : Nat → List Nat → List Nat
  | 0, w => w
  | n + 1, w =>
    let back (i : Nat) : Nat := w.getD (i - 1) 0
    let far := (rotations [7, 18] (back 15)).xor (back 15 / 2 ^ 3)
    let near := (rotations [17, 19] (back 2)).xor (back 2 / 2 ^ 10)
    shaExtend n ((back 16 + far + back 7 + near) % 2 ^ 32 :: w)

/-- One round on the eight working words, with its constant and its schedule word: two words are new, six move on. -/
def shaRound (h : List Nat) (c : Nat × Nat) : List Nat :=
  let x (i : Nat) : Nat := h.getD i 0
  let choice := (x 4).land (x 5) + (0xFFFFFFFF - x 4).land (x 6)
  let majority := ((x 0).land (x 1)).lor ((x 2).land ((x 0).lor (x 1)))
  let sum := x 7 + rotations [6, 11, 25] (x 4) + choice + c.1 + c.2
  (sum + rotations [2, 13, 22] (x 0) + majority) % 2 ^ 32 :: h.take 3 ++ (x 3 + sum) % 2 ^ 32 :: (h.drop 4).take 3

/-- A big-endian 32-bit word. -/
def beWord (b : Bytes) : Nat := leNat (b.take 4).reverse

/-- The 16 words of a 64-byte block. -/
def blockWords (b : Bytes) : List Nat := (List.range 16).map fun i => beWord (b.drop (4 * i))

/-- The hash value after one block. -/
def shaBlock (h : List Nat) (b : Bytes) : List Nat :=
  let words := (shaExtend 48 (blockWords b).reverse).reverse
  List.zipWith (fun x y => (x + y) % 2 ^ 32) h ((shaConstants.zip words).foldl shaRound h)

/-- Cut bytes into n blocks of k. -/
def chunks (k : Nat) : Nat → Bytes → List Bytes
  | 0, _ => []
  | n + 1, b => b.take k :: chunks k n (b.drop k)

/-- A message with its padding: a one, zeros, and its length in bits. -/
def shaPad (m : Bytes) : Bytes := m ++ 0x80 :: List.replicate ((119 - m.length % 64) % 64) 0 ++ (leBytes 8 (8 * m.length)).reverse

/-- SHA-256. -/
def sha256 (m : Bytes) : Bytes :=
  let p := shaPad m
  ((chunks 64 (p.length / 64) p).foldl shaBlock shaStart).flatMap fun x => (leBytes 4 x).reverse

/-- HMAC-SHA-256 under a key of at most 64 bytes. -/
def hmac (key m : Bytes) : Bytes :=
  let k := key ++ List.replicate (64 - key.length) 0
  sha256 (k.map (· ^^^ 0x5c) ++ sha256 (k.map (· ^^^ 0x36) ++ m))

/-! ### UTF-8 (02 R67) -/

/-- A continuation byte. -/
def utf8Cont (b : Byte) : Bool := decide (0x80 ≤ b.toNat ∧ b.toNat < 0xC0)

/-- Valid UTF-8, with a bound on the characters. -/
def utf8Fuel : Nat → Bytes → Bool
  | _, [] => true
  | 0, _ => false
  | n + 1, a :: r =>
    if a.toNat < 0x80 then utf8Fuel n r
    else match r with
      | b :: r1 =>
        if 0xC2 ≤ a.toNat ∧ a.toNat < 0xE0 then utf8Cont b && utf8Fuel n r1
        else match r1 with
          | c :: r2 =>
            if 0xE0 ≤ a.toNat ∧ a.toNat < 0xF0 then
              utf8Cont b && utf8Cont c && decide (¬ (a.toNat = 0xE0 ∧ b.toNat < 0xA0)) && decide (¬ (a.toNat = 0xED ∧ 0xA0 ≤ b.toNat))
                && utf8Fuel n r2
            else match r2 with
              | d :: r3 =>
                decide (0xF0 ≤ a.toNat ∧ a.toNat < 0xF5) && utf8Cont b && utf8Cont c && utf8Cont d
                  && decide (¬ (a.toNat = 0xF0 ∧ b.toNat < 0x90)) && decide (¬ (a.toNat = 0xF4 ∧ 0x90 ≤ b.toNat)) && utf8Fuel n r3
              | [] => false
          | [] => false
      | [] => false

/-- Valid UTF-8. -/
def utf8Ok (b : Bytes) : Bool := utf8Fuel (b.length + 1) b

end Sys2Proof.Machine
end

