-- ==== Sys2Proof/Machine/Float.lean ====
section
/-! DEFINITION. IEEE 754 binary32 and binary64 on raw bits, exact: an operation is carried out on rationals and rounded once to nearest,
ties to even (07 R164, 10 R238, 05 R124, 09 R229). A format may take subnormal operands, and results, as zero. -/

namespace Sys2Proof.Machine

/-- A binary format: precision with the hidden bit, exponent width, and whether subnormal results and operands are taken as zero. -/
structure Fmt where
  prec : Nat
  ebits : Nat
  ftz : Bool
  daz : Bool := ftz
deriving DecidableEq, Repr

/-- binary32 as the cells compute: subnormal operands and results are zero (10 R238). -/
def b32 : Fmt := { prec := 24, ebits := 8, ftz := true }
/-- binary32 as the control engine computes: a subnormal result is zero (07 R164). -/
def b32e : Fmt := { prec := 24, ebits := 8, ftz := true, daz := false }
/-- binary32 with subnormals: a plain rounding to F32. -/
def b32s : Fmt := { prec := 24, ebits := 8, ftz := false }
/-- binary64. -/
def b64 : Fmt := { prec := 53, ebits := 11, ftz := false }

/-- What bits spell. -/
inductive FVal where
  | nan
  | inf (neg : Bool)
  | fin (neg : Bool) (q : Rat)
deriving DecidableEq, Repr

/-- 2^e for an integer e, as a rational. -/
def pow2 (e : Int) : Rat := if 0 ≤ e then ((2 ^ e.toNat : Nat) : Rat) else mkRat 1 (2 ^ (-e).toNat)

/-- Weight of the mantissa's units place at the least exponent. -/
def Fmt.ulpMin (f : Fmt) : Int := 3 - (2 ^ (f.ebits - 1) : Nat) - f.prec
/-- The bits of positive infinity. -/
def Fmt.infBits (f : Fmt) : Nat := (2 ^ f.ebits - 1) * 2 ^ (f.prec - 1)
/-- The sign bit. -/
def Fmt.signBit (f : Fmt) : Nat := 2 ^ (f.ebits + f.prec - 1)
/-- The quiet NaN that operations give (10 R238). -/
def Fmt.nanBits (f : Fmt) : Nat := f.infBits + 2 ^ (f.prec - 2)

/-- The value that bits spell. -/
def fDec (f : Fmt) (b : Nat) : FVal :=
  let neg := decide (f.signBit ≤ b)
  let m := b % f.signBit
  let e := m / 2 ^ (f.prec - 1)
  let t := m % 2 ^ (f.prec - 1)
  if e = 2 ^ f.ebits - 1 then (if t = 0 then .inf neg else .nan)
  else
    let q : Rat := if e = 0 then (if f.daz then 0 else (t : Rat) * pow2 f.ulpMin) else ((t + 2 ^ (f.prec - 1) : Nat) : Rat) * pow2 (f.ulpMin + e - 1)
    .fin neg (if neg then -q else q)

/-- n / d to the nearest integer, ties to even. -/
def divEven (n d : Nat) : Nat :=
  let q := n / d
  let r := n % d
  if 2 * r < d then q else if d < 2 * r then q + 1 else q + q % 2

/-- round_half_even of a rational. -/
def rhe (q : Rat) : Int := if q.num < 0 then -(divEven q.num.natAbs q.den : Int) else divEven q.num.natAbs q.den

/-- The exponent e with 2^e ≤ q < 2^(e+1), for q > 0. -/
def expOf (q : Rat) : Int :=
  let e : Int := (Nat.log2 q.num.natAbs : Int) - Nat.log2 q.den
  if q < pow2 e then e - 1 else e

/-- A rational rounded to the format; s is the sign of a zero result. -/
def fRound (f : Fmt) (s : Bool) (q : Rat) : Nat :=
  let neg := if q = 0 then s else decide (q < 0)
  let sb := if neg then f.signBit else 0
  if q = 0 then sb
  else
    let a : Rat := if q < 0 then -q else q
    let u := max (expOf a - (f.prec - 1 : Nat)) f.ulpMin
    let m := (rhe (a * pow2 (-u))).toNat
    let mag := (u - f.ulpMin).toNat * 2 ^ (f.prec - 1) + m
    let mag := if f.infBits ≤ mag then f.infBits else mag
    sb + (if f.ftz && decide (mag < 2 ^ (f.prec - 1)) then 0 else mag)

/-- The bits of a value. -/
def fEnc (f : Fmt) (s : Bool) : FVal → Nat
  | .nan => f.nanBits
  | .inf n => f.infBits + (if n then f.signBit else 0)
  | .fin _ q => fRound f s q

/-- Sum. A zero sum of unlike signs is positive. -/
def fAdd (f : Fmt) (x y : Nat) : Nat :=
  match fDec f x, fDec f y with
  | .nan, _ => f.nanBits
  | _, .nan => f.nanBits
  | .inf a, .inf b => if a = b then fEnc f a (.inf a) else f.nanBits
  | .inf a, _ => fEnc f a (.inf a)
  | _, .inf b => fEnc f b (.inf b)
  | .fin a p, .fin b q => fRound f (a && b) (p + q)

/-- The sign changed. -/
def fNeg (f : Fmt) (x : Nat) : Nat := if f.signBit ≤ x then x - f.signBit else x + f.signBit
/-- The magnitude. -/
def fAbs (f : Fmt) (x : Nat) : Nat := x % f.signBit
/-- Difference. -/
def fSub (f : Fmt) (x y : Nat) : Nat :=
  match fDec f y with
  | .nan => f.nanBits
  | _ => fAdd f x (fNeg f y)

/-- Product. -/
def fMul (f : Fmt) (x y : Nat) : Nat :=
  match fDec f x, fDec f y with
  | .nan, _ => f.nanBits
  | _, .nan => f.nanBits
  | .inf a, .inf b => fEnc f false (.inf (a != b))
  | .inf a, .fin b q => if q = 0 then f.nanBits else fEnc f false (.inf (a != b))
  | .fin a q, .inf b => if q = 0 then f.nanBits else fEnc f false (.inf (a != b))
  | .fin a p, .fin b q => fRound f (a != b) (p * q)

/-- x * y + z with one rounding (10 R238). -/
def fFma (f : Fmt) (x y z : Nat) : Nat :=
  match fDec f x, fDec f y, fDec f z with
  | .fin a p, .fin b q, .fin c r => fRound f ((a != b) && c) (p * q + r)
  | .nan, _, _ => f.nanBits
  | _, .nan, _ => f.nanBits
  | _, _, .nan => f.nanBits
  | .fin _ _, .fin _ _, .inf c => fEnc f c (.inf c)
  | _, _, _ =>
    match fDec f (fMul f x y), fDec f z with
    | .nan, _ => f.nanBits
    | .inf a, .inf c => if a = c then fEnc f a (.inf a) else f.nanBits
    | .inf a, _ => fEnc f a (.inf a)
    | _, w => fEnc f false w

/-- Quotient. -/
def fDiv (f : Fmt) (x y : Nat) : Nat :=
  match fDec f x, fDec f y with
  | .nan, _ => f.nanBits
  | _, .nan => f.nanBits
  | .inf _, .inf _ => f.nanBits
  | .inf a, .fin b _ => fEnc f false (.inf (a != b))
  | .fin a _, .inf b => fRound f (a != b) 0
  | .fin a p, .fin b q =>
    if q = 0 then (if p = 0 then f.nanBits else fEnc f false (.inf (a != b))) else fRound f (a != b) (p / q)

/-- Square root of a natural number, rounded down: n steps of the digit method from bit n - 1. -/
def sqrtDown : Nat → Nat → Nat → Nat
  | 0, _, r => r
  | n + 1, v, r => if (r + 2 ^ n) * (r + 2 ^ n) ≤ v then sqrtDown n v (r + 2 ^ n) else sqrtDown n v r

/-- Square root, correctly rounded: the root of the operand scaled by an even power of two, with a sticky part. -/
def fSqrt (f : Fmt) (x : Nat) : Nat :=
  match fDec f x with
  | .nan => f.nanBits
  | .inf a => if a then f.nanBits else f.infBits
  | .fin a q =>
    if q = 0 then fRound f a 0
    else if a then f.nanBits
    else
      let e := expOf q
      let h := e / 2 - (f.prec + 2 : Nat)
      let v : Rat := q * pow2 (-2 * h)
      let n := v.num.natAbs / v.den
      let r := sqrtDown (f.prec + 5) n 0
      let sticky : Rat := if ((r * r : Nat) : Rat) = v then 0 else mkRat 1 2
      fRound f false (((r : Nat) + sticky) * pow2 h)

/-- x < y; false with a NaN. -/
def fLt (f : Fmt) (x y : Nat) : Bool :=
  match fDec f x, fDec f y with
  | .nan, _ => false
  | _, .nan => false
  | .inf a, .inf b => a && !b
  | .inf a, _ => a
  | _, .inf b => !b
  | .fin _ p, .fin _ q => decide (p < q)

/-- x ≤ y; false with a NaN. -/
def fLe (f : Fmt) (x y : Nat) : Bool :=
  match fDec f x, fDec f y with
  | .nan, _ => false
  | _, .nan => false
  | _, _ => !fLt f y x

/-- The rational that finite bits spell; 0 for the others. -/
def fRat (f : Fmt) (x : Nat) : Rat := match fDec f x with | .fin _ q => q | _ => 0

/-- An integer rounded to the format. -/
def fOfInt (f : Fmt) (i : Int) : Nat := fRound f false i

/-- A rational rounded to the format. -/
def fOfRat (f : Fmt) (q : Rat) : Nat := fRound f false q

/-- Finite. -/
def fFinite (f : Fmt) (x : Nat) : Bool := match fDec f x with | .fin _ _ => true | _ => false

/-- The smaller. -/
def fMin (f : Fmt) (x y : Nat) : Nat := if fLt f y x then y else x
/-- The larger. -/
def fMax (f : Fmt) (x y : Nat) : Nat := if fLt f x y then y else x
/-- A subnormal of a format that flushes is zero of its sign (07 R164). -/
def fFlush (f : Fmt) (x : Nat) : Nat :=
  if f.ftz && decide (x % f.signBit < 2 ^ (f.prec - 1)) then x - x % f.signBit else x
/-- x limited to ±l. -/
def fClamp (f : Fmt) (x l : Nat) : Nat := fFlush f (fMax f (fNeg f l) (fMin f x l))
/-- The ordered key of bits: rises with the value, so that ranges of F32 and F64 objects compare as integers (02 R67). -/
def fKey (f : Fmt) (x : Nat) : Int := if f.signBit ≤ x then -((x - f.signBit : Nat) : Int) else (x : Int)

/-- A binary32 value in binary64. -/
def f32to64 (x : Nat) : Nat := match fDec b32s x with | .fin s q => fRound b64 s q | v => fEnc b64 false v
/-- A binary64 value rounded to binary32. -/
def f64to32 (x : Nat) : Nat := match fDec b64 x with | .fin s q => fRound b32s s q | v => fEnc b32s false v

end Sys2Proof.Machine
end

