-- ==== Sys2Proof/Machine/Map.lean ====
section
/-! DEFINITION. Sparse maps with Nat keys in one canonical form: keys strictly rising and no entry equal to the default. -/

namespace Sys2Proof.Machine

variable {α : Type}

/-- The entry at a key, if one is listed. -/
def mapFind : NMap α → Nat → Option α
  | [], _ => none
  | (k', v) :: r, k => if k' = k then some v else mapFind r k

/-- The value at a key: what is listed, else the default. -/
def mapGet (d : α) (m : NMap α) (k : Nat) : α := (mapFind m k).getD d

/-- The map without a key. -/
def mapDel : NMap α → Nat → NMap α
  | [], _ => []
  | (k', v) :: r, k => if k' = k then mapDel r k else (k', v) :: mapDel r k

/-- The map with a value listed at a key, keys rising. -/
def mapIns : NMap α → Nat → α → NMap α
  | [], k, v => [(k, v)]
  | (k', v') :: r, k, v => if k < k' then (k, v) :: (k', v') :: r else if k = k' then (k, v) :: r else (k', v') :: mapIns r k v

/-- The map with a value at a key; a value equal to the default is not listed. -/
def mapPut [DecidableEq α] (d : α) (m : NMap α) (k : Nat) (v : α) : NMap α :=
  if v = d then mapDel m k else mapIns m k v

/-- Keys strictly rising, all above a bound. -/
def mapSorted : Option Nat → NMap α → Bool
  | _, [] => true
  | b, (k, _) :: r => (match b with | none => true | some x => decide (x < k)) && mapSorted (some k) r

/-- The canonical form, for a default that depends on the key. -/
def mapWf [DecidableEq α] (d : Nat → α) (m : NMap α) : Bool :=
  mapSorted none m && m.all fun e => decide (e.2 ≠ d e.1)

/-- Change the value at a key. -/
def mapMod [DecidableEq α] (d : α) (m : NMap α) (k : Nat) (f : α → α) : NMap α := mapPut d m k (f (mapGet d m k))

end Sys2Proof.Machine
end

