-- ==== Sys2Proof/Machine/Objects.lean ====
section
/-! DEFINITION. The object dictionary's definitions: one row per row of the object tables of the spec (02 R67, R72 and the object
tables of every chapter), with the kinds of unit that have the object. Log entry 3 says what stands where a table gives no default. -/

namespace Sys2Proof.Machine

/-- Kinds of unit, by the codes of #0302 UnitKind (01 Table 1-6). -/
inductive UKind where
  | root | cell | sleeve | localAxis | netAxis | virtAxis | recorder | can | veil | field | cluster
deriving DecidableEq, Repr, Inhabited

/-- Types of Table 2-11 that some object has. -/
inductive Ty where
  | bool | u8 | u16 | u32 | u64 | i8 | i16 | i32 | i64 | f32 | f64 | pos64 | time64 | str | blob | arrF32 | arrU16 | arrPos64
deriving DecidableEq, Repr, Inhabited

/-- Access classes (00 R6). -/
inductive Acc where
  | r | rw | w | dx | st
deriving DecidableEq, Repr, Inhabited

/-- A row of an object table. rng lists the closed intervals a written number may lie in (empty: any of the type); for F32 and F64
the bounds are ordered keys of the bits. -/
structure ObjRow where
  obj : Nat
  objHi : Nat
  elLo : Nat := 0
  elHi : Nat := 0
  kinds : List UKind
  ty : Ty
  acc : Acc
  level : Nat := 0
  dflt : Val := .num 0
  rng : List (Int × Int) := []
  jour : Bool := false
  vol : Bool := false
  stick : Bool := false
deriving DecidableEq, Repr, Inhabited

/-- Every kind. -/
def kAll : List UKind := [.root, .cell, .sleeve, .localAxis, .netAxis, .virtAxis, .recorder, .can, .veil, .field, .cluster]
/-- Every kind but root. -/
def kUnits : List UKind := [.cell, .sleeve, .localAxis, .netAxis, .virtAxis, .recorder, .can, .veil, .field, .cluster]
/-- Axes. -/
def kAxes : List UKind := [.localAxis, .netAxis, .virtAxis]
/-- Axes and cluster faces. -/
def kFaces : List UKind := [.localAxis, .netAxis, .virtAxis, .cluster]

/-- Objects of chapter 01, The comb (01 R35), part 1. -/
def objects01a : List ObjRow := [
  { obj := 0x300, objHi := 0x300, kinds := [.root, .sleeve, .can, .veil], ty := .u8, acc := .r, dflt := .num 1, vol := true },
  { obj := 0x300, objHi := 0x300, kinds := [.cell, .localAxis, .netAxis, .virtAxis, .recorder, .field, .cluster], ty := .u8, acc := .r, vol := true },
  { obj := 0x301, objHi := 0x301, kinds := kUnits, ty := .u8, acc := .w, level := 1, rng := [(1, 4)], vol := true },
  { obj := 0x302, objHi := 0x302, kinds := kAll, ty := .u8, acc := .r },
  { obj := 0x310, objHi := 0x310, elHi := 63, kinds := [.root], ty := .blob, acc := .dx, level := 2, dflt := .bytes [], jour := true },
  { obj := 0x311, objHi := 0x311, kinds := [.root], ty := .u32, acc := .r },
  { obj := 0x312, objHi := 0x312, kinds := [.root], ty := .u8, acc := .w, level := 2, rng := [(1, 1)] },
  { obj := 0x313, objHi := 0x313, kinds := [.root], ty := .u8, acc := .r },
  { obj := 0x314, objHi := 0x314, kinds := [.root], ty := .u8, acc := .dx, level := 2, dflt := .num 2, rng := [(2, 64)], jour := true },
  { obj := 0x320, objHi := 0x320, kinds := [.root], ty := .u8, acc := .dx, level := 2, dflt := .num 8, rng := [(4, 32)], jour := true },
  { obj := 0x321, objHi := 0x321, kinds := [.cell], ty := .u8, acc := .dx, level := 2, dflt := .num 3, rng := [(1, 16)], jour := true },
  { obj := 0x322, objHi := 0x322, kinds := [.cell], ty := .u32, acc := .rw, vol := true, stick := true },
  { obj := 0x323, objHi := 0x323, kinds := [.cell], ty := .u8, acc := .r },
  { obj := 0x330, objHi := 0x330, kinds := [.cluster], ty := .u8, acc := .r },
  { obj := 0x331, objHi := 0x331, elHi := 63, kinds := [.cluster], ty := .u16, acc := .r },
  { obj := 0x332, objHi := 0x332, kinds := [.cluster], ty := .u16, acc := .r },
  { obj := 0x340, objHi := 0x340, kinds := [.localAxis, .netAxis, .virtAxis, .recorder, .sleeve], ty := .u16, acc := .r },
  { obj := 0x341, objHi := 0x341, kinds := [.cell], ty := .u8, acc := .r },
  { obj := 0x342, objHi := 0x342, kinds := [.cell], ty := .u16, acc := .r },
  { obj := 0x350, objHi := 0x350, kinds := kFaces, ty := .u32, acc := .rw, vol := true, stick := true },
  { obj := 0x351, objHi := 0x351, kinds := kFaces, ty := .bool, acc := .r } ]

/-- Objects of chapter 02, Protocol (02 R72), part 1. -/
def objects02a : List ObjRow := [
  { obj := 0x0, objHi := 0x0, kinds := [.root], ty := .str, acc := .r, dflt := .bytes [70, 121, 110, 116, 97, 111, 114, 101] },
  { obj := 0x1, objHi := 0x1, kinds := [.root], ty := .str, acc := .r, dflt := .bytes [71, 90, 57, 49, 50, 56, 45, 70, 66, 49, 55, 54, 52] },
  { obj := 0x2, objHi := 0x2, kinds := [.root], ty := .str, acc := .r, dflt := .bytes [] },
  { obj := 0x3, objHi := 0x3, kinds := [.root], ty := .blob, acc := .r, dflt := .bytes [] },
  { obj := 0x10, objHi := 0x10, elHi := 4, kinds := [.root], ty := .blob, acc := .w, dflt := .bytes [], jour := true },
  { obj := 0x11, objHi := 0x11, elHi := 4, kinds := [.root], ty := .bool, acc := .r },
  { obj := 0x20, objHi := 0x20, kinds := [.root], ty := .u32, acc := .rw, level := 4, dflt := .num 10000, rng := [(1000, 600000)], jour := true },
  { obj := 0x21, objHi := 0x21, kinds := [.root], ty := .u32, acc := .rw, vol := true, stick := true },
  { obj := 0x22, objHi := 0x22, elHi := 15, kinds := [.root], ty := .u8, acc := .r, dflt := .num 255 },
  { obj := 0x23, objHi := 0x23, elHi := 15, kinds := [.root], ty := .u32, acc := .r },
  { obj := 0x24, objHi := 0x24, kinds := [.root], ty := .u8, acc := .r },
  { obj := 0x25, objHi := 0x25, elHi := 15, kinds := [.root], ty := .u32, acc := .rw, dflt := .num 4294967295, vol := true },
  { obj := 0x100, objHi := 0x100, kinds := [.root], ty := .u16, acc := .rw, level := 4, dflt := .num 48410, rng := [(1024, 65535)], jour := true },
  { obj := 0x101, objHi := 0x101, kinds := [.root], ty := .u32, acc := .rw, level := 4, jour := true },
  { obj := 0x102, objHi := 0x102, kinds := [.root], ty := .u32, acc := .rw, level := 4, dflt := .num 4294967040, jour := true },
  { obj := 0x103, objHi := 0x103, kinds := [.root], ty := .u32, acc := .rw, level := 4, jour := true },
  { obj := 0x104, objHi := 0x104, kinds := [.root], ty := .u8, acc := .w, level := 4, rng := [(1, 1)] },
  { obj := 0x110, objHi := 0x110, kinds := [.root], ty := .u32, acc := .rw, vol := true, stick := true },
  { obj := 0x111, objHi := 0x111, kinds := [.root], ty := .u32, acc := .rw, vol := true, stick := true },
  { obj := 0x120, objHi := 0x120, kinds := [.root], ty := .u16, acc := .rw, level := 2, dflt := .num 20, rng := [(5, 1000)], jour := true },
  { obj := 0x121, objHi := 0x121, kinds := [.root], ty := .u32, acc := .r },
  { obj := 0x122, objHi := 0x122, kinds := [.root], ty := .u32, acc := .rw, vol := true, stick := true },
  { obj := 0x140, objHi := 0x140, elHi := 1, kinds := [.root], ty := .blob, acc := .rw, level := 2, dflt := .bytes [], jour := true },
  { obj := 0x141, objHi := 0x141, elHi := 1, kinds := [.root], ty := .blob, acc := .rw, level := 2, dflt := .bytes [], jour := true } ]

/-- Objects of chapter 02, Protocol (02 R72), part 2. -/
def objects02b : List ObjRow := [
  { obj := 0x142, objHi := 0x142, kinds := [.root], ty := .u16, acc := .rw, level := 2, rng := [(0, 1024)], jour := true },
  { obj := 0x143, objHi := 0x143, kinds := [.root], ty := .u16, acc := .rw, level := 2, rng := [(0, 1024)], jour := true },
  { obj := 0x144, objHi := 0x144, kinds := [.root], ty := .u8, acc := .w, level := 2, rng := [(1, 1)] },
  { obj := 0x145, objHi := 0x145, kinds := [.root], ty := .u8, acc := .rw, level := 2, dflt := .num 255, rng := [(0, 15), (255, 255)], vol := true },
  { obj := 0x146, objHi := 0x146, elHi := 7, kinds := [.root], ty := .u32, acc := .rw, level := 2, jour := true },
  { obj := 0x147, objHi := 0x147, kinds := [.root], ty := .u32, acc := .rw, vol := true, stick := true },
  { obj := 0x148, objHi := 0x148, kinds := [.root], ty := .u32, acc := .rw, vol := true, stick := true } ]

/-- Objects of chapter 03, Network time (03 R90), part 1. -/
def objects03a : List ObjRow := [
  { obj := 0x200, objHi := 0x200, kinds := [.root], ty := .time64, acc := .r },
  { obj := 0x201, objHi := 0x201, kinds := [.root], ty := .u8, acc := .r },
  { obj := 0x202, objHi := 0x202, kinds := [.root], ty := .u8, acc := .dx, level := 2, rng := [(0, 2)], jour := true },
  { obj := 0x204, objHi := 0x204, kinds := [.root], ty := .u8, acc := .dx, level := 2, rng := [(0, 127)], jour := true },
  { obj := 0x205, objHi := 0x205, kinds := [.root], ty := .u8, acc := .dx, level := 2, rng := [(0, 1)], jour := true },
  { obj := 0x206, objHi := 0x206, kinds := [.root], ty := .u8, acc := .dx, level := 2, rng := [(0, 0), (1, 1)], jour := true },
  { obj := 0x207, objHi := 0x207, kinds := [.root], ty := .bool, acc := .dx, level := 2, jour := true },
  { obj := 0x208, objHi := 0x208, kinds := [.root], ty := .i8, acc := .dx, level := 2, dflt := .num (-5), rng := [(-7, 0)], jour := true },
  { obj := 0x209, objHi := 0x209, kinds := [.root], ty := .i8, acc := .dx, level := 2, rng := [(-4, 3)], jour := true },
  { obj := 0x20a, objHi := 0x20a, kinds := [.root], ty := .u8, acc := .dx, level := 2, dflt := .num 3, rng := [(2, 10)], jour := true },
  { obj := 0x20b, objHi := 0x20b, kinds := [.root], ty := .u8, acc := .dx, level := 2, dflt := .num 128, rng := [(0, 255)], jour := true },
  { obj := 0x20c, objHi := 0x20c, kinds := [.root], ty := .u8, acc := .dx, level := 2, dflt := .num 128, rng := [(0, 255)], jour := true },
  { obj := 0x210, objHi := 0x210, elHi := 1, kinds := [.root], ty := .u32, acc := .dx, level := 2, rng := [(0, 1000000)], jour := true },
  { obj := 0x211, objHi := 0x211, elHi := 1, kinds := [.root], ty := .u32, acc := .dx, level := 2, rng := [(0, 1000000)], jour := true },
  { obj := 0x220, objHi := 0x220, kinds := [.root], ty := .f32, acc := .rw, level := 2, dflt := .num 1060320051, rng := [(0, 1073741824)], jour := true },
  { obj := 0x221, objHi := 0x221, kinds := [.root], ty := .f32, acc := .rw, level := 2, dflt := .num 1028443341, rng := [(0, 1065353216)], jour := true },
  { obj := 0x222, objHi := 0x222, kinds := [.root], ty := .u32, acc := .rw, level := 2, dflt := .num 100000, rng := [(1000, 500000)], jour := true },
  { obj := 0x223, objHi := 0x223, kinds := [.root], ty := .u32, acc := .rw, level := 2, dflt := .num 1000, rng := [(100, 1000000000)], jour := true },
  { obj := 0x224, objHi := 0x224, kinds := [.root], ty := .u32, acc := .rw, level := 2, dflt := .num 50, rng := [(5, 10000)], jour := true },
  { obj := 0x226, objHi := 0x226, kinds := [.root], ty := .i64, acc := .r },
  { obj := 0x227, objHi := 0x227, kinds := [.root], ty := .i64, acc := .r },
  { obj := 0x228, objHi := 0x228, kinds := [.root], ty := .i32, acc := .r },
  { obj := 0x229, objHi := 0x229, kinds := [.root], ty := .blob, acc := .r, dflt := .bytes [0, 0, 0, 0, 0, 0, 0, 0] },
  { obj := 0x22a, objHi := 0x22a, kinds := [.root], ty := .u32, acc := .rw, vol := true, stick := true } ]

/-- Objects of chapter 03, Network time (03 R90), part 2. -/
def objects03b : List ObjRow := [
  { obj := 0x22b, objHi := 0x22b, kinds := [.root], ty := .u32, acc := .rw, vol := true, stick := true },
  { obj := 0x230, objHi := 0x230, kinds := [.root], ty := .u32, acc := .dx, level := 2, dflt := .num 800, rng := [(80, 4000)], jour := true },
  { obj := 0x231, objHi := 0x231, kinds := [.root], ty := .u32, acc := .dx, level := 2, jour := true },
  { obj := 0x232, objHi := 0x232, kinds := [.root], ty := .u64, acc := .r },
  { obj := 0x233, objHi := 0x233, kinds := [.root], ty := .u16, acc := .dx, level := 2, dflt := .num 12, rng := [(1, 256)], jour := true },
  { obj := 0x234, objHi := 0x234, kinds := [.root], ty := .u32, acc := .r },
  { obj := 0x235, objHi := 0x235, kinds := [.root], ty := .u16, acc := .dx, level := 2, dflt := .num 12, rng := [(1, 256)], jour := true },
  { obj := 0x236, objHi := 0x236, kinds := [.root], ty := .u32, acc := .dx, level := 2, dflt := .num 21000, jour := true },
  { obj := 0x237, objHi := 0x237, kinds := [.root], ty := .u32, acc := .dx, level := 2, dflt := .num 2000, rng := [(1000, 20000)], jour := true },
  { obj := 0x240, objHi := 0x240, kinds := [.root], ty := .bool, acc := .rw, level := 2, jour := true },
  { obj := 0x241, objHi := 0x241, kinds := [.root], ty := .u32, acc := .rw, level := 2, dflt := .num 100000, rng := [(1, 500000)], jour := true },
  { obj := 0x242, objHi := 0x242, kinds := [.root], ty := .time64, acc := .r },
  { obj := 0x243, objHi := 0x243, kinds := [.root], ty := .u32, acc := .rw, vol := true, stick := true },
  { obj := 0x244, objHi := 0x244, kinds := [.root], ty := .u8, acc := .dx, level := 2, rng := [(0, 0), (1, 1)], jour := true },
  { obj := 0x245, objHi := 0x245, kinds := [.root], ty := .time64, acc := .w, level := 4 },
  { obj := 0x260, objHi := 0x260, kinds := [.root], ty := .u8, acc := .dx, level := 2, rng := [(0, 63)], jour := true },
  { obj := 0x261, objHi := 0x261, kinds := [.root], ty := .u16, acc := .dx, level := 2, dflt := .num 1, rng := [(1, 4095)], jour := true } ]

/-- Objects of chapter 04, Trajectories and jobs (04 R120), part 1. -/
def objects04a : List ObjRow := [
  { obj := 0x700, objHi := 0x700, kinds := kFaces, ty := .u64, acc := .dx, level := 2, rng := [(0, 0), (2, 1099511627776)], jour := true },
  { obj := 0x701, objHi := 0x701, kinds := kFaces, ty := .pos64, acc := .r },
  { obj := 0x702, objHi := 0x702, kinds := kFaces, ty := .f32, acc := .r },
  { obj := 0x703, objHi := 0x703, kinds := kFaces, ty := .f32, acc := .r },
  { obj := 0x704, objHi := 0x704, kinds := kFaces, ty := .i64, acc := .r },
  { obj := 0x705, objHi := 0x705, kinds := kFaces, ty := .u8, acc := .dx, level := 2, dflt := .num 1, rng := [(1, 16)], jour := true },
  { obj := 0x706, objHi := 0x706, kinds := kFaces, ty := .u8, acc := .dx, level := 2, rng := [(0, 0), (1, 1), (2, 2)], jour := true },
  { obj := 0x707, objHi := 0x707, kinds := kFaces, ty := .f32, acc := .st, level := 2, rng := [(0, 1232348160)], jour := true },
  { obj := 0x708, objHi := 0x708, kinds := kFaces, ty := .pos64, acc := .st, level := 2, dflt := .num (-9223372036854775808), jour := true },
  { obj := 0x709, objHi := 0x709, kinds := kFaces, ty := .pos64, acc := .st, level := 2, dflt := .num 9223372036854775807, jour := true },
  { obj := 0x70a, objHi := 0x70a, kinds := kFaces, ty := .bool, acc := .st, level := 2, jour := true },
  { obj := 0x70b, objHi := 0x70b, kinds := kFaces, ty := .f32, acc := .st, level := 2, dflt := .num 1232348160, rng := [(1065353216, 1399379109)], jour := true },
  { obj := 0x70c, objHi := 0x70c, kinds := kFaces, ty := .f32, acc := .st, level := 2, dflt := .num 1287568416, rng := [(1065353216, 1454761505)], jour := true },
  { obj := 0x710, objHi := 0x710, kinds := kFaces, ty := .blob, acc := .w, level := 1, dflt := .bytes [] },
  { obj := 0x711, objHi := 0x711, kinds := kFaces, ty := .u8, acc := .r, dflt := .num 64 },
  { obj := 0x712, objHi := 0x712, kinds := kFaces, ty := .u8, acc := .w, level := 1, rng := [(1, 1), (2, 2)] },
  { obj := 0x713, objHi := 0x713, kinds := kFaces, ty := .u32, acc := .r },
  { obj := 0x714, objHi := 0x714, kinds := kFaces, ty := .u32, acc := .r },
  { obj := 0x715, objHi := 0x715, kinds := kFaces, ty := .u32, acc := .rw, vol := true, stick := true },
  { obj := 0x716, objHi := 0x716, kinds := kFaces, ty := .u32, acc := .rw, vol := true, stick := true },
  { obj := 0x717, objHi := 0x717, kinds := kFaces, ty := .u32, acc := .rw, vol := true, stick := true },
  { obj := 0x780, objHi := 0x780, kinds := [.root], ty := .u8, acc := .rw, level := 2, dflt := .num 4, rng := [(2, 64)], jour := true },
  { obj := 0x781, objHi := 0x781, kinds := [.root], ty := .u8, acc := .r },
  { obj := 0x782, objHi := 0x782, kinds := [.root], ty := .u8, acc := .r } ]

/-- Objects of chapter 04, Trajectories and jobs (04 R120), part 2. -/
def objects04b : List ObjRow := [
  { obj := 0x783, objHi := 0x783, kinds := [.root], ty := .time64, acc := .r },
  { obj := 0x784, objHi := 0x784, kinds := [.root], ty := .u64, acc := .r },
  { obj := 0x785, objHi := 0x785, kinds := [.root], ty := .u64, acc := .r },
  { obj := 0x786, objHi := 0x786, elHi := 255, kinds := [.root], ty := .u32, acc := .r },
  { obj := 0x787, objHi := 0x787, elHi := 255, kinds := [.root], ty := .u8, acc := .w, level := 2, rng := [(1, 1)] },
  { obj := 0x788, objHi := 0x788, kinds := [.root], ty := .u32, acc := .rw, vol := true, stick := true },
  { obj := 0x789, objHi := 0x789, kinds := [.root], ty := .u32, acc := .rw, vol := true, stick := true },
  { obj := 0x78a, objHi := 0x78a, kinds := [.root], ty := .u32, acc := .rw, vol := true, stick := true } ]

/-- Objects of chapter 05, Gearing and cams (05 R144), part 1. -/
def objects05a : List ObjRow := [
  { obj := 0x800, objHi := 0x800, kinds := kFaces, ty := .u16, acc := .st, level := 2, jour := true },
  { obj := 0x801, objHi := 0x801, kinds := kFaces, ty := .u8, acc := .st, level := 2, rng := [(0, 0), (1, 1)], jour := true },
  { obj := 0x802, objHi := 0x802, kinds := kFaces, ty := .u8, acc := .st, level := 2, rng := [(0, 3)], jour := true },
  { obj := 0x803, objHi := 0x803, kinds := kFaces, ty := .i32, acc := .st, level := 2, dflt := .num 1, rng := [(-2147483648, 2147483647)], jour := true },
  { obj := 0x804, objHi := 0x804, kinds := kFaces, ty := .u32, acc := .st, level := 2, dflt := .num 1, rng := [(1, 4294967295)], jour := true },
  { obj := 0x805, objHi := 0x805, kinds := kFaces, ty := .bool, acc := .st, level := 2, dflt := .num 1, jour := true },
  { obj := 0x806, objHi := 0x806, kinds := kFaces, ty := .u16, acc := .st, level := 2, dflt := .num 48, rng := [(1, 4096)], jour := true },
  { obj := 0x807, objHi := 0x807, kinds := kFaces, ty := .u32, acc := .r },
  { obj := 0x808, objHi := 0x808, kinds := kFaces, ty := .u16, acc := .st, level := 2, dflt := .num 65535, rng := [(0, 1023), (65535, 65535)], jour := true },
  { obj := 0x809, objHi := 0x809, kinds := kFaces, ty := .u64, acc := .st, level := 2, dflt := .num 68719476736, rng := [(1, 4611686018427387904)], jour := true },
  { obj := 0x80a, objHi := 0x80a, kinds := kFaces, ty := .f64, acc := .st, level := 2, dflt := .num 4607182418800017408, rng := [(-4679240012837945344, -1), (1, 4679240012837945344)], jour := true },
  { obj := 0x80b, objHi := 0x80b, kinds := kFaces, ty := .pos64, acc := .st, level := 2, jour := true },
  { obj := 0x80c, objHi := 0x80c, kinds := kFaces, ty := .u64, acc := .r },
  { obj := 0x80d, objHi := 0x80d, kinds := kFaces, ty := .i64, acc := .r },
  { obj := 0x80e, objHi := 0x80e, kinds := kFaces, ty := .u16, acc := .r },
  { obj := 0x810, objHi := 0x810, kinds := kFaces, ty := .pos64, acc := .rw, level := 1, vol := true },
  { obj := 0x811, objHi := 0x811, kinds := kFaces, ty := .i64, acc := .w, level := 1 },
  { obj := 0x812, objHi := 0x812, kinds := kFaces, ty := .pos64, acc := .st, level := 2, jour := true },
  { obj := 0x813, objHi := 0x813, kinds := kFaces, ty := .u64, acc := .st, level := 2, dflt := .num 65536, rng := [(1, 281474976710656)], jour := true },
  { obj := 0x814, objHi := 0x814, kinds := kFaces, ty := .pos64, acc := .r },
  { obj := 0x820, objHi := 0x820, kinds := kFaces, ty := .pos64, acc := .rw, level := 1, vol := true },
  { obj := 0x821, objHi := 0x821, kinds := kFaces, ty := .f32, acc := .rw, level := 1, vol := true },
  { obj := 0x822, objHi := 0x822, kinds := kFaces, ty := .f32, acc := .rw, level := 1, vol := true },
  { obj := 0x823, objHi := 0x823, kinds := kFaces, ty := .u64, acc := .rw, level := 1, vol := true } ]

/-- Objects of chapter 05, Gearing and cams (05 R144), part 2. -/
def objects05b : List ObjRow := [
  { obj := 0x824, objHi := 0x824, kinds := kFaces, ty := .u32, acc := .rw, vol := true, stick := true },
  { obj := 0x825, objHi := 0x825, kinds := kFaces, ty := .u32, acc := .rw, vol := true, stick := true },
  { obj := 0x830, objHi := 0x830, kinds := kFaces, ty := .u64, acc := .r },
  { obj := 0x831, objHi := 0x831, kinds := kFaces, ty := .u32, acc := .rw, vol := true, stick := true },
  { obj := 0x840, objHi := 0x840, kinds := [.root], ty := .u32, acc := .r },
  { obj := 0x2000, objHi := 0x23ff, elHi := 127, kinds := [.root], ty := .arrPos64, acc := .rw, level := 2, dflt := .bytes [], jour := true },
  { obj := 0x2400, objHi := 0x27ff, kinds := [.root], ty := .blob, acc := .rw, level := 2, dflt := .bytes [], jour := true },
  { obj := 0x2800, objHi := 0x2bff, kinds := [.root], ty := .u8, acc := .r, jour := true },
  { obj := 0x2c00, objHi := 0x2fff, kinds := [.root], ty := .u8, acc := .w, level := 2, rng := [(1, 1), (2, 2), (3, 3)] } ]

/-- Objects of chapter 06, Latch and compare (06 R161), part 1. -/
def objects06a : List ObjRow := [
  { obj := 0x900, objHi := 0x900, kinds := kAxes, ty := .u16, acc := .dx, level := 2, jour := true },
  { obj := 0x901, objHi := 0x901, kinds := kAxes, ty := .u8, acc := .st, level := 2, rng := [(0, 0), (1, 1), (2, 2)], jour := true },
  { obj := 0x902, objHi := 0x902, kinds := kAxes, ty := .u8, acc := .dx, level := 2, rng := [(0, 0), (1, 1)], jour := true },
  { obj := 0x903, objHi := 0x903, kinds := kAxes, ty := .bool, acc := .st, level := 2, jour := true },
  { obj := 0x904, objHi := 0x904, kinds := kAxes, ty := .pos64, acc := .st, level := 2, jour := true },
  { obj := 0x905, objHi := 0x905, kinds := kAxes, ty := .pos64, acc := .st, level := 2, jour := true },
  { obj := 0x906, objHi := 0x906, kinds := kAxes, ty := .u8, acc := .r },
  { obj := 0x907, objHi := 0x907, kinds := kAxes, ty := .blob, acc := .r, dflt := .bytes [] },
  { obj := 0x908, objHi := 0x908, kinds := kAxes, ty := .bool, acc := .rw, level := 1, jour := true },
  { obj := 0x909, objHi := 0x909, kinds := kAxes, ty := .u32, acc := .r },
  { obj := 0x90a, objHi := 0x90a, kinds := kAxes, ty := .u32, acc := .rw, vol := true, stick := true },
  { obj := 0x90c, objHi := 0x90c, kinds := kAxes, ty := .u32, acc := .rw, vol := true, stick := true },
  { obj := 0x910, objHi := 0x910, elHi := 15, kinds := [.root], ty := .u16, acc := .rw, level := 2, rng := [(0, 160)], jour := true },
  { obj := 0x911, objHi := 0x911, elHi := 15, kinds := [.root], ty := .bool, acc := .r },
  { obj := 0x920, objHi := 0x920, elHi := 15, kinds := [.root], ty := .u16, acc := .dx, level := 2, jour := true },
  { obj := 0x921, objHi := 0x921, elHi := 15, kinds := [.root], ty := .bool, acc := .dx, level := 2, jour := true },
  { obj := 0x922, objHi := 0x922, elHi := 15, kinds := [.root], ty := .bool, acc := .r },
  { obj := 0x923, objHi := 0x923, elHi := 15, kinds := [.root], ty := .u32, acc := .rw, vol := true, stick := true },
  { obj := 0x930, objHi := 0x930, kinds := kAxes, ty := .u8, acc := .dx, level := 2, rng := [(0, 0), (1, 1)], jour := true },
  { obj := 0x931, objHi := 0x931, kinds := kAxes, ty := .u8, acc := .dx, level := 2, dflt := .num 1, rng := [(1, 1), (2, 2)], jour := true },
  { obj := 0x932, objHi := 0x932, kinds := kAxes, ty := .u64, acc := .st, level := 2, jour := true },
  { obj := 0x933, objHi := 0x933, kinds := kAxes, ty := .blob, acc := .w, level := 1, dflt := .bytes [] },
  { obj := 0x934, objHi := 0x934, kinds := kAxes, ty := .u16, acc := .r, dflt := .num 256 },
  { obj := 0x935, objHi := 0x935, kinds := kAxes, ty := .u8, acc := .w, level := 1, rng := [(1, 1)] } ]

/-- Objects of chapter 06, Latch and compare (06 R161), part 2. -/
def objects06b : List ObjRow := [
  { obj := 0x936, objHi := 0x936, kinds := kAxes, ty := .u8, acc := .rw, level := 1, vol := true },
  { obj := 0x937, objHi := 0x937, kinds := kAxes, ty := .u32, acc := .rw, vol := true, stick := true },
  { obj := 0x938, objHi := 0x938, kinds := kAxes, ty := .u32, acc := .rw, vol := true, stick := true },
  { obj := 0x939, objHi := 0x939, kinds := kAxes, ty := .u32, acc := .rw, vol := true, stick := true },
  { obj := 0x93a, objHi := 0x93a, kinds := kAxes, ty := .u32, acc := .r } ]

/-- Objects of chapter 07, Control engine (07 R189), part 1. -/
def objects07a : List ObjRow := [
  { obj := 0x600, objHi := 0x600, kinds := [.localAxis, .cluster], ty := .u8, acc := .rw, level := 1, rng := [(0, 0), (1, 1), (2, 2)], vol := true },
  { obj := 0x601, objHi := 0x601, kinds := [.localAxis], ty := .bool, acc := .rw, level := 1, vol := true },
  { obj := 0x602, objHi := 0x602, kinds := [.localAxis, .cluster], ty := .f32, acc := .rw, level := 1, vol := true },
  { obj := 0x603, objHi := 0x603, kinds := [.localAxis, .cluster], ty := .f32, acc := .rw, level := 1, vol := true },
  { obj := 0x604, objHi := 0x604, kinds := [.localAxis], ty := .f32, acc := .rw, level := 1, vol := true },
  { obj := 0x605, objHi := 0x605, kinds := [.localAxis], ty := .f32, acc := .r },
  { obj := 0x606, objHi := 0x606, kinds := [.localAxis], ty := .u8, acc := .w, level := 1, rng := [(1, 1)] },
  { obj := 0x607, objHi := 0x607, kinds := [.localAxis], ty := .i8, acc := .st, level := 2, dflt := .num 1, rng := [(-1, -1), (1, 1)], jour := true },
  { obj := 0x608, objHi := 0x608, kinds := [.localAxis], ty := .f32, acc := .st, level := 2, dflt := .num 1287568416, rng := [(1065353216, 1315859240)], jour := true },
  { obj := 0x609, objHi := 0x609, kinds := [.localAxis], ty := .f32, acc := .st, level := 2, rng := [(0, 1176256512)], jour := true },
  { obj := 0x60a, objHi := 0x60a, kinds := [.localAxis], ty := .f32, acc := .st, level := 2, rng := [(0, 1148846080)], jour := true },
  { obj := 0x60b, objHi := 0x60b, kinds := [.localAxis], ty := .f32, acc := .st, level := 2, rng := [(0, 1176256512)], jour := true },
  { obj := 0x60c, objHi := 0x60c, kinds := [.localAxis], ty := .f32, acc := .st, level := 2, dflt := .num 1064514355, rng := [(1056964608, 1065353216)], jour := true },
  { obj := 0x60d, objHi := 0x60d, kinds := [.localAxis], ty := .f32, acc := .st, level := 2, dflt := .num 1092616192, rng := [(1065353216, 1148846080)], jour := true },
  { obj := 0x60e, objHi := 0x60e, kinds := [.localAxis], ty := .f32, acc := .st, level := 2, dflt := .num 1028443341, rng := [(1000593162, 1056964608)], jour := true },
  { obj := 0x60f, objHi := 0x60f, kinds := [.localAxis], ty := .f32, acc := .st, level := 2, rng := [(-1148846080, 1148846080)], jour := true },
  { obj := 0x610, objHi := 0x610, kinds := [.localAxis], ty := .u8, acc := .dx, level := 2, dflt := .num 4, rng := [(1, 64)], jour := true },
  { obj := 0x611, objHi := 0x611, kinds := [.localAxis], ty := .f32, acc := .dx, level := 2, rng := [(-1078530011, 1078530011)], jour := true },
  { obj := 0x612, objHi := 0x612, kinds := [.localAxis], ty := .f32, acc := .dx, level := 2, dflt := .num 1065353216, rng := [(953267991, 1120403456)], jour := true },
  { obj := 0x613, objHi := 0x613, kinds := [.localAxis], ty := .f32, acc := .dx, level := 2, rng := [(0, 1065353216)], jour := true },
  { obj := 0x614, objHi := 0x614, kinds := [.localAxis], ty := .f32, acc := .dx, level := 2, rng := [(0, 1065353216)], jour := true },
  { obj := 0x615, objHi := 0x615, kinds := [.localAxis], ty := .f32, acc := .dx, level := 2, rng := [(0, 1092616192)], jour := true },
  { obj := 0x620, objHi := 0x620, elHi := 1, kinds := [.localAxis], ty := .f32, acc := .st, level := 2, dflt := .num 1112014848, rng := [(0, 1203982336)], jour := true },
  { obj := 0x621, objHi := 0x621, elHi := 1, kinds := [.localAxis], ty := .f32, acc := .st, level := 2, dflt := .num 1065353216, rng := [(0, 1073741824)], jour := true } ]

/-- Objects of chapter 07, Control engine (07 R189), part 2. -/
def objects07b : List ObjRow := [
  { obj := 0x622, objHi := 0x622, elHi := 1, kinds := [.localAxis], ty := .f32, acc := .st, level := 2, rng := [(0, 1092616192)], jour := true },
  { obj := 0x623, objHi := 0x623, elHi := 1, kinds := [.localAxis], ty := .f32, acc := .st, level := 2, rng := [(0, 1092616192)], jour := true },
  { obj := 0x624, objHi := 0x624, elHi := 1, kinds := [.localAxis], ty := .f32, acc := .st, level := 2, rng := [(0, 1148846080)], jour := true },
  { obj := 0x625, objHi := 0x625, elHi := 1, kinds := [.localAxis], ty := .f32, acc := .st, level := 2, rng := [(0, 1176256512)], jour := true },
  { obj := 0x626, objHi := 0x626, elHi := 1, kinds := [.localAxis], ty := .f32, acc := .st, level := 2, rng := [(0, 1176256512)], jour := true },
  { obj := 0x627, objHi := 0x627, elHi := 1, kinds := [.localAxis], ty := .f32, acc := .st, level := 2, rng := [(0, 1287568416)], jour := true },
  { obj := 0x628, objHi := 0x628, elHi := 1, kinds := [.localAxis], ty := .f32, acc := .st, level := 2, rng := [(0, 1176256512)], jour := true },
  { obj := 0x629, objHi := 0x629, elHi := 1, kinds := [.localAxis], ty := .f32, acc := .st, level := 2, rng := [(0, 1287568416)], jour := true },
  { obj := 0x62a, objHi := 0x62a, elHi := 1, kinds := [.localAxis], ty := .f32, acc := .st, level := 2, rng := [(0, 1148846080)], jour := true },
  { obj := 0x62b, objHi := 0x62b, elHi := 1, kinds := [.localAxis], ty := .f32, acc := .st, level := 2, rng := [(0, 1092616192)], jour := true },
  { obj := 0x62c, objHi := 0x62c, elHi := 1, kinds := [.localAxis], ty := .f32, acc := .st, level := 2, rng := [(0, 1148846080)], jour := true },
  { obj := 0x62d, objHi := 0x62d, elHi := 1, kinds := [.localAxis], ty := .f32, acc := .st, level := 2, rng := [(0, 1176256512)], jour := true },
  { obj := 0x62e, objHi := 0x62e, elHi := 1, kinds := [.localAxis], ty := .arrF32, acc := .st, level := 2, dflt := .bytes ([0, 0, 128, 63] ++ List.replicate 16 0), jour := true },
  { obj := 0x62f, objHi := 0x62f, elHi := 1, kinds := [.localAxis], ty := .arrF32, acc := .st, level := 2, dflt := .bytes ([0, 0, 128, 63] ++ List.replicate 16 0), jour := true },
  { obj := 0x630, objHi := 0x630, elHi := 1, kinds := [.localAxis], ty := .arrF32, acc := .st, level := 2, dflt := .bytes (List.replicate 16 0), jour := true },
  { obj := 0x640, objHi := 0x640, kinds := [.localAxis], ty := .u8, acc := .st, level := 2, rng := [(0, 0), (1, 1)], jour := true },
  { obj := 0x641, objHi := 0x641, kinds := [.localAxis], ty := .u8, acc := .rw, level := 1, rng := [(0, 0), (1, 1), (2, 2)], vol := true },
  { obj := 0x642, objHi := 0x642, kinds := [.localAxis], ty := .u8, acc := .r },
  { obj := 0x650, objHi := 0x650, kinds := [.cluster], ty := .bool, acc := .st, level := 2, jour := true },
  { obj := 0x651, objHi := 0x651, kinds := [.cluster], ty := .u8, acc := .st, level := 2, rng := [(0, 0), (1, 1), (2, 2)], jour := true },
  { obj := 0x652, objHi := 0x652, kinds := [.cluster], ty := .blob, acc := .st, level := 2, dflt := .bytes [], jour := true },
  { obj := 0x653, objHi := 0x653, kinds := [.cluster], ty := .u8, acc := .st, level := 2, dflt := .num 2, rng := [(2, 8)], jour := true },
  { obj := 0x654, objHi := 0x654, elHi := 7, kinds := [.cluster], ty := .f32, acc := .st, level := 2, jour := true },
  { obj := 0x655, objHi := 0x655, elHi := 7, kinds := [.cluster], ty := .f32, acc := .st, level := 2, dflt := .num 1112014848, rng := [(0, 1203982336)], jour := true } ]

/-- Objects of chapter 07, Control engine (07 R189), part 3. -/
def objects07c : List ObjRow := [
  { obj := 0x656, objHi := 0x656, elHi := 7, kinds := [.cluster], ty := .f32, acc := .st, level := 2, rng := [(0, 1092616192)], jour := true },
  { obj := 0x657, objHi := 0x657, elHi := 7, kinds := [.cluster], ty := .f32, acc := .st, level := 2, rng := [(0, 1148846080)], jour := true },
  { obj := 0x658, objHi := 0x658, elHi := 7, kinds := [.cluster], ty := .f32, acc := .st, level := 2, rng := [(0, 1092616192)], jour := true },
  { obj := 0x659, objHi := 0x659, elHi := 7, kinds := [.cluster], ty := .f32, acc := .st, level := 2, rng := [(0, 1092616192)], jour := true },
  { obj := 0x65a, objHi := 0x65a, elHi := 7, kinds := [.cluster], ty := .f32, acc := .st, level := 2, rng := [(0, 1148846080)], jour := true },
  { obj := 0x65b, objHi := 0x65b, kinds := [.cluster], ty := .f32, acc := .r },
  { obj := 0x65c, objHi := 0x65c, kinds := [.cluster], ty := .f32, acc := .st, level := 2, rng := [(0, 1120403456)], jour := true },
  { obj := 0x65d, objHi := 0x65d, kinds := [.cluster], ty := .f32, acc := .st, level := 2, dflt := .num 1176256512, rng := [(1065353216, 1315859240)], jour := true },
  { obj := 0x65e, objHi := 0x65e, kinds := [.cluster], ty := .u16, acc := .st, level := 2, dflt := .num 1000, rng := [(1, 65535)], jour := true },
  { obj := 0x65f, objHi := 0x65f, kinds := [.cluster], ty := .f32, acc := .st, level := 2, dflt := .num 1034147594, rng := [(0, 1092616192)], jour := true },
  { obj := 0x660, objHi := 0x660, kinds := [.cluster], ty := .f32, acc := .r },
  { obj := 0x670, objHi := 0x670, kinds := [.localAxis, .cluster], ty := .f32, acc := .r },
  { obj := 0x671, objHi := 0x671, kinds := [.localAxis], ty := .f32, acc := .r },
  { obj := 0x672, objHi := 0x672, kinds := [.localAxis], ty := .f32, acc := .r },
  { obj := 0x673, objHi := 0x673, kinds := [.localAxis], ty := .f32, acc := .r },
  { obj := 0x674, objHi := 0x674, kinds := [.localAxis], ty := .f32, acc := .r },
  { obj := 0x675, objHi := 0x675, kinds := [.localAxis, .cluster], ty := .f32, acc := .r },
  { obj := 0x676, objHi := 0x676, kinds := [.localAxis, .cluster], ty := .f32, acc := .r },
  { obj := 0x677, objHi := 0x677, kinds := [.localAxis], ty := .f32, acc := .r },
  { obj := 0x678, objHi := 0x678, kinds := [.localAxis], ty := .f32, acc := .r },
  { obj := 0x679, objHi := 0x679, kinds := [.localAxis, .cluster], ty := .f32, acc := .r },
  { obj := 0x67a, objHi := 0x67a, kinds := [.localAxis], ty := .u8, acc := .r },
  { obj := 0x67b, objHi := 0x67b, kinds := [.localAxis], ty := .u32, acc := .rw, vol := true, stick := true },
  { obj := 0x67c, objHi := 0x67c, kinds := [.localAxis], ty := .u32, acc := .rw, vol := true, stick := true } ]

/-- Objects of chapter 07, Control engine (07 R189), part 4. -/
def objects07d : List ObjRow := [
  { obj := 0x67d, objHi := 0x67d, kinds := [.localAxis], ty := .f32, acc := .r },
  { obj := 0x67e, objHi := 0x67e, kinds := [.localAxis], ty := .f32, acc := .r } ]

/-- Objects of chapter 08, Sleeve PWM (08 R211), part 1. -/
def objects08a : List ObjRow := [
  { obj := 0x401, objHi := 0x401, kinds := [.sleeve], ty := .u16, acc := .r },
  { obj := 0x402, objHi := 0x402, kinds := [.sleeve], ty := .u8, acc := .r },
  { obj := 0x410, objHi := 0x410, kinds := [.sleeve], ty := .u8, acc := .r },
  { obj := 0x411, objHi := 0x411, kinds := [.sleeve], ty := .u8, acc := .r },
  { obj := 0x412, objHi := 0x412, elHi := 3, kinds := [.sleeve], ty := .u32, acc := .r },
  { obj := 0x413, objHi := 0x413, kinds := [.sleeve], ty := .u32, acc := .r },
  { obj := 0x414, objHi := 0x414, kinds := [.sleeve], ty := .u32, acc := .r },
  { obj := 0x415, objHi := 0x415, kinds := [.sleeve], ty := .u32, acc := .r },
  { obj := 0x420, objHi := 0x420, kinds := [.sleeve], ty := .u16, acc := .dx, level := 2, dflt := .num 16000, rng := [(0, 32000)], jour := true },
  { obj := 0x421, objHi := 0x421, kinds := [.sleeve], ty := .u16, acc := .dx, level := 2, rng := [(0, 32000)], jour := true },
  { obj := 0x422, objHi := 0x422, kinds := [.sleeve], ty := .u8, acc := .dx, level := 2, rng := [(0, 0), (1, 1)], jour := true },
  { obj := 0x423, objHi := 0x423, kinds := [.sleeve], ty := .f32, acc := .dx, level := 2, dflt := .num 1036831949, rng := [(0, 1120403456)], jour := true },
  { obj := 0x430, objHi := 0x430, elHi := 2, kinds := [.sleeve], ty := .f32, acc := .r, dflt := .num 1056964608 },
  { obj := 0x431, objHi := 0x431, elHi := 2, kinds := [.sleeve], ty := .f32, acc := .r, dflt := .num 1056964608 },
  { obj := 0x432, objHi := 0x432, kinds := [.sleeve], ty := .u32, acc := .rw, vol := true, stick := true },
  { obj := 0x433, objHi := 0x433, kinds := [.sleeve], ty := .u32, acc := .rw, vol := true, stick := true },
  { obj := 0x434, objHi := 0x434, kinds := [.sleeve], ty := .u32, acc := .rw, vol := true, stick := true },
  { obj := 0x440, objHi := 0x440, kinds := [.sleeve], ty := .u8, acc := .r },
  { obj := 0x441, objHi := 0x441, kinds := [.sleeve], ty := .u8, acc := .r },
  { obj := 0x442, objHi := 0x442, kinds := [.sleeve], ty := .u8, acc := .w, level := 1, rng := [(1, 1)] },
  { obj := 0x443, objHi := 0x443, kinds := [.sleeve], ty := .u8, acc := .dx, level := 2, rng := [(0, 16)], jour := true },
  { obj := 0x444, objHi := 0x444, kinds := [.sleeve], ty := .u32, acc := .rw, vol := true, stick := true },
  { obj := 0x450, objHi := 0x450, kinds := [.sleeve], ty := .u8, acc := .r },
  { obj := 0x451, objHi := 0x451, kinds := [.sleeve], ty := .u32, acc := .rw, vol := true, stick := true } ]

/-- Objects of chapter 08, Sleeve PWM (08 R211), part 2. -/
def objects08b : List ObjRow := [
  { obj := 0x452, objHi := 0x452, kinds := [.sleeve], ty := .u32, acc := .rw, vol := true, stick := true } ]

/-- Objects of chapter 09, Feedback (09 R236), part 1. -/
def objects09a : List ObjRow := [
  { obj := 0x500, objHi := 0x500, kinds := [.sleeve], ty := .u8, acc := .dx, level := 2, rng := [(0, 4)], jour := true },
  { obj := 0x501, objHi := 0x501, kinds := [.sleeve], ty := .u64, acc := .dx, level := 2, dflt := .num 4096, rng := [(2, 1099511627776)], jour := true },
  { obj := 0x502, objHi := 0x502, kinds := [.sleeve], ty := .bool, acc := .dx, level := 2, jour := true },
  { obj := 0x503, objHi := 0x503, kinds := [.sleeve], ty := .u8, acc := .dx, level := 2, dflt := .num 2, rng := [(0, 63)], jour := true },
  { obj := 0x504, objHi := 0x504, kinds := [.sleeve], ty := .u8, acc := .dx, level := 2, dflt := .num 4, rng := [(1, 255)], jour := true },
  { obj := 0x505, objHi := 0x505, kinds := [.sleeve], ty := .u8, acc := .dx, level := 2, rng := [(0, 0), (1, 1)], jour := true },
  { obj := 0x506, objHi := 0x506, kinds := [.sleeve], ty := .u32, acc := .dx, level := 2, dflt := .num 1000000, rng := [(100000, 10000000)], jour := true },
  { obj := 0x507, objHi := 0x507, kinds := [.sleeve], ty := .u8, acc := .dx, level := 2, rng := [(0, 40)], jour := true },
  { obj := 0x508, objHi := 0x508, kinds := [.sleeve], ty := .u8, acc := .dx, level := 2, dflt := .num 12, rng := [(1, 40)], jour := true },
  { obj := 0x509, objHi := 0x509, kinds := [.sleeve], ty := .u8, acc := .dx, level := 2, rng := [(0, 8)], jour := true },
  { obj := 0x50a, objHi := 0x50a, kinds := [.sleeve], ty := .u8, acc := .dx, level := 2, rng := [(0, 0), (3, 32)], jour := true },
  { obj := 0x50b, objHi := 0x50b, kinds := [.sleeve], ty := .bool, acc := .dx, level := 2, jour := true },
  { obj := 0x50c, objHi := 0x50c, kinds := [.sleeve], ty := .u16, acc := .dx, level := 2, rng := [(0, 2000)], jour := true },
  { obj := 0x50d, objHi := 0x50d, kinds := [.sleeve], ty := .u16, acc := .dx, level := 2, dflt := .num 20000, rng := [(1000, 65000)], jour := true },
  { obj := 0x50f, objHi := 0x50f, kinds := [.sleeve], ty := .u16, acc := .dx, level := 2, dflt := .num 1000, rng := [(250, 4000)], jour := true },
  { obj := 0x511, objHi := 0x511, kinds := [.sleeve], ty := .u8, acc := .dx, level := 2, dflt := .num 4, rng := [(1, 4)], jour := true },
  { obj := 0x512, objHi := 0x512, kinds := [.sleeve], ty := .u8, acc := .dx, level := 2, jour := true },
  { obj := 0x514, objHi := 0x514, kinds := [.sleeve], ty := .blob, acc := .w, level := 2, dflt := .bytes [] },
  { obj := 0x515, objHi := 0x515, kinds := [.sleeve], ty := .blob, acc := .r, dflt := .bytes [] },
  { obj := 0x518, objHi := 0x518, kinds := [.sleeve], ty := .f32, acc := .dx, level := 2, dflt := .num 1203982336, rng := [(1065353216, 1315859240)], jour := true },
  { obj := 0x519, objHi := 0x519, kinds := [.sleeve], ty := .u8, acc := .dx, level := 2, dflt := .num 1, rng := [(1, 16)], jour := true },
  { obj := 0x51a, objHi := 0x51a, kinds := [.sleeve], ty := .u32, acc := .dx, level := 2, dflt := .num 10000, rng := [(100, 1000000)], jour := true },
  { obj := 0x520, objHi := 0x520, kinds := [.sleeve], ty := .u8, acc := .r },
  { obj := 0x521, objHi := 0x521, kinds := [.sleeve], ty := .u64, acc := .r } ]

/-- Objects of chapter 09, Feedback (09 R236), part 2. -/
def objects09b : List ObjRow := [
  { obj := 0x522, objHi := 0x522, kinds := [.sleeve], ty := .i64, acc := .r },
  { obj := 0x523, objHi := 0x523, kinds := [.sleeve], ty := .pos64, acc := .r },
  { obj := 0x524, objHi := 0x524, kinds := [.sleeve, .cluster], ty := .f32, acc := .r },
  { obj := 0x525, objHi := 0x525, kinds := [.sleeve], ty := .u8, acc := .r, dflt := .num 1 },
  { obj := 0x526, objHi := 0x526, kinds := [.sleeve], ty := .pos64, acc := .r },
  { obj := 0x527, objHi := 0x527, kinds := [.sleeve], ty := .u32, acc := .rw, vol := true, stick := true },
  { obj := 0x528, objHi := 0x528, kinds := [.sleeve], ty := .u8, acc := .r },
  { obj := 0x529, objHi := 0x529, kinds := [.sleeve], ty := .u8, acc := .r },
  { obj := 0x52a, objHi := 0x52a, kinds := [.sleeve], ty := .u32, acc := .rw, vol := true, stick := true },
  { obj := 0x52b, objHi := 0x52b, kinds := [.sleeve], ty := .u32, acc := .rw, vol := true, stick := true },
  { obj := 0x52c, objHi := 0x52c, kinds := [.sleeve], ty := .u32, acc := .rw, vol := true, stick := true },
  { obj := 0x52d, objHi := 0x52d, kinds := [.sleeve], ty := .u32, acc := .rw, vol := true, stick := true },
  { obj := 0x530, objHi := 0x530, kinds := [.localAxis, .cluster], ty := .pos64, acc := .r },
  { obj := 0x531, objHi := 0x531, kinds := [.localAxis, .cluster], ty := .i64, acc := .r },
  { obj := 0x540, objHi := 0x540, kinds := [.sleeve], ty := .u8, acc := .r },
  { obj := 0x541, objHi := 0x541, kinds := [.sleeve], ty := .u16, acc := .dx, level := 2, dflt := .num 64, rng := [(16, 256)], jour := true },
  { obj := 0x542, objHi := 0x542, elHi := 2, kinds := [.sleeve], ty := .f32, acc := .dx, level := 2, dflt := .num 1065353216, rng := [(-1176256512, 1176256512)], jour := true },
  { obj := 0x543, objHi := 0x543, elHi := 2, kinds := [.sleeve], ty := .f32, acc := .dx, level := 2, rng := [(-1176256512, 1176256512)], jour := true },
  { obj := 0x544, objHi := 0x544, kinds := [.sleeve], ty := .u8, acc := .dx, level := 2, rng := [(0, 31)], jour := true },
  { obj := 0x545, objHi := 0x545, kinds := [.sleeve], ty := .u8, acc := .dx, level := 2, dflt := .num 16, rng := [(8, 32)], jour := true },
  { obj := 0x546, objHi := 0x546, kinds := [.sleeve], ty := .f32, acc := .dx, level := 2, rng := [(0, 1148846080), (0, 0)], jour := true },
  { obj := 0x547, objHi := 0x547, kinds := [.sleeve], ty := .u8, acc := .dx, level := 2, dflt := .num 2, rng := [(1, 16)], jour := true },
  { obj := 0x548, objHi := 0x548, elHi := 2, kinds := [.sleeve], ty := .f32, acc := .r },
  { obj := 0x549, objHi := 0x549, kinds := [.sleeve], ty := .f32, acc := .r } ]

/-- Objects of chapter 09, Feedback (09 R236), part 3. -/
def objects09c : List ObjRow := [
  { obj := 0x54a, objHi := 0x54a, kinds := [.sleeve], ty := .u32, acc := .rw, vol := true, stick := true },
  { obj := 0x550, objHi := 0x550, kinds := [.sleeve], ty := .bool, acc := .rw, level := 2, jour := true },
  { obj := 0x551, objHi := 0x551, kinds := [.sleeve], ty := .i32, acc := .rw, level := 2, dflt := .num 1, rng := [(-2147483648, 2147483647)], jour := true },
  { obj := 0x552, objHi := 0x552, kinds := [.sleeve], ty := .u32, acc := .rw, level := 2, dflt := .num 1, rng := [(1, 4294967295)], jour := true },
  { obj := 0x553, objHi := 0x553, kinds := [.sleeve], ty := .u8, acc := .rw, level := 2, rng := [(0, 0), (2, 2), (4, 4), (6, 6), (8, 8), (10, 10), (12, 12), (14, 14)], jour := true },
  { obj := 0x554, objHi := 0x554, kinds := [.sleeve], ty := .u32, acc := .rw, vol := true, stick := true },
  { obj := 0x555, objHi := 0x555, kinds := [.sleeve], ty := .u32, acc := .r } ]

/-- Objects of chapter 10, Cell datapath (10 R256), part 1. -/
def objects10a : List ObjRow := [
  { obj := 0x1100, objHi := 0x1100, elHi := 127, kinds := [.root], ty := .u16, acc := .r },
  { obj := 0x1101, objHi := 0x1101, elHi := 127, kinds := [.root], ty := .u16, acc := .r },
  { obj := 0x1102, objHi := 0x1102, elHi := 127, kinds := [.root], ty := .u32, acc := .r },
  { obj := 0x1103, objHi := 0x1103, elHi := 127, kinds := [.root], ty := .u32, acc := .r },
  { obj := 0x1104, objHi := 0x1104, elHi := 127, kinds := [.root], ty := .u8, acc := .r },
  { obj := 0x1105, objHi := 0x1105, elHi := 127, kinds := [.root], ty := .u32, acc := .r },
  { obj := 0x1106, objHi := 0x1106, elHi := 127, kinds := [.root], ty := .u32, acc := .rw, vol := true },
  { obj := 0x1107, objHi := 0x1107, elHi := 127, kinds := [.root], ty := .u32, acc := .rw, vol := true, stick := true },
  { obj := 0x1108, objHi := 0x1108, elHi := 127, kinds := [.root], ty := .u32, acc := .rw, vol := true, stick := true },
  { obj := 0x1109, objHi := 0x1109, elHi := 127, kinds := [.root], ty := .u32, acc := .rw, vol := true, stick := true },
  { obj := 0x110a, objHi := 0x110a, elHi := 127, kinds := [.root], ty := .u8, acc := .w, level := 2, rng := [(1, 1)] },
  { obj := 0x1110, objHi := 0x1110, elHi := 15, kinds := [.root], ty := .blob, acc := .rw, level := 2, dflt := .bytes [], vol := true },
  { obj := 0x1111, objHi := 0x1111, kinds := [.root], ty := .u8, acc := .w, level := 2, rng := [(0, 127)] },
  { obj := 0x1120, objHi := 0x1120, kinds := [.sleeve], ty := .u32, acc := .dx, level := 2, jour := true },
  { obj := 0x1121, objHi := 0x1121, kinds := [.sleeve], ty := .u32, acc := .dx, level := 2, jour := true },
  { obj := 0x1122, objHi := 0x1122, kinds := [.sleeve], ty := .u8, acc := .dx, level := 2, jour := true } ]

/-- Objects of chapter 11, Recorders (11 R272), part 1. -/
def objects11a : List ObjRow := [
  { obj := 0xa00, objHi := 0xa00, elHi := 15, kinds := [.recorder], ty := .blob, acc := .dx, level := 2, dflt := .bytes (List.replicate 8 0), jour := true },
  { obj := 0xa01, objHi := 0xa01, kinds := [.recorder], ty := .u8, acc := .dx, level := 2, rng := [(1, 16)], jour := true },
  { obj := 0xa02, objHi := 0xa02, kinds := [.recorder], ty := .u16, acc := .dx, level := 2, dflt := .num 1, rng := [(1, 65535)], jour := true },
  { obj := 0xa03, objHi := 0xa03, kinds := [.recorder], ty := .u16, acc := .r, dflt := .num 2 },
  { obj := 0xa04, objHi := 0xa04, kinds := [.recorder], ty := .u8, acc := .dx, level := 2, dflt := .num 255, rng := [(0, 15), (255, 255)], vol := true },
  { obj := 0xa05, objHi := 0xa05, kinds := [.recorder], ty := .u8, acc := .dx, level := 2, dflt := .num 2, rng := [(1, 64)], jour := true },
  { obj := 0xa06, objHi := 0xa06, kinds := [.recorder], ty := .u32, acc := .dx, level := 2, dflt := .num 1000, rng := [(100, 100000)], jour := true },
  { obj := 0xa10, objHi := 0xa10, elHi := 7, kinds := [.recorder], ty := .blob, acc := .rw, level := 2, dflt := .bytes (List.replicate 32 0), jour := true },
  { obj := 0xa11, objHi := 0xa11, kinds := [.recorder], ty := .u8, acc := .rw, level := 2, rng := [(0, 0), (1, 1), (2, 2)], jour := true },
  { obj := 0xa12, objHi := 0xa12, kinds := [.recorder], ty := .u32, acc := .rw, level := 2, rng := [(0, 60000000)], jour := true },
  { obj := 0xa13, objHi := 0xa13, kinds := [.recorder], ty := .u16, acc := .rw, level := 2, dflt := .num 1, rng := [(1, 65535)], jour := true },
  { obj := 0xa14, objHi := 0xa14, kinds := [.recorder], ty := .bool, acc := .r },
  { obj := 0xa20, objHi := 0xa20, kinds := [.recorder], ty := .u8, acc := .dx, level := 2, rng := [(0, 2)], jour := true },
  { obj := 0xa21, objHi := 0xa21, kinds := [.recorder], ty := .u32, acc := .dx, level := 2, dflt := .num 1000, rng := [(1, 4294967295)], jour := true },
  { obj := 0xa22, objHi := 0xa22, kinds := [.recorder], ty := .u16, acc := .dx, level := 2, jour := true },
  { obj := 0xa30, objHi := 0xa30, kinds := [.recorder], ty := .u32, acc := .r },
  { obj := 0xa31, objHi := 0xa31, kinds := [.recorder], ty := .u32, acc := .r },
  { obj := 0xa32, objHi := 0xa32, kinds := [.recorder], ty := .u32, acc := .rw, vol := true, stick := true },
  { obj := 0xa33, objHi := 0xa33, kinds := [.recorder], ty := .u32, acc := .rw, vol := true, stick := true },
  { obj := 0xa34, objHi := 0xa34, kinds := [.recorder], ty := .blob, acc := .r, dflt := .bytes [] },
  { obj := 0xa35, objHi := 0xa35, kinds := [.recorder], ty := .u32, acc := .rw, vol := true, stick := true },
  { obj := 0xa40, objHi := 0xa40, kinds := [.root], ty := .u32, acc := .r } ]

/-- Objects of chapter 12, Faults and rehousing (12 R293), part 1. -/
def objects12a : List ObjRow := [
  { obj := 0xb00, objHi := 0xb00, elHi := 7, kinds := kAll, ty := .u32, acc := .rw, level := 1, vol := true },
  { obj := 0xb01, objHi := 0xb01, elHi := 7, kinds := kAll, ty := .u32, acc := .r },
  { obj := 0xb02, objHi := 0xb02, elHi := 7, kinds := kAll, ty := .u32, acc := .rw, level := 1, vol := true },
  { obj := 0xb03, objHi := 0xb03, kinds := kAll, ty := .u16, acc := .rw, jour := true, stick := true },
  { obj := 0xb04, objHi := 0xb04, kinds := kAll, ty := .u8, acc := .r },
  { obj := 0xb05, objHi := 0xb05, kinds := [.root], ty := .u16, acc := .r, dflt := .num 65535 },
  { obj := 0xb06, objHi := 0xb06, kinds := kAll, ty := .u32, acc := .rw, vol := true, stick := true },
  { obj := 0xb10, objHi := 0xb10, elHi := 31, kinds := kAll, ty := .u32, acc := .r },
  { obj := 0xb20, objHi := 0xb20, kinds := [.root, .cell, .sleeve], ty := .u32, acc := .rw, vol := true, stick := true },
  { obj := 0xb21, objHi := 0xb21, kinds := [.cell, .sleeve], ty := .u32, acc := .rw, vol := true, stick := true },
  { obj := 0xb30, objHi := 0xb30, elLo := 1, elHi := 10, kinds := [.root], ty := .u32, acc := .rw, level := 2, dflt := .num 100, rng := [(10, 60000)], jour := true },
  { obj := 0xb31, objHi := 0xb31, elLo := 1, elHi := 10, kinds := [.root], ty := .u8, acc := .rw, level := 2, dflt := .num 3, rng := [(0, 0), (1, 255)], jour := true },
  { obj := 0xb32, objHi := 0xb32, kinds := [.root], ty := .u16, acc := .rw, level := 2, dflt := .num 24, rng := [(1, 8760)], jour := true },
  { obj := 0xb33, objHi := 0xb33, kinds := [.root], ty := .u64, acc := .r },
  { obj := 0xb40, objHi := 0xb40, kinds := [.root], ty := .u16, acc := .w, level := 4 },
  { obj := 0xb41, objHi := 0xb41, kinds := [.root], ty := .arrU16, acc := .r, dflt := .bytes [] },
  { obj := 0xb50, objHi := 0xb50, kinds := [.localAxis, .netAxis, .virtAxis, .recorder, .cluster], ty := .u32, acc := .rw, vol := true, stick := true },
  { obj := 0xb51, objHi := 0xb51, kinds := [.localAxis, .netAxis, .virtAxis, .recorder, .cluster], ty := .u8, acc := .r },
  { obj := 0xb52, objHi := 0xb52, kinds := [.root], ty := .u8, acc := .r },
  { obj := 0xb53, objHi := 0xb53, kinds := [.root], ty := .u8, acc := .r, dflt := .num 255 },
  { obj := 0xb60, objHi := 0xb60, kinds := [.localAxis], ty := .f32, acc := .st, level := 2, rng := [(0, 0), (1065353216, 1315859240)], jour := true },
  { obj := 0xb61, objHi := 0xb61, kinds := [.localAxis], ty := .u16, acc := .st, level := 2, dflt := .num 1, rng := [(1, 1000)], jour := true } ]

/-- Objects of chapter 13, Veil (13 R320), part 1. -/
def objects13a : List ObjRow := [
  { obj := 0xc00, objHi := 0xc00, kinds := [.veil], ty := .u32, acc := .dx, level := 3, jour := true },
  { obj := 0xc01, objHi := 0xc01, kinds := [.veil], ty := .bool, acc := .r },
  { obj := 0xc02, objHi := 0xc02, kinds := [.veil], ty := .u8, acc := .r },
  { obj := 0xc03, objHi := 0xc03, elHi := 7, kinds := [.veil], ty := .u8, acc := .r, dflt := .num 1 },
  { obj := 0xc04, objHi := 0xc04, elHi := 7, kinds := [.veil], ty := .u8, acc := .r, dflt := .num 8 },
  { obj := 0xc05, objHi := 0xc05, elHi := 7, kinds := [.veil], ty := .u8, acc := .w, level := 1, rng := [(1, 1)] },
  { obj := 0xc06, objHi := 0xc06, kinds := [.veil], ty := .u8, acc := .r },
  { obj := 0xc07, objHi := 0xc07, kinds := [.veil], ty := .u8, acc := .r },
  { obj := 0xc08, objHi := 0xc08, elHi := 7, kinds := [.veil], ty := .u8, acc := .r, dflt := .num 1 },
  { obj := 0xc09, objHi := 0xc09, kinds := [.veil], ty := .u16, acc := .r },
  { obj := 0xc0a, objHi := 0xc0a, kinds := [.veil], ty := .blob, acc := .w, level := 4, dflt := .bytes [] },
  { obj := 0xc0b, objHi := 0xc0b, kinds := [.veil], ty := .u8, acc := .w, level := 4, rng := [(1, 1)] },
  { obj := 0xc0c, objHi := 0xc0c, elHi := 10, kinds := [.veil], ty := .u32, acc := .rw, vol := true, stick := true },
  { obj := 0xc0d, objHi := 0xc0d, elHi := 31, kinds := [.veil], ty := .f32, acc := .r },
  { obj := 0xc0e, objHi := 0xc0e, elHi := 31, kinds := [.veil], ty := .bool, acc := .r },
  { obj := 0xc10, objHi := 0xc10, elHi := 7, kinds := [.veil], ty := .arrU16, acc := .dx, level := 3, dflt := .bytes [], jour := true },
  { obj := 0xc11, objHi := 0xc11, elHi := 7, kinds := [.veil], ty := .u16, acc := .dx, level := 3, dflt := .num 1600, rng := [(40, 40000)], jour := true },
  { obj := 0xc12, objHi := 0xc12, elHi := 7, kinds := [.veil], ty := .u8, acc := .dx, level := 3, dflt := .num 8, rng := [(0, 200)], jour := true },
  { obj := 0xc18, objHi := 0xc18, kinds := [.veil], ty := .u16, acc := .dx, level := 3, dflt := .num 50, rng := [(10, 1000)], jour := true },
  { obj := 0xc19, objHi := 0xc19, kinds := [.veil], ty := .u16, acc := .dx, level := 3, dflt := .num 40, rng := [(10, 1000)], jour := true },
  { obj := 0xc20, objHi := 0xc20, elHi := 7, kinds := [.veil], ty := .u8, acc := .dx, level := 3, dflt := .num 4, rng := [(0, 40)], jour := true },
  { obj := 0xc21, objHi := 0xc21, elHi := 7, kinds := [.veil], ty := .u16, acc := .dx, level := 3, dflt := .num 40, rng := [(20, 4000)], jour := true },
  { obj := 0xc22, objHi := 0xc22, elHi := 7, kinds := [.veil], ty := .u8, acc := .dx, level := 3, rng := [(0, 0), (1, 1), (2, 2)], jour := true },
  { obj := 0xc23, objHi := 0xc23, elHi := 7, kinds := [.veil], ty := .u8, acc := .dx, level := 3, jour := true } ]

/-- Objects of chapter 13, Veil (13 R320), part 2. -/
def objects13b : List ObjRow := [
  { obj := 0xc24, objHi := 0xc24, elHi := 7, kinds := [.veil], ty := .u8, acc := .dx, level := 3, dflt := .num 1, rng := [(0, 0), (1, 1)], jour := true },
  { obj := 0xc25, objHi := 0xc25, elHi := 7, kinds := [.veil], ty := .u8, acc := .dx, level := 3, jour := true },
  { obj := 0xc26, objHi := 0xc26, elHi := 7, kinds := [.veil], ty := .u8, acc := .dx, level := 3, dflt := .num 255, jour := true },
  { obj := 0xc30, objHi := 0xc30, elHi := 31, kinds := [.veil], ty := .u8, acc := .dx, level := 3, rng := [(0, 4)], jour := true },
  { obj := 0xc31, objHi := 0xc31, elHi := 31, kinds := [.veil], ty := .u64, acc := .dx, level := 3, dflt := .num 4096, rng := [(2, 1099511627776)], jour := true },
  { obj := 0xc32, objHi := 0xc32, elHi := 31, kinds := [.veil], ty := .blob, acc := .dx, level := 3, dflt := .bytes (List.replicate 16 0), jour := true },
  { obj := 0xc33, objHi := 0xc33, elHi := 31, kinds := [.veil], ty := .f32, acc := .dx, level := 3, dflt := .num 1232348160, rng := [(1065353216, 1399379109)], jour := true },
  { obj := 0xc34, objHi := 0xc34, elHi := 31, kinds := [.veil], ty := .f32, acc := .dx, level := 3, dflt := .num 1203982336, rng := [(0, 1315859240)], jour := true },
  { obj := 0xc35, objHi := 0xc35, elHi := 31, kinds := [.veil], ty := .f32, acc := .dx, level := 3, dflt := .num 1176256512, rng := [(1065353216, 1315859240)], jour := true },
  { obj := 0xc36, objHi := 0xc36, elHi := 31, kinds := [.veil], ty := .f32, acc := .dx, level := 3, rng := [(0, 0), (1065353216, 1315859240)], jour := true } ]

/-- Objects of chapter 14, Field I/O (14 R336), part 1. -/
def objects14a : List ObjRow := [
  { obj := 0xd02, objHi := 0xd02, kinds := [.field], ty := .bool, acc := .r },
  { obj := 0xd03, objHi := 0xd03, kinds := [.field], ty := .u32, acc := .rw, vol := true, stick := true },
  { obj := 0xd10, objHi := 0xd10, kinds := [.field], ty := .u32, acc := .dx, level := 2, jour := true },
  { obj := 0xd11, objHi := 0xd11, elHi := 31, kinds := [.field], ty := .u16, acc := .dx, level := 2, dflt := .num 40, rng := [(0, 400)], jour := true },
  { obj := 0xd12, objHi := 0xd12, kinds := [.field], ty := .u32, acc := .r },
  { obj := 0xd13, objHi := 0xd13, kinds := [.field], ty := .u32, acc := .dx, level := 2, jour := true },
  { obj := 0xd14, objHi := 0xd14, kinds := [.field], ty := .u32, acc := .r },
  { obj := 0xd20, objHi := 0xd20, kinds := [.field], ty := .u16, acc := .rw, level := 1, vol := true },
  { obj := 0xd21, objHi := 0xd21, kinds := [.field], ty := .u16, acc := .w, level := 1 },
  { obj := 0xd22, objHi := 0xd22, kinds := [.field], ty := .u16, acc := .w, level := 1 },
  { obj := 0xd23, objHi := 0xd23, kinds := [.field], ty := .u16, acc := .dx, level := 2, jour := true },
  { obj := 0xd25, objHi := 0xd25, kinds := [.field], ty := .u16, acc := .r },
  { obj := 0xd26, objHi := 0xd26, kinds := [.field], ty := .u16, acc := .dx, level := 2, jour := true },
  { obj := 0xd27, objHi := 0xd27, elHi := 19, kinds := [.field], ty := .u32, acc := .rw, vol := true, stick := true },
  { obj := 0xd28, objHi := 0xd28, kinds := [.field], ty := .u16, acc := .dx, level := 2, dflt := .num 100, rng := [(10, 10000)], jour := true },
  { obj := 0xd29, objHi := 0xd29, kinds := [.field], ty := .u8, acc := .dx, level := 2, dflt := .num 3, rng := [(1, 15)], jour := true },
  { obj := 0xd30, objHi := 0xd30, kinds := [.field], ty := .u8, acc := .rw, level := 2, dflt := .num 15, jour := true },
  { obj := 0xd31, objHi := 0xd31, kinds := [.field], ty := .u8, acc := .dx, level := 2, jour := true },
  { obj := 0xd40, objHi := 0xd40, elHi := 51, kinds := [.field], ty := .u8, acc := .r },
  { obj := 0xd41, objHi := 0xd41, elHi := 51, kinds := [.field], ty := .u16, acc := .rw, vol := true, stick := true } ]

/-- Objects of chapter 15, CAN (15 R352), part 1. -/
def objects15a : List ObjRow := [
  { obj := 0xe00, objHi := 0xe00, kinds := [.can], ty := .u8, acc := .dx, level := 2, dflt := .num 1, rng := [(0, 0), (1, 1)], jour := true },
  { obj := 0xe01, objHi := 0xe01, kinds := [.can], ty := .u32, acc := .dx, level := 2, dflt := .num 500000, rng := [(10000, 1000000)], jour := true },
  { obj := 0xe02, objHi := 0xe02, kinds := [.can], ty := .u16, acc := .dx, level := 2, dflt := .num 800, rng := [(500, 900)], jour := true },
  { obj := 0xe03, objHi := 0xe03, kinds := [.can], ty := .u32, acc := .dx, level := 2, dflt := .num 2000000, rng := [(500000, 8000000)], jour := true },
  { obj := 0xe04, objHi := 0xe04, kinds := [.can], ty := .u16, acc := .dx, level := 2, dflt := .num 750, rng := [(500, 900)], jour := true },
  { obj := 0xe06, objHi := 0xe06, kinds := [.can], ty := .u16, acc := .r },
  { obj := 0xe07, objHi := 0xe07, kinds := [.can], ty := .u8, acc := .r },
  { obj := 0xe08, objHi := 0xe08, kinds := [.can], ty := .u8, acc := .r },
  { obj := 0xe09, objHi := 0xe09, kinds := [.can], ty := .u8, acc := .r },
  { obj := 0xe0a, objHi := 0xe0a, kinds := [.can], ty := .u32, acc := .rw, vol := true, stick := true },
  { obj := 0xe0b, objHi := 0xe0b, kinds := [.can], ty := .u32, acc := .rw, vol := true, stick := true },
  { obj := 0xe0c, objHi := 0xe0c, kinds := [.can], ty := .u32, acc := .rw, vol := true, stick := true },
  { obj := 0xe0d, objHi := 0xe0d, kinds := [.can], ty := .bool, acc := .r },
  { obj := 0xe10, objHi := 0xe10, elHi := 31, kinds := [.can], ty := .blob, acc := .w, level := 1, dflt := .bytes [] },
  { obj := 0xe11, objHi := 0xe11, elHi := 31, kinds := [.can], ty := .u8, acc := .r },
  { obj := 0xe12, objHi := 0xe12, elHi := 31, kinds := [.can], ty := .u8, acc := .r },
  { obj := 0xe13, objHi := 0xe13, kinds := [.can], ty := .u32, acc := .w, level := 1 },
  { obj := 0xe14, objHi := 0xe14, kinds := [.can], ty := .u32, acc := .rw, vol := true, stick := true },
  { obj := 0xe15, objHi := 0xe15, kinds := [.can], ty := .u32, acc := .rw, vol := true, stick := true },
  { obj := 0xe16, objHi := 0xe16, kinds := [.can], ty := .u32, acc := .rw, vol := true, stick := true },
  { obj := 0xe20, objHi := 0xe20, elHi := 63, kinds := [.can], ty := .blob, acc := .dx, level := 2, dflt := .bytes (List.replicate 16 0), jour := true },
  { obj := 0xe21, objHi := 0xe21, kinds := [.can], ty := .blob, acc := .r, level := 1, dflt := .bytes [] },
  { obj := 0xe22, objHi := 0xe22, kinds := [.can], ty := .u8, acc := .r },
  { obj := 0xe23, objHi := 0xe23, kinds := [.can], ty := .u32, acc := .rw, vol := true, stick := true } ]

/-- Objects of chapter 15, CAN (15 R352), part 2. -/
def objects15b : List ObjRow := [
  { obj := 0xe30, objHi := 0xe30, elHi := 63, kinds := [.can], ty := .f32, acc := .r },
  { obj := 0xe31, objHi := 0xe31, elHi := 63, kinds := [.can], ty := .time64, acc := .r },
  { obj := 0xe32, objHi := 0xe32, elHi := 63, kinds := [.can], ty := .u32, acc := .rw, vol := true, stick := true },
  { obj := 0xe40, objHi := 0xe40, kinds := [.can], ty := .bool, acc := .dx, level := 2, jour := true },
  { obj := 0xe41, objHi := 0xe41, kinds := [.can], ty := .u32, acc := .dx, level := 2, rng := [(0, 1073741823)], jour := true },
  { obj := 0xe42, objHi := 0xe42, kinds := [.can], ty := .u32, acc := .dx, level := 2, dflt := .num 10000, rng := [(1000, 10000000)], jour := true },
  { obj := 0xe43, objHi := 0xe43, kinds := [.can], ty := .time64, acc := .r },
  { obj := 0xe44, objHi := 0xe44, kinds := [.can], ty := .u32, acc := .rw, vol := true, stick := true } ]

/-- Objects of chapter 16, Journal (16 R370), part 1. -/
def objects16a : List ObjRow := [
  { obj := 0xf00, objHi := 0xf00, kinds := [.root], ty := .u8, acc := .r },
  { obj := 0xf01, objHi := 0xf01, kinds := [.root], ty := .u8, acc := .r },
  { obj := 0xf02, objHi := 0xf02, kinds := [.root], ty := .u32, acc := .r },
  { obj := 0xf03, objHi := 0xf03, kinds := [.root], ty := .u32, acc := .r },
  { obj := 0xf04, objHi := 0xf04, kinds := [.root], ty := .u32, acc := .r },
  { obj := 0xf05, objHi := 0xf05, kinds := [.root], ty := .u32, acc := .r },
  { obj := 0xf06, objHi := 0xf06, kinds := [.root], ty := .u32, acc := .rw, vol := true, stick := true },
  { obj := 0xf07, objHi := 0xf07, kinds := [.root], ty := .u32, acc := .rw, vol := true, stick := true },
  { obj := 0xf08, objHi := 0xf08, kinds := [.root], ty := .u32, acc := .r },
  { obj := 0xf10, objHi := 0xf10, kinds := [.root], ty := .u8, acc := .w, level := 2, rng := [(1, 1)] },
  { obj := 0xf11, objHi := 0xf11, kinds := [.root], ty := .u8, acc := .w, level := 4, rng := [(1, 1)] },
  { obj := 0xf20, objHi := 0xf27, elHi := 255, kinds := [.root], ty := .blob, acc := .w, level := 4, dflt := .bytes [] },
  { obj := 0xf30, objHi := 0xf30, kinds := [.root], ty := .u32, acc := .w, level := 4, rng := [(4160, 8388608)] },
  { obj := 0xf31, objHi := 0xf31, kinds := [.root], ty := .u8, acc := .r },
  { obj := 0xf32, objHi := 0xf32, elHi := 1, kinds := [.root], ty := .str, acc := .r, dflt := .bytes [] },
  { obj := 0xf33, objHi := 0xf33, kinds := [.root], ty := .u8, acc := .r },
  { obj := 0x3000, objHi := 0x30ff, elHi := 255, kinds := [.root], ty := .blob, acc := .r, level := 2, dflt := .bytes [] } ]

/-- Objects of chapter 17, Reset and power (17 R391), part 1. -/
def objects17a : List ObjRow := [
  { obj := 0x1000, objHi := 0x1000, kinds := [.root], ty := .u32, acc := .rw, stick := true },
  { obj := 0x1001, objHi := 0x1001, kinds := [.root], ty := .u8, acc := .r },
  { obj := 0x1002, objHi := 0x1002, kinds := [.root], ty := .u8, acc := .r },
  { obj := 0x1003, objHi := 0x1003, kinds := [.root], ty := .bool, acc := .rw, level := 2 },
  { obj := 0x1004, objHi := 0x1004, kinds := [.root], ty := .blob, acc := .rw, level := 2, dflt := .bytes (List.replicate 64 0) },
  { obj := 0x1008, objHi := 0x1008, kinds := [.root], ty := .bool, acc := .r },
  { obj := 0x1009, objHi := 0x1009, kinds := [.root], ty := .u32, acc := .r },
  { obj := 0x100a, objHi := 0x100a, kinds := [.root], ty := .u32, acc := .r },
  { obj := 0x100b, objHi := 0x100b, elLo := 1, elHi := 10, kinds := [.root], ty := .u8, acc := .r },
  { obj := 0x100c, objHi := 0x100c, kinds := [.root], ty := .u8, acc := .r },
  { obj := 0x1010, objHi := 0x1010, kinds := [.root], ty := .u8, acc := .w, level := 4, rng := [(1, 4)] },
  { obj := 0x1011, objHi := 0x1011, kinds := [.cell, .sleeve, .recorder, .can], ty := .u8, acc := .w, level := 2, rng := [(1, 1), (2, 2)] },
  { obj := 0x1012, objHi := 0x1012, kinds := [.cell, .sleeve, .recorder, .can], ty := .u8, acc := .r },
  { obj := 0x1013, objHi := 0x1013, kinds := [.cell, .sleeve, .recorder, .can], ty := .u8, acc := .w, level := 2, rng := [(1, 1)] },
  { obj := 0x1015, objHi := 0x1015, kinds := [.root], ty := .u32, acc := .rw, vol := true, stick := true },
  { obj := 0x1020, objHi := 0x1020, elHi := 13, kinds := [.root], ty := .u8, acc := .r },
  { obj := 0x1021, objHi := 0x1021, kinds := [.root], ty := .f32, acc := .r },
  { obj := 0x1022, objHi := 0x1022, kinds := [.root], ty := .u32, acc := .rw, vol := true, stick := true },
  { obj := 0x1030, objHi := 0x1030, kinds := [.root], ty := .u8, acc := .w, level := 4, rng := [(1, 1)] },
  { obj := 0x1031, objHi := 0x1031, kinds := [.root], ty := .u8, acc := .r } ]

/-- The rows of the chapter that owns object o (02 Table 2-13). -/
def rowsOf (o : Nat) : List ObjRow :=
  match o / 256 with
  | 0x0 => objects02a ++ objects02b
  | 0x1 => objects02a ++ objects02b
  | 0x2 => objects03a ++ objects03b
  | 0x3 => objects01a
  | 0x4 => objects08a ++ objects08b
  | 0x5 => objects09a ++ objects09b ++ objects09c
  | 0x6 => objects07a ++ objects07b ++ objects07c ++ objects07d
  | 0x7 => objects04a ++ objects04b
  | 0x8 => objects05a ++ objects05b
  | 0x9 => objects06a ++ objects06b
  | 0xa => objects11a
  | 0xb => objects12a
  | 0xc => objects13a ++ objects13b
  | 0xd => objects14a
  | 0xe => objects15a ++ objects15b
  | 0xf => objects16a
  | 0x10 => objects17a
  | 0x11 => objects10a
  | h => if 0x20 ≤ h ∧ h < 0x30 then objects05a ++ objects05b else if h = 0x30 then objects16a else []

/-- All rows, in the order of the chapters. -/
def allRows : List ObjRow :=
  objects01a ++ objects02a ++ objects02b ++ objects03a ++ objects03b ++ objects04a ++ objects04b ++ objects05a ++ objects05b ++ objects06a ++ objects06b ++ objects07a ++ objects07b ++ objects07c ++ objects07d ++ objects08a ++ objects08b ++ objects09a ++ objects09b ++ objects09c ++ objects10a ++ objects11a ++ objects12a ++ objects13a ++ objects13b ++ objects14a ++ objects15a ++ objects15b ++ objects16a ++ objects17a

/-- The row of an object on a kind of unit, whatever the element (02 Table 2-5 NO_OBJECT). -/
def objRowOf (k : UKind) (o : Nat) : Option ObjRow :=
  (rowsOf o).find? fun r => decide (r.obj ≤ o ∧ o ≤ r.objHi ∧ k ∈ r.kinds)

/-- The row of an element (NO_ELEMENT). -/
def rowOf (k : UKind) (o e : Nat) : Option ObjRow :=
  (objRowOf k o).filter fun r => decide (r.elLo ≤ e ∧ e ≤ r.elHi)

end Sys2Proof.Machine
end

