-- ==== Sys2Proof/Machine/State.lean ====
section
/-! DEFINITION. The state of the GZ9128 as plain data: everything the spec gives the device, with its reset values. -/

namespace Sys2Proof.Machine

/-- Why a command stops the machine with a fault. -/
inductive Fault where
  /-- Raised by no meaning of this model: the device contains every fault of its own as state (12 R274), so a stop by a
  fault would be a gap. It stands here so that the type is a closed one with a name; safe. -/
  | none
deriving DecidableEq, Repr

/-- Why a command is refused. -/
inductive Refusal where
  /-- Raised by an arm of exec whose command has no meaning yet; safe. -/
  | notModelled (mnemonic : String)
deriving DecidableEq, Repr

/-! ### What the device sends -/

/-- The kinds of PTP message the device sends (03 R73). -/
inductive PtpKind where
  | sync | followUp | pdelayReq | pdelayResp | pdelayRespFollowUp | delayReq | delayResp | forwarded
deriving DecidableEq, Repr, Inhabited

/-- One thing that left the device by a port. The log of them is an observer's record of the pins; nothing reads it back. -/
inductive Sent where
  /-- An LFP datagram (02 R39) to an address and port: every byte from Version to Check. -/
  | lfp (dst : Src) (bytes : Bytes)
  /-- An ARP reply: target station, and the address answered for (02 R36). -/
  | arpReply (mac ip own : Nat)
  /-- Three ARP probes for an address (02 R37). -/
  | arpProbes (ip : Nat)
  /-- An ICMP echo reply (02 R36). -/
  | icmpReply (dst ident seq : Nat) (data : Bytes)
  /-- A PTP message on a port (03 R73, R74): over UDP/IPv4 or on Ethernet, kind, port, sequence, time-stamp field, correctionField. -/
  | ptp (udp : Bool) (kind : PtpKind) (port seq : Nat) (stamp correction : Int)
  /-- An Announce on a port (03 R73): over UDP/IPv4 or on Ethernet, port, sequence, and its data set in the BMCA's order. -/
  | announce (udp : Bool) (port seq : Nat) (dataSet : List Nat)
  /-- A rising edge of PPS_OUT at a network time in quanta, with its width in µs (03 R89). -/
  | pps (time width : Nat)
  /-- A request of the sleeve to its encoder (09 R219, R221); empty for an SSI clock run. -/
  | serial (sleeve : Nat) (request : Bytes)
  /-- A seam frame (14 R323): its direction and frame number. -/
  | seam (toField : Bool) (number : Nat)
  /-- A frame put on a CAN bus by the controller (15 R343). -/
  | can (unit : Nat) (f : CanFrame)
  /-- An edge on a timing output GTPp at an instant in quanta (06 R156). -/
  | gtp (pin : Nat) (level : Bool) (time : Nat)
deriving DecidableEq, Repr, Inhabited

/-! ### Sessions, requests and waggles (02) -/

/-- The reply to one request item (02 Table 2-4): status code, type code, data. -/
structure ItemReply where
  status : Nat
  type : Nat := 0
  data : Bytes := []
deriving DecidableEq, Repr, Inhabited

/-- A request in service: its number and the replies of its items so far, none while an item is still served (02 R44). -/
structure Request where
  req : Nat
  items : List (Option ItemReply)
  /-- Type codes of the objects that the items name, shown where the status is OK (Table 2-4). -/
  types : List Nat := []
deriving DecidableEq, Repr, Inhabited

/-- A request that arrived ahead of an earlier number and is held (02 R43). -/
structure Held where
  req : Nat
  kind : Nat
  payload : Bytes
deriving DecidableEq, Repr, Inhabited

/-- An open session (02 R43, R50, R56). -/
structure Session where
  /-- Level code of Table 2-7. -/
  level : Nat := 0
  /-- Opened without a key (R53). -/
  keyless : Bool := false
  /-- Bound source address and port (R50). -/
  src : Src := default
  /-- The session's identifier. -/
  sid : Nat := 0
  /-- The next request number expected, e (R43). -/
  expect : Nat := 1
  /-- Requests held until every earlier number has arrived (R43). -/
  held : List Held := []
  /-- Requests taken in number order that wait for their service (R42, R44). -/
  ready : List Held := []
  /-- Items of the first of them that have been taken into service (R42). -/
  next : Nat := 0
  /-- The session closes when its requests in service have been replied to (R53). -/
  closing : Bool := false
  /-- Requests served and not yet replied to, oldest first (R44). -/
  inflight : List Request := []
  /-- The stored replies to the last 8 requests (R43). -/
  stored : List (Nat × Bytes) := []
  /-- The number of the last WAGGLE sent (R56). -/
  delivered : Nat := 0
  /-- The highest delivery number acknowledged, a (R56). -/
  acked : Nat := 0
  /-- Events selected and not yet sent, by queue serial, in publish order (R56). -/
  unsent : List Nat := []
  /-- Waggles sent and not acknowledged: delivery number and event serial (R56). -/
  outstanding : List (Nat × Nat) := []
deriving DecidableEq, Repr, Inhabited

/-- A session slot (02 R49). -/
inductive Slot where
  /-- Free. -/
  | free
  /-- A challenge is pending: level, the OPEN's source, SessionId, challenge bytes. -/
  | challenge (level : Nat) (src : Src) (sid : Nat) (bytes : Bytes)
  /-- An open session. -/
  | opened (s : Session)
deriving DecidableEq, Repr, Inhabited

/-- An event held in the hive event queue (02 R58, Table 2-8), with the slots that still have to acknowledge it. -/
structure QEvent where
  /-- Serial number of the entry in the queue. -/
  serial : Nat
  /-- Source face. -/
  unit : Nat
  /-- FaceSequence. -/
  fseq : Nat
  /-- EventCode. -/
  code : Nat
  /-- Start of the beat of publication, ns. -/
  time : Nat
  /-- Beat number, low 32 bits. -/
  beat : Nat
  /-- Data. -/
  data : Bytes
  /-- Slots that select it and have not acknowledged it. -/
  holders : List Nat
deriving DecidableEq, Repr, Inhabited

/-- The events lost of a face whose GAP waits (02 R59): first lost number and count. -/
structure Lost where
  /-- First lost FaceSequence. -/
  first : Nat := 0
  /-- Events lost since the last GAP. -/
  count : Nat := 0
deriving DecidableEq, Repr, Inhabited

/-- An event that a unit publishes at the next commit of its serving cell (01 R15). -/
structure PendingEvent where
  unit : Nat
  code : Nat
  data : Bytes
deriving DecidableEq, Repr, Inhabited

/-! ### Journal (16) -/

/-- A journal record (16 Tables 16-2 and 16-3). -/
structure JRecord where
  seq : Nat := 0
  epoch : Nat := 0
  /-- ERASE rather than CHANGE. -/
  erase : Bool := false
  /-- END of a transaction. -/
  fin : Bool := true
  space : Nat := 0
  job : Nat := 0
  path : List Nat := []
  elem : Nat := 0
  obj : Nat := 0
  offset : Nat := 0
  last : Bool := false
  data : Bytes := []
  /-- Its Check holds. -/
  checkOk : Bool := true
deriving DecidableEq, Repr, Inhabited

/-- What a transaction does when its END record has committed (16 R356). -/
inductive TxnAct where
  /-- A J write takes effect; the kernel whose output port has written it, if one has (10 R246). -/
  | write (obj : Nat) (w : Write) (port : Option Nat)
  /-- A STAGE item is added to a job. -/
  | stage (job : Nat) (path : List Nat) (unit obj : Nat) (w : Write)
  /-- A job is emptied. -/
  | discard (job : Nat) (origin : Option Origin)
  /-- A level's key is installed or replaced. -/
  | key (level : Nat) (k : Bytes) (origin : Option Origin)
  /-- A unit is RETIRED after its last recovery. -/
  | retire (unit : Nat)
  /-- A unit is released. -/
  | release (unit : Nat) (origin : Option Origin)
  /-- The safety erasure of R317. -/
  | safetyErase (origin : Option Origin)
  /-- The image of a live replacement is journaled (R292). -/
  | kernelImage (k : Nat)
  /-- A command that has acted is answered (R356). -/
  | reply (origin : Option Origin)
  /-- A record of which nothing waits (recoveries, operating time, commit acceptance and outcome, plan signature, veil state). -/
  | none
deriving DecidableEq, Repr, Inhabited

/-- A journal transaction waiting to be written or in flight (16 R355). -/
structure Txn where
  records : List JRecord
  act : TxnAct
deriving DecidableEq, Repr, Inhabited

/-- An anchor (16 Table 16-5). -/
structure Anchor where
  generation : Nat := 0
  epoch : Nat := 0
  firstSeq : Nat := 0
  live : Nat := 0
  bootSlot : Nat := 0
  trialSlot : Nat := 0xFF
deriving DecidableEq, Repr, Inhabited

/-- The NVA die (16 R353, Table 16-1): what outlives every reset. -/
structure Nva where
  /-- Anchor copy 0, if valid. -/
  anchor0 : Option Anchor := some {}
  /-- Anchor copy 1, if valid. -/
  anchor1 : Option Anchor := some {}
  /-- Records of journal region 0. -/
  region0 : List JRecord := []
  /-- Records of journal region 1. -/
  region1 : List JRecord := []
  /-- Retirement list copy 0: generation and units, if valid (R360). -/
  retired0 : Option (Nat × List Nat) := some (0, [])
  /-- Retirement list copy 1. -/
  retired1 : Option (Nat × List Nat) := some (0, [])
  /-- Firmware slot A, by 4 KiB element. -/
  firmA : NMap Bytes := []
  /-- Firmware slot B, by 4 KiB element. -/
  firmB : NMap Bytes := []
  /-- The comb plan last journaled, if any (R33). -/
  plan : Option CombPlan := none
deriving DecidableEq, Repr, Inhabited

/-- The keeper's journal state (16). -/
structure JournalS where
  /-- Transactions accepted and not yet committed, oldest first. -/
  queue : List Txn := []
  /-- Sequence of the last record. -/
  seq : Nat := 0
  /-- Rendering runs (R361). -/
  rendering : Bool := false
  /-- RETIREMENTS_LOST blocks plans (R358). -/
  retirementsLost : Bool := false
  /-- A FirmwareApply waits for the outcome of its signature check (R368). -/
  verifying : Bool := false
  /-- A firmware slot is on trial since this keeper boot (R368). -/
  trial : Option Nat := none
deriving DecidableEq, Repr, Inhabited

/-! ### Time (03) -/

/-- The time counter, its servo and the beat generator (03 R76 to R81). -/
structure TimeS where
  /-- Network time in units of 2^-32 ns (R76). -/
  counter : Nat := 0
  /-- Powered time in quanta, never stepped: the basis of operating time and of intervals not tied to network time. -/
  uptime : Nat := 0
  /-- Frequency adjustment A of R76, units of 2^-32 ns per clock. -/
  adjust : Int := 0
  /-- Adjustment F in ppb (R77). -/
  freq : Rat := 0
  /-- Servo integrator (R77). -/
  integ : Rat := 0
  /-- The last 16 values of F (R79). -/
  freqHistory : List Rat := []
  /-- Consecutive updates with |θ| below LockThreshold (Table 3-2). -/
  lockRun : Nat := 0
  /-- Consecutive updates with |θ| above 4 LockThreshold (Table 3-2). -/
  unlockRun : Nat := 0
  /-- OFFSET_LARGE has been published for the present excursion (R77). -/
  largeReported : Bool := false
  /-- Best master selected by the BMCA (R73). -/
  master : Option Announce := none
  /-- Powered time of the last Announce of the selected master, in quanta (R73, Table 3-2). -/
  announceAt : Nat := 0
  /-- A two-step Sync that waits for its Follow_Up (R73). -/
  syncWait : Option PtpMsg := none
  /-- Link delay of ports A and B, 2^-16 ns (R74). -/
  linkDelay : List Int := [0, 0]
  /-- Time of day has been set in PPS mode (R79). -/
  todSet : Bool := false
  /-- Next sequence numbers of the messages that the device sends of itself: Sync, Announce, peer-delay and delay requests (R73). -/
  syncSeq : Nat := 0
  announceSeq : Nat := 0
  delaySeq : Nat := 0
deriving DecidableEq, Repr, Inhabited

/-- A received part of process data (02 R63). -/
structure PdPart where
  /-- Precedence of its source: 0 the owner session, 1 to 8 the peers (R65). -/
  source : Nat
  index : Nat
  count : Nat
  offset : Nat
  data : Bytes
deriving DecidableEq, Repr, Inhabited

/-- A process-map entry (02 R61). -/
structure MapEntry where
  unit : Nat
  obj : Nat
  elem : Nat
  type : Nat
  offset : Nat
deriving DecidableEq, Repr, Inhabited

/-- The beat generator and the forager (03 R80 to R85, 02 R61 to R65). -/
structure BeatS where
  /-- A beat has started since the reset. -/
  running : Bool := false
  /-- BeatNumber. -/
  n : Nat := 0
  /-- Start of the beat in progress, quanta. -/
  start : Nat := 0
  /-- Start of the beat in progress in the present network time: a time step moves it, so that the beat runs to its deadline (R78). -/
  base : Nat := 0
  /-- Length and commit margin of the beat in progress, quanta, as they stood at its start. -/
  period : Nat := 0
  margin : Nat := 0
  /-- A time step makes the generator restart (R78). -/
  restart : Bool := false
  /-- One more than the last beat whose samples the recorders have taken (11 R261); 0 before the first. -/
  captured : Nat := 0
  /-- Shadow bank: parts kept for the apply beat of the cycle in pdCycle (R63). -/
  pdParts : List PdPart := []
  /-- Cycle of the shadow bank. -/
  pdCycle : Nat := 0
  /-- The transmit image as it stood at the last beat deadline, and at the one before (03 R85). -/
  txImage : Bytes := []
  txBefore : Bytes := []
  /-- The same two in the layout of the maps that wait for their cycle (R62). -/
  txNext : Bytes × Bytes := ([], [])
  /-- One more than the beat at whose deadline txImage was formed; 0 before the first. -/
  kept : Nat := 0
  /-- Receive map in force. -/
  rxMap : List MapEntry := []
  /-- Transmit map in force. -/
  txMap : List MapEntry := []
  /-- Mapped values applied at the start of the beat in progress: dictionary key and value; they hold over its intake (R64, 05 R131). -/
  applied : List (Nat × Val) := []
  /-- Maps that govern the datagrams of every cycle after this one: cycle, receive map, transmit map (R62). -/
  mapNext : Option (Nat × List MapEntry × List MapEntry) := none
deriving DecidableEq, Repr, Inhabited

/-! ### Trajectories, followers, latch and compare (04, 05, 06) -/

/-- A segment (04 Table 4-2, 05 Table 5-4). F32 and F64 fields are raw bits. -/
structure Segment where
  kind : Nat := 0
  flags : Nat := 0
  tag : Nat := 0
  duration : Nat := 0
  value : Int := 0
  /-- c1 to c5 of kinds 1 and 2; v_max, a_max, d_max, j_max of kind 3; a_max, j_max of kind 4. -/
  params : List Nat := []
  table : Nat := 0
  camFlags : Nat := 0
  cycles : Nat := 0
  span : Nat := 0
  scale : Nat := 0
  startPhase : Int := 0
  origin : Int := 0
deriving DecidableEq, Repr, Inhabited

/-- A cam run (05 R135). -/
structure CamRun where
  table : Nat := 0
  span : Nat := 1
  scale : Nat := 0
  /-- Engagement phase p_0. -/
  p0 : Int := 0
  /-- Unwrapped phase P. -/
  phase : Int := 0
  /-- Slave start u_0. -/
  u0 : Int := 0
deriving DecidableEq, Repr, Inhabited

/-- The running segment (04 R97 to R102): the segment, its start, and k. -/
structure SegRun where
  seg : Segment := {}
  p0 : Int := 0
  v0 : Nat := 0
  a0 : Nat := 0
  k : Nat := 0
  cam : Option CamRun := none
  /-- The planned phases of kinds 3 and 4: axis beats and jerk (04 R99, R100). -/
  plan : List (Nat × Rat) := []
deriving DecidableEq, Repr, Inhabited

/-- A stop profile in progress (04 R105). -/
structure StopRun where
  p0 : Int := 0
  v0 : Nat := 0
  a0 : Nat := 0
  k : Nat := 0
  /-- The axis becomes READY at zero velocity. -/
  toReady : Bool := false
  /-- The planned phases: axis beats and jerk. -/
  plan : List (Nat × Rat) := []
deriving DecidableEq, Repr, Inhabited

/-- Trajectory stage of an axis face (04). -/
structure AxisTraj where
  /-- Unwrapped set-point before phase trim: the gear or cam base, POS64 units. -/
  base : Int := 0
  /-- Velocity and acceleration of the stage, before the trim's share (F32 bits). -/
  vel : Nat := 0
  acc : Nat := 0
  /-- What the face had published before the beat of its PublishedBeat: position, velocity, acceleration, beat. -/
  prevPub : Int × Nat × Nat × Nat := (0, 0, 0, 0)
  /-- The face was ACTIVE when it published last, and when it published before that. -/
  pubActive : Bool := false
  prevActive : Bool := false
  /-- Waiting segments, oldest first. -/
  queue : List Segment := []
  /-- Running segment. -/
  run : Option SegRun := none
  /-- Stop profile in progress. -/
  stop : Option StopRun := none
  /-- The queue has held a segment since the last START (R108). -/
  held : Bool := false
  /-- QUEUE_DRY with data 0 has been published since the queue last held a segment. -/
  dry : Bool := true
  /-- The software limit at which the set-point stands: false low, true high (R104). -/
  limit : Option Bool := none
  /-- UnitCommand STOP acts in the next axis beat (R105). -/
  stopAsked : Bool := false
  /-- QueueCommand ABORT acts in the next axis beat (R105). -/
  abortAsked : Bool := false
  /-- One more than the last beat that has been counted in StaleBeatCount; 0 before the first. -/
  staleBeat : Nat := 0
deriving DecidableEq, Repr, Inhabited

/-- The value an image holds (05 R140). -/
structure ImageValue where
  q : Int := 0
  v : Nat := 0
  a : Nat := 0
  beat : Nat := 0
deriving DecidableEq, Repr, Inhabited

/-- Follow state of an axis face (05). -/
structure AxisFollow where
  /-- The follower is engaged with its master (R126, R143). -/
  engaged : Bool := false
  /-- Master value of the previous axis beat. -/
  qPrev : Option Int := none
  /-- Cam run in mode 2. -/
  cam : Option CamRun := none
  /-- Applied phase offset. -/
  applied : Int := 0
  /-- The offset has moved since it last reached its target (R130). -/
  trimMoved : Bool := false
  /-- The master was ACTIVE in the previous beat, and when it published the value followed then (R126). -/
  masterActive : Bool := false
  seenActive : Bool := false
  /-- What entering position mode has moved the set-point of a cluster member by, against the face's (07 R185). -/
  shift : Int := 0
  /-- Settings used in the previous axis beat: FollowMode, N, D, MasterAxis, MasterSource, CamTable, span, scale, origin (R129, R137). -/
  settings : List Int := []
  /-- The follower has left its master until the next START (Table 5-6). -/
  released : Bool := false
  /-- CONFIG_INVALID for CamTable has been published for the present run (R134). -/
  camReported : Bool := false
  /-- The value an image holds. -/
  image : Option ImageValue := none
  /-- A remote value has arrived and is not yet evaluated (R140). -/
  arrived : Bool := false
  /-- MASTER_LOST published and not yet restored. -/
  lost : Bool := false
  /-- Master position of the previous beat and of the one before, for position triggers (04 R114): fresh values only. -/
  history : List Int := []
deriving DecidableEq, Repr, Inhabited

/-- A latch entry (06 Table 6-2). -/
structure LatchEntry where
  stamp : Nat
  position : Int
  turns : Int
  seq : Nat
  input : Nat
  falling : Bool
  flags : Nat
  /-- Part of the intake of the beat in progress. -/
  intake : Bool := false
deriving DecidableEq, Repr, Inhabited

/-- A sample of an axis for latch and compare (06 R147, R156): beat instant in quanta, unwrapped position, valid. -/
structure AxisSample where
  time : Nat
  pos : Int
  beat : Nat
  /-- The measured position was valid (09 R214). -/
  ok : Bool := true
deriving DecidableEq, Repr, Inhabited

/-- A stamped edge waiting for its later sample (06 R146, R148). -/
structure LatchEdge where
  stamp : Nat
  input : Nat
  falling : Bool
deriving DecidableEq, Repr, Inhabited

/-- Latch state of an axis (06 R146 to R151). -/
structure AxisLatch where
  fifo : List LatchEntry := []
  /-- Edges accepted for the axis whose entries are not formed yet, in stamp order. -/
  edges : List LatchEdge := []
  /-- Samples of the set-point, newest first (source 0). -/
  setSamples : List AxisSample := []
  /-- Samples of the measured position, newest first (source 1). -/
  measSamples : List AxisSample := []
  /-- First LatchSequence lost and the number lost, not yet reported (R151). -/
  lost : Lost := {}
deriving DecidableEq, Repr, Inhabited

/-- A compare target (06 Table 6-3). -/
structure Target where
  pos : Int
  tag : Nat
  pin : Nat
  action : Nat
  report : Bool
  width : Nat
deriving DecidableEq, Repr, Inhabited

/-- A target that has been found crossed: its edge instant in quanta (06 R156). -/
structure Firing where
  target : Target
  time : Nat
  late : Bool
deriving DecidableEq, Repr, Inhabited

/-- An acknowledgement of a firing (06 R158). -/
structure FireAck where
  tag : Nat
  time : Nat
  late : Bool
  report : Bool
  intake : Bool := false
deriving DecidableEq, Repr, Inhabited

/-- Compare state of an axis (06 R153 to R160). -/
structure AxisCompare where
  /-- Queued targets in travel order. -/
  queue : List Target := []
  /-- Published at the commit of a beat and not yet inserted: target and beat (R154, R155). -/
  published : List (Target × Nat) := []
  /-- Crossed, edge still to come, in firing order. -/
  firing : List Firing := []
  /-- Acknowledgements. -/
  acks : List FireAck := []
deriving DecidableEq, Repr, Inhabited

/-- Control engine of a local axis (07). All values are binary32 bits. -/
structure AxisEngine where
  iV : Nat := 0
  iT : Nat := 0
  h : Nat := 0
  tauLast : Nat := 0
  /-- Last trim output. -/
  trimLast : Nat := 0
  /-- z1, z2 of Biquad1, Biquad2 and the notch. -/
  z : List Nat := [0, 0, 0, 0, 0, 0]
  /-- Current integrators of the last beat commit. -/
  iD : Nat := 0
  iQ : Nat := 0
  /-- Current integrators of the tick in progress. -/
  wD : Nat := 0
  wQ : Nat := 0
  /-- Duties of the tick in progress, not yet committed. -/
  duties : List Nat := []
  /-- The last requests (R174), newest first: the start of the tick whose duty each gives (quanta), and v_d, v_q, v_dc and the output angle. -/
  request : List (Nat × List Nat) := []
  /-- The requests as of the last committed beat. -/
  requestC : List (Nat × List Nat) := []
  /-- Current references of the beat in progress (R172). -/
  idRef : Nat := 0
  iqRef : Nat := 0
  /-- One more than the beat whose first tick has been committed, 0 before the first, and the references that all its ticks use (R165). -/
  refs : Nat × Nat × Nat := (0, 0, 0)
  /-- Unstable coefficients reported of Biquad1, Biquad2 and the notch, each with its bank; empty where they are stable (R168). -/
  bad : List (List Nat) := [[], [], []]
  /-- The remaining engine state of the full checkpoint (12 Table 12-3): last trim output and requests. -/
  full : Nat × List (Nat × List Nat) := (0, [])
  /-- Mode and trim enable of the last committed beat (R183). -/
  mode : Nat := 0
  trimOn : Bool := false
  /-- Bank requested for the next beat start (R177). -/
  bankRequest : Option Nat := none
  /-- TorqueOffsetClear acts in the next beat (R186). -/
  clearAsked : Bool := false
  /-- Consecutive committed beats above FollowingErrorLimit (12 R278). -/
  errorRun : Nat := 0
  /-- Sleeve clamps seen in the beat: SaturationFlags bits 3 and 4. -/
  clamps : Nat := 0
  /-- The current integrators are to be preset from the measured currents (12 R286). -/
  preset : Bool := false
deriving DecidableEq, Repr, Inhabited

/-- An axis (units 0x0200 to 0x039F) or a cluster face. -/
structure AxisS where
  traj : AxisTraj := {}
  follow : AxisFollow := {}
  latch : AxisLatch := {}
  compare : AxisCompare := {}
  engine : AxisEngine := {}
deriving DecidableEq, Repr, Inhabited

/-- What a UnitCommand that has acted on an axis at a beat start has changed, so that it can be taken back (01 R18, 04 R103). -/
structure UndoS where
  /-- The state it left the axis in. -/
  left : Nat
  /-- Dictionary entries of the axis and of its sleeve that it has changed: key, value before, value after. -/
  dict : List (Nat × Val × Val)
  /-- The axis before and after. -/
  before : AxisS
  after : AxisS
  /-- Events that it has handed to the commit. -/
  said : List PendingEvent
deriving DecidableEq, Repr, Inhabited

/-- A dictionary write that waits in the queue of its unit (01 OP1). -/
structure QWrite where
  /-- Object number. -/
  obj : Nat
  /-- The write. -/
  w : Write
  /-- Part of the intake of the beat in progress (01 R14 step 5). -/
  intake : Bool := false
  /-- Status of a UnitCommand that has acted at the beat start and is answered at the commit that retires it (01 R30). -/
  done : Option Nat := none
  /-- How a UnitCommand that has acted on an axis is taken back where the cell does not commit. -/
  undo : Option UndoS := none
  /-- A J write whose record has committed: only its effect is still to come (02 R44). -/
  recorded : Bool := false
  /-- The kernel whose output port has written it (10 R246). -/
  port : Option Nat := none
deriving DecidableEq, Repr, Inhabited

/-- Cluster coordinator state of a face (01 R24, 07 R180). -/
structure ClusterS where
  /-- The split of the last beat, for local members: object key and value. -/
  split : List (Nat × Val) := []
  /-- The last valid schedule gains (six, binary32 bits). -/
  gains : List Nat := []
  /-- The schedule gains that the members use in the present beat. -/
  inForce : List Nat := []
  /-- The schedule gains of the full checkpoint (12 Table 12-3). -/
  fullGains : List Nat := []
  /-- What the members' commits of the beat before give the face by the rules of R26: face object key and value. -/
  heard : NMap Val := []
  /-- The members' fault flags that the face shows: sticky and active (R26). -/
  flags : Nat × Nat := (0, 0)
  /-- What each remote member has sent of itself, by member index and object key, one network cycle old (01 R24, 05 R142). -/
  remote : NMap (NMap Val) := []
  /-- The split for each remote member, by member index and object key, which the forager sends with the next network cycle. -/
  remoteOut : NMap (NMap Val) := []
  /-- The coordinator was late in the last beat (R25). -/
  late : Bool := false
  /-- CONFIG_INVALID has been published for the present invalid schedule. -/
  scheduleBad : Bool := false
deriving DecidableEq, Repr, Inhabited

/-- A job entry (04 R109): path, owning unit, object and element key, value, journaled parts. -/
structure JobEntry where
  path : List Nat
  unit : Nat
  key : Nat
  value : Val
deriving DecidableEq, Repr, Inhabited

/-- A pending commit (04 R112). -/
structure Commit where
  job : Nat
  /-- 0 time, 1 master position. -/
  trigger : Nat
  dir : Nat
  master : Nat
  timeT : Nat
  posP : Int
  /-- n_T of R113. -/
  beat : Nat
  /-- Guard interval G in quanta. -/
  guard : Nat
  /-- Loading is complete (ARMED). -/
  armed : Bool := false
deriving DecidableEq, Repr, Inhabited

/-- A latch input (06 R145): the accepted level and an edge that the filter has not decided. -/
structure LatchIn where
  level : Bool := false
  /-- Stamp of an undecided edge to the other level, in quanta. -/
  cand : Option Nat := none
deriving DecidableEq, Repr, Inhabited

/-- A timing output (06 R152, R157). -/
structure PinS where
  level : Bool := false
  /-- Instant of the last edge placed, quanta. -/
  lastEdge : Option Nat := none
  /-- Ends of running pulses, quanta, in order. -/
  pulseEnds : List Nat := []
  /-- Edges placed in the beat in progress. -/
  edges : Nat := 0
  /-- Edges scheduled by the pulse divider: instant and level. -/
  scheduled : List (Nat × Bool) := []
deriving DecidableEq, Repr, Inhabited

/-! ### Sleeves (08, 09) -/

/-- One gate of a phase (08 R201, R202). -/
structure GateS where
  /-- Gate-on intervals, newest first. -/
  on : List (Nat × Nat) := []
  /-- Turn-on of the reference of the last pulse decided. -/
  ron : Option Nat := none
  /-- That pulse passes: its gate turns off with its reference. -/
  pass : Bool := false
  /-- The gate turns off with the first interval of its reference that starts here or later. -/
  from' : Nat := 0
  /-- The gate stays on through a dropped pulse of its complement: its next pulse continues it. -/
  through : Bool := false
  /-- The pulse has been counted as lengthened. -/
  counted : Bool := false
deriving DecidableEq, Repr, Inhabited

/-- One phase of a sleeve: the high-side reference intervals, newest first, and the two gates (08 R194, R201). -/
structure PhaseS where
  highs : List (Nat × Nat) := []
  hi : GateS := {}
  lo : GateS := {}
deriving DecidableEq, Repr, Inhabited

/-- PWM half of a sleeve (08). Instants in quanta, duties as binary32 bits. -/
structure SleevePwm where
  /-- Duties committed and not yet used, oldest first: start of their tick, and U, V, W (R195). -/
  held : List (Nat × List Nat) := []
  /-- Duties in use. -/
  duty : List Nat := []
  /-- Instant of the last update. -/
  lastUpdate : Option Nat := none
  /-- Valley of the carrier period in progress. -/
  valley : Nat := 0
  phases : List PhaseS := [{}, {}, {}]
  /-- Phase currents at the last update (R203). -/
  currents : List Nat := [0, 0, 0]
  /-- Consecutive carrier periods without a committed duty (01 R19). -/
  stale : Nat := 0
  /-- Freewheeling after stale duties. -/
  freewheel : Bool := false
  /-- A committed duty has been loaded since the sleeve entered ACTIVE (R191). -/
  loaded : Bool := false
  /-- A trip clear has been accepted and waits for the valley (R209). -/
  clearing : Bool := false
  /-- By pad, the start of the last carrier period in which it mismatched (R210). -/
  mismatch : List (Option Nat) := [none, none, none, none, none, none]
  /-- Start of the tick whose committed duty is in use (R204). -/
  dutyTick : Nat := 0
  /-- Record of the last complete update interval (R204): the tick whose duty it applied, requested and applied duties of U, V and W. -/
  record : Nat × List Nat := (0, [])
  /-- The tick of the record last returned to the cell, which #0430 and #0431 show. -/
  returned : Nat := 0
  /-- By output, the delay line that places its edges (R197). -/
  lines : List Bool := [false, false, false, false, false, false]
  /-- Of a bank's first sleeve: the bank is calibrated again and returns to 62.5 ps at a valley (R197). -/
  calDue : Bool := false
deriving DecidableEq, Repr, Inhabited

/-- A serial frame accepted by a decoder: position in POS64 units, instant in quanta. -/
structure FrameS where
  pos : Int
  time : Nat
deriving DecidableEq, Repr, Inhabited

/-- Feedback half of a sleeve (09). -/
structure SleeveFb where
  /-- Accepted levels of A, B, Z, C. -/
  a : Bool := false
  b : Bool := false
  z : Bool := false
  c : Bool := false
  /-- A Hall state has been seen. -/
  hallSeen : Bool := false
  /-- Illegal transitions since the count last wrapped (R216). -/
  illegal : Nat := 0
  /-- Count edges in the speed window, newest first: stamp (quanta) and direction (R228). -/
  edges : List (Nat × Int) := []
  /-- Instant of the sample of the tick in progress, quanta, and its feedback position (R214, 07 R171). -/
  tickTime : Nat := 0
  tickPos : Int := 0
  /-- The last beat sample: beat, instant and feedback position (07 R166). -/
  beatSample : Option (Nat × Nat × Int) := none
  /-- SpeedMethod before the last beat sample (R229). -/
  methodWas : Nat := 1
  /-- Count edges seen since ACQUIRING, at most 2 counted. -/
  edgesSeen : Nat := 0
  /-- Feedback positions of the last beat samples, newest first (R227). -/
  positions : List Int := []
  /-- Accepted serial frames, newest first. -/
  frames : List FrameS := []
  /-- Turn field or single-turn field of the last accepted frame. -/
  lastField : Option Int := none
  /-- Sample counter of the last accepted FSP reply. -/
  lastCounter : Option Nat := none
  /-- Start instant of the transaction in progress, quanta. -/
  started : Option Nat := none
  /-- A register transaction waits or runs: command, address, data, origin (R223). -/
  register : Option (Nat × Nat × Nat × Option Origin) := none
  /-- The register transaction is on the line. -/
  registerRuns : Bool := false
  /-- WARNING and BATTERY bits last seen. -/
  warn : Nat := 0
  /-- Feedback LOST is due at the next sample (R225). -/
  lostDue : Bool := false
  /-- Whole-count position of the previous sample, for the divider (R234). -/
  divPrev : Option Int := none
  /-- Edges carried over, signed (R235). -/
  divCarry : Int := 0
  /-- The divider has been enabled, or N or D changed, since the last sample: its remainder is cleared there (R234). -/
  divClear : Bool := false
  /-- The divider before its last sample: previous position, carry, remainder, and the edges that the sample dropped. -/
  divWas : Option Int × Int × Int × Nat := (none, 0, 0, 0)
  /-- v_f and v_p of the last beat (F32 bits). -/
  vFreq : Nat := 0
  vPer : Nat := 0
  /-- Position of the frame that v_f was last formed from. -/
  vFrame : Option Nat := none
  /-- Tick of the beat in progress. -/
  tick : Nat := 0
  /-- Register of the sleeve's check-value unit (10 R253, R255). -/
  crc : Nat := 0
deriving DecidableEq, Repr, Inhabited

/-- A sleeve (unit 0x0101 to 0x0120). -/
structure SleeveS where
  pwm : SleevePwm := {}
  fb : SleeveFb := {}
deriving DecidableEq, Repr, Inhabited

/-! ### Cells, kernels, rehousing (01, 10, 12) -/

/-- The work given to a cell: role, clock, units, user kernel (01, 12 R286). -/
structure RoleS where
  role : Role := .none
  clock : Nat := 0
  units : List Nat := []
  kernel : Option Nat := none
deriving DecidableEq, Repr, Inhabited

/-- A cell and its commit gate (01 R11, R15 to R20; 12 R284). -/
structure CellS where
  /-- The work it serves. -/
  work : RoleS := {}
  /-- Built-in self-test runs. -/
  selfTest : Bool := false
  /-- The nurse has shut the gate at this instant, in quanta (12 R285). -/
  shut : Option Nat := none
  /-- The role that the running plan gives the cell and that its self-test has still to admit (R33, R408). -/
  planned : RoleS := {}
  /-- Tick commits accepted in the beat in progress. -/
  ticks : Nat := 0
  /-- The beat commit of the beat in progress has been accepted. -/
  committed : Bool := false
  /-- A deadline of the beat in progress was missed. -/
  late : Bool := false
  /-- The beat deadline of the beat in progress has been dealt with for the cell. -/
  closed : Bool := false
  /-- Beat of the last accepted beat commit: the hot checkpoint's beat. -/
  hotBeat : Nat := 0
  /-- Beat of the full checkpoint. -/
  fullBeat : Nat := 0
  /-- A full checkpoint is due at the next commit. -/
  fullDue : Bool := false
  /-- REHOUSED is published at the next beat commit: failed cell, first stale beat. -/
  rehoused : Option (Nat × Nat) := none
  /-- KERNEL_REPLACED is published at the next beat commit. -/
  replaced : Option Nat := none
deriving DecidableEq, Repr, Inhabited

/-- Check-value unit of a cell as a kernel sees it (10 R253, R254). -/
structure CrcUnit where
  poly : W32 := 0
  cfg : W32 := 0
  init : W32 := 0
  value : W32 := 0
  /-- Cycle count at which the unit is free. -/
  busyUntil : Nat := 0
deriving DecidableEq, Repr, Inhabited

/-- A kernel run in the beat in progress (10 R237, R240, R243). -/
structure KRun where
  s : Vector W32 32 := Vector.replicate 32 0
  v : Vector (Vector W32 4) 8 := Vector.replicate 8 (Vector.replicate 4 0)
  acc : Vector (Vector W32 4) 4 := Vector.replicate 4 (Vector.replicate 4 0)
  p : Vector W32 8 := Vector.replicate 8 0
  b : Vector W32 8 := Vector.replicate 8 0
  l : Vector W32 8 := Vector.replicate 8 0
  /-- Instruction index. -/
  pc : Nat := 0
  /-- Cycles used of the budget. -/
  used : Nat := 0
  /-- Words written in the output ports, output values, state area, scratch and OUT_VALID, by word address; words not written
  read as they stood at the beat start. -/
  mem : NMap W32 := []
  /-- Input ports as latched at the beat start (R245). -/
  inputs : List W32 := []
  /-- IN_STALE. -/
  inStale : W32 := 0
  /-- Parameter words as latched at the beat start (R247). -/
  params : List W32 := []
  /-- KFLAGS. -/
  flags : W32 := 0
  /-- Beat number and start time (ns) of the run. -/
  beat : Nat := 0
  time : Nat := 0
  /-- Serial of the run, for undefined scratch words. -/
  serial : Nat := 0
  crc : CrcUnit := {}
  /-- end has been executed, or the kernel has been stopped for the beat. -/
  done : Bool := false
deriving DecidableEq, Repr, Inhabited

/-- A port entry of a kernel image (10 Table 10-4). -/
structure PortS where
  unit : Nat
  obj : Nat
  elem : Nat
  type : Nat
deriving DecidableEq, Repr, Inhabited

/-- An object a kernel places in the dictionary (10 R247). -/
structure KObject where
  obj : Nat
  type : Nat
  rw : Bool
  level : Nat
  journaled : Bool
  init : Nat
deriving DecidableEq, Repr, Inhabited

/-- A parsed kernel image (10 Table 10-4). -/
structure KImage where
  budget : Nat := 0
  stateBytes : Nat := 0
  hotWords : Nat := 0
  keepState : Bool := false
  ins : List PortS := []
  outs : List PortS := []
  objs : List KObject := []
  code : List W32 := []
  state : List W32 := []
  /-- CRC-32C of the whole image. -/
  signature : Nat := 0
deriving DecidableEq, Repr, Inhabited

/-- Why a cell is readied (12 R286, R290, R292; 01 R408; 17 R384). -/
inductive RehouseKind where
  | fault | replacement | drain | reassign | grant
deriving DecidableEq, Repr, Inhabited

/-- A move of a role to another cell. -/
structure Rehouse where
  kind : RehouseKind := .fault
  failed : Nat := 0
  /-- The reserve cell chosen; none while it waits. -/
  target : Option Nat := none
  work : RoleS := {}
  /-- Readying is complete; the weave switches at the next beat start. -/
  readied : Bool := false
  /-- First stale beat f. -/
  stale : Nat := 0
  /-- NO_CELL has been taken (R290). -/
  noCell : Bool := false
  /-- First beat at which the switch may happen. -/
  notBefore : Nat := 0
  /-- The image's journal record has committed (R292). -/
  journaled : Bool := true
  /-- The kernel that a live replacement brings (R292). -/
  replaces : Option Nat := none
  /-- The new image of a live replacement and whether the state area is kept (10 R252). -/
  image : Option (KImage × Bool) := none
deriving DecidableEq, Repr, Inhabited

/-- A user kernel in force (10 R248, R252). -/
structure KernelS where
  image : KImage := {}
  home : Nat := 0
  /-- Committed state area, words. -/
  state : List W32 := []
  /-- State area of the full checkpoint (12 R284). -/
  fullState : List W32 := []
  /-- The run of the beat in progress, if the kernel runs. -/
  run : Option KRun := none
  /-- RESUMED is due at the next run. -/
  resumed : Bool := false
  /-- KernelRestart acts at the next beat start. -/
  restart : Bool := false
  /-- Its cell was late in the last beat: its outputs are stale (01 R19; 10 R245). -/
  stale : Bool := false
  /-- The bytes of an accepted image whose record is on its way to the journal (R252). -/
  imageBytes : Bytes := []
deriving DecidableEq, Repr, Inhabited

/-! ### Recorders (11) -/

/-- Something that trigger conditions of kind 4 or 5 watch (11 R263): a retired latch entry, or a unit's entry into FAULT. -/
structure HitS where
  /-- 4 latch, 5 fault. -/
  kind : Nat
  unit : Nat
  input : Nat := 0
  /-- Latch stamp, in 0.5 ns. -/
  stamp : Nat := 0
  /-- LatchSequence or unit number. -/
  detail : Nat
deriving DecidableEq, Repr, Inhabited

/-- A row of the capture ring (11 R261): sample index, beat start, stale mask and the values as raw numbers. -/
structure RowS where
  index : Nat
  time : Nat
  stale : Nat
  vals : List Int
  /-- Latch entries and unit faults since the previous sample. -/
  hits : List HitS := []
deriving DecidableEq, Repr, Inhabited

/-- Running measurement of one channel (11 R266), binary32 bits. -/
structure MeasureS where
  channel : Nat
  ref : Int
  sum : Nat := 0
  sumC : Nat := 0
  sq : Nat := 0
  sqC : Nat := 0
  min : Nat := 0
  minAt : Nat := 0
  max : Nat := 0
  maxAt : Nat := 0
deriving DecidableEq, Repr, Inhabited

/-- An open record (11 R265). -/
structure RecordS where
  first : Nat
  firstTime : Nat
  markTime : Nat
  prevMark : Option Nat
  cond : Nat
  n : Nat := 0
  chans : List MeasureS := []
deriving DecidableEq, Repr, Inhabited

/-- Hold-off of a recorder (11 R264). -/
inductive Holdoff where
  | armed
  /-- No marks at samples whose beat starts before this instant (ns). -/
  | until (t : Nat)
  /-- Further samples with a condition met to wait for. -/
  | events (n : Nat)
deriving DecidableEq, Repr, Inhabited

/-- A stream block (11 Table 11-2): kind and body. A ROWS block keeps its rows apart. -/
structure BlockS where
  kind : Nat
  body : Bytes
  rows : Nat := 0
  /-- The run it belongs to. -/
  run : Nat := 0
deriving DecidableEq, Repr, Inhabited

/-- A recorder (unit 0x0400 to 0x040F). -/
structure RecS where
  /-- Run number (R259). -/
  run : Nat := 0
  /-- Beat of sample 0, once it has been taken. -/
  firstBeat : Option Nat := none
  /-- Next sample index. -/
  next : Nat := 0
  ring : List RowS := []
  /-- Values of the last processed sample; none before the first of a run. -/
  prev : Option (List Int) := none
  /-- Conditions rewritten since the last sample: the next sample is their first. -/
  fresh : List Nat := []
  /-- Conditions rewritten while samples of their intake beat or before were still to be processed (R262): condition, its bytes until then, and
  the start (ns) of the last beat that they hold for. -/
  was : List (Nat × Bytes × Nat) := []
  /-- A run has ended and its last samples, open record and END are still to come with the commit: the cause (R259). -/
  ending : Option Nat := none
  /-- Datagrams sent of each run whose blocks the buffer may hold. -/
  numbers : NMap Nat := []
  holdoff : Holdoff := .armed
  /-- Next j of each time condition. -/
  timeNext : NMap Nat := []
  record : Option RecordS := none
  lastMark : Option Nat := none
  /-- Latch entries and unit faults since the previous sample. -/
  hits : List HitS := []
  /-- Blocks in the stream buffer, oldest first. -/
  buffer : List BlockS := []
  /-- Losses not yet reported: first lost sample, rows, marks, measure blocks. -/
  loss : Option (Nat × Nat × Nat × Nat) := none
  /-- Datagrams sent in the network cycle in progress. -/
  sentInCycle : Nat := 0
  cycle : Nat := 0
  /-- The stream is to be flushed. -/
  flush : Bool := false
  /-- The stream session has ended: READY at the next beat start (R259). -/
  sessionGone : Bool := false
deriving DecidableEq, Repr, Inhabited

/-! ### Veil (13) -/

/-- An SS1 in progress (13 R305). -/
structure Ss1S where
  j0 : Nat
  /-- v0 of each sleeve of the group, binary32 bits. -/
  v0 : List (Nat × Nat)
  /-- Consecutive cycles at standstill. -/
  stand : Nat := 0
  fromInput : Bool := true
deriving DecidableEq, Repr, Inhabited

/-- An STO group (13 R298 to R306). -/
structure GroupS where
  /-- STO output as driven. -/
  high : Bool := false
  ss1 : Option Ss1S := none
  /-- Latched cause, if latched. -/
  latched : Option Nat := none
  /-- Cause decided in this cycle, driven at the next. -/
  decided : Option Nat := none
  /-- Release decided, driven at the next cycle. -/
  releasing : Bool := false
  /-- Cycle at which the output last changed. -/
  changed : Nat := 0
  /-- Latch clears that the veil registers at its next cycle (R304), with their origins. -/
  clears : List (Option Origin) := []
  /-- A dark test failed (R313). -/
  darkFailed : Bool := false
  /-- Axes whose safe-stop request is pending: axis and controlled. -/
  requests : List (Nat × Bool) := []
  /-- The comb is asked to stop the group at the next beat start. -/
  askStop : Bool := false
  /-- Axes are to leave ACTIVE at the next beat start (R300). -/
  askReady : Bool := false
deriving DecidableEq, Repr, Inhabited

/-- A safety input (13 R307 to R312). -/
structure SafeIn where
  a : Bool := false
  b : Bool := false
  cntA : Nat := 0
  cntB : Nat := 0
  /-- Consecutive samples of disagreement. -/
  disagree : Nat := 0
  /-- 0 none, 2 discrepancy, 3 test pulse. -/
  fault : Nat := 0
  /-- Waits for an acknowledgement. -/
  waiting : Bool := true
  /-- Cycles for which the acknowledge input has been high. -/
  ackHigh : Nat := 0
deriving DecidableEq, Repr, Inhabited

/-- The veil's own feedback of a sleeve (13 R295). -/
structure VeilFb where
  count : Int := 0
  prev : Int := 0
  /-- Good frames: position and reception instant in 25 ns periods, newest first. -/
  frames : List (Int × Nat) := []
  /-- Frame before the previous cycle start. -/
  framePrev : Option (Int × Nat) := none
  sinceGood : Nat := 0
  /-- Sample counter of the last good FSP reply. -/
  counter : Option Nat := none
  valid : Bool := false
  /-- Speed, binary32 bits. -/
  speed : Nat := 0
  /-- Consecutive cycles of cross-check difference. -/
  cross : Nat := 0
deriving DecidableEq, Repr, Inhabited

/-- The veil (13). -/
structure VeilS where
  /-- Veil cycle number j. -/
  cycle : Nat := 0
  groups : NMap GroupS := []
  inputs : NMap SafeIn := []
  fb : NMap VeilFb := []
  /-- Last accepted ENABLE or DISABLE, journaled (R297). -/
  enabled : Bool := false
  /-- Milliseconds-equivalent cycles without the alive toggle. -/
  deadLanes : Nat := 0
  /-- The veil has carried out the three steps of R296 for its FAULT. -/
  tripped : Bool := false
  /-- Enrolment pending: key, safe-and-back cycles seen, both channels now safe, origin (R317). -/
  enrol : Option (Bytes × Nat × Bool × Option Origin) := none
  /-- Sleeves under a UNIT reset or a COMB reset in progress (R299). -/
  resetSleeves : List Nat := []
  /-- Blocking asserted to these sleeves (R302). -/
  blocking : List Nat := []
  /-- Last sampled STOFB levels. -/
  stofb : Nat := 0
deriving DecidableEq, Repr, Inhabited

/-! ### Field die and CAN (14, 15) -/

/-- A switch of the field die: an output or a supply (14 R329 to R333). -/
structure SwitchS where
  /-- Driven on. -/
  on : Bool := false
  /-- A retry is pending (R330). -/
  retry : Bool := false
  /-- Limit events that follow one another. -/
  events : Nat := 0
  /-- Instant of the last retry, quanta of uptime. -/
  lastRetry : Option Nat := none
deriving DecidableEq, Repr, Inhabited

/-- An input of the field die (14 R326, R327). -/
structure FieldIn where
  level : Bool := false
  count : Nat := 0
  wire : Nat := 0
  wireOpen : Bool := false
deriving DecidableEq, Repr, Inhabited

/-- The field die and both ends of the seam (14). -/
structure FieldS where
  /-- VFIELD is present. -/
  powered : Bool := false
  inputs : NMap FieldIn := []
  outputs : NMap SwitchS := []
  supplies : NMap SwitchS := []
  /-- Frame number of the next frame. -/
  frame : Nat := 0
  /-- Outputs are in the seam-loss state (R324). -/
  seamLost : Bool := false
  /-- Levels and open-wire bits received by the comb die, shown at the next beat start. -/
  rxLevels : Nat := 0
  rxOpen : Nat := 0
  /-- Output and supply bits as received by the field die. -/
  command : Nat := 0
  supplyCmd : Nat := 0
  /-- The frame to the field die that is on its way: output bits, supply bits, and whether the unit is in FAULT. -/
  flyDown : Nat × Nat × Bool := (0, 0, false)
  /-- The frame to the comb die that is on its way: filtered levels, open wires, output levels. -/
  flyUp : Nat × Nat × Nat := (0, 0, 0)
  /-- SEAM_RESTORED is due when the unit leaves FAULT. -/
  restoreDue : Bool := false
deriving DecidableEq, Repr, Inhabited

/-- A transmit slot (15 Table 15-3). -/
structure TxSlotS where
  state : Nat := 0
  frame : CanFrame := default
  report : Bool := false
  limit : Nat := 0
  attempts : Nat := 0
  /-- Queue order. -/
  order : Nat := 0
  /-- An abort is registered for the end of the attempt (R347). -/
  abort : Bool := false
  /-- Stamp of its last start of frame, ns. -/
  sof : Nat := 0
deriving DecidableEq, Repr, Inhabited

/-- A CAN controller (units 0x0500, 0x0501). -/
structure CanS where
  slots : NMap TxSlotS := []
  /-- Received records, oldest first. -/
  fifo : List Bytes := []
  tec : Nat := 0
  rxErr : Nat := 0
  /-- 0 active, 1 passive, 2 bus-off. -/
  err : Nat := 0
  /-- Consecutive acknowledgement errors of own transmissions. -/
  ackRun : Nat := 0
  /-- Next queue order number. -/
  order : Nat := 0
  /-- The reference message waits (data) and is on the bus. -/
  refData : Option Bytes := none
  refSending : Bool := false
  refSof : Nat := 0
  /-- Its place in queue order, and whether the next message has fallen due while it is on the bus. -/
  refOrder : Nat := 0
  refNext : Bool := false
  /-- Stamp carried by the next reference message; none before one has reached DONE. -/
  refLast : Option Nat := none
  /-- RX_OVERFLOW published since the FIFO last had room. -/
  overflow : Bool := false
  /-- STOP or DISABLE waits for the frame in progress: true for DISABLE. -/
  stopping : Option Bool := none
deriving DecidableEq, Repr, Inhabited

/-! ### Reset and power (17) -/

/-- The start-up phase of the device (17 R388). -/
inductive Phase where
  /-- A FULL or DEVICE reset holds its domains. -/
  | inReset
  /-- Fuse load runs (R378). -/
  | fuseLoad
  /-- The keeper boots from ROM (R388 step 2). -/
  | keeperBoot
  /-- The journal is replayed (R388 step 3). -/
  | replay
  /-- The dictionary is ready. -/
  | running
  /-- PFAIL has been acted on (16 R365). -/
  | powerFail
deriving DecidableEq, Repr, Inhabited

/-- The fuse shadow (17 Table 17-4). -/
structure FuseS where
  pin : Reach := .full
  keeperWdg : Reach := .keeper
  fatal : Reach := .device
  veilReq : Reach := .device
  debug : Reach := .device
  thermal : Reach := .device
  swMask : Nat := 15
  jtag : Bool := false
  polarity : Nat := 0
  trimFailed : Nat := 0
  optionFailed : Nat := 0
  salt : Bytes := []
  serial : Bytes := []
deriving DecidableEq, Repr, Inhabited

/-- The reset controller and its neighbours (17). -/
structure ResetS where
  phase : Phase := .fuseLoad
  /-- Reach of the FULL or DEVICE reset in progress. -/
  reach : Reach := .full
  /-- Asserted sources. -/
  sources : List ResetSource := []
  /-- The 32 µs stretch runs (R380). -/
  stretch : Bool := false
  /-- nRST is driven low. -/
  nRstLow : Bool := true
  /-- Powered time up to which the nRST input is ignored after its release, quanta (17 R380). -/
  nRstIgnored : Nat := 0
  /-- A KEEPER reset is in progress: acyclic service is paused (R382). -/
  keeperDown : Bool := false
  /-- Requests received while service is paused (02 R51). -/
  paused : List (Dgram × OpenDraw) := []
  /-- A COMB reset is in progress (R383). -/
  combDown : Bool := false
  fuses : FuseS := {}
  /-- The limp state (R378). -/
  limp : Bool := false
  /-- FUSE_DEFAULTED, LIMP and the like are due when the dictionary is ready: code and data. -/
  due : List (Nat × Bytes) := []
  /-- Session slot that unlocked JTAG (R389). -/
  jtag : Option Nat := none
  /-- THERMAL_HIGH is armed (R390). -/
  thermalArmed : Bool := true
  /-- Jobs whose accepted commit has no outcome record at the reset, oldest first (04 R118). -/
  commitOpen : List Nat := []
  /-- Veil self-test has passed since the reset. -/
  veilTested : Bool := false
  /-- A software reset waits for its reply to leave (R376): its reach and the write's origin. -/
  swReach : Option (Reach × Option Origin) := none
  /-- Powered time at which the reset in progress last began or was widened, quanta: the AON clock cycle of R375. -/
  since : Nat := 0
  /-- Powered time at which the journal replay began, quanta. -/
  replayStart : Nat := 0
  /-- The ROM boots BootSlot at the next keeper boot: a KEEPER_WDG or FATAL reset struck a trial (16 R369). -/
  revert : Bool := false
  /-- Quadrants powered: those of the last plan applied (R372). -/
  quadrants : List Nat := []
  /-- Supplies off by PFAIL: domains switched off. -/
  domainsOff : Bool := false
  /-- Junction temperature, thousandths of a degree. -/
  junction : Int := 25000
  /-- Reset sources that a fault has raised and the reset controller has not served yet (12 R274, 13 R296). -/
  raised : List ResetSource := []
deriving DecidableEq, Repr, Inhabited

/-- Fault bookkeeping of a unit (12 R280, R281). -/
structure FaultS where
  /-- Operating times (ms) of recent recoveries, newest first. -/
  recoveries : List Nat := []
  /-- Uptime (quanta) up to which each shadow of Table 12-2 stands for this unit's detectors: list of source bits and end. -/
  shadows : List (List Nat × Nat) := []
  /-- Open shadows with no end yet: reaction's unit and source bits. -/
  openShadows : List (Nat × List Nat) := []
  /-- ReserveCount has stood at ReserveMinimum or above since RESERVE_LOW was last published (root only, R281). -/
  reserveWas : Bool := false
  /-- An axis: the quiet period has ended and the axis waits for its sleeve (R280). Another unit: it has taken NO_CELL and its quiet period has
  not ended. -/
  waiting : Bool := false
deriving DecidableEq, Repr, Inhabited

/-- The whole device. -/
structure State where
  /-- Commands waiting, first in first out. -/
  pending : List Instr := []
  /-- The dictionary: stored values that differ from their defaults, by unit, object and element (02 R66, R6). -/
  dict : NMap Val := []
  /-- What has been sent, newest first (observer's log). -/
  sent : List Sent := []
  time : TimeS := {}
  beat : BeatS := {}
  /-- Session slots 0 to 15. -/
  slots : NMap Slot := []
  /-- Instants (uptime) of AUTH_FAILED by source address, and the end of a bar (02 R54). -/
  authFails : NMap (List Nat) := []
  authBars : NMap Nat := []
  /-- Installed keys by level code (02 R52). -/
  keys : NMap Bytes := []
  /-- Address and port in force (02 R36, R37). -/
  ipv4 : Nat := 0
  lfpPort : Nat := 48410
  netMask : Nat := 0xFFFFFF00
  gateway : Nat := 0
  /-- The commissioning address is held (02 R37). -/
  linkLocal : Bool := false
  /-- Event queue, oldest first, its next serial, FaceSequence and lost counts by face (02 R55 to R59). -/
  events : List QEvent := []
  eventSerial : Nat := 0
  faceSeq : NMap Nat := []
  lost : NMap Lost := []
  /-- Events waiting for the commit of their unit's cell. -/
  outbox : List PendingEvent := []
  /-- Dictionary writes waiting for the serving cell, in arrival order (01 OP1). -/
  writes : List QWrite := []
  /-- UnitCommands waiting for the next beat start: unit, command, origin (01 R30). -/
  commands : List (Nat × Nat × Option Origin) := []
  axes : NMap AxisS := []
  clusters : NMap ClusterS := []
  /-- Jobs of the library by number (04 R109). -/
  jobs : NMap (List JobEntry) := []
  commit : Option Commit := none
  /-- Standby banks of a loaded commit (04 R111). -/
  standby : List (Nat × Val) := []
  /-- A flip whose COMMIT_DONE is not yet published: job, trigger, beat. -/
  flipped : Option (Nat × Nat × Nat) := none
  /-- Written points of each cam table, as runs first and count (05 R133). -/
  camRuns : NMap (List (Nat × Nat)) := []
  latchIns : NMap LatchIn := []
  pins : NMap PinS := []
  sleeves : NMap SleeveS := []
  cells : NMap CellS := []
  rehousings : List Rehouse := []
  kernels : NMap KernelS := []
  /-- Serial of the next kernel run. -/
  kernelSerial : Nat := 0
  /-- The comb plan in force (01 R33). -/
  plan : Option CombPlan := none
  recorders : NMap RecS := []
  veil : VeilS := {}
  field : FieldS := {}
  can : NMap CanS := []
  nva : Nva := {}
  journal : JournalS := {}
  /-- Reset controller, fuses, power. -/
  rst : ResetS := {}
  faults : NMap FaultS := []
  /-- Counter of free values read (log entry 7). -/
  freeCount : Nat := 0
deriving DecidableEq, Repr, Inhabited

/-- The device right after the FULL reset of a first power-up, at the start of step 1 of 17 R388: every object at its default, but
ResetCount 1 and LastResetCause 1 (POR), which 17 R381 gives a device whose backup domain held nothing. Log entry 1. -/
def State.reset : State := { dict := [(0x100000, .num 1), (0x100100, .num 1)] }

end Sys2Proof.Machine
end

