-- ==== Sys2Proof/Machine/Ops.lean ====
section
/-! DEFINITION. The named operations over State that every chapter uses: units, the dictionary, counters, events, replies, the journal queue. -/

namespace Sys2Proof.Machine

/-! ### Units (02 Table 2-12, 04 Table 4-1) -/

/-- The kind of a device-level unit number. -/
def kindOf (u : Nat) : Option UKind :=
  if u = 0 then some .root
  else if u ≤ 0x80 then some .cell
  else if 0x101 ≤ u ∧ u ≤ 0x120 then some .sleeve
  else if 0x200 ≤ u ∧ u ≤ 0x21F then some .localAxis
  else if 0x220 ≤ u ∧ u ≤ 0x31F then some .netAxis
  else if 0x320 ≤ u ∧ u ≤ 0x39F then some .virtAxis
  else if 0x400 ≤ u ∧ u ≤ 0x40F then some .recorder
  else if 0x500 ≤ u ∧ u ≤ 0x501 then some .can
  else if u = 0x600 then some .veil
  else if u = 0x700 then some .field
  else if 0x1000 ≤ u ∧ u ≤ 0x1FFF then some .cluster
  else none

/-- The code of #0302 UnitKind. -/
def UKind.code : UKind → Nat
  | .root => 0 | .cell => 1 | .sleeve => 2 | .localAxis => 3 | .netAxis => 4 | .virtAxis => 5
  | .recorder => 6 | .can => 7 | .veil => 8 | .field => 9 | .cluster => 10

/-- A local, network or virtual axis. -/
def isAxis (u : Nat) : Bool := decide (0x200 ≤ u ∧ u ≤ 0x39F)
/-- A local axis. -/
def isLocal (u : Nat) : Bool := decide (0x200 ≤ u ∧ u ≤ 0x21F)
/-- A cluster. -/
def isCluster (u : Nat) : Bool := decide (0x1000 ≤ u ∧ u ≤ 0x1FFF)
/-- A sleeve. -/
def isSleeve (u : Nat) : Bool := decide (0x101 ≤ u ∧ u ≤ 0x120)
/-- A cell. -/
def isCell (u : Nat) : Bool := decide (1 ≤ u ∧ u ≤ 0x80)
/-- A recorder. -/
def isRecorder (u : Nat) : Bool := decide (0x400 ≤ u ∧ u ≤ 0x40F)

/-- Unit number of the veil. -/
def veilUnit : Nat := 0x600
/-- Unit number of the field die. -/
def fieldUnit : Nat := 0x700

/-! ### The running plan -/

/-- The sleeves of the plan in force. -/
def planSleeves (s : State) : List SleevePlan := (s.plan.map CombPlan.sleeves).getD []
/-- The clusters of the plan in force. -/
def planClusters (s : State) : List ClusterPlan := (s.plan.map CombPlan.clusters).getD []
/-- The cells of the plan in force. -/
def planCells (s : State) : List CellPlan := (s.plan.map CombPlan.cells).getD []

/-- The sleeve bound to a local axis, 0 if none. -/
def sleeveOf (s : State) (axis : Nat) : Nat :=
  (((planSleeves s).find? fun p => p.axis == axis && axis != 0).map SleevePlan.sleeve).getD 0
/-- The local axis bound to a sleeve, 0 if none. -/
def axisOf (s : State) (sleeve : Nat) : Nat :=
  (((planSleeves s).find? fun p => p.sleeve == sleeve).map SleevePlan.axis).getD 0
/-- The plan's entry of a sleeve. -/
def sleevePlan (s : State) (sleeve : Nat) : Option SleevePlan := (planSleeves s).find? fun p => p.sleeve == sleeve
/-- The plan's entry of a cluster. -/
def clusterPlan (s : State) (c : Nat) : Option ClusterPlan := (planClusters s).find? fun p => p.cluster == c
/-- The cluster that a local unit belongs to directly, 0 if none (01 R21). -/
def clusterOf (s : State) (u : Nat) : Nat :=
  (((planClusters s).find? fun p => p.members.contains (.device u)).map ClusterPlan.cluster).getD 0
/-- Local members of a cluster. -/
def localMembers (c : ClusterPlan) : List Nat := c.members.filterMap fun m => match m with | .device u => some u | .remote _ => none

/-- Does a cluster of these present an axis face: is some member an axis, a remote one (05 R142) or a cluster that presents one? Log entry 44. -/
def axisFaceIn (cs : List ClusterPlan) : Nat → Nat → Bool
  | 0, _ => false
  | n + 1, c => ((cs.find? fun p => p.cluster == c).map ClusterPlan.members).getD [] |>.any fun m => match m with
      | .remote _ => true
      | .device u => isAxis u || (isCluster u && axisFaceIn cs n u)
/-- An axis, or a cluster of the running plan that presents an axis face (04 R120, 05 R122). -/
def axisFace (s : State) (u : Nat) : Bool := isAxis u || (isCluster u && axisFaceIn (planClusters s) 32 u)

/-- The cell that serves a unit, 0 if none: the weave's routes (01 R11, 12 R286). -/
def servingCell (s : State) (u : Nat) : Nat :=
  ((s.cells.find? fun e => e.2.work.units.contains u && e.2.work.role != .none).map Prod.fst).getD 0

/-! ### The dictionary (02 R66, R67) -/

/-- Dictionary key of an element: object times 256 plus element beneath a unit. -/
def keyOf (u k : Nat) : Nat := u * 2 ^ 24 + k

/-- The default of an element (00 R6). -/
def defaultAt (key : Nat) : Val :=
  match kindOf (key / 2 ^ 24) with
  | none => .num 0
  | some k => ((rowOf k (key / 256 % 2 ^ 16) (key % 256)).map ObjRow.dflt).getD (.num 0)

/-- The stored value of an element k = object * 256 + element of unit u. -/
def State.val (s : State) (u k : Nat) : Val := mapGet (defaultAt (keyOf u k)) s.dict (keyOf u k)

/-- The number in a value. -/
def valInt : Val → Int
  | .num i => i
  | .bytes _ => 0
/-- The bytes in a value. -/
def valRaw : Val → Bytes
  | .num _ => []
  | .bytes b => b

/-- A stored number. -/
def State.i (s : State) (u k : Nat) : Int := valInt (s.val u k)
/-- A stored number that is not negative. -/
def State.n (s : State) (u k : Nat) : Nat := (s.i u k).toNat
/-- A stored BOOL. -/
def State.b (s : State) (u k : Nat) : Bool := s.i u k != 0
/-- Stored bytes. -/
def State.bs (s : State) (u k : Nat) : Bytes := valRaw (s.val u k)

/-- Store a value. -/
def State.setV (s : State) (u k : Nat) (v : Val) : State :=
  { s with dict := mapPut (defaultAt (keyOf u k)) s.dict (keyOf u k) v }
/-- Store a number. -/
def State.setI (s : State) (u k : Nat) (i : Int) : State := s.setV u k (.num i)
/-- Store a natural number. -/
def State.setN (s : State) (u k : Nat) (n : Nat) : State := s.setV u k (.num n)
/-- Store a BOOL. -/
def State.setB (s : State) (u k : Nat) (b : Bool) : State := s.setV u k (.num (if b then 1 else 0))
/-- Store bytes. -/
def State.setBs (s : State) (u k : Nat) (b : Bytes) : State := s.setV u k (.bytes b)

/-! ### Records of units -/

/-- An axis or cluster face. -/
def State.axis (s : State) (u : Nat) : AxisS := mapGet {} s.axes u
/-- Change an axis. -/
def State.setAxis (s : State) (u : Nat) (a : AxisS) : State := { s with axes := mapPut {} s.axes u a }
/-- A sleeve. -/
def State.sleeve (s : State) (u : Nat) : SleeveS := mapGet {} s.sleeves u
/-- Change a sleeve. -/
def State.setSleeve (s : State) (u : Nat) (a : SleeveS) : State := { s with sleeves := mapPut {} s.sleeves u a }
/-- A cell. -/
def State.cell (s : State) (u : Nat) : CellS := mapGet {} s.cells u
/-- Change a cell. -/
def State.setCell (s : State) (u : Nat) (a : CellS) : State := { s with cells := mapPut {} s.cells u a }
/-- A recorder. -/
def State.rec' (s : State) (u : Nat) : RecS := mapGet {} s.recorders u
/-- Change a recorder. -/
def State.setRec (s : State) (u : Nat) (a : RecS) : State := { s with recorders := mapPut {} s.recorders u a }
/-- A CAN controller. -/
def State.canOf (s : State) (u : Nat) : CanS := mapGet {} s.can u
/-- Change a CAN controller. -/
def State.setCan (s : State) (u : Nat) (a : CanS) : State := { s with can := mapPut {} s.can u a }
/-- Fault bookkeeping of a unit. -/
def State.fault (s : State) (u : Nat) : FaultS := mapGet {} s.faults u
/-- Change the fault bookkeeping of a unit. -/
def State.setFault (s : State) (u : Nat) (a : FaultS) : State := { s with faults := mapPut {} s.faults u a }
/-- A cluster coordinator's state. -/
def State.cluster (s : State) (u : Nat) : ClusterS := mapGet {} s.clusters u
/-- Change a cluster coordinator's state. -/
def State.setCluster (s : State) (u : Nat) (a : ClusterS) : State := { s with clusters := mapPut {} s.clusters u a }
/-- A user kernel. -/
def State.kernel (s : State) (k : Nat) : KernelS := mapGet {} s.kernels k
/-- Change a user kernel. -/
def State.setKernel (s : State) (k : Nat) (a : KernelS) : State := { s with kernels := mapPut {} s.kernels k a }
/-- A session slot. -/
def State.slot (s : State) (i : Nat) : Slot := mapGet .free s.slots i
/-- Change a session slot. -/
def State.setSlot (s : State) (i : Nat) (x : Slot) : State := { s with slots := mapPut .free s.slots i x }
/-- A timing output. -/
def State.pin (s : State) (i : Nat) : PinS := mapGet {} s.pins i
/-- Change a timing output. -/
def State.setPin (s : State) (i : Nat) (x : PinS) : State := { s with pins := mapPut {} s.pins i x }
/-- A group of the veil. -/
def State.group (s : State) (g : Nat) : GroupS := mapGet {} s.veil.groups g
/-- Change a group of the veil. -/
def State.setGroup (s : State) (g : Nat) (x : GroupS) : State := { s with veil := { s.veil with groups := mapPut {} s.veil.groups g x } }

/-- Log what leaves the device. -/
def State.emit (s : State) (m : Sent) : State := { s with sent := m :: s.sent }

/-! ### Time (03) -/

/-- Network time in quanta of 62.5 ps. -/
def State.q (s : State) : Nat := s.time.counter / Config.counterPerQuantum
/-- Network time in ns: #0200 NetworkTime. -/
def State.ns (s : State) : Nat := s.time.counter / Config.counterPerNs
/-- T_b in quanta. -/
def State.tb (s : State) : Nat := s.n 0 0x023000 * Config.quantaPerStep
/-- The phase φ in quanta. -/
def State.phaseQ (s : State) : Nat := s.n 0 0x023100 * Config.quantaPerStep
/-- Ideal start of beat n in quanta (03 R80). -/
def State.beatStart (s : State) (n : Nat) : Nat := n * s.tb + s.phaseQ
/-- Start of the beat in progress, in ns. -/
def State.beatNs (s : State) : Nat := s.beat.start / Config.quantaPerNs
/-- Number of the beat that holds an instant, in quanta. -/
def State.beatOf (s : State) (t : Nat) : Nat := if s.tb = 0 then 0 else (t - s.phaseQ) / s.tb

/-! ### Events (02 R55 to R59) -/

/-- Places an event takes in the queue (02 R58). -/
def eventBytes (e : QEvent) : Nat := (20 + 2 + e.data.length + 12 + 7) / 8 * 8
/-- #0121 WaggleQueueUse. -/
def queueUse (s : State) : Nat := (s.events.map eventBytes).sum
/-- Bytes of a GAP event. -/
def gapBytes : Nat := 40
/-- Bytes that the waiting GAPs will take (02 R59). -/
def gapsWaiting (s : State) : Nat := (s.lost.map fun e => (e.2.count + 65534) / 65535 * gapBytes).sum

/-- The mask of a slot (02 R57): bit 0 always set. -/
def slotMask (s : State) (i : Nat) : Nat := setBit (s.n 0 (0x002500 + i)) 0

/-- The open sessions that select an event code. -/
def selectors (s : State) (code : Nat) : List Nat :=
  (List.range 16).filter fun i => match s.slot i with
    | .opened _ => bitOf (slotMask s i) (code / 256 % 32) && decide (code / 256 < 32)
    | _ => false

/-- Put an event into the queue for its selectors. -/
def enqueueEvent (s : State) (u code : Nat) (data : Bytes) (fseq : Nat) (holders : List Nat) : State :=
  let e : QEvent := { serial := s.eventSerial, unit := u, fseq := fseq, code := code, time := s.beatNs, beat := s.beat.n % 2 ^ 32,
                      data := data, holders := holders }
  { s with
    events := s.events ++ [e]
    eventSerial := s.eventSerial + 1
    slots := holders.foldl (fun m i => mapMod .free m i fun x => match x with
      | .opened ss => .opened { ss with unsent := ss.unsent ++ [e.serial] }
      | x => x) s.slots }

/-- The largest number of a type, at which a stick counter stops. -/
def Ty.maxNat : Ty → Nat
  | .u8 => 255 | .u16 => 65535 | .u32 => 2 ^ 32 - 1 | _ => 2 ^ 64 - 1

/-- The places of a unit's stick counters in CounterSaturation (02 R69): how many stand before this one. -/
def stickIndex (k : UKind) (o e : Nat) : Nat :=
  ((allRows.filter fun r => r.stick && k ∈ r.kinds).map fun r =>
    if r.obj < o then r.elHi - r.elLo + 1 else if r.obj = o then e - r.elLo else 0).sum

/-- Count one event on a stick counter without the waggle of R69: the new state, and whether the saturation bit rose. -/
def countStick (s : State) (u k : Nat) : State × Bool :=
  match kindOf u with
  | none => (s, false)
  | some kd =>
    let mx := ((rowOf kd (k / 256) (k % 256)).map fun r => r.ty.maxNat).getD (2 ^ 32 - 1)
    let v := s.n u k
    if mx ≤ v then (s, false)
    else
      let s1 := s.setN u k (v + 1)
      if v + 1 < mx then (s1, false)
      else
        let i := stickIndex kd (k / 256) (k % 256)
        let e := 0x0B1000 + i / 32
        if bitOf (s1.n u e) (i % 32) then (s1, false) else (s1.setN u e (setBit (s1.n u e) (i % 32)), true)

/-- The next FaceSequence number of a face, taken. -/
def takeFaceSeq (s : State) (u : Nat) : Nat × State :=
  let f := mapGet 0 s.faceSeq u
  (f, { s with faceSeq := mapPut 0 s.faceSeq u ((f + 1) % 65536) })

/-- Publish an event on a face at once (02 R55, R58, R59), counting a loss but not the saturation of the loss counter itself. -/
def publishRaw (s : State) (u code : Nat) (data : Bytes) : State × Bool :=
  let (f, s1) := takeFaceSeq s u
  let hs := selectors s code
  if hs.isEmpty then (s1, false)
  else
    let l := mapGet {} s.lost u
    let e : QEvent := { serial := 0, unit := u, fseq := f, code := code, time := 0, beat := 0, data := data, holders := hs }
    if l.count = 0 ∧ queueUse s + gapsWaiting s + eventBytes e ≤ Config.eventQueueBytes then (enqueueEvent s1 u code data f hs, false)
    else
      let s2 := { s1 with lost := mapPut {} s1.lost u { first := if l.count = 0 then f else l.first, count := l.count + 1 } }
      countStick s2 0 0x012200

/-- COUNTER_SAT data (02 Table 2-9). -/
def satData (k : Nat) : Bytes := leBytes 2 (k / 256) ++ leBytes 1 (k % 256)

/-- Publish an event on a face at once. -/
def publish (s : State) (u code : Nat) (data : Bytes) : State :=
  let (s1, sat) := publishRaw s u code data
  if sat then (publishRaw s1 0 0x0002 (satData 0x012200)).1 else s1

/-- Count one event on a stick counter (02 R69). -/
def bump (s : State) (u k : Nat) : State :=
  let (s1, sat) := countStick s u k
  if sat then publish s1 u 0x0002 (satData k) else s1

/-- Count several events. -/
def bumpN (s : State) (u k : Nat) : Nat → State
  | 0 => s
  | n + 1 => bumpN (bump s u k) u k n

/-- Restart a stick counter from 0 and clear its saturation bit (02 R69, R70). -/
def clearStick (s : State) (u k : Nat) : State :=
  match kindOf u with
  | none => s
  | some kd =>
    let i := stickIndex kd (k / 256) (k % 256)
    let e := 0x0B1000 + i / 32
    (s.setN u k 0).setN u e (clrBit (s.n u e) (i % 32))

/-- An event that a cell publishes with its next beat commit (01 R15, R17). -/
def State.later (s : State) (u code : Nat) (data : Bytes) : State := { s with outbox := s.outbox ++ [⟨u, code, data⟩] }

/-! ### Replies (02 R44, R45, Table 2-4) -/

/-- Status codes of Table 2-5 that the model uses. -/
def stOk : Nat := 0x00
def stBadRequest : Nat := 0x01
def stNoSession : Nat := 0x02
def stBadPath : Nat := 0x03
def stNoObject : Nat := 0x04
def stNoElement : Nat := 0x05
def stLevel : Nat := 0x06
def stReadOnly : Nat := 0x07
def stWriteOnly : Nat := 0x08
def stStagedOnly : Nat := 0x09
def stNotStaged : Nat := 0x0A
def stWrongState : Nat := 0x0B
def stMemberBound : Nat := 0x0C
def stWrongType : Nat := 0x0D
def stRange : Nat := 0x0E
def stTooLong : Nat := 0x0F
def stTooLate : Nat := 0x10
def stNoJob : Nat := 0x11
def stJobFull : Nat := 0x12
def stPlanInvalid : Nat := 0x13
def stTripActive : Nat := 0x14
def stRefusedBusy : Nat := 0x15
def stMapInvalid : Nat := 0x16
def stJournalFull : Nat := 0x3F
def stJobPending : Nat := 0x49
def stCommitPending : Nat := 0x4A
def stRemotePath : Nat := 0x4B

/-- The bytes of one reply item. -/
def itemBytes (r : ItemReply) : Bytes := leBytes 1 r.status ++ leBytes 1 r.type ++ leBytes 2 r.data.length ++ r.data

/-- The bytes of an LFP datagram that the device sends (02 Table 2-1): Version 1, PayloadLength, Reserved 0, and the Check over all before it. -/
def lfpBytes (kind flags sid seq : Nat) (payload : Bytes) : Bytes :=
  let b := leBytes 1 1 ++ leBytes 1 kind ++ leBytes 2 flags ++ leBytes 8 sid ++ leBytes 4 seq ++ leBytes 2 payload.length ++ leBytes 2 0 ++ payload
  b ++ leBytes 4 (crc32c b)

/-- An LFP datagram on its way to an address and port (02 R39). -/
def lfpSent (dst : Src) (kind flags sid seq : Nat) (payload : Bytes) : Sent := .lfp dst (lfpBytes kind flags sid seq payload)

/-- The stored replies of a session: those to the 8 request numbers before the one it expects (02 R43). -/
def keepReplies (ss : Session) (l : List (Nat × Bytes)) : List (Nat × Bytes) :=
  l.filter fun r => decide (1 ≤ (ss.expect + 2 ^ 32 - r.1) % 2 ^ 32 ∧ (ss.expect + 2 ^ 32 - r.1) % 2 ^ 32 ≤ 8)

/-- Send a REPLY of a session and store it (02 R43, R44). -/
def sendReply (s : State) (i : Nat) (ss : Session) (req : Nat) (items : List ItemReply) : State :=
  let p := items.flatMap itemBytes
  let ss' := { ss with stored := keepReplies ss ((req, p) :: ss.stored), inflight := ss.inflight.filter fun r => r.req != req }
  (s.setSlot i (.opened ss')).emit (lfpSent ss.src 0x1F 0 ss.sid req p)

/-- The items of a request when every one has its reply. -/
def allItems (r : Request) : Option (List ItemReply) := r.items.mapM id

/-- Give one request item its reply; the REPLY leaves when every item has one (02 R44). -/
def answer (s : State) (o : Option Origin) (r : ItemReply) : State :=
  match o with
  | none => s
  | some o =>
    match s.slot o.slot with
    | .opened ss =>
      if ss.sid ≠ o.sid then s
      else
      let typed (q : Request) : ItemReply := if r.status = 0 ∧ r.type = 0 then { r with type := q.types.getD o.item 0 } else r
      let inf := ss.inflight.map fun q => if q.req = o.req then { q with items := q.items.set o.item (some (typed q)) } else q
      let ss' := { ss with inflight := inf }
      match (inf.find? fun q => q.req == o.req).bind allItems with
      | some items => sendReply s o.slot ss' o.req items
      | none => s.setSlot o.slot (.opened ss')
    | _ => s

/-- Answer with a status and no data. -/
def answerSt (s : State) (o : Option Origin) (status : Nat) : State := answer s o { status := status }

/-! ### Values as bytes (02 Table 2-11) -/

/-- Size of a scalar type; 0 for the types of varying length. -/
def Ty.size : Ty → Nat
  | .bool => 1 | .u8 => 1 | .u16 => 2 | .u32 => 4 | .u64 => 8 | .i8 => 1 | .i16 => 2 | .i32 => 4 | .i64 => 8
  | .f32 => 4 | .f64 => 8 | .pos64 => 8 | .time64 => 8 | _ => 0

/-- Type code of Table 2-11. -/
def Ty.code : Ty → Nat
  | .bool => 0x01 | .u8 => 0x02 | .u16 => 0x03 | .u32 => 0x04 | .u64 => 0x05 | .i8 => 0x06 | .i16 => 0x07 | .i32 => 0x08
  | .i64 => 0x09 | .f32 => 0x0A | .f64 => 0x0B | .pos64 => 0x0C | .time64 => 0x0D | .str => 0x0E | .blob => 0x0F
  | .arrF32 => 0x8A | .arrU16 => 0x83 | .arrPos64 => 0x8C

/-- Are numbers of the type held signed? -/
def Ty.isSigned : Ty → Bool
  | .i8 | .i16 | .i32 | .i64 | .pos64 => true
  | _ => false

/-- Is the type a scalar? -/
def Ty.scalar (t : Ty) : Bool := t.size != 0

/-- The bytes of a value. -/
def encodeVal (t : Ty) (v : Val) : Bytes :=
  match v with
  | .bytes b => b
  | .num i => leBytesI t.size i

/-- The number that the bytes of a scalar spell. -/
def decodeNum (t : Ty) (b : Bytes) : Int := if t.isSigned then signed (8 * t.size) (leNat b) else (leNat b : Int)

/-- Type of an exported object or port of a kernel by its code (10 R247). -/
def kernelTy (code : Nat) : Ty :=
  match code with
  | 0x01 => .bool | 0x02 => .u8 | 0x03 => .u16 | 0x04 => .u32 | 0x06 => .i8 | 0x07 => .i16 | 0x08 => .i32 | _ => .f32

/-- The dictionary row of an exported object of a user kernel (10 R247). -/
def exportRow (x : KObject) : ObjRow :=
  { obj := x.obj, objHi := x.obj, kinds := [], ty := kernelTy x.type, acc := if x.rw then .rw else .r, level := x.level,
    dflt := .num (decodeNum (kernelTy x.type) (leBytes (kernelTy x.type).size x.init)), jour := x.journaled }

/-- The exported object of a user kernel on a unit. -/
def kernelRow (s : State) (u o : Nat) : Option ObjRow :=
  if o < 0xC000 then none
  else (s.kernels.findSome? fun e => if e.2.home = u then e.2.image.objs.find? (fun x => x.obj == o) else none).map exportRow

/-- Entry size of an ARR. -/
def Ty.entry : Ty → Nat
  | .arrF32 => 4 | .arrU16 => 2 | .arrPos64 => 8 | _ => 1

/-- Write a part of a BLOB or ARR (02 R67). -/
def writePart (old data : Bytes) (offset : Nat) (last : Bool) : Bytes :=
  let padded := old ++ List.replicate (offset - old.length) 0
  let new := padded.take offset ++ data ++ padded.drop (offset + data.length)
  if last then new.take (offset + data.length) else new

/-! ### The journal queue (16 R354 to R356, R362) -/

/-- Bytes of a record with its padding (16 R354). -/
def recordBytes (r : JRecord) : Nat := (12 + 12 + 2 * r.path.length + r.data.length + 4 + 15) / 16 * 16

/-- Do two records address the same item? -/
def sameItem (a b : JRecord) : Bool :=
  a.space == b.space && a.job == b.job && a.path == b.path && a.obj == b.obj && a.elem == b.elem
    && (a.space != 2 || a.obj != 1 || a.data.take 1 == b.data.take 1) && (a.space != 2 || (a.obj != 3 && a.obj != 4) || a.data.take 2 == b.data.take 2)

/-- The records of the live region. -/
def liveAnchor (n : Nva) : Anchor :=
  match n.anchor0, n.anchor1 with
  | some a, some b => if a.generation < b.generation then b else a
  | some a, none => a
  | none, some b => b
  | none, none => {}
/-- The live region, 0 or 1. -/
def liveIdx (n : Nva) : Nat := (liveAnchor n).live % 2
/-- Records of a region. -/
def regionOf (n : Nva) (r : Nat) : List JRecord := if r = 0 then n.region0 else n.region1
/-- Put the records of a region. -/
def setRegion (n : Nva) (r : Nat) (l : List JRecord) : Nva := if r = 0 then { n with region0 := l } else { n with region1 := l }

/-- The ERASE of a whole job or of an element takes away what it names. -/
def erases (e r : JRecord) : Bool :=
  e.erase && e.space == r.space && e.job == r.job && (e.path.isEmpty && e.space == 1 || (e.path == r.path && e.obj == r.obj && e.elem == r.elem))

/-- A record that holds the default: a snapshot leaves it out (16 R361). -/
def writesDefault (r : JRecord) : Bool :=
  r.space == 0 && match kindOf (r.path.getLastD 0) with
    | none => false
    | some k => match rowOf k r.obj r.elem with
      | none => false
      | some row => r.data == encodeVal row.ty row.dflt

/-- A record taken into a list of whole items: an ERASE takes away what it names, a CHANGE writes its part of the item (02 R67). -/
def takeRecord (l : List JRecord) (r : JRecord) : List JRecord :=
  if r.erase then l.filter fun x => !erases r x
  else
    let part (old : Bytes) : JRecord :=
      if r.space = 2 then r else { r with data := writePart old r.data r.offset r.last, offset := 0, last := true }
    if l.any (sameItem r) then l.map fun x => if sameItem r x then part x.data else x else l ++ [part []]

/-- The records that a snapshot taken now would hold: one for every live value that differs from its default, every staged value and every
device item (16 R361). -/
def liveRecords (l : List JRecord) : List JRecord := (l.foldl takeRecord []).filter fun r => !writesDefault r

/-- #0F03 JournalLiveBytes (16 R362). -/
def liveBytes (n : Nva) : Nat := ((liveRecords (regionOf n (liveIdx n))).map recordBytes).sum

/-- Hand a transaction to the keeper. -/
def journal (s : State) (rs : List JRecord) (act : TxnAct) : State :=
  { s with journal := { s.journal with queue := s.journal.queue ++ [⟨rs, act⟩] } }

/-- Would these records take the live size above its limit (16 R362)? -/
def journalFull (s : State) (rs : List JRecord) : Bool :=
  let live := regionOf s.nva (liveIdx s.nva)
  let grown := ((liveRecords (live ++ (s.journal.queue.flatMap Txn.records) ++ rs)).map recordBytes).sum
  decide (Config.journalLiveLimit < grown ∧ liveBytes s.nva < grown)

/-- A record for a dictionary value. -/
def valueRecord (path : List Nat) (o e : Nat) (offset : Nat) (last : Bool) (data : Bytes) : JRecord :=
  { path := path, obj := o, elem := e, offset := offset, last := last, data := data }

/-- A record for a device item (16 Table 16-4). -/
def itemRecord (item : Nat) (data : Bytes) : JRecord := { space := 2, obj := item, data := data }

end Sys2Proof.Machine
end

