-- ==== Sys2Proof/Machine/Operands.lean ====
section
/-! DEFINITION. Request items: how they are read from a payload, what a path names, and the checks of 02 Table 2-5 in their order
up to the last one, which is the unit's own. -/

namespace Sys2Proof.Machine

/-- A request item (02 Table 2-3). -/
structure Item where
  depthByte : Nat
  elem : Nat
  obj : Nat
  job : Nat
  flags : Nat
  offset : Nat
  dlen : Nat
  path : List Nat
  data : Bytes
deriving DecidableEq, Repr, Inhabited

/-- n 16-bit numbers. -/
def readU16s : Nat → Bytes → List Nat
  | 0, _ => []
  | n + 1, b => fieldLE b 0 2 :: readU16s n (b.drop 2)

/-- One item from the front of a payload, with the rest; a READ item carries no data. -/
def readItem (isRead : Bool) (b : Bytes) : Option (Item × Bytes) :=
  let db := fieldLE b 0 1
  let depth := db % 32
  let dl := fieldLE b 8 2
  let n := 10 + 2 * depth + (if isRead then 0 else dl)
  if b.length < 10 ∨ b.length < n then none
  else some ({ depthByte := db, elem := fieldLE b 1 1, obj := fieldLE b 2 2, job := fieldLE b 4 1, flags := fieldLE b 5 1,
               offset := fieldLE b 6 2, dlen := dl, path := readU16s depth (b.drop 10),
               data := if isRead then [] else (b.drop (10 + 2 * depth)).take dl }, b.drop n)

/-- The items of a payload (02 R410): none where it holds no item, more than the fuel, or does not split. -/
def readItems (isRead : Bool) : Nat → Bytes → Option (List Item)
  | 0, _ => none
  | n + 1, b =>
    match readItem isRead b with
    | none => none
    | some (it, []) => some [it]
    | some (it, r) => (readItems isRead n r).map (it :: ·)

/-- The items of a request payload, 1 to 64. -/
def parseItems (isRead : Bool) (b : Bytes) : Option (List Item) := readItems isRead 64 b

/-- What a path names (01 R22). -/
inductive PathTo where
  /-- A unit of this device; whether it was reached through a cluster. -/
  | unit (u : Nat) (via : Bool)
  /-- A member of another device. -/
  | remote (cluster index : Nat)
  /-- Nothing. -/
  | bad
deriving DecidableEq, Repr

/-- Descend from a unit along a path. -/
def descend (s : State) : Nat → Bool → List Nat → PathTo
  | u, via, [] => .unit u via
  | u, _, p :: ps =>
    match clusterPlan s u with
    | none => .bad
    | some c =>
      if 0x2000 ≤ p ∧ p ≤ 0x203F then
        (match c.members[p - 0x2000]? with
         | some (.remote _) => if ps.isEmpty then .remote u (p - 0x2000) else .bad
         | _ => .bad)
      else if c.members.contains (.device p) then descend s p true ps
      else .bad

/-- What a unit path names, from device level. -/
def resolve (s : State) (path : List Nat) : PathTo :=
  match path with
  | [] => .bad
  | u :: ps => if (kindOf u).isSome then descend s u false ps else .bad

/-- The unit that stores an object addressed on unit u: the objects of a sleeve also stand on the local axis bound to it (08 R191, 09 R236). -/
def storeOf (s : State) (u o : Nat) : Nat :=
  if isLocal u && (decide (0x410 ≤ o ∧ o ≤ 0x452) || decide (0x500 ≤ o ∧ o ≤ 0x555 ∧ o ≠ 0x530 ∧ o ≠ 0x531)) && sleeveOf s u != 0
  then sleeveOf s u else u

/-- The objects that a coordinator splits (01 R23, R26; 05 R142; 07 R162). Log entry 20. -/
def splitObjs : List Nat := [0x600, 0x602, 0x603, 0x710, 0x712, 0x820, 0x821, 0x822, 0x823]

/-- The fixed-size elements of 02 R67: size by object. -/
def fixedSize (o : Nat) : Option Nat :=
  match o with
  | 0x010 => some 32
  | 0x710 => some 64
  | 0x933 => some 24
  | 0x652 => some 6
  | 0x514 => some 6
  | 0xA00 => some 8
  | 0xA10 => some 32
  | 0xE10 => some 80
  | 0xE20 => some 16
  | 0xC0A => some 32
  | 0xC32 => some 16
  | 0x1004 => some 64
  | 0x62E => some 20
  | 0x62F => some 20
  | 0x630 => some 16
  | _ => if 0x2400 ≤ o ∧ o ≤ 0x27FF then some 16 else none

/-- May a session of this level use an object of that Level (02 R48)? -/
def levelOk (session level : Nat) (reading : Bool) : Bool :=
  if session = 3 then level == 3 || (reading && level == 0)
  else level != 3 && decide (level ≤ session)

/-- Kinds of request that carry items. -/
inductive ReqKind where
  | read | write | stage
deriving DecidableEq, Repr

/-- Does the object's access allow a use of this kind (02 R48)? -/
def accAllows (a : Acc) : ReqKind → Bool
  | .read => a != .w
  | .write => a == .rw || a == .dx || a == .w
  | .stage => a == .st

/-- The LEVEL check (02 R48, R52, R53, R57, R70). -/
def levelCheck (slot level : Nat) (keyless : Bool) (k : ReqKind) (row : ObjRow) (o e : Nat) : Bool :=
  let wr := k != .read
  if wr && keyless then o == 0x010 && e == level && k == .write
  else if keyless then !accAllows row.acc k || row.level == 0
  else if k == .write && o == 0x025 && e != slot then false
  else if !accAllows row.acc k then true
  else if o == 0x010 then (if e = 3 then level == 3 else level == e || level == 4)
  else if k == .write && (row.stick || o == 0x1106) then level == 2 || level == 4
  else levelOk level row.level (k == .read)

/-- Each of n entries of 4 bytes is a finite F32. -/
def f32sFinite : Nat → Bytes → Bool
  | 0, _ => true
  | n + 1, b => fFinite b32s (fieldLE b 0 4) && f32sFinite n (b.drop 4)

/-- A contiguous IPv4 mask (02 Table 2-10): ones, then zeros. -/
def contiguousMask (m : Nat) : Bool := (List.range 33).any fun k => m == 2 ^ 32 - 2 ^ k

/-- A key of F32 or F64 bits, or the number itself, for the ranges of the object tables. -/
def rangeKey (t : Ty) (i : Int) : Int :=
  match t with
  | .f32 => fKey b32s i.toNat
  | .f64 => fKey b64 i.toNat
  | _ => i

/-- Ranges that an object table states in words, on a number. -/
def rangeWords (s : State) (u o : Nat) (i : Int) : Bool :=
  match o with
  | 0x102 => contiguousMask i.toNat
  | 0x800 => i == 0 || (axisFace s i.toNat && i.toNat != u)
  | 0x920 => i == 0 || isAxis i.toNat || isSleeve i.toNat
  | 0x1120 | 0x1121 => decide (i < 2 ^ (s.n u 0x050A00))
  | 0x1122 => decide (i < 4)
  | 0x932 => s.n u 0x070000 == 0 || decide (i ≤ s.n u 0x070000 * 2 ^ 15)
  | 0xA22 => decide ((bitsOf 16 i.toNat).length ≤ 4)
  | 0xC26 => (i.toNat % 16 < 4 || i.toNat % 16 == 15) && (i.toNat / 16 < 4 || i.toNat / 16 == 15)
  | 0x1106 => i == 0
  | _ => true

/-- The RANGE check on the bytes of a value (02 R67, R70; the object tables). -/
def rangeOk (s : State) (u : Nat) (row : ObjRow) (o : Nat) (data : Bytes) : Bool :=
  if row.ty.scalar then
    let i := decodeNum row.ty data
    (if row.stick then i == 0 else true)
    && (match row.ty with
        | .bool => i == 0 || i == 1
        | .f32 => fFinite b32s i.toNat
        | .f64 => fFinite b64 i.toNat
        | _ => true)
    && (row.rng.isEmpty || row.rng.any fun r => decide (r.1 ≤ rangeKey row.ty i ∧ rangeKey row.ty i ≤ r.2))
    && rangeWords s u o i
  else
    match row.ty with
    | .str => utf8Ok data
    | .arrF32 => f32sFinite (data.length / 4) data
        && (o != 0x630 || ((List.range 4).all fun k => decide (0 ≤ fKey b32s (fieldLE data (4 * k) 4))
              && decide (fKey b32s (fieldLE data (4 * k) 4) ≤ (if k % 2 = 0 then 1184645120 else 1092616192))))
    | .blob => (o != 0x652 || fieldLE data 5 1 == 0) && ((o != 0x010 && o != 0xC0A) || data.any (· != 0))
    | .arrU16 => o != 0xC10 || (readU16s (data.length / 2) data).all isSleeve
    | _ => (o != 0x010 && o != 0xC0A) || data.any (· != 0)

/-- The WRONG_TYPE check of a write or STAGE (02 R67). -/
def typeOk (row : ObjRow) (o : Nat) (offset dlen : Nat) : Bool :=
  match fixedSize o with
  | some n => offset == 0 && dlen == n
  | none =>
    if row.ty.scalar then offset == 0 && dlen == row.ty.size
    else if row.ty == .str then offset == 0
    else offset % row.ty.entry == 0 && dlen % row.ty.entry == 0

/-- The largest size of an element of varying length. -/
def maxSize (row : ObjRow) (o : Nat) : Nat :=
  if row.ty == .str then 64 else if o = 0xC10 then 8 else 4096

/-- The TOO_LONG check of a write. -/
def sizeOk (row : ObjRow) (o offset dlen : Nat) : Bool := row.ty.scalar || decide (offset + dlen ≤ maxSize row o)

/-- What an item names once its checks have passed. -/
structure Checked where
  /-- Unit addressed. -/
  unit : Nat
  /-- Unit that stores the object. -/
  store : Nat
  row : ObjRow
  /-- The path passes through a remote member of a cluster. -/
  remote : Bool := false
deriving DecidableEq, Repr

/-- Objects that only a cluster presenting an axis face has (04 R120, 05 R144; 01 R26). -/
def axisFaceObj (o : Nat) : Bool := decide (0x500 ≤ o ∧ o ≤ 0x5FF ∨ 0x670 ≤ o ∧ o ≤ 0x831)

/-- The row of an object on a unit of a kind. -/
def objAt (s : State) (u : Nat) (k : UKind) (o : Nat) : Option ObjRow :=
  if 0xC000 ≤ o then kernelRow s u o
  else if k == .cluster && axisFaceObj o && !axisFace s u then none
  else objRowOf k o

/-- The object that an entry names by unit, object and element, with the unit that stores it: a map, a port, a channel, a schedule variable. -/
def namedRow (s : State) (u o e : Nat) : Option (Nat × ObjRow) :=
  let st := storeOf s u o
  ((kindOf st).bind fun k => objAt s st k o).bind fun r => if r.elLo ≤ e ∧ e ≤ r.elHi then some (st, r) else none

/-- The BAD_REQUEST check on one item. -/
def itemMalformed (stage : Bool) (it : Item) : Bool := it.depthByte == 0 || decide (32 ≤ it.depthByte ∨ 2 ≤ it.flags) || (!stage && it.job != 0)

/-- The kinds that a member of a cluster may have (01 R21). -/
def memberKinds : List UKind := [.localAxis, .netAxis, .virtAxis, .recorder, .cluster]

/-- The checks of Table 2-5 on a STAGE whose path passes through a remote member of cluster c, up to the last one (04 R110). -/
def stageChecks (s : State) (slot : Nat) (ss : Session) (c : Nat) (row : ObjRow) (it : Item) : Except Nat ObjRow :=
  if it.elem < row.elLo ∨ row.elHi < it.elem then .error stNoElement
  else if !levelCheck slot ss.level ss.keyless .stage row it.obj it.elem then .error stLevel
  else if row.acc = .r then .error stReadOnly
  else if row.acc ≠ .st then .error stNotStaged
  else if !typeOk row it.obj it.offset it.dlen then .error stWrongType
  else if !rangeOk s c row it.obj it.data then .error stRange
  else if !sizeOk row it.obj it.offset it.dlen then .error stTooLong
  else .ok row

/-- The checks of Table 2-5 on one item, in order, up to the unit's own: a status, or what the item names (02 R46). -/
def checkItem (s : State) (slot : Nat) (ss : Session) (k : ReqKind) (it : Item) : Except Nat Checked :=
  if itemMalformed (k == .stage) it then .error stBadRequest
  else match resolve s it.path with
  | .bad => .error stBadPath
  | .remote c _ =>
    -- only a STAGE gets as far as the last check of the table, which refuses it (04 R110)
    if k ≠ .stage then .error stNoObject
    else match memberKinds.findSome? fun kd => objRowOf kd it.obj with
    | none => .error stNoObject
    | some row => (stageChecks s slot ss c row it).map fun r => { unit := c, store := c, row := r, remote := true }
  | .unit u via =>
    let st := storeOf s u it.obj
    match (kindOf st).bind (objAt s st · it.obj) with
    | none => .error stNoObject
    | some row =>
      if it.elem < row.elLo ∨ row.elHi < it.elem then .error stNoElement
      else if !levelCheck slot ss.level ss.keyless k row it.obj it.elem then .error stLevel
      else if k ≠ .read ∧ row.acc = .r then .error stReadOnly
      else if k = .read ∧ row.acc = .w then .error stWriteOnly
      else if k = .write ∧ row.acc = .st then .error stStagedOnly
      else if k = .stage ∧ row.acc ≠ .st then .error stNotStaged
      else if k = .write ∧ row.acc = .dx ∧ s.n st 0x030000 ≠ 1 then .error stWrongState
      else if k ≠ .read ∧ !via ∧ clusterOf s u ≠ 0 ∧ splitObjs.contains it.obj then .error stMemberBound
      else if k ≠ .read ∧ !typeOk row it.obj it.offset it.dlen then .error stWrongType
      else if k = .read ∧ row.ty.scalar ∧ (it.offset ≠ 0 ∨ it.dlen ≠ 0) then .error stWrongType
      else if k = .read ∧ row.ty = .str ∧ it.offset ≠ 0 then .error stWrongType
      else if k ≠ .read ∧ !rangeOk s st row it.obj it.data then .error stRange
      else if k ≠ .read ∧ !sizeOk row it.obj it.offset it.dlen then .error stTooLong
      else .ok { unit := u, store := st, row := row }

end Sys2Proof.Machine
end

