-- ==== Sys2Proof/Machine/Profile.lean ====
section
/-! DEFINITION. The planner of point-to-point segments (04 R99), of the ramp of a velocity hold (R100) and of the stop profile (R105), in exact
rational arithmetic: a motion is a list of phases of constant jerk, each a whole number of axis beats (log entry 6). -/

namespace Sys2Proof.Machine

/-- Displacement (counts), velocity (counts/s) and acceleration (counts/s²) at an instant of a motion. -/
structure Motion where
  p : Rat
  v : Rat
  a : Rat
deriving DecidableEq, Repr

/-- t seconds of constant jerk. -/
def Motion.run (m : Motion) (j t : Rat) : Motion :=
  { p := m.p + m.v * t + m.a * t * t / 2 + j * t * t * t / 6, v := m.v + m.a * t + j * t * t / 2, a := m.a + j * t }

/-- The motion after all phases, each given as axis beats and jerk; ta is the axis beat in seconds. -/
def phasesEnd (ta : Rat) (m : Motion) (ps : List (Nat × Rat)) : Motion := ps.foldl (fun m p => m.run p.2 (p.1 * ta)) m

/-- The motion k axis beats after its start. -/
def phasesAt (ta : Rat) : Motion → List (Nat × Rat) → Nat → Motion
  | m, [], _ => m
  | m, (n, j) :: r, k => if k ≤ n then m.run j (k * ta) else phasesAt ta (m.run j (n * ta)) r (k - n)

/-- Axis beats of all phases. -/
def phasesBeats (ps : List (Nat × Rat)) : Nat := (ps.map Prod.fst).sum

/-- Square root of a rational: exact where it is rational, else rounded down to a multiple of 2^-100. -/
def ratSqrt (q : Rat) : Rat :=
  if q ≤ 0 then 0
  else
    let n := q.num.natAbs
    let d := q.den
    let rn := sqrtDown (Nat.log2 n / 2 + 1) n 0
    let rd := sqrtDown (Nat.log2 d / 2 + 1) d 0
    if rn * rn = n ∧ rd * rd = d then mkRat rn rd
    else
      let v := n * 2 ^ 200 / d
      mkRat (sqrtDown (Nat.log2 v / 2 + 1) v 0) (2 ^ 100)

/-- Whole axis beats that hold t seconds. -/
def beatsUp (ta t : Rat) : Nat := if ta ≤ 0 then 0 else (Rat.ceil (t / ta)).toNat

/-- A change of velocity from v0 with acceleration a0 to v1 with none, within an acceleration. -/
structure Ramp where
  v0 : Rat
  a0 : Rat
  v1 : Rat
  lim : Rat
deriving DecidableEq, Repr

/-- The time-optimal ramp under jerk j: the seconds of its three phases (the acceleration goes to its peak, stays, returns to zero) and the peak. -/
def Ramp.ideal (r : Ramp) (j : Rat) : Rat × Rat × Rat × Rat :=
  if j ≤ 0 ∨ r.lim ≤ 0 then (0, 0, 0, 0)
  else
    let mag (x : Rat) : Rat := if x < 0 then -x else x
    let coast := r.v0 + r.a0 * mag r.a0 / (2 * j)
    let sg : Rat := if coast ≤ r.v1 then 1 else -1
    let dv := sg * (r.v1 - r.v0)
    let a0 := sg * r.a0
    let square := (2 * j * dv + a0 * a0) / 2
    if square ≤ r.lim * r.lim then
      let ap := ratSqrt square
      (mag (ap - a0) / j, 0, ap / j, sg * ap)
    else
      let gained := if a0 ≤ r.lim then (2 * r.lim * r.lim - a0 * a0) / (2 * j) else a0 * a0 / (2 * j)
      (mag (r.lim - a0) / j, (dv - gained) / r.lim, r.lim / j, sg * r.lim)

/-- Its phases rounded up to whole axis beats. A phase in which the acceleration must change lasts at least one (R99 step 3, R100). -/
def Ramp.beats (r : Ramp) (j ta : Rat) : List Nat :=
  let (t1, t2, t3, _) := r.ideal j
  let n1 := beatsUp ta t1
  let n2 := beatsUp ta t2
  let n3 := beatsUp ta t3
  let c3 := if 0 < n1 + n2 then max 1 n3 else n3
  [if r.a0 ≠ 0 ∧ 0 < n1 + n2 + c3 then max 1 n1 else n1, n2, c3]

/-- The ramp with given axis beats: the acceleration changed to the one peak with which it ends at v1 exactly (R99 step 4, R100). -/
def Ramp.phases (r : Ramp) (ta : Rat) (n : List Nat) : List (Nat × Rat) :=
  let n1 := n.getD 0 0
  let n2 := n.getD 1 0
  let n3 := n.getD 2 0
  let w : Rat := (n1 : Rat) / 2 + n2 + (n3 : Rat) / 2
  if w = 0 ∨ ta = 0 then []
  else
    let ap := ((r.v1 - r.v0) / ta - r.a0 * n1 / 2) / w
    [(n1, (ap - r.a0) / (n1 * ta)), (n2, 0), (n3, -ap / (n3 * ta))].filter fun p => p.1 ≠ 0

/-- The limits of a motion; no bound on the speed for a ramp. -/
structure MoveLimits where
  v : Option Rat
  rise : Rat
  fall : Rat
  j : Rat
deriving DecidableEq, Repr

/-- The magnitude of a rational. -/
def ratAbs (x : Rat) : Rat := if x < 0 then -x else x

/-- The speed reached within t seconds of constant jerk: at the end, and where the acceleration passes through zero. -/
def Motion.speed (m : Motion) (j t : Rat) : Rat :=
  let e := m.run j t
  if j ≠ 0 ∧ m.a * e.a < 0 then max (ratAbs e.v) (ratAbs (m.v - m.a * m.a / (2 * j))) else ratAbs e.v

/-- Every limit holds in the phases: the jerk and the speed throughout, the acceleration at their ends, between which it is monotone (R99, R100). -/
def MoveLimits.hold (l : MoveLimits) (ta : Rat) : Motion → List (Nat × Rat) → Bool
  | _, [] => true
  | m, (n, j) :: r =>
    let e := m.run j (n * ta)
    let lim := if 0 < e.v * e.a then l.rise else l.fall
    decide (-l.j ≤ j ∧ j ≤ l.j ∧ -lim ≤ e.a ∧ e.a ≤ lim) && (l.v.all fun v => decide (m.speed j (n * ta) ≤ v)) && l.hold ta e r

/-- The first part of a motion in which a limit is broken, under the limits of each part. -/
def brokenPart (ls : Nat → MoveLimits) (ta : Rat) : Nat → Motion → List (List (Nat × Rat)) → Option Nat
  | _, _, [] => none
  | i, m, p :: r => if (ls i).hold ta m p then brokenPart ls ta (i + 1) (phasesEnd ta m p) r else some i

/-- One more axis beat in phase c of part i. -/
def lengthenAt (ns : List (List Nat)) (i c : Nat) : List (List Nat) :=
  ns.mapIdx fun r n => if r = i then n.mapIdx fun d x => if d = c then x + 1 else x else n

/-- Lengthen phases one axis beat at a time until every limit holds: a phase of the part that breaks one, or the cruise, which is part `cruise`
of a point-to-point motion. Which of these comes next is left open: Config.planPhase chooses (log entry 6). None where the rounds run out. -/
def settlePhases (args : List Int) (cruise : Option Nat) (build : List (List Nat) → List (List (Nat × Rat)))
    (broken : List (List (Nat × Rat)) → Option Nat) : Nat → List (List Nat) → Option (List (Nat × Rat))
  | 0, ns => if (broken (build ns)).isNone then some (build ns).flatten else none
  | fuel + 1, ns =>
    let ps := build ns
    match broken ps, cruise with
    | none, _ => some ps.flatten
    | some i, none => settlePhases args cruise build broken fuel (lengthenAt ns i (Config.planPhase args fuel % 3))
    | some i, some c =>
      let pick := Config.planPhase args fuel % 4
      settlePhases args cruise build broken fuel (if pick = 3 ∨ i = c then lengthenAt ns c 0 else lengthenAt ns i pick)

/-- Rounds of lengthening. -/
def planRounds : Nat := 4096

/-- The first of the motions m 0, m 1, … within n that keeps its limits, else the last. -/
def firstThat (ok : List (Nat × Rat) → Bool) (m : Nat → List (Nat × Rat)) : Nat → Nat → List (Nat × Rat)
  | 0, k => m k
  | n + 1, k => if ok (m k) then m k else firstThat ok m n (k + 1)

/-- Doublings that suffice for every limit that binary32 can hold. -/
def planDoublings : Nat := 640

/-- The ramp of a hold (R100) or a stop (R105). Where the chosen rounds do not suffice, the first phase is given the beats in which the jerk
can change the acceleration as far as ever needed, and the last is doubled until every limit holds. -/
def planRamp (ta : Rat) (r : Ramp) (j : Rat) (args : List Int) : List (Nat × Rat) :=
  let l : MoveLimits := { v := none, rise := r.lim, fall := r.lim, j := j }
  let m : Motion := { p := 0, v := r.v0, a := r.a0 }
  match settlePhases args none (fun ns => [r.phases ta (ns.headD [])]) (brokenPart (fun _ => l) ta 0 m) planRounds [r.beats j ta] with
  | some ps => ps
  | none =>
    let n1 := if j ≤ 0 then 1 else beatsUp ta ((ratAbs r.a0 + r.lim) / j) + 1
    firstThat (l.hold ta m) (fun k => r.phases ta [n1, 0, 2 ^ k]) planDoublings 0

/-- The ramps of a point-to-point motion with peak velocity vp: through zero velocity where it starts away from the target, the last one to rest. -/
def moveRamps (l : MoveLimits) (turn : Bool) (v0 a0 vp : Rat) : List Ramp :=
  let mag (x : Rat) : Rat := if x < 0 then -x else x
  let first : List Ramp :=
    if turn then [{ v0 := v0, a0 := a0, v1 := 0, lim := l.fall }, { v0 := 0, a0 := 0, v1 := vp, lim := l.rise }]
    else [{ v0 := v0, a0 := a0, v1 := vp, lim := if mag v0 ≤ mag vp then l.rise else l.fall }]
  first ++ [{ v0 := vp, a0 := 0, v1 := 0, lim := l.fall }]

/-- Distance of the ideal ramps, without a cruise. -/
def rampsDistance (j : Rat) (rs : List Ramp) : Rat :=
  (rs.map fun r =>
    let (t1, t2, t3, ap) := r.ideal j
    let m0 : Motion := { p := 0, v := r.v0, a := r.a0 }
    let m1 := if t1 = 0 then m0 else m0.run ((ap - r.a0) / t1) t1
    let m2 := m1.run 0 t2
    (if t3 = 0 then m2 else m2.run (-ap / t3) t3).p).sum

/-- The largest m in the top bits of 128 with fits m. -/
def searchPeak (fits : Nat → Bool) : Nat → Nat → Nat
  | 0, m => m
  | n + 1, m => if fits (m + 2 ^ n) then searchPeak fits n (m + 2 ^ n) else searchPeak fits n m

/-- The motion with the counts ns, which hold one list per ramp and the cruise as the list before the last. -/
def movePhases (l : MoveLimits) (ta : Rat) (turn : Bool) (v0 a0 : Rat) (ns : List (List Nat)) (vp : Rat) : List (List (Nat × Rat)) :=
  let rs := moveRamps l turn v0 a0 vp
  let head := (rs.dropLast.zip ns).map fun r => r.1.phases ta r.2
  let cruise := (ns.getD (ns.length - 2) []).headD 0
  let tail := (rs.getLast?.map fun r => r.phases ta (ns.getLast?.getD [])).getD []
  head ++ [[(cruise, 0)], tail]

/-- The peak velocity with which the motion of these counts ends dist counts away: its end is affine in the peak. -/
def peakFor (l : MoveLimits) (ta : Rat) (turn : Bool) (v0 a0 dist : Rat) (ns : List (List Nat)) : Rat :=
  let at' (vp : Rat) : Rat := (phasesEnd ta { p := 0, v := v0, a := a0 } (movePhases l ta turn v0 a0 ns vp).flatten).p
  let e0 := at' 0
  let e1 := at' 1
  if e1 = e0 then 0 else (dist - e0) / (e1 - e0)

/-- The sign of the moving part: towards the target from where the motion would stop. -/
def moveSign (l : MoveLimits) (v0 a0 dist : Rat) : Rat :=
  let stop := rampsDistance l.j [{ v0 := v0, a0 := a0, v1 := 0, lim := l.fall }]
  if dist < stop then -1 else if stop < dist then 1 else if v0 < 0 then -1 else 1

/-- The counts of the ideal motion in direction sg, rounded up (R99 steps 2 and 3). -/
def moveCounts (l : MoveLimits) (ta : Rat) (turn : Bool) (v0 a0 dist sg : Rat) : List (List Nat) :=
  let reach (x : Rat) : Rat := sg * rampsDistance l.j (moveRamps l turn v0 a0 (sg * x))
  let vm := l.v.getD 0
  let full := decide (reach vm ≤ sg * dist)
  let x := if full then vm else vm * mkRat (searchPeak (fun m => decide (reach (vm * mkRat m (2 ^ 128)) ≤ sg * dist)) 128 0) (2 ^ 128)
  let cruise : Nat := if full ∧ 0 < x then beatsUp ta ((sg * dist - reach x) / x) else 0
  let counts := (moveRamps l turn v0 a0 (sg * x)).map fun r => r.beats l.j ta
  -- a ramp of no velocity still carries what the rounding of the others leaves over
  let given := counts.mapIdx fun i n => if x = 0 ∧ (turn ∧ i = 1 ∨ i + 1 = counts.length) then [1, 0, 1] else n
  given.dropLast ++ [[cruise]] ++ [given.getLast?.getD []]

/-- The limits of part i of a motion: only the part that starts with a speed beyond v_max, or is carried there by its acceleration, may be faster. -/
def partLimits (l : MoveLimits) (ta v0 a0 : Rat) (i : Nat) : MoveLimits :=
  let carried := ratAbs v0 + (if 0 < v0 * a0 ∨ v0 = 0 then a0 * a0 / (2 * l.j) else 0)
  let vm := l.v.getD 0
  if i = 0 ∧ vm < carried then { l with v := some (carried + 2 * ratAbs a0 * ta) } else l

/-- A motion in direction sg whose phases have been lengthened until every limit holds, if that can be, and whether it passes the target. -/
def planTowards (ta : Rat) (l : MoveLimits) (v0 a0 dist sg : Rat) (args : List Int) : Option (List (Nat × Rat)) × Bool :=
  let turn := decide (sg * v0 < 0 ∨ v0 = 0 ∧ sg * a0 < 0)
  let ns := moveCounts l ta turn v0 a0 dist sg
  let build (c : List (List Nat)) := movePhases l ta turn v0 a0 c (peakFor l ta turn v0 a0 dist c)
  let passes := decide (sg * peakFor l ta turn v0 a0 dist ns < 0 ∧ 0 < sg * v0)
  (settlePhases args (some (ns.length - 2)) build (brokenPart (partLimits l ta v0 a0) ta 0 { p := 0, v := v0, a := a0 }) planRounds ns, passes)

/-- A motion over d counts from rest to rest of two equal ramps, each of two phases of n axis beats. -/
def restMove (ta d : Rat) (n : Nat) : List (Nat × Rat) :=
  let vp := d / (2 * n * ta)
  let j := vp / (n * ta * (n * ta))
  if d = 0 then [] else [(n, j), (n, -j), (n, -j), (n, j)]

/-- Where no such motion keeps the limits: the profile stops within them and goes to the target from rest. -/
def planThroughRest (ta : Rat) (l : MoveLimits) (v0 a0 dist : Rat) (args : List Int) : List (Nat × Rat) :=
  let stop := planRamp ta { v0 := v0, a0 := a0, v1 := 0, lim := l.fall } l.j args
  let d := dist - (phasesEnd ta { p := 0, v := v0, a := a0 } stop).p
  stop ++ firstThat (l.hold ta { p := 0, v := 0, a := 0 }) (fun k => restMove ta d (2 ^ k)) planDoublings 0

/-- A point-to-point motion (R99). A rounded stop that passes the target returns to it. -/
def planMove (ta : Rat) (l : MoveLimits) (v0 a0 dist : Rat) (args : List Int) : List (Nat × Rat) :=
  let sg := moveSign l v0 a0 dist
  let (ps, passes) := planTowards ta l v0 a0 dist sg args
  match (if passes then (planTowards ta l v0 a0 dist (-sg) args).1 else ps) with
  | some ps => ps
  | none => planThroughRest ta l v0 a0 dist args

/-- What a motion gives at axis beat k: the displacement in POS64 units, rounded half to even from binary64 (R101), and velocity and acceleration as F32. -/
def profileAt (ta : Rat) (v0 a0 : Nat) (ps : List (Nat × Rat)) (k : Nat) : Int × Nat × Nat :=
  let m := phasesAt ta { p := 0, v := fRat b32s v0, a := fRat b32s a0 } ps k
  (rhe (fRat b64 (fOfRat b64 (m.p * 65536))), fOfRat b32s m.v, fOfRat b32s m.a)

/-- The stop profile (R105). -/
def stopPlan (ta : Rat) (v0 a0 decel jerk : Nat) : List (Nat × Rat) :=
  planRamp ta { v0 := fRat b32s v0, a0 := fRat b32s a0, v1 := 0, lim := fRat b32s decel } (fRat b32s jerk) [5, v0, a0, decel, jerk]

/-- The ramp of a hold at v counts/s (R100), with a_max and j_max as F32 parameters. -/
def holdPlan (ta : Rat) (v0 a0 : Nat) (v : Rat) (lims : List Nat) : List (Nat × Rat) :=
  planRamp ta { v0 := fRat b32s v0, a0 := fRat b32s a0, v1 := v, lim := fRat b32s (lims.getD 0 0) } (fRat b32s (lims.getD 1 0))
    ([4, (v0 : Int), a0, v.num, v.den] ++ lims.map Int.ofNat)

/-- A point-to-point motion over dist counts (R99), with v_max, a_max, d_max and j_max as F32 parameters. -/
def movePlan (ta : Rat) (v0 a0 : Nat) (dist : Rat) (lims : List Nat) : List (Nat × Rat) :=
  let l : MoveLimits := { v := some (fRat b32s (lims.getD 0 0)), rise := fRat b32s (lims.getD 1 0), fall := fRat b32s (lims.getD 2 0), j := fRat b32s (lims.getD 3 0) }
  planMove ta l (fRat b32s v0) (fRat b32s a0) dist ([3, (v0 : Int), a0, dist.num, dist.den] ++ lims.map Int.ofNat)

end Sys2Proof.Machine
end

