-- ==== Sys2Proof/Machine/Transitions.lean ====
section
/-! DEFINITION. Unit states (01 R27 to R30) and what happens to a unit when it changes state: queues emptied (04 R107, 06 R160), faces and
root following their members, the reserve watched (12 R281). -/

namespace Sys2Proof.Machine

/-- State codes of Table 1-3. -/
def usOff : Nat := 0
def usDisabled : Nat := 1
def usReady : Nat := 2
def usActive : Nat := 3
def usFault : Nat := 4
def usRetired : Nat := 5

/-- #0300 UnitState. -/
def State.st (s : State) (u : Nat) : Nat := s.n u 0x030000

/-- Put an event out at once, or with the next commit of the unit's cell (01 R15). The root's events wait for no cell. -/
def say (now : Bool) (s : State) (u code : Nat) (data : Bytes) : State := if now || u == 0 then publish s u code data else s.later u code data

/-- Some unit with a number in [lo, hi] has this state. -/
def anyState (s : State) (lo hi st : Nat) : Bool :=
  s.dict.any fun e => decide (lo ≤ e.1 / 2 ^ 24 ∧ e.1 / 2 ^ 24 ≤ hi) && e.1 % 2 ^ 24 == 0x030000 && e.2 == .num st

/-- The root's state (Table 1-3): ACTIVE with an axis ACTIVE, READY with an axis READY, else DISABLED. -/
def rootState (s : State) : Nat :=
  if anyState s 0x200 0x39F usActive then usActive else if anyState s 0x200 0x39F usReady then usReady else usDisabled

/-- The state that a remote member has last sent, DISABLED before it has sent one (01 R21, R24; log entry 44). -/
def remoteState (s : State) (c i : Nat) : Nat :=
  match mapFind (mapGet [] (s.cluster c).remote i) 0x030000 with
  | some v => (valInt v).toNat
  | none => usDisabled

/-- The states of a cluster's members, local and remote. -/
def memberStates (s : State) (p : ClusterPlan) : List Nat :=
  p.members.zipIdx.map fun m => match m.1 with
    | .device u => s.st u
    | .remote _ => remoteState s p.cluster m.2

/-- The state of a cluster face from its members (Table 1-3): the worst. -/
def faceState (sts : List Nat) : Nat :=
  if sts.any (· == usFault) then usFault
  else if sts.any (· == usDisabled) then usDisabled
  else if !sts.isEmpty && sts.all (· == usActive) then usActive
  else if !sts.isEmpty && sts.all (fun x => x == usReady || x == usActive) then usReady
  else usDisabled

/-- The state that a cluster's members give its face. -/
def clusterState (s : State) (c : Nat) : Nat := faceState (((clusterPlan s c).map (memberStates s)).getD [])

/-- Pins of the timing outputs owned by a unit. -/
def ownedPins (s : State) (u : Nat) : List Nat := (List.range 16).filter fun p => s.n 0 (0x092000 + p) == u && u != 0

/-- GtpIdleLevel of a timing output. -/
def idleLevel (s : State) (p : Nat) : Bool := s.b 0 (0x092100 + p)

/-- The owner of a timing output is READY or ACTIVE (06 R152). -/
def pinDriven (s : State) (p : Nat) : Bool :=
  let o := s.n 0 (0x092000 + p)
  o != 0 && (s.st o == usReady || s.st o == usActive)

/-- Where the delay line of sleeve bank p div 4 places an edge of a timing output (06 R152): in steps of 62.5 ps, or of 2 ns while the bank is
not calibrated (08 R197). -/
def pinGrid (s : State) (p t : Nat) : Nat := if s.n (0x101 + 8 * (p / 4)) 0x045000 = 0 then t else 32 * (rhe ((t : Rat) / 32)).toNat

/-- The instant of an edge on a pin that is due at t (06 R157): 20 ns after the edge before it at the earliest. -/
def pinInstant (s : State) (p t : Nat) : Nat :=
  let g := pinGrid s p t
  match (s.pin p).lastEdge with
  | none => g
  | some l => if l + 320 ≤ g then g else if s.n (0x101 + 8 * (p / 4)) 0x045000 = 0 then l + 320 else (l + 351) / 32 * 32

/-- Put an edge to a level on a pin, due at an instant (06 R157), with the count of a moved edge. A pin that is at the level takes no edge. Answers
the instant of the edge. -/
def placeEdge (s : State) (p t : Nat) (level : Bool) : Nat × State :=
  let x := s.pin p
  if x.level = level then (t, s)
  else
    let at' := pinInstant s p t
    let s1 := if pinGrid s p t < at' then bump s 0 (0x092300 + p) else s
    (at', (s1.setPin p { x with level := level, lastEdge := some at', edges := x.edges + 1 }).emit (.gtp p level at'))

/-- What has fallen due on a pin up to an instant is placed: edges of the pulse divider (09 R235) and ends of pulses (06 R157). -/
def pinUpTo (t : Nat) (s : State) (p : Nat) : State :=
  let x := s.pin p
  let due := (x.scheduled.filter fun e => decide (e.1 ≤ t)) ++ (x.pulseEnds.filter fun e => decide (e ≤ t)).map fun e => (e, false)
  if due.isEmpty then s
  else due.foldl (fun s e => (placeEdge s p e.1 e.2).2) (s.setPin p { x with
    scheduled := x.scheduled.filter fun e => decide (t < e.1)
    pulseEnds := x.pulseEnds.filter fun e => decide (t < e) })

/-- A timing output takes its idle level (06 R152): what has fallen due is placed, and what was still to come does not come. -/
def pinIdle (s : State) (p : Nat) : State :=
  let s1 := pinUpTo s.q s p
  let x := s1.pin p
  let l := idleLevel s p
  let t := s1.setPin p { x with level := l, pulseEnds := [], scheduled := [] }
  if x.level = l then t else t.emit (.gtp p l s.q)

/-- The edges that wait on a pin do not come: it has a new owner (06 R152). A pin that no owner drives is idle. -/
def pinReset (s : State) (p : Nat) : State :=
  if pinDriven s p then
    let s1 := pinUpTo s.q s p
    s1.setPin p { s1.pin p with pulseEnds := [], scheduled := [] }
  else pinIdle s p

/-- Recorder units. -/
def recorderUnits : List Nat := (List.range 16).map (0x400 + ·)

/-- Every ACTIVE recorder notes something that trigger conditions watch, for its next sample (11 R263). -/
def noteHit (s : State) (h : HitS) : State :=
  s.recorders.foldl (fun t e =>
    if t.st e.1 ≠ usActive then t
    else
      let r := t.rec' e.1
      t.setRec e.1 { r with hits := r.hits ++ [h] }) s

/-- Write a unit's state and publish STATE on a change (02 Table 2-9). Outside READY and ACTIVE the pins that the unit owns are idle. -/
def putState (now : Bool) (s : State) (u st : Nat) : State :=
  if s.st u = st then s
  else
    let s1 := say now (s.setN u 0x030000 st) u 0x0003 (leBytes 1 (s.st u) ++ leBytes 1 st)
    let s2 := if st = usReady ∨ st = usActive then s1 else (ownedPins s1 u).foldl pinIdle s1
    if st = usFault then
      noteHit (bump s2 u 0x0B0600) { kind := 5, unit := u, detail := u }
    else s2

/-- End the running segment of a face as aborted (04 Table 4-5). -/
def abortRun (now : Bool) (s : State) (a cause : Nat) : State :=
  match (s.axis a).traj.run with
  | none => s
  | some r =>
    let x := s.axis a
    let s1 := (s.setAxis a { x with traj := { x.traj with run := none } }).setN a 0x071300 0 |>.setN a 0x071400 0
    say now s1 a 0x0702 (leBytes 4 r.seg.tag ++ leBytes 1 cause)

/-- Take every waiting segment away. -/
def emptyQueue (s : State) (a : Nat) : State :=
  let x := s.axis a
  s.setAxis a { x with traj := { x.traj with queue := [] } }

/-- Leaving ACTIVE: the queue is emptied and a running segment aborted with cause 2; a follower leaves its master (04 R107, 05 Table 5-6). -/
def leaveActive (now : Bool) (s : State) (a : Nat) : State :=
  let s1 := emptyQueue (abortRun now s a 2) a
  let x := s1.axis a
  -- a set-point that holds a software limit stays there (04 R107, 05 Table 5-6)
  let base := if x.traj.limit.isSome then s1.i a 0x070100 - x.follow.applied else x.traj.base
  s1.setAxis a { x with traj := { x.traj with base := base, stop := none, stopAsked := false, abortAsked := false, limit := none },
                        follow := { x.follow with engaged := false, cam := none, qPrev := none, settings := [], released := false,
                                                  camReported := false } }

/-- A cluster face takes the state that its members give it. NO_CELL of its own keeps it in FAULT (12 R291). -/
def followFace (now : Bool) (s : State) (c : ClusterPlan) : State :=
  if (s.fault c.cluster).waiting then s
  else
    let st := faceState (memberStates s c)
    putState now (if s.st c.cluster = usActive ∧ st ≠ usActive then leaveActive now s c.cluster else s) c.cluster st

/-- Let the clusters that hold a unit, and the clusters that hold those, follow it. -/
def followFaces (now : Bool) : Nat → State → Nat → State
  | 0, s, _ => s
  | n + 1, s, u =>
    match (planClusters s).find? fun c => c.members.contains (.device u) with
    | none => s
    | some c => if (s.fault c.cluster).waiting then s else followFaces now n (followFace now s c) c.cluster

/-- A drain of the unit is in progress (17 R384). -/
def draining (s : State) (u : Nat) : Bool := s.n u 0x101200 != 0

/-- Cells READY in powered quadrants that no drain has taken out of the pool: #0313 ReserveCount (01 Table 1-6, 17 Table 17-6). -/
def reserveCount (s : State) : Nat :=
  (s.dict.filter fun e => decide (1 ≤ e.1 / 2 ^ 24 ∧ e.1 / 2 ^ 24 ≤ 0x80) && e.1 % 2 ^ 24 == 0x030000 && e.2 == .num usReady
    && !draining s (e.1 / 2 ^ 24)).length

/-- Publish RESERVE_LOW once when the reserve falls below its minimum (12 R281). -/
def watchReserve (s : State) : State :=
  let low := decide (reserveCount s < s.n 0 0x031400)
  let f := s.fault 0
  if low && f.reserveWas then publish (s.setFault 0 { f with reserveWas := false }) 0 0x0B06 (leBytes 1 (reserveCount s))
  else if !low && !f.reserveWas then s.setFault 0 { f with reserveWas := true }
  else s

/-- Move a unit to a state, with everything that reads its state. -/
def setUnit (now : Bool) (s : State) (u st : Nat) : State :=
  let s1 := followFaces now 31 (putState now s u st) u
  let s2 := if isAxis u then putState now s1 0 (rootState s1) else s1
  if isCell u then watchReserve s2 else s2

/-- An axis enters DISABLED, FAULT or RETIRED: latch FIFO and compare queue are emptied (06 R160). Entries that the commit under way has read
stay for it to publish (R150). -/
def dropLatchCompare (now : Bool) (s : State) (a : Nat) : State :=
  let x := s.axis a
  let kept := if now then [] else x.latch.fifo.filter LatchEntry.intake
  let gone := if now then x.latch.fifo else x.latch.fifo.filter fun e => !e.intake
  let nf := gone.length + x.latch.lost.count
  let first := if x.latch.lost.count = 0 then (gone.headD default).seq
    else if gone.isEmpty then x.latch.lost.first else min x.latch.lost.first (gone.headD default).seq
  let nc := x.compare.queue.length + x.compare.published.length
  let s1 := s.setAxis a { x with latch := { fifo := kept }, compare := { x.compare with queue := [], published := [] } }
  let s2 := bumpN s1 a 0x090A00 gone.length
  let s3 := if nf = 0 then s2 else say now s2 a 0x0902 (leBytes 4 first ++ leBytes 2 (min nf 65535))
  if nc = 0 then s3 else say now s3 a 0x0912 (leBytes 2 nc)

/-- The samples that latch and compare may still need, newest first: some of the newest, and the two newest valid ones (06 R147, R155, R159). -/
def keepSamples (x : AxisLatch) (l : List AxisSample) : List AxisSample :=
  let n := if x.edges.isEmpty then 4 else 64
  l.take n ++ ((l.drop n).filter AxisSample.ok).take (2 - ((l.take n).filter AxisSample.ok).length)

/-- A gate off from an instant on. -/
def gateCut (t : Nat) (g : GateS) : GateS :=
  { g with on := (g.on.filter fun i => decide (i.1 < t)).map fun i => (i.1, min i.2 t), pass := false, through := false }

/-- Turn every switch of a sleeve off from an instant on: its gate-on intervals end there (08 R192, R207). -/
def gatesOff (t : Nat) (p : SleevePwm) : SleevePwm :=
  { p with phases := p.phases.map fun f => { f with hi := gateCut t f.hi, lo := gateCut t f.lo } }

/-- A sleeve drives the hem state (08 R192). -/
def hem (s : State) (u : Nat) : State :=
  let x := s.sleeve u
  s.setSleeve u { x with pwm := { gatesOff s.q x.pwm with held := [], loaded := false, freewheel := false, stale := 0 } }

/-- Move an axis to a state other than ACTIVE or READY-from-below, with what R107 and R160 require. -/
def axisTo (now : Bool) (s : State) (a st : Nat) : State :=
  let s1 := if s.st a = usActive ∧ st ≠ usActive then leaveActive now s a else s
  let s2 := if st ≠ usActive ∧ st ≠ usReady then dropLatchCompare now s1 a else s1
  let s3 := if st ≠ usActive ∧ st ≠ usReady then emptyQueue s2 a else s2
  setUnit now s3 a st

/-- A sleeve bound to an axis takes its state from the axis (08 R191); FAULT and RETIRED sleeves keep theirs. -/
def sleeveFollows (now : Bool) (s : State) (a st : Nat) : State :=
  let k := sleeveOf s a
  if k = 0 ∨ s.st k = usFault ∨ s.st k = usRetired then s
  else
    let s1 := if st = usActive then s else hem s k
    putState now s1 k st

/-- The feedback of a sleeve is valid: VALID or EXTRAPOLATED (09 R214, Table 9-2). -/
def fbValid (s : State) (k : Nat) : Bool := s.n k 0x052000 == 2 || s.n k 0x052000 == 3

/-- Beats of an axis beat (04 R92). -/
def dividerOf (s : State) (a : Nat) : Nat := if isLocal a || isCluster a then 1 else max 1 (s.n a 0x070500)

/-- Seconds in some beats. -/
def secondsOf (s : State) (beats : Int) : Rat := (beats : Rat) * (s.tb : Rat) / 16000000000

/-- T_a in seconds. -/
def axisSeconds (s : State) (a : Nat) : Rat := secondsOf s (dividerOf s a)

/-- A binary32 value is zero. -/
def isZero32 (v : Nat) : Bool := v % 2 ^ 31 == 0

/-- A stop profile from a set-point, velocity and acceleration (04 R105). -/
def stopRun (s : State) (a : Nat) (p0 : Int) (v0 a0 : Nat) (toReady : Bool) : StopRun :=
  { p0 := p0, v0 := v0, a0 := a0, k := 0, toReady := toReady,
    plan := stopPlan (axisSeconds s a) v0 a0 (s.n a 0x070B00) (s.n a 0x070C00) }

/-- A stop profile from where the stage stands. -/
def stopFrom (s : State) (a : Nat) (toReady : Bool) : StopRun :=
  let t := (s.axis a).traj
  stopRun s a t.base t.vel t.acc toReady

end Sys2Proof.Machine
end

