-- ==== Sys2Proof/Machine/CanSlots.lean ====
section
/-! DEFINITION. The transmit slots of a CAN controller (15 R342 to R347): their states and how they end. -/

namespace Sys2Proof.Machine

/-- State codes of Table 15-3. -/
def slEmpty : Nat := 0
def slPending : Nat := 1
def slSending : Nat := 2
def slDone : Nat := 3
def slNoAck : Nat := 4
def slErrors : Nat := 5
def slAborted : Nat := 6

/-- A slot of a controller. -/
def slotOf (s : State) (u i : Nat) : TxSlotS := mapGet {} (s.canOf u).slots i

/-- Put a slot, with what #0E11 and #0E12 show of it. -/
def putSlot (s : State) (u i : Nat) (x : TxSlotS) : State :=
  let c := s.canOf u
  ((s.setCan u { c with slots := mapPut {} c.slots i x }).setN u (0x0E1100 + i) x.state).setN u (0x0E1200 + i) x.attempts

/-- A slot ends: its count, and TX_ENDED if REPORT is set (R344). -/
def endSlot (s : State) (u i outcome : Nat) : State :=
  let x := slotOf s u i
  let s1 := bump (putSlot s u i { x with state := outcome, abort := false }) u (if outcome = slDone then 0x0E1400 else 0x0E1500)
  if x.report then publish s1 u 0x0E01 (leBytes 1 i ++ leBytes 1 outcome ++ leBytes 1 x.attempts ++ [0] ++ leBytes 8 x.sof) else s1

/-- Slots in a state. -/
def slotsIn (s : State) (u st : Nat) : List Nat := (List.range 32).filter fun i => (slotOf s u i).state == st

/-- Every pending slot ends ABORTED (R340). -/
def canAbortPending (s : State) (u : Nat) : State := (slotsIn s u slPending).foldl (fun t i => endSlot t u i slAborted) s

/-- Entry into FAULT: CANn_TX goes recessive, so the frame in progress ends with the pending ones (R340). -/
def canAbortAll (s : State) (u : Nat) : State :=
  let s1 := (slotsIn s u slSending).foldl (fun t i => endSlot t u i slAborted) (canAbortPending s u)
  s1.setCan u { s1.canOf u with stopping := none, refSending := false, refData := none, refNext := false }

end Sys2Proof.Machine
end

