-- ==== Sys2Proof/Machine/Faults.lean ====
section
/-! DEFINITION. The fault collector (12): classes, sticky bits, shadows, reactions; the nurse's choice of a reserve cell and the start of a
rehousing. -/

namespace Sys2Proof.Machine

/-- Fault classes (12 R274). -/
inductive FClass where
  /-- Corrected, with the counter of Table 12-1. -/
  | corrected (counter : Nat)
  /-- Contained in the unit. -/
  | contained
  /-- Contained in a channel of the field die (14 R333). -/
  | channel (c : Nat)
  | fatal
deriving DecidableEq, Repr

/-- Class of a source (12 Table 12-1, 13 Table 13-5, 14 Table 14-4, 15 Table 15-6). -/
def classOf (k : UKind) (bit : Nat) : Option FClass :=
  match k with
  | .cell =>
    if bit = 2 then some (.corrected 0x032200) else if bit = 3 then some (.corrected 0x0B2000)
    else if bit = 5 then some (.corrected 0x0B2100) else if bit ≤ 8 then some .contained else none
  | .sleeve =>
    if bit = 3 then some (.corrected 0x045200) else if bit = 5 then some (.corrected 0x052A00)
    else if bit = 7 then some (.corrected 0x052B00) else if bit = 10 then some (.corrected 0x045100)
    else if bit = 11 then some (.corrected 0x0B2000) else if bit ≤ 12 then some .contained else none
  | .localAxis | .netAxis | .virtAxis => if bit ≤ 2 then some .contained else none
  | .recorder | .cluster => if bit = 0 then some .contained else none
  | .root => if bit = 3 then some (.corrected 0x0B2000) else if bit ≤ 6 then some .fatal else none
  | .can =>
    if bit = 0 then some (.corrected 0x0E0A00) else if bit = 1 then some (.corrected 0x0E0B00)
    else if bit = 2 then some (.corrected 0x0E1600) else if bit = 3 then some .contained else none
  | .veil =>
    if bit ≤ 3 then some .contained else if bit ≤ 10 then some (.corrected (0x0C0C00 + bit)) else none
  | .field =>
    if bit = 0 ∨ bit = 2 ∨ bit = 3 then some .contained
    else if bit = 1 then some (.corrected 0x0D0300)
    else if bit ≤ 35 then some (.channel (bit - 4))
    else if bit ≤ 51 then some (.corrected (0x0D2700 + (bit - 36)))
    else if bit ≤ 67 then some (.channel (32 + (bit - 52)))
    else if bit ≤ 83 then some (.channel (32 + (bit - 68)))
    else if bit ≤ 99 then some (.channel (32 + (bit - 84)))
    else if bit ≤ 103 then some (.channel (48 + (bit - 100)))
    else if bit ≤ 107 then some (.channel (48 + (bit - 104)))
    else if bit ≤ 111 then some (.corrected 0)
    else none

/-- Class code of FAULT_SOURCE (12 Table 12-7). -/
def FClass.code : FClass → Nat
  | .corrected _ => 0
  | .contained => 1
  | .channel _ => 1
  | .fatal => 2

/-- Sources that stay asserted until FAULT_SOURCE_INACTIVE or the end of their condition (12 R280): log entry 21. -/
def isLevelSource (k : UKind) (bit : Nat) : Bool :=
  match k with
  | .cell => bit == 6 || bit == 7
  | .sleeve => bit ≤ 2
  | .localAxis => bit == 2
  | .netAxis | .virtAxis => bit == 2
  | .recorder | .cluster => bit == 0
  | .veil => bit ≤ 3
  | .field => bit == 0 || bit == 2 || bit == 3 || (4 ≤ bit && bit ≤ 35) || (68 ≤ bit && bit ≤ 99) || (104 ≤ bit && bit ≤ 107)
  | _ => false

/-- Read a bit of a fault array object (base 0x0B00, 0x0B01 or 0x0B02). -/
def faultBit (s : State) (u obj bit : Nat) : Bool := bitOf (s.n u (obj * 256 + bit / 32)) (bit % 32)
/-- Write a bit of a fault array object. -/
def putFaultBit (s : State) (u obj bit : Nat) (v : Bool) : State :=
  s.setN u (obj * 256 + bit / 32) (putBit (s.n u (obj * 256 + bit / 32)) (bit % 32) v)

/-- Any contained source of the unit active now. -/
def containedActive (s : State) (u : Nat) (k : UKind) : Bool :=
  (List.range 128).any fun b => faultBit s u 0xB01 b && (classOf k b == some .contained)

/-! ### Shadows (12 R279, Table 12-2) -/

/-- Is a detector shadowed now? -/
def shadowed (s : State) (u bit : Nat) : Bool :=
  let f := s.fault u
  f.shadows.any (fun x => x.1.contains bit && decide (s.time.uptime < x.2)) || f.openShadows.any fun x => x.2.contains bit

/-- Shadow detectors of a unit for the reaction named by a unit number. -/
def openShadow (s : State) (u reaction : Nat) (bits : List Nat) : State :=
  let f := s.fault u
  s.setFault u { f with openShadows := f.openShadows ++ [(reaction, bits)] }

/-- The reaction has ended: its shadows last for the settle time more. -/
def closeShadow (s : State) (reaction settle : Nat) : State :=
  s.faults.foldl (fun t e =>
    let f := t.fault e.1
    match f.openShadows.filter fun x => x.1 == reaction with
    | [] => t
    | l => t.setFault e.1 { f with
        openShadows := f.openShadows.filter fun x => x.1 != reaction
        shadows := (f.shadows.filter fun x => decide (t.time.uptime < x.2)) ++ l.map fun x => (x.2, t.time.uptime + settle) }) s

/-- Quanta in a microsecond. -/
def quantaPerUs : Nat := 16000

/-! ### The grid (01 R407) -/

/-- Row of a cell. -/
def cellRow (c : Nat) : Int := ((c - 1) / 8 : Nat)
/-- Skewed column x of a cell. -/
def cellX (c : Nat) : Int := (((c - 1) % 8 : Nat) : Int) - (cellRow c - cellRow c % 2) / 2
/-- Hop distance between two cells. -/
def hops (a b : Nat) : Nat :=
  let dx := cellX a - cellX b
  let dr := cellRow a - cellRow b
  max (max dx.natAbs dr.natAbs) (dx + dr).natAbs
/-- Cells one link away. -/
def neighbours (c : Nat) : List Nat := ((List.range 129).drop 1).filter fun d => hops c d == 1
/-- Quadrant of a cell. -/
def quadrantOf (c : Nat) : Nat := (c - 1) / 32

/-- The READY cell in a powered quadrant nearest to a cell, ties to the lowest number (12 R286 step 2). -/
def chooseCell (s : State) (from' : Nat) : Option Nat :=
  (((List.range 129).drop 1).filter fun c => s.st c == usReady && !draining s c).foldl
    (fun best c => match best with
      | none => some c
      | some b => if hops from' c < hops from' b then some c else best) none

/-! ### Reactions -/

/-- Bits of FOLLOWING_ERROR. -/
def followingBits : List Nat := [0]

/-- STO groups that hold a sleeve (13 R298). -/
def groupsOfSleeve (s : State) (k : Nat) : List Nat :=
  (List.range 8).filter fun g => (readU16List (s.bs veilUnit (0x0C1000 + g))).contains k
where
  /-- The entries of an ARR of U16. -/
  readU16List : Bytes → List Nat
    | a :: b :: r => (a.toNat + 256 * b.toNat) :: readU16List r
    | _ => []

/-- The sleeves of a group. -/
def groupSleeves (s : State) (g : Nat) : List Nat := groupsOfSleeve.readU16List (s.bs veilUnit (0x0C1000 + g))

/-- Send the veil a safe-stop request for a local axis (12 R277), with its shadows (Table 12-2). -/
def requestSafeStop (s : State) (a : Nat) (controlled : Bool) : State :=
  let k := sleeveOf s a
  (groupsOfSleeve s k).foldl (fun t g =>
    let gr := t.group g
    let t1 := t.setGroup g { gr with requests := gr.requests ++ [(a, controlled)] }
    (groupSleeves t g).foldl (fun t k =>
      let t2 := openShadow t k (0x10000 + g) [0]
      if axisOf t2 k = 0 then t2 else openShadow t2 (axisOf t2 k) (0x10000 + g) followingBits) t1) s

/-- An axis enters FAULT and stops safely (12 R277). -/
def axisFault (s : State) (a : Nat) (controlled : Bool) : State :=
  if s.st a = usOff ∨ s.st a = usRetired then s
  else if s.st a = usFault then
    -- a stop with the loops closed gives way to an immediate one
    let x := s.axis a
    if controlled || x.traj.stop.isNone then s
    else requestSafeStop (s.setAxis a { x with traj := { x.traj with stop := none } }) a false
  else
    let ctl := controlled && isLocal a && servingCell s a != 0 && fbValid s (sleeveOf s a)
    let stop := stopFrom s a false
    let was := s.st a = usActive
    let s1 := axisTo true s a usFault
    let s2 := if ctl && was then
        let x := s1.axis a
        s1.setAxis a { x with traj := { x.traj with stop := some stop } }
      else s1
    let s3 := if was then sleeveFollows true s2 a (if ctl then usActive else usReady) else s2
    if isLocal a then requestSafeStop s3 a ctl else s3

/-- Record a hit (12 R275, R279): its sticky or shadowed bit and FAULT_SOURCE; the reaction is the caller's. Answers whether the hit counts. -/
def recordHit (s : State) (u bit : Nat) (k : UKind) (c : FClass) : State × Bool :=
  let s0 := if isLevelSource k bit then putFaultBit s u 0xB01 bit true else s
  if shadowed s u bit && c != .fatal then
    (if faultBit s u 0xB02 bit then s0
     else publish (putFaultBit s0 u 0xB02 bit true) u 0x0B01 (leBytes 2 bit ++ leBytes 1 c.code ++ [1]), false)
  else
    (if faultBit s u 0xB00 bit then s0
     else publish (putFaultBit s0 u 0xB00 bit true) u 0x0B01 (leBytes 2 bit ++ leBytes 1 c.code ++ [0]), true)

/-- A hit on an axis (Table 12-1). -/
def hitAxis (s : State) (a bit : Nat) : State :=
  match recordHit s a bit ((kindOf a).getD .virtAxis) .contained with
  | (s1, false) => s1
  | (s1, true) => axisFault s1 a (bit == 0)

/-- A hit on a sleeve. For the trips the axis leaves ACTIVE at the next beat start (08 R208); any other contained source gives the axis
SLEEVE_FAULT (12 R276). -/
def hitSleeve (s : State) (u bit : Nat) : State :=
  match classOf .sleeve bit with
  | none => s
  | some c =>
    match recordHit s u bit .sleeve c with
    | (s1, false) => s1
    | (s1, true) =>
      match c with
      | .corrected n => bump s1 u n
      | _ =>
        if s1.st u = usOff ∨ s1.st u = usRetired then s1
        else
          let s2 := hem (setUnit true s1 u usFault) u
          let a := axisOf s2 u
          if a = 0 then s2
          else if bit ≤ 2 then s2
          else hitAxis s2 a 1

/-- NO_CELL of a unit (12 R290, R291). -/
def hitNoCell (s : State) (u : Nat) : State :=
  if isAxis u then hitAxis s u 2
  else
    match recordHit s u 0 ((kindOf u).getD .recorder) .contained with
    | (s1, false) => s1
    | (s1, true) =>
      if s1.st u = usOff ∨ s1.st u = usRetired then s1
      else
        let s2 := setUnit true (s1.setFault u { s1.fault u with waiting := true }) u usFault
        if isCluster u then
          (((clusterPlan s2 u).map localMembers).getD []).foldl (fun t m =>
            if t.st m = usActive then
              let x := t.axis m
              t.setAxis m { x with traj := { x.traj with stop := some (stopFrom t m true) } }
            else t) s2
        else s2

/-- Rehousings being readied. -/
def activeRehousings (s : State) : Nat := (s.rehousings.filter fun r => r.target.isSome).length

/-- A kernel's cell. -/
def kernelCell (s : State) (k : Nat) : Nat := ((s.cells.find? fun e => e.2.work.kernel == some k).map Prod.fst).getD 0

/-- No reserve cell: NO_RESERVE, and NO_CELL for every unit of the role (12 R290). -/
def noReserve (s : State) (r : Rehouse) : State :=
  let s1 := publish s 0 0x0B05 (leBytes 2 r.failed)
  let s2 := r.work.units.foldl hitNoCell (closeShadow s1 r.failed (16 * s.tb))
  let c := s2.cell r.failed
  s2.setCell r.failed { c with work := {} }

/-- A self-test of some cell of the plan is running (01 R408). -/
def selfTests (s : State) : Bool := s.cells.any fun e => e.2.selfTest

/-- Choose a reserve cell for a role and start readying it (12 R286 steps 2 and 3, R289). -/
def startReadying (s : State) (r : Rehouse) : State :=
  if 4 ≤ activeRehousings s then { s with rehousings := s.rehousings ++ [r] }
  else match chooseCell s r.failed with
    | some t => setUnit true { s with rehousings := s.rehousings ++ [{ r with target := some t }] } t usActive
    | none =>
      -- a role of the plan waits while self-tests of the plan still run (01 R408)
      if r.kind = .fault ∨ (r.kind = .reassign ∧ !selfTests s) then noReserve { s with rehousings := s.rehousings ++ [{ r with noCell := true }] } r
      else { s with rehousings := s.rehousings ++ [r] }

/-- The cell's gate is shut and its work rehoused (12 R285, R286). -/
def rehouseCell (s : State) (c : Nat) : State :=
  let x := s.cell c
  let f := if x.committed ∧ s.beat.running then s.beat.n + 1 else x.hotBeat + 1
  let s1 := s.setCell c { x with shut := some s.q }
  let s2 := (neighbours c).foldl (fun t n => openShadow t n c [5, 6]) s1
  let s3 := x.work.units.foldl (fun t u => if isAxis u then openShadow t u c followingBits else t) s2
  match s3.rehousings.find? fun r => r.failed == c && r.target.isSome with
  | some r => -- a readied replacement becomes the target (12 R292)
    { s3 with rehousings := s3.rehousings.map fun q =>
        if q == r then { r with kind := .fault, stale := f, journaled := true, notBefore := min r.notBefore (s.beat.n + 1) } else q }
  | none =>
    -- a replacement that still waits for a cell goes with the role
    let waits := s3.rehousings.find? fun r => r.failed == c && r.replaces.isSome
    let rest := s3.rehousings.filter fun r => r.failed != c
    startReadying { s3 with rehousings := rest }
      { kind := .fault, failed := c, work := x.work, stale := f, replaces := waits.bind Rehouse.replaces, image := waits.bind Rehouse.image }

/-- A hit on a cell (Table 12-1). -/
def hitCell (s : State) (c bit : Nat) : State :=
  match classOf .cell bit with
  | none => s
  | some cl =>
    match recordHit s c bit .cell cl with
    | (s1, false) => s1
    | (s1, true) =>
      match cl with
      | .corrected n => bump s1 c n
      | _ =>
        if s1.st c = usOff ∨ s1.st c = usRetired then s1
        else
          let x := s1.cell c
          let s2 := setUnit true (s1.setCell c { x with selfTest := false }) c usFault
          match s2.rehousings.find? fun r => r.target == some c with
          | some r => -- the reserve cell faults during readying (12 R289)
            startReadying { s2 with rehousings := s2.rehousings.filter (· != r) } { r with target := none, readied := false }
          | none => if x.work.role = .none then s2 else rehouseCell s2 c

/-- A switch of the field die by its ChannelState element: outputs 0x20 to 0x2F, supplies 0x30 to 0x33 (14 R333). -/
def setSwitch (s : State) (c : Nat) (x : SwitchS) : State :=
  if c < 48 then { s with field := { s.field with outputs := mapPut {} s.field.outputs (c - 32) x } }
  else { s with field := { s.field with supplies := mapPut {} s.field.supplies (c - 48) x } }

/-- Every output and supply of the field die goes off (14 R325). -/
def switchesOff (s : State) : State := { s with field := { s.field with outputs := [], supplies := [] } }

/-- Take the command bit of a switch away. -/
def clearCommandBit (s : State) (c : Nat) : State :=
  if c < 48 then s.setN fieldUnit 0x0D2000 (clrBit (s.n fieldUnit 0x0D2000) (c - 32))
  else s.setN fieldUnit 0x0D3000 (clrBit (s.n fieldUnit 0x0D3000) (c - 48))

/-- A channel of the field die enters its own FAULT: a switch goes off and its command bit is cleared (14 R333). -/
def hitChannel (s : State) (c : Nat) : State :=
  let s1 := s.setN fieldUnit (0x0D4000 + c) 2
  if c < 32 then s1 else clearCommandBit (setSwitch s1 c {}) c

/-- A hit of any source (12 R274 to R276). -/
def hit (s : State) (u bit : Nat) : State :=
  match kindOf u with
  | none => s
  | some k =>
    match k with
    | .cell => hitCell s u bit
    | .sleeve => hitSleeve s u bit
    | .localAxis | .netAxis | .virtAxis => if bit ≤ 2 then hitAxis s u bit else s
    | .recorder | .cluster => if bit = 0 then hitNoCell s u else s
    | _ =>
      match classOf k bit with
      | none => s
      | some c =>
        match recordHit s u bit k c with
        | (s1, false) => s1
        | (s1, true) =>
          match c with
          | .corrected n => if n = 0 then s1 else bump s1 u n
          | .channel ch => hitChannel s1 ch
          | .fatal =>
            let s2 := s1.setN 0 0x0B0500 bit
            { s2 with rst := { s2.rst with raised := s2.rst.raised ++ [.fatal] } }
          | .contained =>
            let s2 := if k = .field ∧ bit ≠ 0 then switchesOff s1 else s1
            if s1.st u = usOff ∨ s1.st u = usRetired then s2
            else setUnit true (if k = .can then canAbortAll s2 u else s2) u usFault

/-- A source stops being active (12 R280). -/
def sourceInactive (s : State) (u bit : Nat) : State := putFaultBit s u 0xB01 bit false

end Sys2Proof.Machine
end

