-- ==== Sys2Proof/Machine/Kernel.lean ====
section
/-! DEFINITION. The cell datapath as a user kernel sees it (10 R237 to R243, R250, R251) and the check-value unit (R253, R254).
An instruction acts on the kernel's run of the beat in progress; where the kernel has no run, it changes nothing. -/

namespace Sys2Proof.Machine

/-! ### Instruction words (10 R239, Table 10-1, Table 10-2) -/

/-- Field of a word: bits lo to lo + n - 1. -/
def wField (w : Nat) (lo n : Nat) : Nat := w / 2 ^ lo % 2 ^ n

/-- A field as a register number of a kind with m registers. -/
def regOf (m : Nat) (v : Nat) : Option (Fin m) := if h : v < m then some ⟨v, h⟩ else none

/-- A REG word whose fields after the opcode are d, a, b, c, func. -/
def regWord (op d a b c f : Nat) : Nat := op * 2 ^ 24 + d * 2 ^ 19 + a * 2 ^ 14 + b * 2 ^ 9 + c * 2 ^ 4 + f
/-- An IMM word. -/
def immWord (op d : Nat) (imm : BitVec 19) : Nat := op * 2 ^ 24 + d * 2 ^ 19 + imm.toNat
/-- A PTR word. -/
def ptrWord (op d p mode : Nat) (off : BitVec 14) : Nat := op * 2 ^ 24 + d * 2 ^ 19 + p * 2 ^ 16 + mode * 2 ^ 14 + off.toNat

/-- The instruction that a word encodes for kernel k; none for an illegal word (R239, Table 10-2). -/
def kernelDecode (k : Nat) (word : W32) : Option Instr :=
  let w := word.toNat
  let op := wField w 24 8
  let d := wField w 19 5
  let a := wField w 14 5
  let b := wField w 9 5
  let c := wField w 4 5
  let f := wField w 0 4
  let imm : BitVec 19 := BitVec.ofNat 19 (wField w 0 19)
  let p : Fin 8 := ⟨wField w 16 3, Nat.mod_lt _ (by decide)⟩
  let mode := wField w 14 2
  let off : BitVec 14 := BitVec.ofNat 14 (wField w 0 14)
  let D : Fin 32 := ⟨d, Nat.mod_lt _ (by decide)⟩
  let A : Fin 32 := ⟨a, Nat.mod_lt _ (by decide)⟩
  let B : Fin 32 := ⟨b, Nat.mod_lt _ (by decide)⟩
  let C : Fin 32 := ⟨c, Nat.mod_lt _ (by decide)⟩
  let M : Fin 4 := ⟨mode, Nat.mod_lt _ (by decide)⟩
  let F : BitVec 4 := BitVec.ofNat 4 f
  let dab (x : Instr) : Option Instr := if c = 0 ∧ f = 0 then some x else none
  let da (x : Instr) : Option Instr := if b = 0 ∧ c = 0 ∧ f = 0 then some x else none
  match op with
  | 0x00 => if d = 0 ∧ a = 0 ∧ b = 0 ∧ c = 0 ∧ f = 0 then some (.nop k) else none
  | 0x01 => dab (.add k D A B)
  | 0x02 => dab (.sub k D A B)
  | 0x03 => dab (.and k D A B)
  | 0x04 => dab (.or k D A B)
  | 0x05 => dab (.xor k D A B)
  | 0x06 => dab (.shl k D A B)
  | 0x07 => dab (.shr k D A B)
  | 0x08 => dab (.sar k D A B)
  | 0x09 => dab (.mul k D A B)
  | 0x0A => dab (.mulh k D A B)
  | 0x0B => dab (.slt k D A B)
  | 0x0C => dab (.sltu k D A B)
  | 0x10 => some (.addi k D imm)
  | 0x11 => some (.andi k D imm)
  | 0x12 => some (.ori k D imm)
  | 0x13 => some (.lui k D imm)
  | 0x20 => dab (.fadd k D A B)
  | 0x21 => dab (.fsub k D A B)
  | 0x22 => dab (.fmul k D A B)
  | 0x23 => if f = 0 then some (.ffma k D A B C) else none
  | 0x24 => dab (.fdiv k D A B)
  | 0x25 => da (.fsqrt k D A)
  | 0x26 => da (.itof k D A)
  | 0x27 => da (.ftoi k D A)
  | 0x28 => dab (.flt k D A B)
  | 0x29 => da (.fneg k D A)
  | 0x2A => da (.fabs k D A)
  | 0x30 => if mode = 3 then none else (regOf 8 d).map fun v => .vld k v p M off
  | 0x31 => if mode = 3 then none else (regOf 8 d).map fun v => .vst k v p M off
  | 0x32 => (regOf 8 d).bind fun v => da (.vbc k v A)
  | 0x33 => (regOf 4 d).bind fun v => (regOf 8 b).bind fun y => if c = 0 ∧ f = 0 then some (.vfma k v A y) else none
  | 0x34 => (regOf 8 d).bind fun v => (regOf 8 b).bind fun y => if c = 0 ∧ f = 0 then some (.vmul k v A y) else none
  | 0x35 => (regOf 8 d).bind fun v => (regOf 8 a).bind fun x => (regOf 8 b).bind fun y =>
      if c = 0 ∧ f = 0 then some (.vadd k v x y) else none
  | 0x36 => (regOf 4 d).bind fun v => if a = 0 ∧ b = 0 ∧ c = 0 ∧ f = 0 then some (.aclr k v) else none
  | 0x37 => (regOf 8 d).bind fun v => (regOf 4 a).bind fun x => if b = 0 ∧ c = 0 ∧ f = 0 then some (.amov k v x) else none
  | 0x38 => (regOf 8 a).bind fun x => if b = 0 ∧ c = 0 ∧ f = 0 then some (.vsum k D x) else none
  | 0x39 => (regOf 8 a).bind fun x => if b = 0 ∧ c = 0 then some (.vget k D x F) else none
  | 0x3A => (regOf 8 d).bind fun v => if b = 0 ∧ c = 0 then some (.vput k v A F) else none
  | 0x40 => if mode = 3 then none else some (.ld k D p M off)
  | 0x41 => if mode = 3 then none else some (.st k D p M off)
  | 0x44 => (regOf 8 d).bind fun v => da (.pset k v A)
  | 0x45 => (regOf 8 d).bind fun v => da (.bset k v A)
  | 0x46 => (regOf 8 d).bind fun v => da (.lset k v A)
  | 0x47 => (regOf 8 a).bind fun x => if b = 0 ∧ c = 0 ∧ f = 0 then some (.pget k D x) else none
  | 0x48 => (regOf 8 a).bind fun x => if c = 0 ∧ f < 4 ∧ d ≤ 30 then some (.srch k D x B F) else none
  | 0x50 => some (.bz k D imm)
  | 0x51 => some (.bnz k D imm)
  | 0x52 => if d = 0 then some (.br k imm) else none
  | 0x53 => some (.loop k D imm)
  | 0x54 => some (.jal k D imm)
  | 0x55 => if d = 0 ∧ b = 0 ∧ c = 0 ∧ f = 0 then some (.jr k A) else none
  | 0x5F => if d = 0 ∧ a = 0 ∧ b = 0 ∧ c = 0 ∧ f = 0 then some (.endK k) else none
  | _ => none

/-- The word that encodes an instruction of a kernel; none for the other commands (Table 10-1, Table 10-2). -/
def kernelEncode (i : Instr) : Option Nat :=
  match i with
  | .nop _ => some (regWord 0x00 0 0 0 0 0)
  | .add _ d a b => some (regWord 0x01 d a b 0 0)
  | .sub _ d a b => some (regWord 0x02 d a b 0 0)
  | .and _ d a b => some (regWord 0x03 d a b 0 0)
  | .or _ d a b => some (regWord 0x04 d a b 0 0)
  | .xor _ d a b => some (regWord 0x05 d a b 0 0)
  | .shl _ d a b => some (regWord 0x06 d a b 0 0)
  | .shr _ d a b => some (regWord 0x07 d a b 0 0)
  | .sar _ d a b => some (regWord 0x08 d a b 0 0)
  | .mul _ d a b => some (regWord 0x09 d a b 0 0)
  | .mulh _ d a b => some (regWord 0x0A d a b 0 0)
  | .slt _ d a b => some (regWord 0x0B d a b 0 0)
  | .sltu _ d a b => some (regWord 0x0C d a b 0 0)
  | .addi _ d imm => some (immWord 0x10 d imm)
  | .andi _ d imm => some (immWord 0x11 d imm)
  | .ori _ d imm => some (immWord 0x12 d imm)
  | .lui _ d imm => some (immWord 0x13 d imm)
  | .fadd _ d a b => some (regWord 0x20 d a b 0 0)
  | .fsub _ d a b => some (regWord 0x21 d a b 0 0)
  | .fmul _ d a b => some (regWord 0x22 d a b 0 0)
  | .ffma _ d a b c => some (regWord 0x23 d a b c 0)
  | .fdiv _ d a b => some (regWord 0x24 d a b 0 0)
  | .fsqrt _ d a => some (regWord 0x25 d a 0 0 0)
  | .itof _ d a => some (regWord 0x26 d a 0 0 0)
  | .ftoi _ d a => some (regWord 0x27 d a 0 0 0)
  | .flt _ d a b => some (regWord 0x28 d a b 0 0)
  | .fneg _ d a => some (regWord 0x29 d a 0 0 0)
  | .fabs _ d a => some (regWord 0x2A d a 0 0 0)
  | .vld _ d p m off => some (ptrWord 0x30 d p m off)
  | .vst _ d p m off => some (ptrWord 0x31 d p m off)
  | .vbc _ d a => some (regWord 0x32 d a 0 0 0)
  | .vfma _ d a b => some (regWord 0x33 d a b 0 0)
  | .vmul _ d a b => some (regWord 0x34 d a b 0 0)
  | .vadd _ d a b => some (regWord 0x35 d a b 0 0)
  | .aclr _ d => some (regWord 0x36 d 0 0 0 0)
  | .amov _ d a => some (regWord 0x37 d a 0 0 0)
  | .vsum _ d a => some (regWord 0x38 d a 0 0 0)
  | .vget _ d a f => some (regWord 0x39 d a 0 0 f.toNat)
  | .vput _ d a f => some (regWord 0x3A d a 0 0 f.toNat)
  | .ld _ d p m off => some (ptrWord 0x40 d p m off)
  | .st _ d p m off => some (ptrWord 0x41 d p m off)
  | .pset _ d a => some (regWord 0x44 d a 0 0 0)
  | .bset _ d a => some (regWord 0x45 d a 0 0 0)
  | .lset _ d a => some (regWord 0x46 d a 0 0 0)
  | .pget _ d a => some (regWord 0x47 d a 0 0 0)
  | .srch _ d a b f => some (regWord 0x48 d a b 0 f.toNat)
  | .bz _ d imm => some (immWord 0x50 d imm)
  | .bnz _ d imm => some (immWord 0x51 d imm)
  | .br _ imm => some (immWord 0x52 0 imm)
  | .loop _ d imm => some (immWord 0x53 d imm)
  | .jal _ d imm => some (immWord 0x54 d imm)
  | .jr _ a => some (regWord 0x55 0 a 0 0 0)
  | .endK _ => some (regWord 0x5F 0 0 0 0 0)
  | _ => none

/-! ### The check-value unit (10 R253, R254) -/

/-- Width w of the unit: bits 4 to 0 of CRC_CFG plus 1. -/
def crcWidth (c : CrcUnit) : Nat := c.cfg.toNat % 32 + 1
/-- The mask of the width. -/
def crcMask (c : CrcUnit) : Nat := 2 ^ crcWidth c - 1

/-- Feed one bit. -/
def crcFeedBit (w g r : Nat) (x : Bool) : Nat :=
  let top := bitOf r (w - 1)
  let r' := (2 * r) % 2 ^ w
  if top != x then r'.xor (g % 2 ^ w) else r'

/-- Feed a byte: least significant bit first when REFIN is set. -/
def crcFeedByte (c : CrcUnit) (r : Nat) (b : Nat) : Nat :=
  let bits := if bitOf c.cfg.toNat 8 then (msbBits 8 b).reverse else msbBits 8 b
  bits.foldl (crcFeedBit (crcWidth c) c.poly.toNat) r

/-- Feed the low n bytes of a word, lowest first. -/
def crcFeed (c : CrcUnit) (n : Nat) (v : W32) : CrcUnit :=
  { c with value := BitVec.ofNat 32 ((leBytes n v.toNat).foldl (fun r b => crcFeedByte c r b.toNat) c.value.toNat) }

/-- CRC_RESULT. -/
def crcResult (c : CrcUnit) : W32 :=
  let w := crcWidth c
  let r := if bitOf c.cfg.toNat 9 then revBits w c.value.toNat else c.value.toNat % 2 ^ w
  BitVec.ofNat 32 (if bitOf c.cfg.toNat 10 then r.xor (crcMask c) else r)

/-- Write a register of the unit at offset o; the cycles it stays busy. A width field below 2 is an invalid configuration. -/
def crcWrite (c : CrcUnit) (o : Nat) (v : W32) : Except Nat (CrcUnit × Nat) :=
  match o with
  | 0x00 => .ok ({ c with poly := v, value := BitVec.ofNat 32 (c.value.toNat % 2 ^ crcWidth c) }, 0)
  | 0x04 =>
    if v.toNat % 32 < 2 then .error 4
    else .ok ({ c with cfg := v &&& 0x71F, value := BitVec.ofNat 32 (c.value.toNat % 2 ^ (v.toNat % 32 + 1)) }, 0)
  | 0x08 => .ok ({ c with init := v, value := BitVec.ofNat 32 (v.toNat % 2 ^ crcWidth c) }, 0)
  | 0x0C => .ok ({ c with value := BitVec.ofNat 32 (v.toNat % 2 ^ crcWidth c) }, 0)
  | 0x14 => .ok (crcFeed c 1 v, 1)
  | 0x18 => .ok (crcFeed c 2 v, 2)
  | 0x1C => .ok (crcFeed c 4 v, 4)
  | _ => .error 1

/-- Read a register of the unit. -/
def crcRead (c : CrcUnit) (o : Nat) : Except Nat W32 :=
  match o with
  | 0x00 => .ok c.poly
  | 0x04 => .ok c.cfg
  | 0x08 => .ok c.init
  | 0x0C => .ok c.value
  | 0x10 => .ok (crcResult c)
  | _ => .error 1

/-! ### A run and its memory (10 R243, Table 10-3) -/

/-- A run with the cycles that its present instruction has waited for the check-value unit, and the kernel it belongs to. -/
structure KCtx where
  kernel : KernelS
  r : KRun
  wait : Nat := 0

/-- The cycles at which the present access takes place. -/
def KCtx.now (c : KCtx) : Nat := c.r.used + c.wait

/-- Wait until the check-value unit is free (R254). -/
def KCtx.waitCrc (c : KCtx) : KCtx := if c.now < c.r.crc.busyUntil then { c with wait := c.r.crc.busyUntil - c.r.used } else c

/-- A word that nothing has written in this run: export outputs and the state area hold committed values, every other word is undefined. -/
def KCtx.fresh (c : KCtx) (a : Nat) : W32 :=
  if 0x10300 ≤ a ∧ a < 0x10300 + c.kernel.image.stateBytes then c.kernel.state.getD ((a - 0x10300) / 4) 0
  else Config.scratchWord c.r.serial a

/-- Why an instruction faults (R251): the cause, and the cycles it has waited. -/
abbrev KFault := Nat × Nat

/-- Read a word (Table 10-3). -/
def kRead (c : KCtx) (a : Nat) : Except KFault (W32 × KCtx) :=
  if a % 4 ≠ 0 then .error (2, c.wait)
  else if 0x10000 ≤ a ∧ a < 0x10080 then .ok (c.r.inputs.getD ((a - 0x10000) / 4) (c.fresh a), c)
  else if 0x10080 ≤ a ∧ a < 0x10100 then .ok ((mapFind c.r.mem a).getD (c.fresh a), c)
  else if 0x10100 ≤ a ∧ a < 0x10200 then .ok (c.r.params.getD ((a - 0x10100) / 4) (c.fresh a), c)
  else if 0x10200 ≤ a ∧ a < 0x18000 then .ok ((mapFind c.r.mem a).getD (c.fresh a), c)
  else if 0x20000 ≤ a ∧ a < 0x20020 then
    match crcRead c.r.crc (a - 0x20000) with
    | .error e => .error (e, c.waitCrc.wait)
    | .ok v => .ok (v, c.waitCrc)
  else match a with
    | 0x20100 => .ok (BitVec.ofNat 32 c.r.beat, c)
    | 0x20104 => .ok (BitVec.ofNat 32 (c.r.beat / 2 ^ 32), c)
    | 0x20108 => .ok (BitVec.ofNat 32 c.r.time, c)
    | 0x2010C => .ok (BitVec.ofNat 32 (c.r.time / 2 ^ 32), c)
    | 0x20110 => .ok (BitVec.ofNat 32 (c.kernel.image.budget - c.r.used), c)
    | 0x20114 => .ok (c.r.flags, c)
    | 0x20118 => .ok (c.r.inStale, c)
    | 0x2011C => .ok ((mapFind c.r.mem a).getD 0, c)
    | _ => .error (1, c.wait)

/-- Write a word (Table 10-3). -/
def kWrite (c : KCtx) (a : Nat) (v : W32) : Except KFault KCtx :=
  if a % 4 ≠ 0 then .error (2, c.wait)
  else if (0x10080 ≤ a ∧ a < 0x10100) ∨ (0x10200 ≤ a ∧ a < 0x18000) ∨ a = 0x2011C then
    .ok { c with r := { c.r with mem := mapIns c.r.mem a v } }
  else if 0x20000 ≤ a ∧ a < 0x20020 then
    match crcWrite c.r.crc (a - 0x20000) v with
    | .error e => .error (e, c.waitCrc.wait)
    | .ok (u, busy) =>
      let c1 := c.waitCrc
      .ok { c1 with r := { c1.r with crc := { u with busyUntil := if busy = 0 then c1.r.crc.busyUntil else c1.now + busy } } }
  else .error (1, c.wait)

/-- wrap(x) of R241 for a pointer. -/
def kWrap (r : KRun) (p : Fin 8) (x : W32) : W32 :=
  if r.l[p] = 0 then x else BitVec.ofInt 32 ((r.b[p].toNat : Int) + (x.toInt - (r.b[p].toInt)) % (r.l[p].toNat : Int))

/-- The base and the length of a pointer are multiples of 4 (R241). -/
def kAligned (r : KRun) (p : Fin 8) : Bool := r.b[p].toNat % 4 == 0 && r.l[p].toNat % 4 == 0

/-- Address of a PTR instruction and the pointer after it (R241). Mode 3 is illegal. -/
def kAddr (r : KRun) (p : Fin 8) (mode : Fin 4) (off : BitVec 14) : Except KFault (W32 × W32) :=
  let o : W32 := off.signExtend 32
  if mode = 3 then .error (0, 0)
  else if !kAligned r p then .error (2, 0)
  else if mode = 0 then .ok (kWrap r p (r.p[p] + o), r.p[p])
  else if mode = 1 then .ok (r.p[p], kWrap r p (r.p[p] + o))
  else .ok (kWrap r p (r.p[p] + o), kWrap r p (r.p[p] + o))

/-- The four word addresses of a vector access. -/
def kFour (r : KRun) (p : Fin 8) (a : W32) : List Nat := [a.toNat, (kWrap r p (a + 4)).toNat, (kWrap r p (a + 8)).toNat, (kWrap r p (a + 12)).toNat]

/-- Read several words in order. -/
def kReads (c : KCtx) : List Nat → Except KFault (List W32 × KCtx)
  | [] => .ok ([], c)
  | a :: as =>
    match kRead c a with
    | .error e => .error e
    | .ok (v, c1) => match kReads c1 as with
      | .error e => .error e
      | .ok (vs, c2) => .ok (v :: vs, c2)

/-- Write several words in order. -/
def kWrites (c : KCtx) : List (Nat × W32) → Except KFault KCtx
  | [] => .ok c
  | (a, v) :: as => match kWrite c a v with
    | .error e => .error e
    | .ok c1 => kWrites c1 as

/-! ### Registers -/

/-- A scalar register; s0 reads 0. -/
def KRun.getS (r : KRun) (i : Fin 32) : W32 := if i = 0 then 0 else r.s[i]
/-- Write a scalar register; a write to s0 is discarded. -/
def KRun.putS (r : KRun) (i : Fin 32) (v : W32) : KRun := if i = 0 then r else { r with s := r.s.set i v }
/-- Write a vector register. -/
def KRun.putV (r : KRun) (i : Fin 8) (v : Vector W32 4) : KRun := { r with v := r.v.set i v }
/-- Write an accumulator. -/
def KRun.putA (r : KRun) (i : Fin 4) (v : Vector W32 4) : KRun := { r with acc := r.acc.set i v }
/-- Write a pointer. -/
def KRun.putP (r : KRun) (i : Fin 8) (v : W32) : KRun := { r with p := r.p.set i v }

/-- A binary32 operation on words. -/
def fop2 (f : Nat → Nat → Nat) (x y : W32) : W32 := BitVec.ofNat 32 (f x.toNat y.toNat)

/-- Signed integer of a binary32 value: nearest even, saturating; NaN gives 0. -/
def ftoi32 (x : W32) : W32 :=
  match fDec b32 x.toNat with
  | .nan => 0
  | .inf n => if n then 0x80000000 else 0x7FFFFFFF
  | .fin _ q => let i := rhe q
    if i < -2147483648 then 0x80000000 else if 2147483647 < i then 0x7FFFFFFF else BitVec.ofInt 32 i

/-! ### Execution (10 R250, R251) -/

/-- The run of a kernel ends for the beat with an exception (R251): the copy of the state area and the port writes are discarded. -/
def kException (s : State) (k : Nat) (cause : Nat) : State :=
  let x := s.kernel k
  match x.run with
  | none => s
  | some r =>
    let s1 := s.setKernel k { x with run := some { r with mem := [], done := true } }
    let s2 := publish (s1.setN 0 (0x110400 + k) 2) x.home 0x1102 (leBytes 1 k ++ leBytes 1 cause ++ leBytes 2 r.pc)
    bump s2 0 (0x110800 + k)

/-- The budget is exhausted before end: the kernel is stopped and its cell is late (R250). -/
def kOverrun (s : State) (k : Nat) : State :=
  let x := s.kernel k
  match x.run with
  | none => s
  | some r =>
    if r.done then s
    else
      let s1 := s.setKernel k { x with run := some { r with mem := [], done := true } }
      let c := kernelCell s1 k
      let s2 := if c = 0 then s1 else s1.setCell c { s1.cell c with late := true }
      bump (publish s2 x.home 0x1101 (leBytes 1 k ++ leBytes 4 x.image.budget)) 0 (0x110700 + k)

/-- What an instruction does to the run: the new context and its cycles, or the cause of an exception and its cycles. -/
abbrev KEffect := KCtx → Except KFault (KCtx × Nat)

/-- A fault of an instruction of so many cycles; an illegal instruction has none. -/
def kFaulted (cycles : Nat) (e : KFault) : KFault := if e.1 = 0 then (0, 0) else (e.1, e.2 + cycles)

/-- Issue one instruction of kernel k: it is issued when its cycles fit the budget that is left (R250), and then takes effect or ends in an exception
(R251). pc has been moved by the effect. -/
def kIssue (k : Nat) (e : KEffect) (s : State) : State :=
  let x := s.kernel k
  match x.run with
  | none => s
  | some r =>
    if r.done then s
    else
      match e { kernel := x, r := r } with
      | .error (cause, cycles) => if x.image.budget < r.used + cycles then kOverrun s k else kException s k cause
      | .ok (c, cycles) =>
        let n := c.wait + cycles
        if x.image.budget < r.used + n then kOverrun s k
        else s.setKernel k { x with run := some { c.r with used := r.used + n } }

/-- An effect on the registers alone, in so many cycles, going on to the next instruction. -/
def kReg (cycles : Nat) (f : KRun → KRun) : KEffect := fun c => .ok ({ c with r := { f c.r with pc := c.r.pc + 1 } }, cycles)

/-- Go to an instruction index; outside the code is an exception of cause 3. -/
def kGoto (c : KCtx) (target : Int) (r : KRun) : Except KFault KCtx :=
  if 0 ≤ target ∧ target < c.kernel.image.code.length then .ok { c with r := { r with pc := target.toNat } } else .error (3, 2)

/-- A branch by imm when taken. -/
def kBranch (imm : BitVec 19) (taken : KRun → Bool) (f : KRun → KRun) : KEffect := fun c =>
  let r := f c.r
  if taken r then (kGoto c ((c.r.pc : Int) + 1 + imm.toInt) r).map fun c' => (c', 2)
  else .ok ({ c with r := { r with pc := c.r.pc + 1 } }, 1)

/-- A three-register scalar operation. -/
def kAlu (cycles : Nat) (d a b : Fin 32) (f : W32 → W32 → W32) : KEffect :=
  kReg cycles fun r => r.putS d (f (r.getS a) (r.getS b))

/-- A two-register scalar operation. -/
def kUn (cycles : Nat) (d a : Fin 32) (f : W32 → W32) : KEffect := kReg cycles fun r => r.putS d (f (r.getS a))

/-- An operation on a register and its immediate. -/
def kImm (d : Fin 32) (f : W32 → W32) : KEffect := kReg 1 fun r => r.putS d (f (r.getS d))

/-- Lanes combined by an operation. -/
def lanes (f : Fin 4 → W32) : Vector W32 4 := Vector.ofFn f

/-- vld (R241). -/
def kVld (d p : Fin 8) (mode : Fin 4) (off : BitVec 14) : KEffect := fun c =>
  match kAddr c.r p mode off with
  | .error e => .error (kFaulted 2 e)
  | .ok (a, p') =>
    match kReads c (kFour c.r p a) with
    | .error e => .error (kFaulted 2 e)
    | .ok (vs, c1) => .ok ({ c1 with r := { (c1.r.putV d (lanes fun i => vs.getD i 0)).putP p p' with pc := c.r.pc + 1 } }, 2)

/-- vst (R241). -/
def kVst (d p : Fin 8) (mode : Fin 4) (off : BitVec 14) : KEffect := fun c =>
  match kAddr c.r p mode off with
  | .error e => .error (kFaulted 2 e)
  | .ok (a, p') =>
    match kWrites c ((kFour c.r p a).zip c.r.v[d].toList) with
    | .error e => .error (kFaulted 2 e)
    | .ok c1 => .ok ({ c1 with r := { c1.r.putP p p' with pc := c.r.pc + 1 } }, 2)

/-- ld (R241). The pointer is updated before the register is written. -/
def kLd (d : Fin 32) (p : Fin 8) (mode : Fin 4) (off : BitVec 14) : KEffect := fun c =>
  match kAddr c.r p mode off with
  | .error e => .error (kFaulted 2 e)
  | .ok (a, p') =>
    match kRead c a.toNat with
    | .error e => .error (kFaulted 2 e)
    | .ok (v, c1) => .ok ({ c1 with r := { (c1.r.putS d v).putP p p' with pc := c.r.pc + 1 } }, 2)

/-- st (R241). -/
def kSt (d : Fin 32) (p : Fin 8) (mode : Fin 4) (off : BitVec 14) : KEffect := fun c =>
  match kAddr c.r p mode off with
  | .error e => .error (kFaulted 2 e)
  | .ok (a, p') =>
    match kWrite c a.toNat (c.r.getS d) with
    | .error e => .error (kFaulted 2 e)
    | .ok c1 => .ok ({ c1 with r := { c1.r.putP p p' with pc := c.r.pc + 1 } }, 2)

/-- A store of v to a check-value register at offset o (R254). -/
def kCrcStore (o : Nat) (v : W32) : KEffect := fun c =>
  match kWrite c (0x20000 + o) v with
  | .error e => .error (kFaulted 2 e)
  | .ok c1 => .ok ({ c1 with r := { c1.r with pc := c.r.pc + 1 } }, 2)

/-- x is better than y in a search: maximum or minimum, integer or binary32. -/
def srchBetter (func : Nat) (x y : W32) : Bool :=
  match bitOf func 1, bitOf func 0 with
  | true, true => decide (y.toInt < x.toInt)
  | true, false => decide (x.toInt < y.toInt)
  | false, true => fLt b32 y.toNat x.toNat
  | false, false => fLt b32 x.toNat y.toNat

/-- A NaN entry in a binary32 search. -/
def srchSkips (func : Nat) (x : W32) : Bool := !bitOf func 1 && fDec b32 x.toNat == .nan

/-- The extreme entry and its index; ties go to the lowest index. -/
def srchBest (func : Nat) : List W32 → Nat → Option (W32 × Nat) → Option (W32 × Nat)
  | [], _, best => best
  | x :: xs, i, best =>
    srchBest func xs (i + 1) (if srchSkips func x then best else match best with
      | none => some (x, i)
      | some (y, j) => if srchBetter func x y then some (x, i) else some (y, j))

/-- The n word addresses of a search. -/
def srchAddrs (r : KRun) (p : Fin 8) (n : Nat) : List Nat := (List.range n).map fun i => (kWrap r p (r.p[p] + BitVec.ofNat 32 (4 * i))).toNat

/-- srch (R242). -/
def kSrch (d : Fin 32) (p : Fin 8) (b : Fin 32) (func : BitVec 4) : KEffect := fun c =>
  let n := (c.r.getS b).toNat
  if n = 0 ∨ 4096 < n ∨ 30 < d.val then .error (0, 0)
  else if !kAligned c.r p then .error (2, 4 + (n + 3) / 4)
  else
    match kReads c (c.r.p[p].toNat :: (srchAddrs c.r p n).drop 1) with
    | .error e => .error (kFaulted (4 + (n + 3) / 4) e)
    | .ok (vs, c1) =>
      let (v, i) : W32 × W32 := match srchBest func.toNat vs 0 none with
        | some (v, i) => (v, BitVec.ofNat 32 i)
        | none => (0x7FC00000, 0xFFFFFFFF)
      .ok ({ c1 with r := { (c1.r.putS d v).putS (d + 1) i with pc := c.r.pc + 1 } }, 4 + (n + 3) / 4)

/-! ### The meanings -/

/-- nop. -/
def doNop (k : Nat) (s : State) : State := kIssue k (kReg 1 id) s
/-- add. -/
def doAdd (k : Nat) (d a b : Fin 32) (s : State) : State := kIssue k (kAlu 1 d a b (· + ·)) s
/-- sub. -/
def doSub (k : Nat) (d a b : Fin 32) (s : State) : State := kIssue k (kAlu 1 d a b (· - ·)) s
/-- and. -/
def doAnd (k : Nat) (d a b : Fin 32) (s : State) : State := kIssue k (kAlu 1 d a b (· &&& ·)) s
/-- or. -/
def doOr (k : Nat) (d a b : Fin 32) (s : State) : State := kIssue k (kAlu 1 d a b (· ||| ·)) s
/-- xor. -/
def doXor (k : Nat) (d a b : Fin 32) (s : State) : State := kIssue k (kAlu 1 d a b (· ^^^ ·)) s
/-- shl. -/
def doShl (k : Nat) (d a b : Fin 32) (s : State) : State := kIssue k (kAlu 1 d a b fun x y => x <<< (y.toNat % 32)) s
/-- shr. -/
def doShr (k : Nat) (d a b : Fin 32) (s : State) : State := kIssue k (kAlu 1 d a b fun x y => x >>> (y.toNat % 32)) s
/-- sar. -/
def doSar (k : Nat) (d a b : Fin 32) (s : State) : State := kIssue k (kAlu 1 d a b fun x y => x.sshiftRight (y.toNat % 32)) s
/-- mul. -/
def doMul (k : Nat) (d a b : Fin 32) (s : State) : State := kIssue k (kAlu 2 d a b (· * ·)) s
/-- mulh. -/
def doMulh (k : Nat) (d a b : Fin 32) (s : State) : State :=
  kIssue k (kAlu 2 d a b fun x y => BitVec.ofInt 32 (x.toInt * y.toInt / 4294967296)) s
/-- slt. -/
def doSlt (k : Nat) (d a b : Fin 32) (s : State) : State := kIssue k (kAlu 1 d a b fun x y => if x.slt y then 1 else 0) s
/-- sltu. -/
def doSltu (k : Nat) (d a b : Fin 32) (s : State) : State := kIssue k (kAlu 1 d a b fun x y => if x.ult y then 1 else 0) s
/-- addi: a sign-extended immediate. -/
def doAddi (k : Nat) (d : Fin 32) (imm : BitVec 19) (s : State) : State := kIssue k (kImm d (· + imm.signExtend 32)) s
/-- andi: a zero-extended immediate. -/
def doAndi (k : Nat) (d : Fin 32) (imm : BitVec 19) (s : State) : State := kIssue k (kImm d (· &&& imm.zeroExtend 32)) s
/-- ori: a zero-extended immediate. -/
def doOri (k : Nat) (d : Fin 32) (imm : BitVec 19) (s : State) : State := kIssue k (kImm d (· ||| imm.zeroExtend 32)) s
/-- lui: imm times 2^13. -/
def doLui (k : Nat) (d : Fin 32) (imm : BitVec 19) (s : State) : State := kIssue k (kImm d fun _ => imm.signExtend 32 <<< 13) s
/-- fadd. -/
def doFadd (k : Nat) (d a b : Fin 32) (s : State) : State := kIssue k (kAlu 2 d a b (fop2 (fAdd b32))) s
/-- fsub. -/
def doFsub (k : Nat) (d a b : Fin 32) (s : State) : State := kIssue k (kAlu 2 d a b (fop2 (fSub b32))) s
/-- fmul. -/
def doFmul (k : Nat) (d a b : Fin 32) (s : State) : State := kIssue k (kAlu 2 d a b (fop2 (fMul b32))) s
/-- ffma: one rounding. -/
def doFfma (k : Nat) (d a b c : Fin 32) (s : State) : State :=
  kIssue k (kReg 3 fun r => r.putS d (BitVec.ofNat 32 (fFma b32 (r.getS a).toNat (r.getS b).toNat (r.getS c).toNat))) s
/-- fdiv. -/
def doFdiv (k : Nat) (d a b : Fin 32) (s : State) : State := kIssue k (kAlu 12 d a b (fop2 (fDiv b32))) s
/-- fsqrt. -/
def doFsqrt (k : Nat) (d a : Fin 32) (s : State) : State := kIssue k (kUn 10 d a fun x => BitVec.ofNat 32 (fSqrt b32 x.toNat)) s
/-- itof. -/
def doItof (k : Nat) (d a : Fin 32) (s : State) : State := kIssue k (kUn 2 d a fun x => BitVec.ofNat 32 (fOfInt b32 x.toInt)) s
/-- ftoi. -/
def doFtoi (k : Nat) (d a : Fin 32) (s : State) : State := kIssue k (kUn 2 d a ftoi32) s
/-- flt. -/
def doFlt (k : Nat) (d a b : Fin 32) (s : State) : State :=
  kIssue k (kAlu 1 d a b fun x y => if fLt b32 x.toNat y.toNat then 1 else 0) s
/-- fneg. -/
def doFneg (k : Nat) (d a : Fin 32) (s : State) : State := kIssue k (kUn 1 d a (· ^^^ 0x80000000)) s
/-- fabs. -/
def doFabs (k : Nat) (d a : Fin 32) (s : State) : State := kIssue k (kUn 1 d a (· &&& 0x7FFFFFFF)) s
/-- vld. -/
def doVld (k : Nat) (d p : Fin 8) (mode : Fin 4) (off : BitVec 14) (s : State) : State := kIssue k (kVld d p mode off) s
/-- vst. -/
def doVst (k : Nat) (d p : Fin 8) (mode : Fin 4) (off : BitVec 14) (s : State) : State := kIssue k (kVst d p mode off) s
/-- vbc. -/
def doVbc (k : Nat) (d : Fin 8) (a : Fin 32) (s : State) : State := kIssue k (kReg 1 fun r => r.putV d (lanes fun _ => r.getS a)) s
/-- vfma: one rounding per lane. -/
def doVfma (k : Nat) (d : Fin 4) (a : Fin 32) (b : Fin 8) (s : State) : State :=
  kIssue k (kReg 3 fun r => r.putA d (lanes fun i => BitVec.ofNat 32 (fFma b32 (r.getS a).toNat r.v[b][i].toNat r.acc[d][i].toNat))) s
/-- vmul. -/
def doVmul (k : Nat) (d : Fin 8) (a : Fin 32) (b : Fin 8) (s : State) : State :=
  kIssue k (kReg 3 fun r => r.putV d (lanes fun i => fop2 (fMul b32) (r.getS a) r.v[b][i])) s
/-- vadd. -/
def doVadd (k : Nat) (d a b : Fin 8) (s : State) : State :=
  kIssue k (kReg 2 fun r => r.putV d (lanes fun i => fop2 (fAdd b32) r.v[a][i] r.v[b][i])) s
/-- aclr. -/
def doAclr (k : Nat) (d : Fin 4) (s : State) : State := kIssue k (kReg 1 fun r => r.putA d (lanes fun _ => 0)) s
/-- amov. -/
def doAmov (k : Nat) (d : Fin 8) (a : Fin 4) (s : State) : State := kIssue k (kReg 1 fun r => r.putV d r.acc[a]) s
/-- vsum. -/
def doVsum (k : Nat) (d : Fin 32) (a : Fin 8) (s : State) : State :=
  kIssue k (kReg 4 fun r => r.putS d (fop2 (fAdd b32) (fop2 (fAdd b32) r.v[a][0] r.v[a][1]) (fop2 (fAdd b32) r.v[a][2] r.v[a][3]))) s
/-- A lane number: func mod 4. -/
def laneOf (f : BitVec 4) : Fin 4 := ⟨f.toNat % 4, Nat.mod_lt _ (by decide)⟩
/-- vget. -/
def doVget (k : Nat) (d : Fin 32) (a : Fin 8) (func : BitVec 4) (s : State) : State :=
  kIssue k (kReg 1 fun r => r.putS d r.v[a][laneOf func]) s
/-- vput. -/
def doVput (k : Nat) (d : Fin 8) (a : Fin 32) (func : BitVec 4) (s : State) : State :=
  kIssue k (kReg 1 fun r => r.putV d (r.v[d].set (laneOf func) (r.getS a))) s
/-- ld. -/
def doLd (k : Nat) (d : Fin 32) (p : Fin 8) (mode : Fin 4) (off : BitVec 14) (s : State) : State := kIssue k (kLd d p mode off) s
/-- st. -/
def doSt (k : Nat) (d : Fin 32) (p : Fin 8) (mode : Fin 4) (off : BitVec 14) (s : State) : State := kIssue k (kSt d p mode off) s
/-- pset. -/
def doPset (k : Nat) (d : Fin 8) (a : Fin 32) (s : State) : State := kIssue k (kReg 1 fun r => r.putP d (r.getS a)) s
/-- bset. -/
def doBset (k : Nat) (d : Fin 8) (a : Fin 32) (s : State) : State := kIssue k (kReg 1 fun r => { r with b := r.b.set d (r.getS a) }) s
/-- lset. -/
def doLset (k : Nat) (d : Fin 8) (a : Fin 32) (s : State) : State := kIssue k (kReg 1 fun r => { r with l := r.l.set d (r.getS a) }) s
/-- pget. -/
def doPget (k : Nat) (d : Fin 32) (a : Fin 8) (s : State) : State := kIssue k (kReg 1 fun r => r.putS d r.p[a]) s
/-- srch. -/
def doSrch (k : Nat) (d : Fin 32) (a : Fin 8) (b : Fin 32) (func : BitVec 4) (s : State) : State := kIssue k (kSrch d a b func) s
/-- bz. -/
def doBz (k : Nat) (d : Fin 32) (imm : BitVec 19) (s : State) : State := kIssue k (kBranch imm (fun r => r.getS d == 0) id) s
/-- bnz. -/
def doBnz (k : Nat) (d : Fin 32) (imm : BitVec 19) (s : State) : State := kIssue k (kBranch imm (fun r => r.getS d != 0) id) s
/-- br. -/
def doBr (k : Nat) (imm : BitVec 19) (s : State) : State := kIssue k (kBranch imm (fun _ => true) id) s
/-- loop: the register is decremented, then tested. -/
def doLoop (k : Nat) (d : Fin 32) (imm : BitVec 19) (s : State) : State :=
  kIssue k (kBranch imm (fun r => r.getS d != 0) fun r => r.putS d (r.getS d - 1)) s
/-- jal: the byte address of the next instruction is linked. -/
def doJal (k : Nat) (d : Fin 32) (imm : BitVec 19) (s : State) : State :=
  kIssue k (kBranch imm (fun _ => true) fun r => r.putS d (BitVec.ofNat 32 (4 * (r.pc + 1)))) s
/-- jr: a byte address that is a multiple of 4 inside the code. -/
def doJr (k : Nat) (a : Fin 32) (s : State) : State :=
  kIssue k (fun c =>
    let t := (c.r.getS a).toNat
    if t % 4 ≠ 0 then .error (3, 2) else (kGoto c ((t / 4 : Nat) : Int) c.r).map fun c' => (c', 2)) s
/-- end: the kernel's work for the beat is done. -/
def doEnd (k : Nat) (s : State) : State := kIssue k (kReg 1 fun r => { r with done := true }) s

/-- An illegal word (R239): exception of cause 0. A word that is no illegal instruction is not this event. -/
def doIllegal (k : Nat) (word : W32) (s : State) : State :=
  match (s.kernel k).run with
  | none => s
  | some r => if r.done || (kernelDecode k word).isSome then s else kException s k 0

/-- A store to CRC_POLY. -/
def doCrcPoly (k : Nat) (v : W32) (s : State) : State := kIssue k (kCrcStore 0x00 v) s
/-- A store to CRC_CFG. -/
def doCrcCfg (k : Nat) (v : W32) (s : State) : State := kIssue k (kCrcStore 0x04 v) s
/-- A store to CRC_INIT. -/
def doCrcInit (k : Nat) (v : W32) (s : State) : State := kIssue k (kCrcStore 0x08 v) s
/-- A store to CRC_VALUE. -/
def doCrcValue (k : Nat) (v : W32) (s : State) : State := kIssue k (kCrcStore 0x0C v) s
/-- A store to CRC_IN8. -/
def doCrcIn8 (k : Nat) (v : W32) (s : State) : State := kIssue k (kCrcStore 0x14 v) s
/-- A store to CRC_IN16. -/
def doCrcIn16 (k : Nat) (v : W32) (s : State) : State := kIssue k (kCrcStore 0x18 v) s
/-- A store to CRC_IN32. -/
def doCrcIn32 (k : Nat) (v : W32) (s : State) : State := kIssue k (kCrcStore 0x1C v) s

/-! ### Images (10 R248, R249) -/

/-- A port entry. -/
def readPort (b : Bytes) : PortS := { unit := fieldLE b 0 2, obj := fieldLE b 2 2, elem := fieldLE b 4 1, type := fieldLE b 5 1 }
/-- An export entry. -/
def readExport (b : Bytes) : KObject :=
  { obj := fieldLE b 0 2, type := fieldLE b 2 1, rw := fieldLE b 3 1 == 1, level := fieldLE b 4 1, journaled := fieldLE b 5 1 == 1,
    init := fieldLE b 8 4 }

/-- Types a port or export may have (R247). -/
def kernelTypes : List Nat := [0x01, 0x02, 0x03, 0x04, 0x06, 0x07, 0x08, 0x0A]

/-- The fields of an image (Table 10-4), when they lie inside the table and CodeCheck holds. -/
def parseImage (b : Bytes) : Option KImage :=
  let w := fieldLE b 2 2
  let sb := fieldLE b 8 2
  let hw := fieldLE b 10 1
  let ni := fieldLE b 12 1
  let no := fieldLE b 13 1
  let ne := fieldLE b 14 1
  let o1 := 32 + 8 * ni
  let o2 := o1 + 8 * no
  let o3 := o2 + 12 * ne
  let o4 := o3 + 4 * w
  let ins := (chunks 8 ni (b.drop 32)).map readPort
  let outs := (chunks 8 no (b.drop o1)).map readPort
  let objs := (chunks 12 ne (b.drop o2)).map readExport
  let entriesOk := (chunks 8 (ni + no) (b.drop 32)).all fun p => fieldLE p 6 2 == 0
  let objsOk := (chunks 12 ne (b.drop o2)).all fun x =>
    fieldLE x 3 1 ≤ 1 && fieldLE x 5 1 ≤ 1 && fieldLE x 6 2 == 0 && kernelTypes.contains (fieldLE x 2 1)
      && (if fieldLE x 3 1 = 1 then fieldLE x 4 1 == 1 || fieldLE x 4 1 == 2 else fieldLE x 4 1 == 0 && fieldLE x 5 1 == 0)
  let ok := decide (b.length = o4 + sb ∧ fieldLE b 0 2 = 1 ∧ 1 ≤ w ∧ w ≤ 8192 ∧ sb ≤ 512 ∧ sb % 4 = 0 ∧ hw ≤ 4 ∧ 4 * hw ≤ sb
    ∧ fieldLE b 11 1 ≤ 1 ∧ ni ≤ 32 ∧ no ≤ 32 ∧ ne ≤ 64 ∧ fieldLE b 15 1 = 0 ∧ fieldLE b 20 8 = 0 ∧ fieldLE b 28 4 = 0)
  if ok && entriesOk && objsOk && crc32c ((b.drop o3).take (4 * w)) == fieldLE b 16 4 then
    some { budget := fieldLE b 4 4, stateBytes := sb, hotWords := hw, keepState := fieldLE b 11 1 == 1, ins := ins, outs := outs, objs := objs,
           code := (chunks 4 w (b.drop o3)).map fun x => BitVec.ofNat 32 (leNat x),
           state := (chunks 4 (sb / 4) (b.drop o4)).map fun x => BitVec.ofNat 32 (leNat x),
           signature := crc32c b }
  else none

/-- The row of the object that a port names under the plan of a state; the exports of every kernel, with their home units, are objects too (R247). -/
def portRow (s : State) (exports : List (Nat × KObject)) (p : PortS) : Option ObjRow :=
  if 0xC000 ≤ p.obj then
    if p.elem = 0 then (exports.find? fun x => x.1 == p.unit && x.2.obj == p.obj).map fun x => exportRow x.2 else none
  else (namedRow s p.unit p.obj p.elem).map Prod.snd

/-- Is a port bound to an object of this type (R249)? -/
def portOk (s : State) (exports : List (Nat × KObject)) (p : PortS) : Bool :=
  match portRow s exports p with
  | none => false
  | some r => r.ty.code == p.type && kernelTypes.contains p.type

/-- May an output port write this object (R249)? split answers whether a unit is a direct member of a cluster. -/
def outPortOk (s : State) (exports : List (Nat × KObject)) (split : Nat → Bool) (p : PortS) : Bool :=
  match portRow s exports p with
  | none => false
  | some r => r.acc == .rw && r.level != 3 && r.level != 4 && p.obj != 0x010 && !(split p.unit && [0x600, 0x602, 0x603, 0x820, 0x821, 0x822, 0x823].contains p.obj)

/-- A valid image (R249), given the exports of every kernel, this one's among them, and the exports of other kernels on its home unit. -/
def imageOk (s : State) (exports : List (Nat × KObject)) (split : Nat → Bool) (others : List Nat) (i : KImage) : Bool :=
  i.ins.all (portOk s exports) && i.outs.all (fun p => portOk s exports p && outPortOk s exports split p)
    && i.objs.all (fun x => decide (0xC000 ≤ x.obj) && !others.contains x.obj) && decide ((i.objs.map KObject.obj).Nodup)

end Sys2Proof.Machine
end

