-- ==== Sys2Proof/Machine/Motion.lean ====
section
/-! DEFINITION. The trajectory stage of an axis or cluster face (04) and the follower that may take its place (05). -/

namespace Sys2Proof.Machine

/-! ### Numbers -/

/-- Largest and smallest POS64 value. -/
def posMax : Int := 2 ^ 63 - 1
def posMin : Int := -(2 ^ 63)
/-- Saturate at the POS64 limits. -/
def posSat (i : Int) : Int := max posMin (min posMax i)

/-- M × 2^16 of a face; 0 on a linear one. -/
def m16 (s : State) (a : Nat) : Int := (s.n a 0x070000 : Int) * 65536

/-- The wrapped difference of 05 R125. -/
def wrapDiff (m : Int) (d : Int) : Int := if m = 0 then d else (d + m / 2) % m - m / 2

/-- Set-point of an unwrapped position (04 R95). -/
def wrapPos (m : Int) (u : Int) : Int := if m = 0 then posSat u else u % m
/-- Turns of an unwrapped position. -/
def wrapTurns (m : Int) (u : Int) : Int := if m = 0 then 0 else wrapI 64 (u / m)

/-- binary64 of a rational. -/
def d64 (q : Rat) : Nat := fOfRat b64 q

/-- The polynomial c1 k + … + c5 k^5 by Horner's rule in binary64 (04 R97). -/
def polyPos (c : List Nat) (k : Nat) : Nat :=
  let kk := fOfInt b64 k
  (c.reverse.foldl (fun acc ci => fMul b64 (fAdd b64 acc ci) kk) 0)

/-- The velocity and acceleration sums of R98 in binary64: the derivative's coefficients by Horner's rule. -/
def polyDer (c : List Nat) (k : Nat) (order : Nat) : Nat :=
  let kk := fOfInt b64 k
  let coef := c.mapIdx fun i ci => fMul b64 (fOfInt b64 (if order = 1 then (i + 1 : Nat) else ((i + 1) * i : Nat))) ci
  let used := coef.drop (order - 1)
  (used.reverse.foldl (fun acc ci => fAdd b64 (fMul b64 acc kk) ci) 0)

/-- A finite binary64 value to the nearest integer, ties to even. -/
def rhe64 (x : Nat) : Int := rhe (fRat b64 x)

/-! ### Segments (04 Table 4-2, 05 Table 5-4) -/

/-- The segment that 64 bytes spell. -/
def readSegment (b : Bytes) : Segment :=
  let kind := fieldLE b 0 1
  { kind := kind, flags := fieldLE b 1 1, tag := fieldLE b 4 4, duration := fieldLE b 8 4, value := fieldLEI b 16 8,
    params := if kind = 1 ∨ kind = 2 then [fieldLE b 24 8, fieldLE b 32 8, fieldLE b 40 8, fieldLE b 48 8, fieldLE b 56 8]
      else if kind = 3 then [fieldLE b 24 4, fieldLE b 28 4, fieldLE b 32 4, fieldLE b 36 4]
      else if kind = 4 then [fieldLE b 24 4, fieldLE b 28 4] else [],
    table := fieldLE b 16 2, camFlags := fieldLE b 18 1, cycles := fieldLE b 20 4, span := fieldLE b 24 8, scale := fieldLE b 32 8,
    startPhase := fieldLEI b 40 8, origin := fieldLEI b 48 8 }

/-- Bytes from o that must be zero. -/
def zeros (b : Bytes) (o n : Nat) : Bool := ((b.drop o).take n).all (· == 0)

/-- A limit of kinds 3 and 4: finite and above 0. -/
def limitOk (v : Nat) : Bool := fFinite b32s v && fLt b32s 0 v

/-- Points of a cam table and its header (05 R132, Table 5-3). -/
def camPoint (s : State) (t : Nat) (i : Nat) : Int := fieldLEI (s.bs 0 ((0x2000 + t) * 256 + i / 512)) (8 * (i % 512)) 8
def camCount (s : State) (t : Nat) : Nat := fieldLE (s.bs 0 ((0x2400 + t) * 256)) 0 4
def camCyclic (s : State) (t : Nat) : Bool := fieldLE (s.bs 0 ((0x2400 + t) * 256)) 4 1 == 1
def camRise (s : State) (t : Nat) : Int := fieldLEI (s.bs 0 ((0x2400 + t) * 256)) 8 8
/-- CamState: 0 EMPTY, 1 OPEN, 2 SEALED. -/
def camState (s : State) (t : Nat) : Nat := s.n 0 ((0x2800 + t) * 256)

/-- σ as R135 allows it: finite, not 0, at most 65,536. -/
def scaleOk (b : Nat) : Bool := fFinite b64 b && decide (fRat b64 b ≠ 0 ∧ -65536 ≤ fRat b64 b ∧ fRat b64 b ≤ 65536)

/-- Is a segment well formed on this face (04 R96 to R100, 05 R138)? A set RELATIVE or DIRECTION bit makes an entry of a kind other than 3
malformed, and DIRECTION on a linear face is accepted and decides nothing: DESIGN CHOICE, log entry 25. -/
def segmentOk (s : State) (a : Nat) (b : Bytes) : Bool :=
  let g := readSegment b
  let m := m16 s a
  zeros b 2 2 && zeros b 12 4 &&
  (match g.kind with
   | 1 | 2 =>
     decide (g.flags ∈ [0, 8]) && decide (1 ≤ g.duration ∧ g.duration ≤ 16777216)
       && g.params.all (fFinite b64)
       && (g.kind == 2 || (fRat b64 (g.params.getD 3 0) == 0 && fRat b64 (g.params.getD 4 0) == 0))
       && (let p := polyPos g.params g.duration
           fFinite b64 p && decide (-(1 / 2 : Rat) ≤ fRat b64 p - (g.value : Rat) / 65536 ∧ fRat b64 p - (g.value : Rat) / 65536 ≤ 1 / 2))
   | 3 =>
     decide (g.flags < 16) && decide (g.flags / 2 % 4 < 3) && g.duration == 0 && g.params.all limitOk && zeros b 40 24
       && (m == 0 || bitOf g.flags 0 || decide (0 ≤ g.value ∧ g.value < m))
   | 4 =>
     decide (g.flags ∈ [0, 8]) && g.params.all limitOk && zeros b 32 32 && decide (-(2 ^ 46) ≤ g.value ∧ g.value ≤ 2 ^ 46)
   | 5 =>
     decide (g.flags ∈ [0, 8]) && g.duration == 0 && zeros b 19 1 && zeros b 56 8 && decide (g.camFlags < 2) && decide (g.table < 1024)
       && camState s g.table == 2 && s.n a 0x080000 != 0 && s.n a 0x080200 == 0
       && decide (1 ≤ g.span ∧ g.span ≤ 2 ^ 62) && scaleOk g.scale
       && (camCyclic s g.table || g.cycles == 0) && (bitOf g.camFlags 0 || decide (0 ≤ g.startPhase ∧ g.startPhase < g.span))
   | _ => false)

/-- Segments held, the running one included. -/
def queueCount (s : State) (a : Nat) : Nat := let t := (s.axis a).traj; t.queue.length + (if t.run.isSome then 1 else 0)

/-- SegmentAppend (04 R96): the status and the state after it. -/
def segmentAppend (s : State) (a : Nat) (b : Bytes) : Nat × State :=
  if s.st a ≠ usReady ∧ s.st a ≠ usActive then (stWrongState, s)
  else if 64 ≤ queueCount s a then (0x20, s)
  else if b.length ≠ 64 ∨ !segmentOk s a b then (0x21, s)
  else
    let x := s.axis a
    (stOk, s.setAxis a { x with traj := { x.traj with queue := x.traj.queue ++ [readSegment b], held := true, dry := false } })

/-- QueueCommand FLUSH (04 R105): every waiting segment goes. -/
def queueFlush (s : State) (a : Nat) : State := emptyQueue s a

/-- QueueCommand ABORT: it acts in the next axis beat (04 R105, R106). -/
def queueAbort (s : State) (a : Nat) : State :=
  let x := s.axis a
  if s.st a = usActive then s.setAxis a { x with traj := { x.traj with queue := [], abortAsked := true } } else emptyQueue s a

/-! ### The master value (05 R122 to R127) -/

/-- What a follower reads of a face in the beat in progress: position, velocity, acceleration and beat published before it. -/
def seenOf (s : State) (m : Nat) : Int × Nat × Nat × Nat :=
  if s.n m 0x083000 = s.beat.n ∧ s.beat.running then (s.axis m).traj.prevPub
  else (s.i m 0x070100, s.n m 0x070200, s.n m 0x070300, s.n m 0x083000)

/-- Measured speed of a local axis: its sleeve's MeasuredSpeed. -/
def measuredSpeed (s : State) (a : Nat) : Nat := s.n (sleeveOf s a) 0x052400

/-- q + 65536 (v τ + ½ α τ²) with the sum in binary64 (05 R124, R140). -/
def extrapolate (q : Int) (v acc : Nat) (tau : Rat) : Int :=
  let t := d64 tau
  let vv := f32to64 v
  let aa := f32to64 acc
  let half := d64 (1 / 2)
  q + rhe64 (fMul b64 (fOfInt b64 65536) (fAdd b64 (fMul b64 vv t) (fMul b64 (fMul b64 (fMul b64 half aa) t) t)))

/-- The master value of a follower at the beat in progress: q̂, the velocity and acceleration used, and the age g. -/
structure MasterValue where
  q : Int
  v : Nat
  acc : Nat
  age : Nat
deriving Repr

/-- Does the follower follow the measured position (05 R122)? -/
def followsMeasured (s : State) (a : Nat) : Bool := s.n a 0x080100 == 1 && isLocal (s.n a 0x080000)

/-- R124. -/
def masterValue (s : State) (a : Nat) : Option MasterValue :=
  let m := s.n a 0x080000
  if m = 0 then none
  else
    let (q, v, acc, g) :=
      if followsMeasured s a then (s.i m 0x053000, measuredSpeed s m, 0, 1)
      else let p := seenOf s m; (p.1, p.2.1, p.2.2.1, s.beat.n - p.2.2.2)
    some { q := if s.b a 0x080500 then extrapolate q v acc (secondsOf s g) else q, v := v, acc := acc, age := g }

/-! ### Cam runs (05 R135, R136) -/

/-- K of a run. -/
def camK (s : State) (t : Nat) : Nat := if camCyclic s t then camCount s t else camCount s t - 1

/-- Point j of the extended table: cyclic tables repeat with the rise (R136). -/
def camY (s : State) (t : Nat) (j : Int) : Int :=
  let n : Int := camCount s t
  if camCyclic s t then camPoint s t (j % n).toNat + j / n * camRise s t
  else camPoint s t (max 0 (min (n - 1) j)).toNat

/-- Twice the tangent at point j. -/
def camM2 (s : State) (t : Nat) (j : Int) : Int :=
  let n : Int := camCount s t
  if camCyclic s t then camY s t (j + 1) - camY s t (j - 1)
  else if j ≤ 0 then 2 * (camY s t 1 - camY s t 0)
  else if n - 1 ≤ j then 2 * (camY s t (n - 1) - camY s t (n - 2))
  else camY s t (j + 1) - camY s t (j - 1)

/-- Interval and fraction at a phase p in [0, S]. -/
def camAt (s : State) (t : Nat) (span : Nat) (p : Int) : Int × Nat :=
  let x := p * camK s t
  (x / span, d64 (mkRat (x % span) span))

/-- The curve at (i, f) less point i, in binary64. -/
def camCurve (s : State) (t : Nat) (i : Int) (f : Nat) : Nat :=
  let d := fOfInt b64 (camY s t (i + 1) - camY s t i)
  let m0 := fMul b64 (fOfInt b64 (camM2 s t i)) (d64 (1 / 2))
  let m1 := fMul b64 (fOfInt b64 (camM2 s t (i + 1))) (d64 (1 / 2))
  let f2 := fMul b64 f f
  let f3 := fMul b64 f2 f
  let w := fSub b64 (fMul b64 (fOfInt b64 3) f2) (fMul b64 (fOfInt b64 2) f3)
  let w0 := fAdd b64 (fSub b64 f3 (fMul b64 (fOfInt b64 2) f2)) f
  let w1 := fSub b64 f3 f2
  fAdd b64 (fAdd b64 (fMul b64 d w) (fMul b64 m0 w0)) (fMul b64 m1 w1)

/-- h′ and h″ at (i, f), exact on the binary64 fraction. -/
def camSlopes (s : State) (t : Nat) (i : Int) (f : Nat) : Rat × Rat :=
  let d : Rat := (camY s t (i + 1) - camY s t i : Int)
  let m0 : Rat := (camM2 s t i : Rat) / 2
  let m1 : Rat := (camM2 s t (i + 1) : Rat) / 2
  let x := fRat b64 f
  (d * (6 * x - 6 * x * x) + m0 * (3 * x * x - 4 * x + 1) + m1 * (3 * x * x - 2 * x),
   d * (6 - 12 * x) + m0 * (6 * x - 4) + m1 * (6 * x - 2))

/-- round_half_even(σ (h(i, f) − h(i0, f0))). -/
def camRiseFrom (s : State) (r : CamRun) (i : Int) (f : Nat) : Int :=
  let p0 := if camCyclic s r.table then r.p0 % r.span else r.p0
  let (i0, f0) := camAt s r.table r.span p0
  let dy := fOfInt b64 (camY s r.table i - camY s r.table i0)
  let dh := fSub b64 (fAdd b64 dy (camCurve s r.table i f)) (camCurve s r.table i0 f0)
  rhe64 (fMul b64 r.scale dh)

/-- R_s. -/
def camRs (s : State) (r : CamRun) : Int := rhe64 (fMul b64 r.scale (fOfInt b64 (camRise s r.table)))

/-- Spans k since the table's start at a phase. -/
def camSpans (s : State) (r : CamRun) : Int := if camCyclic s r.table then r.phase / r.span else 0

/-- Set-point of a run at its phase (R135). -/
def camPosition (s : State) (r : CamRun) : Int :=
  let k := camSpans s r
  let p := r.phase - k * r.span
  let (i, f) := camAt s r.table r.span p
  let k0 := if camCyclic s r.table then r.p0 / r.span else 0
  r.u0 + (k - k0) * camRs s r + camRiseFrom s r i f

/-- Velocity and acceleration of a run (R136), binary32. -/
def camRates (s : State) (r : CamRun) (v acc : Nat) : Nat × Nat :=
  let k := camSpans s r
  let (i, f) := camAt s r.table r.span (r.phase - k * r.span)
  let (h1, h2) := camSlopes s r.table i f
  let g : Rat := mkRat (camK s r.table) r.span
  let sg := fRat b64 r.scale
  let vv := fRat b32s v
  let aa := fRat b32s acc
  (fOfRat b32s (sg * h1 * g * vv), fOfRat b32s (sg * (h2 * g * g * vv * vv * 65536 + h1 * g * aa)))

/-- A run advanced by Δ; a one-shot run keeps its phase in [0, S]. -/
def camAdvance (s : State) (r : CamRun) (delta : Int) : CamRun :=
  let p := r.phase + delta
  { r with phase := if camCyclic s r.table then p else max 0 (min (r.span : Int) p) }

/-! ### One axis beat (04 R103) -/

/-- Working values of a face in an axis beat. -/
structure Beat where
  s : State
  /-- Unwrapped set-point before trim. -/
  base : Int
  vel : Nat
  acc : Nat
  /-- The segment whose end value this beat publishes, unless a limit takes its place (04 R102, R104). -/
  ending : Option Segment := none

/-- Write the stage's results back into the face. -/
def Beat.traj (b : Beat) (a : Nat) (f : AxisTraj → AxisTraj) : Beat :=
  let x := b.s.axis a
  { b with s := b.s.setAxis a { x with traj := f x.traj } }

/-- A stop profile one axis beat on (04 R105); true at its end. -/
def stopStep (b : Beat) (a : Nat) (r : StopRun) : Beat × Bool :=
  let k := r.k + 1
  let (d, v, al) := profileAt (axisSeconds b.s a) r.v0 r.a0 r.plan k
  if k < phasesBeats r.plan then ({ b with base := r.p0 + d, vel := v, acc := al }, false)
  else ({ b with base := r.p0 + d, vel := 0, acc := 0 }, true)

/-- The base that the set-point shows where it holds a software limit beyond which the base ran (05 Table 5-6). -/
def shownBase (s : State) (a : Nat) (base : Int) : Int :=
  let x := s.axis a
  if x.traj.limit.isSome then s.i a 0x070100 - x.follow.applied else base

/-- Start a stop profile: a running segment ends with a cause, a follower leaves its master. -/
def beginStop (b : Beat) (a cause : Nat) (toReady : Bool) : Beat :=
  let s1 := abortRun false b.s a cause
  let x := s1.axis a
  let base := shownBase s1 a b.base
  { b with base := base, s := s1.setAxis a { x with
      traj := { x.traj with stop := some (stopRun s1 a base b.vel b.acc toReady), stopAsked := false, abortAsked := false }
      follow := { x.follow with released := decide (s1.n a 0x080200 ≠ 0), engaged := false, cam := none } } }

/-- Displacement of a point-to-point target (04 R99). -/
def ptpGoal (s : State) (a : Nat) (base : Int) (g : Segment) : Int :=
  let m := m16 s a
  if bitOf g.flags 0 then g.value
  else if m = 0 then g.value - base
  else
    let fwd := (g.value - base) % m
    match g.flags / 2 % 4 with
    | 1 => fwd
    | 2 => if fwd = 0 then 0 else fwd - m
    | _ => if 2 * fwd ≤ m then fwd else fwd - m

/-- Velocity in counts/s of V POS64 units per axis beat. -/
def holdVel (s : State) (a : Nat) (v : Int) : Nat := fOfRat b32s ((v : Rat) / 65536 / axisSeconds s a)

/-- The outcome of one step of a segment: what it gives and whether it has ended. -/
structure SegStep where
  base : Int
  vel : Nat
  acc : Nat
  done : Bool
  cam : Option CamRun := none

/-- One axis beat of a segment of kinds 1 to 4 (04 R97 to R100). k counts from 1. -/
def segStep (s : State) (a : Nat) (r : SegRun) (base : Int) : SegStep :=
  let g := r.seg
  let k := r.k
  let ta := d64 (axisSeconds s a)
  match g.kind with
  | 1 | 2 =>
    let v := f64to32 (fDiv b64 (polyDer g.params k 1) ta)
    let acc := f64to32 (fDiv b64 (polyDer g.params k 2) (fMul b64 ta ta))
    if k < g.duration then { base := r.p0 + rhe64 (fMul b64 (fOfInt b64 65536) (polyPos g.params k)), vel := v, acc := acc, done := false }
    else { base := r.p0 + g.value, vel := v, acc := acc, done := true }
  | 3 =>
    let (d, v, al) := profileAt (axisSeconds s a) r.v0 r.a0 r.plan k
    if k < phasesBeats r.plan then { base := r.p0 + d, vel := v, acc := al, done := false }
    else { base := r.p0 + ptpGoal s a r.p0 g, vel := 0, acc := 0, done := true }
  | _ =>
    let ramp := phasesBeats r.plan
    let hv := holdVel s a g.value
    let (d, v, al) := profileAt (axisSeconds s a) r.v0 r.a0 r.plan k
    if k < ramp then { base := r.p0 + d, vel := v, acc := al, done := false }
    else if k = ramp then { base := r.p0 + d, vel := hv, acc := 0, done := false }
    else { base := base + g.value, vel := hv, acc := 0, done := g.duration != 0 && decide (ramp + g.duration ≤ k) }

/-- The phases planned for a segment that becomes head (04 R99, R100). -/
def segPlan (s : State) (a : Nat) (g : Segment) (p0 : Int) (v0 a0 : Nat) : List (Nat × Rat) :=
  let ta := axisSeconds s a
  let goal := ptpGoal s a p0 g
  if g.kind = 3 then (if goal = 0 ∧ isZero32 v0 ∧ isZero32 a0 then [] else movePlan ta v0 a0 ((goal : Rat) / 65536) g.params)
  else if g.kind = 4 then (if v0 = holdVel s a g.value ∧ isZero32 a0 then [] else holdPlan ta v0 a0 ((g.value : Rat) / 65536 / ta) g.params)
  else []

/-- The end of a segment (04 R102): SEGMENT_DONE and its count. -/
def segEnd (b : Beat) (a : Nat) (g : Segment) : Beat :=
  let s1 := bump b.s a 0x071500
  let s2 := if bitOf g.flags 3 then s1.later a 0x0701 (leBytes 4 g.tag) else s1
  let x := s2.axis a
  { b with s := s2.setAxis a { x with traj := { x.traj with run := none } } }

/-- The queue has emptied in this beat (04 R108): at zero velocity that is published once. -/
def dryStep (b : Beat) (a : Nat) : Beat :=
  let t := (b.s.axis a).traj
  if t.dry ∨ t.run.isSome ∨ !t.queue.isEmpty then b
  else
    let b1 := b.traj a fun t => { t with dry := true }
    if isZero32 b.vel then { b1 with s := b1.s.later a 0x0703 [0] } else b1

/-- Start of the cam run of a kind-5 segment (05 R138). -/
def camSegRun (g : Segment) (base q : Int) : CamRun :=
  let p0 := if bitOf g.camFlags 0 then (q - g.origin) % (g.span : Int) else g.startPhase
  { table := g.table, span := max 1 g.span, scale := g.scale, p0 := p0, phase := p0, u0 := base }

/-- One axis beat of a kind-5 segment (05 R139). A segment that becomes head after a flip has set MasterAxis to 0 has no q̂ for the p_0 of
ALIGN, which then takes q = 0: DESIGN CHOICE, log entry 24. -/
def camSegStep (s : State) (a : Nat) (r : SegRun) (delta : Int) (mv : Option MasterValue) : SegStep :=
  let g := r.seg
  let run0 := r.cam.getD (camSegRun g r.p0 ((mv.map MasterValue.q).getD 0))
  let run := camAdvance s run0 delta
  let rates := match mv with
    | some m => camRates s run m.v m.acc
    | none => (0, 0)
  let waiting := !(s.axis a).traj.queue.isEmpty
  if !camCyclic s g.table then
    { base := camPosition s run, vel := rates.1, acc := rates.2, done := decide (run.phase = run.span), cam := some run }
  else if g.cycles ≠ 0 then
    (if (g.cycles : Int) * run.span ≤ run.phase - run.p0 then
      { base := run.u0 + g.cycles * camRs s run, vel := rates.1, acc := rates.2, done := true, cam := some run }
     else { base := camPosition s run, vel := rates.1, acc := rates.2, done := false, cam := some run })
  else if waiting ∧ camSpans s run0 ≠ camSpans s run then
    let edge := if camSpans s run0 < camSpans s run then camSpans s run * run.span else (camSpans s run + 1) * run.span
    let run' := { run with phase := edge }
    { base := camPosition s run', vel := rates.1, acc := rates.2, done := true, cam := some run' }
  else { base := camPosition s run, vel := rates.1, acc := rates.2, done := false, cam := some run }

/-- The master was ACTIVE when it published what a follower reads of it in the beat in progress. -/
def seenActive (s : State) (m : Nat) : Bool :=
  let t := (s.axis m).traj
  if s.n m 0x083000 = s.beat.n ∧ s.beat.running then t.prevActive else t.pubActive

/-- Master increment Δ (05 R125, R126) and the follow state after it. What a master publishes while it is not ACTIVE never stands on either side
of a difference, so its jump at START reaches no follower (log entry 47). -/
def masterDelta (s : State) (a : Nat) (mv : Option MasterValue) (first : Bool) : Int × State :=
  let x := s.axis a
  match mv with
  | none => (0, s.setAxis a { x with follow := { x.follow with qPrev := none, masterActive := false, seenActive := false } })
  | some m =>
    let mu := s.n a 0x080000
    let act := s.st mu == usActive
    let saw := seenActive s mu
    let ok := !first && (followsMeasured s a || (act && x.follow.masterActive && saw && x.follow.seenActive))
    let d := match x.follow.qPrev with
      | none => 0
      | some q => if ok then wrapDiff (m16 s mu) (m.q - q) else 0
    (d, (s.setAxis a { x with follow := { x.follow with qPrev := some m.q, masterActive := act, seenActive := saw } }).setN a 0x080E00 (min m.age 65535))

/-- The settings of a follower that a boundary of Table 5-6 watches. -/
def followSettings (s : State) (a : Nat) : List Int :=
  [s.i a 0x080200, s.i a 0x080300, s.i a 0x080400, s.i a 0x080000, s.i a 0x080100, s.i a 0x080800, s.i a 0x080900, s.i a 0x080A00, s.i a 0x080B00]

/-- The first axis beat of a stop profile that has just begun; an axis that it brings to rest on its way to READY is READY in that beat. -/
def firstStop (b : Beat) (a : Nat) : Beat :=
  let st := ((b.s.axis a).traj.stop).getD {}
  let (b1, fin) := stopStep b a st
  let b2 := b1.traj a fun t => { t with stop := if fin then none else some { st with k := st.k + 1 } }
  if fin ∧ st.toReady then { b2 with s := sleeveFollows false (axisTo false b2.s a usReady) a usReady } else b2

/-- The follower has lost its master (05 R127): its queue is emptied in that beat. -/
def masterLost (b : Beat) (a master age : Nat) : Beat :=
  let s0 := b.s.setN a 0x080E00 (min age 65535)
  let s1 := bump (s0.later a 0x0801 (leBytes 2 master ++ leBytes 2 (min age 65535))) a 0x083100
  let x := s1.axis a
  let s2 := s1.setAxis a { x with follow := { x.follow with lost := true } }
  firstStop (beginStop { b with s := emptyQueue s2 a } a 2 true) a

/-- CamPhase and CamCycles of the running cam (05 R135, Table 5-9). -/
def camShow (s : State) (a : Nat) (run : CamRun) : State :=
  let k := camSpans s run
  (s.setI a 0x080C00 (run.phase - k * run.span)).setI a 0x080D00
    (wrapI 64 (k - (if camCyclic s run.table then run.p0 / run.span else 0)))

/-- One axis beat of the segment queue (04 R100, R102, R108). -/
def queueStep (b : Beat) (a : Nat) (delta : Int) (mv : Option MasterValue) : Beat :=
  let t := (b.s.axis a).traj
  -- an unbounded hold ends when another segment waits
  let b1 := match t.run with
    | some r => if r.seg.kind = 4 ∧ r.seg.duration = 0 ∧ !t.queue.isEmpty then segEnd b a r.seg else b
    | none => b
  let t1 := (b1.s.axis a).traj
  let run : Option SegRun := match t1.run with
    | some r => some { r with k := r.k + 1 }
    | none => t1.queue.head?.map fun g =>
        { seg := g, p0 := b1.base, v0 := b1.vel, a0 := b1.acc, k := 1, plan := segPlan b1.s a g b1.base b1.vel b1.acc }
  match run with
  | none =>
    if isZero32 b1.vel then { b1 with acc := 0 }
    else
      let b2 := { b1 with s := bump (b1.s.later a 0x0703 [1]) a 0x071600 }
      let st := stopRun b2.s a b2.base b2.vel b2.acc false
      let (b3, fin) := stopStep b2 a st
      b3.traj a fun t => { t with stop := if fin then none else some { st with k := 1 } }
  | some r =>
    let b2 := b1.traj a fun t => { t with run := some r, queue := if t.run.isSome then t.queue else t.queue.drop 1 }
    let st := if r.seg.kind = 5 then camSegStep b2.s a r delta mv else segStep b2.s a r b2.base
    let b3 : Beat := { b2 with base := st.base, vel := st.vel, acc := st.acc }
    let b3' : Beat := match st.cam with
      | some run => { b3 with s := camShow b3.s a run }
      | none => b3
    let b4 := b3'.traj a fun t => { t with run := some { r with cam := st.cam } }
    if st.done then { b4 with ending := some r.seg } else b4

/-- One axis beat of gearing (05 R128, R129). -/
def gearStep (b : Beat) (a : Nat) (delta : Int) (clear : Bool) (mv : Option MasterValue) : Beat :=
  let n := b.s.i a 0x080300
  let d := max 1 (b.s.i a 0x080400)
  let rem := if clear then 0 else b.s.i a 0x080700
  let acc := delta * n + rem
  let out := acc / d
  let (v, al) := match mv with
    | none => (0, 0)
    | some m => (fOfRat b32s (fRat b32s m.v * n / d), fOfRat b32s (fRat b32s m.acc * n / d))
  { b with s := b.s.setI a 0x080700 (acc - out * d), base := b.base + out, vel := v, acc := al }

/-- One axis beat of a mode-2 cam (05 R135, R137). -/
def camStep (b : Beat) (a : Nat) (delta : Int) (engage : Bool) (mv : Option MasterValue) : Beat :=
  let t := b.s.n a 0x080800
  let x := b.s.axis a
  if t = 0xFFFF then
    let s1 := if x.follow.camReported then b.s else b.s.later a 0x0602 (leBytes 2 0x0808 ++ leBytes 1 0)
    { b with s := s1.setAxis a { x with follow := { x.follow with cam := none, camReported := true } }, vel := 0, acc := 0 }
  else match mv with
  | none => { b with s := b.s.setAxis a { x with follow := { x.follow with camReported := false, cam := if engage then none else x.follow.cam } }, vel := 0, acc := 0 }
  | some m =>
    let span := max 1 (b.s.n a 0x080900)
    let fresh : CamRun :=
      let p0 := (m.q - b.s.i a 0x080B00) % (span : Int)
      { table := t, span := span, scale := b.s.n a 0x080A00, p0 := p0, phase := p0, u0 := b.base }
    let run := if engage then fresh else camAdvance b.s (x.follow.cam.getD fresh) delta
    let rates := camRates b.s run m.v m.acc
    let s1 := camShow (b.s.setAxis a { x with follow := { x.follow with cam := some run, camReported := false } }) a run
    { b with s := s1, base := camPosition b.s run, vel := rates.1, acc := rates.2 }

/-- Take an arrived remote value (05 R140 step 1), or count the beat as stale. For a cluster member the face's values arrive (R142).
An image that has taken no value yet takes the first whatever its beat: DESIGN CHOICE, log entry 24. -/
def imageTake (s : State) (a : Nat) : State :=
  let c := clusterOf s a
  let x := s.axis a
  let (arrived, q, v, al, rb) :=
    if c ≠ 0 then let p := seenOf s c; (true, p.1, p.2.1, p.2.2.1, p.2.2.2)
    else (x.follow.arrived, s.i a 0x082000, s.n a 0x082100, s.n a 0x082200, s.n a 0x082300)
  let newer := match x.follow.image with
    | none => true
    | some h => decide (h.beat < rb)
  let s1 := s.setAxis a { x with follow := { x.follow with arrived := false } }
  if arrived && newer then
    let s2 := s1.setAxis a { x with follow := { x.follow with arrived := false, image := some { q := q, v := v, a := al, beat := rb } } }
    if x.follow.lost ∧ s.beat.n - rb ≤ s.n a 0x080600 then
      let y := s2.axis a
      (s2.setAxis a { y with follow := { y.follow with lost := false } }).later a 0x0802 (leBytes 8 rb)
    else s2
  else
    let s2 := match x.follow.image with
      | some h => if arrived ∧ rb < h.beat then bump s1 a 0x082500 else s1
      | none => s1
    bump s2 a 0x082400

/-- The extrapolated value of an image: position, velocity, acceleration (05 R140 step 2). -/
def imageValue (s : State) (h : ImageValue) : Int × Nat × Nat :=
  let g : Int := (s.beat.n : Int) - h.beat
  let tau := secondsOf s g
  (extrapolate h.q h.v h.a tau, f64to32 (fAdd b64 (f32to64 h.v) (fMul b64 (f32to64 h.a) (d64 tau))), h.a)

/-- One axis beat of an image: its value is the base, to which the trim is added (05 R130, R140). One that has taken no
value yet publishes at rest and loses no master: DESIGN CHOICE, log entry 24. -/
def imageStep (b : Beat) (a : Nat) : Beat :=
  match (b.s.axis a).follow.image with
  | none => { b with vel := 0, acc := 0 }
  | some h =>
    let g := b.s.beat.n - h.beat
    let b := { b with s := b.s.setN a 0x080E00 (min g 65535) }
    if b.s.n a 0x080600 < g then masterLost b a 0 g
    else
      let (q, v, al) := imageValue b.s h
      { b with base := b.base + wrapDiff (m16 b.s a) (q - wrapPos (m16 b.s a) b.base), vel := v, acc := al }

/-- A local member of a cluster takes the face's broadcast set-point (01 R24, R26; 12 R291), with what it has moved by on entering position
mode (07 R185). -/
def memberStep (b : Beat) (a c : Nat) : Beat :=
  let (q, v, al, pb) := seenOf b.s c
  let late := b.s.beat.n - pb
  let qq := if late ≤ 1 then q else extrapolate q v al (secondsOf b.s ((late : Int) - 1))
  { b with base := b.base + wrapDiff (m16 b.s a) (qq + (b.s.axis a).follow.shift - wrapPos (m16 b.s a) b.base), vel := v, acc := al }

/-- Step 2 of R103: what the stage advances by one axis beat. A segment that waits while a stop profile runs starts when the profile has ended:
DESIGN CHOICE, log entry 25. -/
def stageStep (b : Beat) (a : Nat) : Beat :=
  let s := b.s
  let x := s.axis a
  let mode := s.n a 0x080200
  let now := followSettings s a
  let was := x.follow.settings
  let same (i : Nat) : Bool := now[i]? == was[i]?
  -- a flip of the mode engages in the flip beat (Table 5-6), also where a profile of R108 or of an ABORT still runs
  -- the mode, for a follower that an ABORT has not taken from its master until the next START
  let flips := s.st a == usActive && !was.isEmpty && !same 0 && (mode == 0 || !x.follow.released)
  let asked := s.st a == usActive && (x.traj.abortAsked || x.traj.stopAsked)
  if asked then firstStop (beginStop b a 0 (x.traj.stopAsked || (x.traj.stop.map StopRun.toReady).getD false)) a
  else match x.traj.stop.filter fun st => st.toReady || !flips with
  | some st =>
    let (b1, fin) := stopStep b a st
    -- an axis in FAULT keeps its loops closed at rest until the veil has removed its torque (12 R277)
    let rest : Option StopRun := if b.s.st a = usFault then some { p0 := b1.base } else none
    let b2 := b1.traj a fun t => { t with stop := if fin then rest else some { st with k := st.k + 1 } }
    if fin ∧ st.toReady ∧ b2.s.st a = usActive then { b2 with s := sleeveFollows false (axisTo false b2.s a usReady) a usReady } else b2
  | none =>
    if s.st a ≠ usActive then { b with vel := 0, acc := 0 }
    else if clusterOf s a ≠ 0 ∧ mode ≠ 3 then memberStep b a (clusterOf s a)
    else if x.follow.released ∧ mode ≠ 0 then { b with vel := 0, acc := 0 }
    else
      -- mode boundaries (Table 5-6)
      let modeFlip := !was.isEmpty && !same 0
      let s1 := if modeFlip ∧ (mode = 1 ∨ mode = 2) then abortRun false s a 2 else s
      let s1 := if x.traj.stop.isSome then let z := s1.axis a; s1.setAxis a { z with traj := { z.traj with stop := none } } else s1
      let b := if modeFlip then { b with base := shownBase s a b.base } else b
      let y := s1.axis a
      let s2 := s1.setAxis a { y with follow := { y.follow with settings := now, engaged := decide (mode = 1 ∨ mode = 2), released := if mode = 0 then false else y.follow.released,
                                                                 cam := if mode = 2 then y.follow.cam else none,
                                                                 camReported := mode == 2 && y.follow.camReported } }
      let b1 : Beat := { b with s := s2 }
      let camSeg : Bool := match (s2.axis a).traj.run with
        | some r => if r.seg.kind = 4 ∧ r.seg.duration = 0 ∧ !(s2.axis a).traj.queue.isEmpty then
            (((s2.axis a).traj.queue.head?.map Segment.kind).getD 0) == 5
          else r.seg.kind == 5
        | none => match (s2.axis a).traj.queue.head? with
          | some g => g.kind == 5
          | none => false
      let following : Bool := mode == 1 || mode == 2 || (mode == 0 && camSeg)
      let mv := if following then masterValue s2 a else none
      let lostAge : Bool := match mv with
        | some m => decide (s2.n a 0x080600 < m.age)
        | none => false
      if mode = 3 then imageStep b1 a
      else if following ∧ lostAge then masterLost b1 a (s2.n a 0x080000) ((mv.map MasterValue.age).getD 0)
      else
        let engage := modeFlip || was.isEmpty || !x.follow.engaged
        let first := (engage && mode != 0) || !(same 3 && same 4)
          || (mode == 0 && camSeg && ((s2.axis a).traj.run.map fun r => r.cam.isNone).getD true)
        let (d, s3) := if following then masterDelta s2 a mv first else (0, s2)
        let b2 : Beat := { b1 with s := s3 }
        match mode with
        | 1 => gearStep b2 a d (engage || !(same 1 && same 2 && same 3 && same 4)) mv
        | 2 => camStep b2 a d (engage || !(same 5 && same 6 && same 7 && same 8) || (s3.axis a).follow.cam.isNone) mv
        | _ => queueStep b2 a d mv

/-- Step 3 of R103: the phase trim (05 R130). -/
def trimStep (b : Beat) (a : Nat) : Beat × Int :=
  let x := b.s.axis a
  if b.s.st a ≠ usActive then (b, 0)
  else
    let target := b.s.i a 0x081200 + b.s.i a 0x081000
    let r : Int := b.s.n a 0x081300
    let step := max (-r) (min r (target - x.follow.applied))
    let applied := x.follow.applied + step
    let moved := x.follow.trimMoved || step != 0
    let reached := moved && applied == target
    let s1 := (b.s.setAxis a { x with follow := { x.follow with applied := applied, trimMoved := moved && !reached } }).setI a 0x081400 (posSat applied)
    ({ b with s := if reached then s1.later a 0x0803 (leBytesI 8 applied) else s1 }, step)

/-- The lowest and highest set-point a linear face may take (04 R95, R104). -/
def limitsOf (s : State) (a : Nat) : Int × Int :=
  if s.b a 0x070A00 then (max posMin (s.i a 0x070800), min posMax (s.i a 0x070900)) else (posMin, posMax)

/-- Step 4 of R103: the software limits (04 R104, 05 Table 5-6), also where an axis in FAULT stops with its loops closed (12 R277). Answers the
set-point, unwrapped, and whether the limit has taken its place. -/
def limitStep (b : Beat) (a : Nat) : Beat × Int × Bool :=
  let x := b.s.axis a
  let u := b.base + x.follow.applied
  let fault := b.s.st a == usFault && x.traj.stop.isSome
  if m16 b.s a ≠ 0 ∨ (b.s.st a ≠ usActive ∧ !fault) then (b, u, false)
  else
    let (lo, hi) := limitsOf b.s a
    if lo ≤ u ∧ u ≤ hi then (b.traj a fun t => { t with limit := none }, u, false)
    else
      let high := decide (hi < u)
      let lim := if high then hi else lo
      let follower := decide (b.s.n a 0x080200 ≠ 0) && !fault
      let entry := x.traj.limit != some high || (!follower && (x.traj.run.isSome || !x.traj.queue.isEmpty))
      let s1 := if follower then b.s else emptyQueue (abortRun false b.s a 1) a
      let s2 := if entry then bump (s1.later a 0x0704 [if high then 1 else 0]) a 0x071700 else s1
      -- a STOP's profile that the limit cuts has reached zero velocity (R105)
      let halt := !follower && !fault && (x.traj.stop.map StopRun.toReady).getD false
      let base := if follower then b.base else lim - x.follow.applied
      let b2 : Beat := { s := s2, base := base, vel := 0, acc := 0 }
      let b3 := b2.traj a fun t => { t with limit := some high, stop := if follower then t.stop else if fault then some { p0 := base } else none }
      (if halt then { b3 with s := sleeveFollows false (axisTo false b3.s a usReady) a usReady } else b3, lim, true)

/-- The segment whose end value the beat publishes ends (04 R102), unless the limit has ended it (R104). -/
def endStep (b : Beat) (a : Nat) : Beat :=
  match b.ending, (b.s.axis a).traj.run with
  | some g, some _ => segEnd b a g
  | _, _ => b

/-- Steps 5 and 6 of R103: wrap, and publish at the commit. -/
def publishAxis (b : Beat) (a : Nat) (u step : Int) : State :=
  let s := b.s
  let m := m16 s a
  let n := s.beat.n
  let old := (s.i a 0x070100, s.n a 0x070200, s.n a 0x070300, s.n a 0x083000)
  let x := s.axis a
  let pos := wrapPos m u
  let v := if step = 0 then b.vel else fAdd b32s b.vel (fOfRat b32s ((step : Rat) / 65536 / axisSeconds s a))
  let tr := { x.traj with base := b.base, vel := b.vel, acc := b.acc, prevPub := if s.n a 0x083000 = n then x.traj.prevPub else old,
                           pubActive := s.st a == usActive, prevActive := if s.n a 0x083000 = n then x.traj.prevActive else x.traj.pubActive }
  let live := s.st a = usReady ∨ s.st a = usActive
  let la := if live then { x.latch with setSamples := keepSamples x.latch ({ time := s.beat.base, pos := u, beat := n } :: x.latch.setSamples) } else x.latch
  let s1 := s.setAxis a { x with traj := tr, latch := la, follow := { x.follow with history := (pos :: x.follow.history).take 2 } }
  let s2 := (((s1.setI a 0x070100 pos).setN a 0x070200 v).setN a 0x070300 b.acc).setI a 0x070400 (wrapTurns m u)
  let s3 := s2.setN a 0x083000 n
  s3.setN a 0x071300 ((tr.run.map fun r => r.seg.tag).getD 0) |>.setN a 0x071400 ((tr.run.map SegRun.k).getD 0)

/-- One axis beat of a face at its commit (04 R103 steps 2 to 6). -/
def axisBeat (s : State) (a : Nat) : State :=
  if s.st a = usOff ∨ s.st a = usRetired ∨ s.beat.n % dividerOf s a ≠ 0 then s
  else
    let s0 := if s.n a 0x080200 = 3 then imageTake s a else s
    let t := (s0.axis a).traj
    let b1 := stageStep { s := s0, base := t.base, vel := t.vel, acc := t.acc } a
    let (b2, step) := trimStep b1 a
    let (b3, u, limited) := limitStep b2 a
    publishAxis (if s.st a = usActive then dryStep (endStep b3 a) a else b3) a u (if limited then 0 else step)

end Sys2Proof.Machine
end

