-- ==== Sys2Proof/Machine/Pins.lean ====
section
/-! DEFINITION. The levels of the timing outputs (06 R152, R157) and the ticks of a sleeve (01 Table 1-2, 08 R193). -/

namespace Sys2Proof.Machine

/-- Ticks in a beat of a sleeve (08 Table 8-1). -/
def ticksPerBeat (s : State) (k : Nat) : Nat :=
  match sleevePlan s k with
  | none => 1
  | some p => max 1 (match p.mode with | 0 => p.divider | 1 => 2 * p.divider | _ => p.divider / 2)

/-- T_tick in quanta. -/
def tickQ (s : State) (k : Nat) : Nat := s.tb / ticksPerBeat s k

/-- T_c in quanta. -/
def carrierQ (s : State) (k : Nat) : Nat := s.tb / max 1 (((sleevePlan s k).map SleevePlan.divider).getD 1)

/-- #0922 GtpLevel. -/
def pinLevel (s : State) (p : Nat) : Bool := if pinDriven s p then ((pinUpTo s.q s p).pin p).level else idleLevel s p

/-- A new beat: every pin may take 64 edges (06 R157). -/
def pinsNewBeat (s : State) : State :=
  s.pins.foldl (fun t e => t.setPin e.1 { t.pin e.1 with edges := 0 }) ((List.range 16).foldl (pinUpTo s.q) s)

end Sys2Proof.Machine
end

