-- ==== Sys2Proof/Machine/Feedback.lean ====
section
/-! DEFINITION. Position, speed and current feedback of a sleeve (09). -/

namespace Sys2Proof.Machine

/-! ### Position (09 R213) -/

/-- FeedbackKind. -/
def fbKind (s : State) (k : Nat) : Nat := s.n k 0x050000
/-- CPR. -/
def fbCpr (s : State) (k : Nat) : Int := max 2 (s.i k 0x050100)
/-- Change the feedback half of a sleeve. -/
def modFb (s : State) (k : Nat) (f : SleeveFb → SleeveFb) : State :=
  let x := s.sleeve k
  s.setSleeve k { x with fb := f x.fb }

/-- Whole counts w × CPR + c. -/
def fbCounts (s : State) (k : Nat) : Int := s.i k 0x052200 * fbCpr s k + s.i k 0x052100

/-- Store whole counts as c and w. -/
def putCounts (s : State) (k : Nat) (p : Int) : State :=
  (s.setI k 0x052100 (p % fbCpr s k)).setI k 0x052200 (wrapI 64 (p / fbCpr s k))

/-- Store FeedbackPosition. -/
def putFb (s : State) (k : Nat) (p : Int) : State := s.setI k 0x052300 (posSat p)

/-- MeasuredPosition and MeasuredTurns of the bound axis from the feedback position of a sample; an invalid position keeps the last value (R226). -/
def putMeasured (s : State) (k : Nat) (p : Int) : State :=
  let a := axisOf s k
  if a = 0 ∨ !fbValid s k then s
  else
    let m := m16 s a
    (s.setI a 0x053000 (wrapPos m p)).setI a 0x053100 (wrapTurns m p)

/-- Place of a Hall state in the upward sequence of R218, none for 000 and 111. -/
def hallPhase (a b c : Bool) : Option Nat :=
  match a, b, c with
  | true, false, false => some 0
  | true, true, false => some 1
  | false, true, false => some 2
  | false, true, true => some 3
  | false, false, true => some 4
  | true, false, true => some 5
  | _, _, _ => none

/-- The sleeve's decoder works: its bank is powered. -/
def fbPowered (s : State) (k : Nat) : Bool := s.st k != usOff

/-- The sleeve's Hall pins stand in a legal state. -/
def hallLegal (s : State) (k : Nat) : Bool := let f := (s.sleeve k).fb; (hallPhase f.a f.b f.c).isSome

/-- Entering ACQUIRING (Table 9-2): quadrature is VALID at once, and Hall where its pins stand in a legal state; kind 0 or a bank without power is
NONE. -/
def acquire (s : State) (k : Nat) : State :=
  let legal := hallLegal s k
  let s1 := s.setN k 0x052000 (if !fbPowered s k then 0 else match fbKind s k with | 0 => 0 | 1 => 2 | 2 => if legal then 2 else 1 | _ => 1)
  let s2 := s1.setN k 0x052800 0
  modFb s2 k fun f => { f with edges := [], edgesSeen := 0, hallSeen := legal, lostDue := false }

/-- A write of a decoder setting (R214): ACQUIRING, with w and c at 0. The illegal transitions since c last wrapped start anew with c. -/
def decoderWritten (s : State) (k : Nat) : State :=
  let s1 := acquire (putFb (putCounts s k 0) k 0) k
  modFb s1 k fun f => { f with frames := [], lastField := none, lastCounter := none, vFrame := none, divPrev := none, illegal := 0 }

/-! ### Loss (R216, R225, R226, R233) -/

/-- A contained feedback fault: the state is LOST, it is counted and reported, and the sleeve takes the source (R226). A shadowed hit has no other
effect than its bit (12 R279). -/
def feedbackFault (s : State) (k cause bit : Nat) : State :=
  if s.n k 0x052000 = 4 ∨ shadowed s k bit then hit s k bit
  else hit ((bump ((s.setN k 0x052000 4).setN k 0x052400 0) k 0x052D00).later k 0x0501 [BitVec.ofNat 8 cause]) k bit

/-- The sleeve leaves FAULT: ACQUIRING, then VALID by Table 9-2, with FEEDBACK_RESTORED where the feedback was LOST (R226). -/
def feedbackRestore (s : State) (k : Nat) : State :=
  let t := acquire s k
  if s.n k 0x052000 = 4 then t.later k 0x0502 [BitVec.ofNat 8 (fbKind s k)] else t

/-! ### Counting (R215 to R218) -/

/-- The filter has accepted a line's level that has stood since a stamp: QuadFilter + 1 samples, 8 ns apart (R215). -/
def filterPassed (s : State) (k stamp : Nat) : Bool := decide (stamp + s.n k 0x050300 * 128 ≤ s.q)

/-! ### Serial encoders (R219 to R225) -/

/-- Field bytes of FSP (R222). -/
def fieldBytes (s : State) (k : Nat) : Nat := (s.n k 0x050700 + s.n k 0x050800 + 7) / 8

/-- Bits of an SSI frame (R219). -/
def ssiBits (s : State) (k : Nat) : Nat := s.n k 0x050700 + s.n k 0x050800 + s.n k 0x050900 + s.n k 0x050A00

/-- t_x in ns (R224). -/
def transactionNs (s : State) (k : Nat) : Rat :=
  match fbKind s k with
  | 3 => ((ssiBits s k + 1) * 1000000000 : Nat) / (max 1 (s.n k 0x050600) : Nat) + (s.n k 0x050C00 : Nat)
  | 4 => (625 + s.n k 0x050F00 + 625 * (3 + fieldBytes s k) : Nat)
  | _ => 0

/-- Does a transaction, with its 250 ns and the encoder's monoflop, not fit a time in quanta (R224)? -/
def serialExceeds (s : State) (k t : Nat) : Bool :=
  decide ((t : Rat) < 16 * (transactionNs s k + 250 + (if fbKind s k = 3 then s.n k 0x050D00 else 0 : Nat)))

/-- Does the transaction not fit the beat (R224)? -/
def frameTooLong (s : State) (k : Nat) : Bool := (fbKind s k == 3 || fbKind s k == 4) && serialExceeds s k s.tb

/-- A transaction may start: its sample is the next tick start, or the next beat start where it does not fit the tick (R224). -/
def serialDue (s : State) (k : Nat) : Bool :=
  let slot := if serialExceeds s k (tickQ s k) then s.beat.period else tickQ s k
  let next := s.beat.base + ((s.q - s.beat.base) / max 1 slot + 1) * slot
  s.beat.running && decide ((next : Rat) ≤ s.q + 16 * (transactionNs s k + 250))

/-- CRC-16 of FSP (R220). -/
def fspCrc (b : Bytes) : Nat := crcBits 16 0x1021 0xFFFF (byteBits b)

/-- The request bytes of a register transaction (R221). -/
def registerRequest (cmd addr data : Nat) : Bytes :=
  let head : Bytes := if cmd = 4 then [0x4B, BitVec.ofNat 8 addr] ++ leBytes 4 data else [0x3C, BitVec.ofNat 8 addr]
  head ++ leBytes 2 (fspCrc head)

/-- The sleeve starts a serial transaction (R219, R220, R223, R224). -/
def serialStart (s : State) (k : Nat) : State :=
  let f := (s.sleeve k).fb
  if !fbPowered s k ∨ f.started.isSome ∨ !serialDue s k then s
  else match fbKind s k with
  | 3 => (modFb s k fun f => { f with started := some s.q }).emit (.serial k [])
  | 4 =>
    match f.register with
    | some (c, a, d, _) =>
      let b := registerRequest c a d
      (modFb s k fun f => { f with started := some s.q, registerRuns := true, crc := fspCrc (b.take (b.length - 2)) }).emit (.serial k b)
    | none => (modFb s k fun f => { f with started := some s.q }).emit (.serial k [0x1E])
  | _ => s

/-- The shortest-way difference of R125 between two field values of a range. -/
def fieldDiff (range d : Int) : Int := wrapDiff range d

/-- A frame is accepted: turn field, single-turn value and sample instant (R224, R225). -/
def acceptFrame (s : State) (k : Nat) (turn single : Int) (ts : Nat) : State :=
  let f := (s.sleeve k).fb
  let cpr := fbCpr s k
  let rev := s.b k 0x050200
  let multi := s.n k 0x050700 ≠ 0
  let old := if rev then -(fbCounts s k) else fbCounts s k
  let raw := match f.lastField with
    | none => (if multi then turn else 0) * cpr + single
    | some l =>
      if multi then (old / cpr + fieldDiff (2 ^ s.n k 0x050700 : Nat) (turn - l)) * cpr + single
      else old + fieldDiff cpr (single - l)
  let p := if rev then -raw else raw
  let s1 := (putCounts s k p).setN k 0x052800 0
  let s2 := modFb s1 k fun f => { f with
    frames := ({ pos := p * 65536, time := ts } :: f.frames).take 160, lastField := some (if multi then turn else single), started := none }
  if s2.n k 0x052000 = 1 ∨ s2.n k 0x052000 = 3 then s2.setN k 0x052000 2 else s2

/-- A bad frame (R225). -/
def badFrame (s : State) (k : Nat) (check : Bool) : State :=
  let s0 := modFb s k fun f => { f with started := none }
  let s1 := hit s0 k 7
  let s2 := if check && !shadowed s k 7 then bump s1 k 0x052C00 else s1
  let run := min 255 (s2.n k 0x052800 + 1)
  let s3 := s2.setN k 0x052800 run
  let s4 := if s3.n k 0x052000 = 2 then s3.setN k 0x052000 3 else s3
  if run = s.n k 0x051100 + 1 then modFb s4 k fun f => { f with lostDue := true } else s4

/-- Gray to binary, most significant bit first. -/
def grayDecode : Bool → List Bool → List Bool
  | _, [] => []
  | p, b :: r => (p != b) :: grayDecode (p != b) r

/-- Number of bits given most significant bit first. -/
def bitsMsb (l : List Bool) : Nat := l.foldl (fun n b => 2 * n + (if b then 1 else 0)) 0

/-- The register of the sleeve's check-value unit over the bits of an SSI frame (10 R253, R255). -/
def ssiRegister (s : State) (k : Nat) (bits : List Bool) : Nat :=
  let w := s.n k 0x050A00
  crcBits w (s.n k 0x112000 % 2 ^ w) (s.n k 0x112100 % 2 ^ w) bits

/-- The check value of w bits from the register, by flags: bit 0 REFOUT and bit 1 INVERT (10 R253, Table 10-8). -/
def checkOut (w fl r : Nat) : Nat :=
  let r1 := if bitOf fl 0 then revBits w r else r
  if bitOf fl 1 then r1.xor (2 ^ w - 1) else r1

/-- The check value from the register by SerialCrcFlags. -/
def ssiCheck (s : State) (k r : Nat) : Nat := checkOut (s.n k 0x050A00) (s.n k 0x112200) r

/-- The fields of an SSI frame of some turn, single-turn and status bits: turn, single-turn value, status, check (R219). -/
def ssiFields (tb sb stb : Nat) (gray : Bool) (bits : List Bool) : Nat × Nat × Nat × Nat :=
  let posBits := bits.take (tb + sb)
  let plain := if gray then grayDecode false posBits else posBits
  (bitsMsb (plain.take tb), bitsMsb (plain.drop tb), bitsMsb ((bits.drop (tb + sb)).take stb), bitsMsb (bits.drop (tb + sb + stb)))

/-- A completed SSI frame (R219): the data line's level before the first clock edge and the bits as they arrived. -/
def ssiFrame (s : State) (k : Nat) (idleHigh : Bool) (bits : List Bool) : State :=
  match (s.sleeve k).fb.started with
  | none => s
  | some ts =>
    if fbKind s k ≠ 3 ∨ bits.length ≠ ssiBits s k ∨ !fbPowered s k then s
    else
      let tb := s.n k 0x050700
      let sb := s.n k 0x050800
      let stb := s.n k 0x050900
      let cb := s.n k 0x050A00
      let (turn, single, status, check) := ssiFields tb sb stb (s.b k 0x050B00) bits
      let r := ssiRegister s k (bits.take (tb + sb + stb))
      let checkBad := cb != 0 && check != ssiCheck s k r
      let s0 := if cb = 0 then s else modFb s k fun f => { f with crc := r }
      if !idleHigh ∨ checkBad ∨ status.land (s.n k 0x051200) ≠ 0 ∨ fbCpr s k ≤ single then badFrame s0 k checkBad
      else acceptFrame s0 k turn single ts

/-- The end of a register transaction (R223): the outcome, status byte and data, and the reply to the write. -/
def registerEnd (s : State) (k outcome status data : Nat) : State :=
  let f := (s.sleeve k).fb
  let s1 := s.setBs k 0x051500 (leBytes 1 outcome ++ leBytes 1 status ++ leBytes 4 data)
  let s2 := modFb s1 k fun f => { f with register := none, registerRuns := false, started := none }
  match f.register with
  | some (_, _, _, o) => answerSt s2 o stOk
  | none => s2

/-- A completed FSP reply (R221 to R223): its bytes and whether every start and stop bit was right. -/
def fspReply (s0 : State) (k : Nat) (b : Bytes) (framingOk : Bool) : State :=
  let f := (s0.sleeve k).fb
  match f.started with
  | none => s0
  | some t0 =>
    if fbKind s0 k ≠ 4 ∨ !fbPowered s0 k then s0
    else
      let body := b.take (b.length - 2)
      let s := modFb s0 k fun f => { f with crc := fspCrc body }
      let crcOk := decide (2 ≤ b.length) && fieldLE b (b.length - 2) 2 == fspCrc body
      if f.registerRuns then
        let want := match f.register with
          | some (3, _, _, _) => 7
          | _ => 3
        if framingOk ∧ crcOk ∧ b.length = want then registerEnd s k 0 (fieldLE b 0 1) (if want = 7 then fieldLE b 1 4 else 0)
        else registerEnd s k 2 (fieldLE b 0 1) 0
      else
        let fb := fieldBytes s k
        let status := fieldLE b 0 1
        let field := fieldLE b 1 fb
        let sb := s.n k 0x050800
        let single := field % 2 ^ sb
        let turn := field / 2 ^ sb % 2 ^ s.n k 0x050700
        let whole := framingOk && b.length == 3 + fb
        if !whole ∨ !crcOk then badFrame s k (whole && !crcOk)
        else if bitOf status 0 ∨ f.lastCounter = some (status / 16) ∨ fbCpr s k ≤ single then badFrame s k false
        else
          let s1 := (acceptFrame s k turn single (t0 + 10000)).setN k 0x052900 status
          let s2 := modFb s1 k fun f => { f with lastCounter := some (status / 16), warn := status / 2 % 4 }
          if (status / 2 % 4).land (3 - f.warn) ≠ 0 then s2.later k 0x0503 [BitVec.ofNat 8 status] else s2

/-- No start bit within the turnaround (R220). -/
def fspTimeout (s : State) (k : Nat) : State :=
  let f := (s.sleeve k).fb
  if fbKind s k ≠ 4 ∨ f.started.isNone ∨ !fbPowered s k then s
  else if f.registerRuns then registerEnd s k 1 0 0
  else badFrame s k false

/-- FspRegisterRequest (R223): accepted while the sleeve is not ACTIVE; its reply comes with the transaction's end. Answers the status of a
refusal, or the state in which it waits. -/
def registerWrite (s : State) (k : Nat) (w : Write) : Nat × State :=
  if s.st k = usActive then (stWrongState, s)
  else if fieldLE w.data 0 1 ≠ 3 ∧ fieldLE w.data 0 1 ≠ 4 then (stRange, s)
  else if fbKind s k ≠ 4 ∨ (s.sleeve k).fb.register.isSome then (stWrongState, s)
  else (stOk, modFb s k fun f => { f with register := some (fieldLE w.data 0 1, fieldLE w.data 1 1, fieldLE w.data 2 4, w.origin) })

/-! ### Speed (R227 to R229) -/

/-- Exact quotient as binary64. -/
def d64div (a : Rat) (b : Rat) : Nat := d64 (a / b)

/-- Counts per second over a span of quanta, in binary64. -/
def perSecond (counts : Rat) (quanta : Rat) : Nat := d64div (counts * 16000000000) quanta

/-- v_f in binary64 (R227). Answers the value and the frame it was formed from. -/
def speedFreq (s : State) (k : Nat) : Nat × Option Nat :=
  let f := (s.sleeve k).fb
  let n := max 1 (s.n k 0x051900)
  if fbKind s k = 3 ∨ fbKind s k = 4 then
    match f.frames with
    | [] => (f.vFreq, f.vFrame)
    | a :: _ =>
      let window := f.frames.filter fun x => decide (a.time ≤ x.time + n * s.tb)
      match window.getLast? with
      | none => (f.vFreq, f.vFrame)
      | some b =>
        if f.vFrame = some a.time ∨ b.time = a.time then (f.vFreq, f.vFrame)
        else (perSecond (((a.pos - b.pos : Int) : Rat) / 65536) ((a.time : Rat) - b.time), some a.time)
  else
    match f.positions[0]?, f.positions[n]? with
    | some p, some q => (perSecond (((p - q : Int) : Rat) / 65536) ((n * s.tb : Nat) : Rat), f.vFrame)
    | _, _ => ((Config.openValue 227 [k, s.beat.n]).toNat % 2 ^ 64, f.vFrame)

/-- v_p in binary64 (R228) at an instant t(n). -/
def speedPeriod (s : State) (k : Nat) (tn : Nat) : Nat :=
  let f := (s.sleeve k).fb
  let n := max 1 (s.n k 0x051900)
  if f.edgesSeen < 2 then 0
  else
    match f.edges with
    | e :: e0 :: _ =>
      if s.n k 0x051A00 * quantaPerUs < tn - e.1 then 0
      else
        let window := f.edges.filter fun x => decide (tn < x.1 + n * s.tb ∧ x.1 ≤ tn)
        match window.reverse with
        | first :: second :: _ =>
          let last := (window.headD second).1
          if last = first.1 then (Config.openValue 228 [k, s.beat.n]).toNat % 2 ^ 64
          else perSecond (((window.map Prod.snd).sum - first.2 : Int) : Rat) ((last : Rat) - first.1)
        | _ => if e.2 ≠ e0.2 then 0 else perSecond (e.2 : Rat) ((max (e.1 - e0.1) (tn - e.1) : Nat) : Rat)
    | _ => 0

/-- MeasuredSpeed of a beat (R229), with both methods current. -/
def speedBeat (s : State) (k : Nat) (tn : Nat) : State :=
  let f := (s.sleeve k).fb
  let (vf, frame) := speedFreq s k
  let serial := fbKind s k = 3 ∨ fbKind s k = 4
  let vp := if serial then 0 else speedPeriod s k tn
  let vc := fRat b32s (s.n k 0x051800)
  let method := s.n k 0x052500
  let m := if serial then 0
    else if method = 1 ∧ vc * 11 / 10 < |fRat b64 vp| then 0
    else if method = 0 ∧ |fRat b64 vf| < vc * 9 / 10 then 1
    else method
  let v := f64to32 (if m = 0 then vf else vp)
  let keep := (f.edges.filter fun e => decide (tn < e.1 + 17 * s.tb)).length
  let s1 := modFb s k fun f => { f with vFreq := vf, vPer := vp, vFrame := frame, edges := f.edges.take (max 2 keep) }
  (s1.setN k 0x052500 m).setN k 0x052400 (if s.n k 0x052000 = 4 then 0 else v)

/-! ### Currents (R231 to R233) -/

/-- Triangular number of n + 1 terms; 0 below 0. -/
def tri (n : Int) : Int := if n < 0 then 0 else (n + 1) * (n + 2) / 2

/-- Weight j of a sinc3 window of decimation R. -/
def sinc3w (r j : Nat) : Int := tri j - 3 * tri ((j : Int) - r) + 3 * tri ((j : Int) - 2 * r) - tri ((j : Int) - 3 * r)

/-- Weight j of a sinc2 window. -/
def sinc2w (r j : Nat) : Int := if j < r then j + 1 else 2 * (r : Int) - 1 - j

/-- Weighted ones of a window of n bits. -/
def ones (w : Nat → Int) (n : Nat) (bits : List Bool) : Int :=
  ((bits.take n).zipIdx.map fun p => if p.1 then w p.2 else 0).sum

/-- SdGain × (2y − 1) + SdOffset of stream j (R231). -/
def sdValue (s : State) (k j : Nat) (y : Rat) : Rat := fRat b32s (s.n k (0x054200 + j)) * (2 * y - 1) + fRat b32s (s.n k (0x054300 + j))

/-- The sinc3 value of a stream. -/
def sdSample (s : State) (k j : Nat) (bits : List Bool) : Nat :=
  let r := max 1 (s.n k 0x054100)
  fOfRat b32s (sdValue s k j ((ones (sinc3w r) (3 * r - 2) bits : Rat) / (r ^ 3 : Nat)))

/-- Store the currents and the voltage of a sample. -/
def sdTake (s : State) (k : Nat) (x : SleeveSample) : State :=
  let i1 := sdSample s k 0 x.sdI1
  let i2 := sdSample s k 1 x.sdI2
  let i3 := fSub b32s (i1.xor (2 ^ 31)) i2
  (((s.setN k 0x054800 i1).setN k 0x054801 i2).setN k 0x054802 i3).setN k 0x054900 (sdSample s k 2 x.sdVdc)

/-- Value of a stream in the fast path at i clocks before the newest. -/
def ocValue (s : State) (k j : Nat) (bits : List Bool) (i : Nat) : Rat :=
  let r := max 1 (s.n k 0x054500)
  sdValue s k j ((ones (sinc2w r) (2 * r - 1) (bits.drop i) : Rat) / (r ^ 2 : Nat))

/-- Does the over-current comparator decide (R232)? -/
def ocDecides (s : State) (k : Nat) (b1 b2 : List Bool) : Bool :=
  let th := fRat b32s (s.n k 0x054600)
  let n := max 1 (s.n k 0x054700)
  let beyond (v : Nat → Rat) : Bool := (List.range n).all fun i => decide (th < v i ∨ v i < -th)
  decide (0 < th) && decide (n + 2 * s.n k 0x054500 ≤ b1.length + 2 ∧ n + 2 * s.n k 0x054500 ≤ b2.length + 2)
    && (beyond (ocValue s k 0 b1) || beyond (ocValue s k 1 b2) || beyond fun i => -(ocValue s k 0 b1 i) - ocValue s k 1 b2 i)

/-- A stream holds one level for 64 clocks (R233). -/
def streamStuck (s : State) (k : Nat) (bits : List Bool) : State :=
  let w := bits.take 64
  if !fbPowered s k ∨ w.length < 64 ∨ !(w.all id || w.all fun b => !b) then s
  else feedbackFault (if shadowed s k 9 then s else bump s k 0x054A00) k 2 9

/-! ### Pulse division (R234, R235) -/

/-- Position of a pair (A, B) in the upward sequence 00, 10, 11, 01. -/
def quadPhase (a b : Bool) : Nat :=
  match a, b with
  | false, false => 0
  | true, false => 1
  | true, true => 2
  | false, true => 3

/-- Level of A and B at a phase of the upward sequence. -/
def divLevels (ph : Nat) : Bool × Bool :=
  match ph % 4 with
  | 0 => (false, false)
  | 1 => (true, false)
  | 2 => (true, true)
  | _ => (false, true)

/-- The level that a pin has after every edge scheduled on it. -/
def pinEnd (s : State) (p : Nat) : Bool := let x := s.pin p; (x.scheduled.getLast?.map Prod.snd).getD x.level

/-- Schedule e edges from a window start, spread over the tick (R235), from the phase in which the scheduled edges leave the pins. -/
def divSchedule (s : State) (k : Nat) (t : Nat) (up : Bool) (e : Nat) : State :=
  let p := s.n k 0x055300
  let tick := tickQ s k
  (List.range e).foldl (fun s j =>
    let ph := quadPhase (pinEnd s p) (pinEnd s (p + 1))
    let (a, b) := divLevels ph
    let (a', _) := divLevels (if up then ph + 1 else ph + 3)
    let at' := t + 16000 + (rhe (((2 * j + 1) * tick : Nat) / ((2 * e : Nat) : Rat))).toNat
    let pin := if a = a' then p + 1 else p
    let lvl := if a = a' then !b else a'
    let x := s.pin pin
    s.setPin pin { x with scheduled := x.scheduled ++ [(at', lvl)] }) s

/-- The division of a sample (R234): from the whole count before and the remainder, to the output and the new remainder. -/
def divide (s : State) (k : Nat) (inc rem : Int) : Int × Int :=
  let acc := inc * s.i k 0x055100 + rem
  let d := max 1 (s.i k 0x055200)
  (acc / d, acc - acc / d * d)

/-- The work of the divider from a state of it (R234, R235): previous whole count, carry, remainder, and the edges that an earlier run over the
same sample has counted as dropped. -/
def divRun (s : State) (k t : Nat) (fp : Int) (was : Option Int × Int × Int × Nat) : State :=
  let (prev, carry, rem, dropped) := was
  let r := divide s k (fp - prev.getD fp) rem
  let s1 := s.setI k 0x055500 r.2
  let p := s.n k 0x055300
  let put (c : Int) (n : Nat) (u : State) : State := modFb u k fun f => { f with divPrev := some fp, divCarry := c, divWas := (prev, carry, rem, n) }
  if !(s.n 0 (0x092000 + p) = k ∧ s.n 0 (0x092000 + p + 1) = k ∧ pinDriven s p) then put 0 dropped s1
  else
    let net := r.1 + carry
    let cap := tickQ s k / 640
    let e := min net.natAbs cap
    let left := net.natAbs - e
    let keep := min left cap
    let s2 := put (if 0 ≤ net then (keep : Int) else -keep) (max dropped (left - keep)) (bumpN s1 k 0x055400 (left - keep - dropped))
    if e = 0 then s2 else divSchedule s2 k t (decide (0 < net)) e

/-- Work of the divider at a sample with a feedback position: whole counts are followed also while it is disabled. -/
def divSample (s : State) (k : Nat) (t : Nat) (pos : Int) : State :=
  let f := (s.sleeve k).fb
  let fp := pos / 65536
  if !s.b k 0x055000 then modFb s k fun f => { f with divPrev := some fp, divCarry := 0, divWas := (none, 0, 0, 0) }
  else divRun (modFb s k fun f => { f with divClear := false }) k t fp (f.divPrev, f.divCarry, if f.divClear then 0 else s.i k 0x055500, 0)

/-- The sample that the divider has worked on has changed: it works on it anew. -/
def divAmend (s : State) (k : Nat) (t : Nat) (pos : Int) : State :=
  if !s.b k 0x055000 then modFb s k fun f => { f with divPrev := some (pos / 65536) }
  else
    let p := s.n k 0x055300
    let clear (u : State) (q : Nat) : State :=
      let x := u.pin q
      u.setPin q { x with scheduled := x.scheduled.filter fun e => decide (e.1 < t + 16000) }
    divRun ([p, p + 1].foldl clear s) k t (pos / 65536) (s.sleeve k).fb.divWas

/-! ### A sample (R214) -/

/-- Feedback position at a stamp: the count after every edge stamped before it (R215). -/
def fbAt (s : State) (k stamp : Nat) : Int :=
  s.i k 0x052300 - (((s.sleeve k).fb.edges.filter fun e => decide (stamp ≤ e.1)).map Prod.snd).sum * 65536

/-- The feedback position of a sample at t_k: the count after every edge stamped before it, or a serial position extrapolated from the latest
accepted frame (R215, R224). -/
def samplePosition (s : State) (k : Nat) (t : Nat) : State × Int :=
  let here := s.i k 0x052300
  match fbKind s k with
  | 1 => (s, fbAt s k t)
  | 2 => (s, fbAt s k t)
  | 0 => (s, here)
  | _ =>
    match (s.sleeve k).fb.frames with
    | [] => (s, here)
    | fr :: _ =>
      if !fbValid s k then (s, here)
      else
        let dt := d64 (((t : Rat) - fr.time) / 16000000000)
        let s1 := putFb s k (fr.pos + rhe64 (fMul b64 (fMul b64 (fOfInt b64 65536) (f32to64 (s.n k 0x052400))) dt))
        (s1, s1.i k 0x052300)

/-- The beat sample of a position: for the speed, the engine and latch and compare (R214). -/
def beatTakes (s : State) (k t : Nat) (p : Int) : State :=
  let s1 := speedBeat (modFb s k fun f => { f with
    positions := (p :: f.positions).take 17, beatSample := some (s.beat.n, t, p), methodWas := s.n k 0x052500 }) k t
  let a := axisOf s1 k
  if a ≠ 0 ∧ (s1.st a = usReady ∨ s1.st a = usActive) then
    let ax := s1.axis a
    let smp : AxisSample := { time := t, pos := p, beat := s1.beat.n, ok := fbValid s1 k }
    s1.setAxis a { ax with latch := { ax.latch with measSamples := keepSamples ax.latch (smp :: ax.latch.measSamples) } }
  else s1

/-- The sample of a tick start: position, currents and voltage, the divider; at a beat start the speed as well. -/
def fbSample (s : State) (x : SleeveSample) (t : Nat) (beat : Bool) : State :=
  let k := x.sleeve
  if !fbPowered s k then s
  else
    let f := (s.sleeve k).fb
    let s1 := if f.lostDue then feedbackFault (modFb s k fun f => { f with lostDue := false }) k 1 8 else s
    let r := samplePosition s1 k t
    let s2 := sdTake (putMeasured (modFb r.1 k fun f => { f with tickTime := t, tickPos := r.2 }) k r.2) k x
    divSample (if beat then beatTakes s2 k t r.2 else s2) k t r.2

/-- An edge stamped before the sample of the tick in progress has been decided in time to be part of it (R215): it is taken d counts further, with
what has been formed from it. -/
def amendSample (s : State) (k : Nat) (d : Int) (stamp : Nat) : State :=
  let f := (s.sleeve k).fb
  if f.tickTime ≤ stamp ∨ f.tickTime + (s.n k 0x050300 + 1) * 128 + 256 < s.q then s
  else
    let p := f.tickPos + d * 65536
    let s1 := putMeasured (modFb s k fun f => { f with tickPos := p }) k p
    let s2 := match f.beatSample with
      | some (n, t, q) =>
        if t ≠ f.tickTime then s1
        else
          let s2 := speedBeat ((modFb s1 k fun f => { f with
            positions := p :: f.positions.drop 1, beatSample := some (n, t, q + d * 65536) }).setN k 0x052500 f.methodWas) k t
          let a := axisOf s2 k
          let ax := s2.axis a
          if a = 0 then s2
          else s2.setAxis a { ax with latch := { ax.latch with
            measSamples := ax.latch.measSamples.map fun x => if x.time = t then { x with pos := p } else x } }
      | none => s1
    divAmend s2 k f.tickTime p

/-! ### Counting (R215 to R218) -/

/-- One count in a direction, decided now, at a stamp. -/
def moveCount (s : State) (k : Nat) (dir : Int) (stamp : Nat) : State :=
  let d := if s.b k 0x050200 then -dir else dir
  let cpr := fbCpr s k
  let p := fbCounts s k
  let p' := p + d
  let s1 := putCounts s k p'
  let s2 := putFb s1 k (fbCounts s1 k * 65536)
  let s3 := modFb s2 k fun f => { f with edges := (stamp / 8 * 8, d) :: f.edges, edgesSeen := min 2 (f.edgesSeen + 1),
                                         illegal := if p / cpr = p' / cpr then f.illegal else 0 }
  amendSample s3 k d (stamp / 8 * 8)

/-- An illegal transition (R216). -/
def illegalStep (s : State) (k : Nat) : State :=
  let s1 := modFb (hit s k 5) k fun f => { f with illegal := f.illegal + 1 }
  if s.n k 0x050400 < (s1.sleeve k).fb.illegal then feedbackFault s1 k 0 6 else s1

/-- Accepted levels of A and B after a change (R215); other kinds only follow the pins. -/
def countEdge (s : State) (k : Nat) (a b : Bool) (stamp : Nat) : State :=
  if fbKind s k = 2 ∨ !filterPassed s k stamp then s
  else
    let f := (s.sleeve k).fb
    let s1 := modFb s k fun f => { f with a := a, b := b }
    if fbKind s k ≠ 1 ∨ !fbPowered s k then s1
    else match (quadPhase a b + 4 - quadPhase f.a f.b) % 4 with
    | 0 => s
    | 1 => moveCount s1 k 1 stamp
    | 3 => moveCount s1 k (-1) stamp
    | _ => illegalStep s1 k

/-- Filtered Hall levels after a change (R218); other kinds only follow the pins. -/
def hallStep (s : State) (k : Nat) (a b c : Bool) (stamp : Nat) : State :=
  if fbKind s k = 1 ∨ !filterPassed s k stamp then s
  else if fbKind s k ≠ 2 ∨ !fbPowered s k then modFb s k fun f => { f with a := a, b := b, c := c }
  else
    let f := (s.sleeve k).fb
    match hallPhase a b c with
    | none => illegalStep s k
    | some n =>
      let s1 := modFb s k fun f => { f with a := a, b := b, c := c, hallSeen := true }
      if !f.hallSeen then (if s.n k 0x052000 = 1 then s1.setN k 0x052000 2 else s1)
      else match hallPhase f.a f.b f.c with
        | none => s1
        | some m =>
          match (n + 6 - m) % 6 with
          | 0 => s1
          | 1 => moveCount s1 k 1 stamp
          | 5 => moveCount s1 k (-1) stamp
          | _ => illegalStep s1 k

/-- A rising index edge (R217). -/
def indexEdge (s : State) (k stamp : Nat) : State :=
  if fbKind s k ≠ 1 ∨ s.n k 0x050500 ≠ 1 ∨ !fbPowered s k ∨ !filterPassed s k stamp then s
  else bump (s.setI k 0x052600 (fbAt s k stamp)) k 0x052700

end Sys2Proof.Machine
end

