-- ==== Sys2Proof/Machine/LatchCompare.lean ====
section
/-! DEFINITION. Latches and compare targets (06). -/

namespace Sys2Proof.Machine

/-- Change the latch half of an axis. -/
def modLatch (s : State) (a : Nat) (f : AxisLatch → AxisLatch) : State :=
  let x := s.axis a
  s.setAxis a { x with latch := f x.latch }
/-- Change the compare half of an axis. -/
def modCompare (s : State) (a : Nat) (f : AxisCompare → AxisCompare) : State :=
  let x := s.axis a
  s.setAxis a { x with compare := f x.compare }

/-! ### Edges on the latch inputs (R145, R146) -/

/-- LatchFilter of an input, in quanta. -/
def latchFilter (s : State) (i : Nat) : Nat := s.n 0 (0x091000 + i) * 1000

/-- Axes that are READY or ACTIVE. -/
def liveAxes (s : State) : List Nat := (((List.range 0x3A0).drop 0x200).filter fun a => s.st a == usReady || s.st a == usActive)

/-- Does the axis take an edge of an input (R146)? -/
def takesEdge (s : State) (a i : Nat) (level : Bool) : Bool :=
  bitOf (s.n a 0x090000) i && (s.n a 0x090100 == 2 || s.n a 0x090100 == (if level then 0 else 1))

/-- Put an edge among the edges of an axis, in stamp order, then input order (OP3). -/
def insertEdge (e : LatchEdge) : List LatchEdge → List LatchEdge
  | [] => [e]
  | x :: r => if e.stamp < x.stamp ∨ (e.stamp = x.stamp ∧ e.input < x.input) then e :: x :: r else x :: insertEdge e r

/-- Present level of a latch input: #0911. -/
def latchLevel (s : State) (i : Nat) : Bool := let x := mapGet {} s.latchIns i; x.level != x.cand.isSome

/-- An edge on a latch input at a stamp (R145). A pulse shorter than the filter takes its own first edge away again. -/
def latchEdge (s : State) (i : Nat) (level : Bool) (stamp : Nat) : State :=
  let t := stamp / 8 * 8
  let x := mapGet {} s.latchIns i
  if latchLevel s i = level then s
  else
    let put (s : State) (y : LatchIn) : State := { s with latchIns := mapPut {} s.latchIns i y }
    match x.cand with
    | some c =>
      if t < c + latchFilter s i then
        put ((liveAxes s).foldl (fun s a => modLatch s a fun l => { l with edges := l.edges.filter fun e => !(e.stamp == c && e.input == i) }) s)
          { x with cand := none }
      else
        put ((liveAxes s).foldl (fun s a => if takesEdge s a i level then
            modLatch s a fun l => { l with edges := insertEdge ⟨t, i, !level⟩ l.edges } else s) s) { level := !level, cand := some t }
    | none =>
      put ((liveAxes s).foldl (fun s a => if takesEdge s a i level then
          modLatch s a fun l => { l with edges := insertEdge ⟨t, i, !level⟩ l.edges } else s) s) { x with cand := some t }

/-! ### The position at the latch instant (R147) -/

/-- The samples that an axis's latch uses, newest first. -/
def latchSamples (s : State) (a : Nat) : List AxisSample :=
  if s.n a 0x090200 = 1 then (s.axis a).latch.measSamples else (s.axis a).latch.setSamples

/-- Counted position after each edge of a sleeve, newest first: stamp and position. -/
def edgePositions : Int → List (Nat × Int) → List (Nat × Int)
  | _, [] => []
  | p, e :: r => (e.1, p) :: edgePositions (p - e.2 * 65536) r

/-- a + round_half_even(d × num / den) in binary64. -/
def interpolate (a d : Int) (num den : Nat) : Int := a + rhe64 (fDiv b64 (fMul b64 (fOfInt b64 d) (fOfInt b64 num)) (fOfInt b64 den))

/-- Interpolation between the two count edges around an instant (R147): quadrature with LatchSource 1, an edge within the beat. -/
def fineLatch (s : State) (a t : Nat) (from' to' : Nat) : Option Int :=
  let k := sleeveOf s a
  if s.n a 0x090200 ≠ 1 ∨ fbKind s k ≠ 1 then none
  else
    let l := edgePositions (s.i k 0x052300) (s.sleeve k).fb.edges
    match (l.filter fun e => decide (t < e.1)).getLast?, (l.filter fun e => decide (e.1 ≤ t)).head? with
    | some e2, some e1 =>
      if (from' ≤ e1.1 ∧ e1.1 < to') ∨ (from' ≤ e2.1 ∧ e2.1 < to') then some (interpolate e1.2 (e2.2 - e1.2) (t - e1.1) (e2.1 - e1.1)) else none
    | _, _ => none

/-- A formed entry: unwrapped position if there is one, the later sample, LONG_SPAN. -/
structure LatchPos where
  pos : Option Int
  later : AxisSample
  long : Bool

/-- Samples around a stamp and the position there. None while the later sample is not available. -/
def latchPos (s : State) (a t : Nat) : Option LatchPos :=
  let l := latchSamples s a
  match (l.filter fun x => decide (t < x.time)).getLast? with
  | none => none
  | some b =>
    match (l.filter fun x => decide (x.time ≤ t)).head? with
    | none => some { pos := none, later := b, long := false }
    | some p =>
      if !p.ok ∨ !b.ok then some { pos := none, later := b, long := false }
      else
        let d := wrapDiff (m16 s a) (b.pos - p.pos)
        let pos := (fineLatch s a t p.time b.time).getD (interpolate p.pos d (t - p.time) (b.time - p.time))
        some { pos := some pos, later := b, long := decide (p.beat + dividerOf s a < b.beat) }

/-- Is a wrapped position inside the window (R149)? -/
def inWindow (s : State) (a : Nat) (pos : Int) : Bool :=
  let lo := s.i a 0x090400
  let hi := s.i a 0x090500
  !s.b a 0x090300 || (if m16 s a = 0 ∨ lo ≤ hi then decide (lo ≤ pos ∧ pos ≤ hi) else decide (lo ≤ pos ∨ pos ≤ hi))

/-- Every selected input has been decided up to a stamp (R148). -/
def inputsDecided (s : State) (a t : Nat) : Bool :=
  decide (t + ((bitsOf 16 (s.n a 0x090000)).foldl (fun m i => max m (latchFilter s i)) 0) + 4000 ≤ s.q)

/-- The first waiting edge of an axis becomes a latch entry (R147 to R149, R151). -/
def latchInsert (s : State) (a : Nat) : State :=
  match (s.axis a).latch.edges with
  | [] => s
  | e :: rest =>
    if !inputsDecided s a e.stamp then s
    else match latchPos s a e.stamp with
    | none => s
    | some lp =>
      let m := m16 s a
      let s1 := modLatch s a fun l => { l with edges := rest }
      let pos := (lp.pos.map (wrapPos m)).getD 0
      if lp.pos.isSome && !inWindow s a pos then bump s1 a 0x090C00
      else
        let seq := (s.n a 0x090900 + 1) % 2 ^ 32
        let s2 := s1.setN a 0x090900 seq
        let flags := (if lp.pos.isNone then 1 else 0) + (if lp.long then 2 else 0)
        let entry : LatchEntry := {
          stamp := e.stamp / 8
          position := pos
          turns := wrapTurns m (lp.pos.getD lp.later.pos)
          seq := seq
          input := e.input
          falling := e.falling
          flags := flags }
        if (s2.axis a).latch.fifo.length < 64 then modLatch s2 a fun l => { l with fifo := l.fifo ++ [entry] }
        else bump (modLatch s2 a fun l => { l with lost := { first := if l.lost.count = 0 then seq else l.lost.first, count := l.lost.count + 1 } }) a 0x090A00

/-- The 32 bytes of Table 6-2. -/
def latchBytes (e : LatchEntry) : Bytes :=
  leBytes 8 e.stamp ++ leBytesI 8 e.position ++ leBytesI 8 e.turns ++ leBytes 4 e.seq ++ leBytes 1 e.input
    ++ leBytes 1 (if e.falling then 1 else 0) ++ leBytes 2 e.flags

/-- The commit retires the latch entries of the intake (R150) and reports a loss once there is room (R151). -/
def latchCommit (s : State) (a : Nat) : State :=
  let l := (s.axis a).latch
  let mine := l.fifo.filter LatchEntry.intake
  let s1 := match mine.getLast? with
    | some e => s.setBs a 0x090700 (latchBytes e)
    | none => s
  let s2 := if s.b a 0x090800 then mine.foldl (fun s e => publish s a 0x0901 (latchBytes e)) s1 else s1
  let s2 := mine.foldl (fun s e => noteHit s { kind := 4, unit := a, input := e.input, stamp := e.stamp, detail := e.seq }) s2
  let s3 := modLatch s2 a fun l => { l with fifo := l.fifo.filter fun e => !e.intake }
  -- the first commit after room appears: there was room before this one retired its entries
  if l.lost.count ≠ 0 ∧ l.fifo.length < 64 then
    publish (modLatch s3 a fun l => { l with lost := {} }) a 0x0902 (leBytes 4 l.lost.first ++ leBytes 2 (min l.lost.count 65535))
  else s3

/-! ### Compare targets (R153 to R159) -/

/-- The target that 24 bytes spell (Table 6-3). -/
def readTarget (b : Bytes) : Target :=
  { pos := fieldLEI b 0 8, tag := fieldLE b 8 4, pin := fieldLE b 12 1, action := fieldLE b 13 1, report := bitOf (fieldLE b 14 1) 0,
    width := fieldLE b 16 4 }

/-- Targets held: queued, published and not yet inserted. -/
def targetsHeld (s : State) (a : Nat) : Nat := let c := (s.axis a).compare; c.queue.length + c.published.length

/-- CompareAppend at the commit that retires it (R153, R154). -/
def compareAppend (s : State) (a : Nat) (b : Bytes) : Nat × State :=
  let t := readTarget b
  let m := m16 s a
  if s.st a ≠ usReady ∧ s.st a ≠ usActive then (stWrongState, s)
  else if 256 ≤ targetsHeld s a then (0x20, s)
  else if 16 ≤ t.pin ∨ s.n 0 (0x092000 + t.pin) ≠ a then (0x21, s)
  else if (m ≠ 0 ∧ ¬(0 ≤ t.pos ∧ t.pos < m)) ∨ 3 < t.action ∨ (t.action = 3 ∧ t.width < 320) then (0x22, s)
  else (stOk, modCompare s a fun c => { c with published := c.published ++ [(t, s.beat.n)] })

/-- The samples that an axis's compare uses, newest first. -/
def compareRaw (s : State) (a : Nat) : List AxisSample :=
  if s.n a 0x093000 = 1 then (s.axis a).latch.measSamples else (s.axis a).latch.setSamples

/-- Those of them that are samples at all: an invalid position is none (R159). -/
def compareSamples (s : State) (a : Nat) : List AxisSample := (compareRaw s a).filter AxisSample.ok

/-- L of Table 6-4, in quanta. -/
def compareLatency (s : State) (a : Nat) : Nat :=
  (if s.n a 0x093000 = 1 then 0 else dividerOf s a * s.tb) + s.tb + 16000

/-- A target is found crossed at t_c (R156, R159): its edge waits. A late one goes ahead of every target that is ahead. -/
def fireAt (s : State) (a : Nat) (t : Target) (tc : Int) (late : Bool) : State :=
  let te := tc + compareLatency s a
  let past := decide (te < s.q)
  let f : Firing := { target := t, time := if past then s.q + 16000 else te.toNat, late := late || past }
  modCompare s a fun c => { c with firing := c.firing ++ [f] }

/-- COMPARE_MISSED with its sticky bit and count (R155, R157). -/
def missed (s : State) (a : Nat) (t : Target) (cause : Nat) : State :=
  publish (bump (s.setN a 0x093600 (setBit (s.n a 0x093600) 0)) a 0x093800) a 0x0911 (leBytes 4 t.tag ++ leBytesI 8 t.pos ++ leBytes 1 cause)

/-- Forward distance of a target from a position in the axis's direction of travel; on a modulo axis in (0, M × 2^16]. -/
def aheadOf (s : State) (a : Nat) (q : Int) (t : Target) : Int :=
  let d := if s.n a 0x093100 = 2 then q - t.pos else t.pos - q
  let m := m16 s a
  if m = 0 then d else if d % m = 0 then m else d % m

/-- Put a target into the queue in travel order from a reference (R154); equal positions keep their append order. -/
def insertTarget (dist : Target → Int) (t : Target) : List Target → List Target
  | [] => [t]
  | x :: r => if dist t < dist x then t :: x :: r else x :: insertTarget dist t r

/-- The late window (R155). -/
def lateWindow (s : State) (a : Nat) : Int :=
  let m : Int := s.n a 0x070000
  let w := s.i a 0x093200
  if w = 0 then m * 2 ^ 13 else min w (m * 2 ^ 15)

/-- The first published target is inserted against its reference sample (R155). -/
def compareInsert (s : State) (a : Nat) : State :=
  let c := (s.axis a).compare
  match c.published with
  | [] => s
  | (t, n) :: rest =>
    let l := compareSamples s a
    let ref := match l.find? fun x => decide (x.beat ≤ n) with
      | some x => some x
      | none => l.getLast?
    match ref with
    | none => s
    | some x =>
      let s1 := modCompare s a fun c => { c with published := rest }
      let d := aheadOf s a x.pos t
      let m := m16 s a
      if m = 0 then
        (if d ≤ 0 then missed s1 a t 0
         else modCompare s1 a fun c => { c with queue := insertTarget (aheadOf s a x.pos) t c.queue })
      else if m - d ≤ lateWindow s a then fireAt s1 a t x.time true
      else modCompare s1 a fun c => { c with queue := insertTarget (aheadOf s a x.pos) t c.queue }

/-- t_c on a count edge (R156): the stamp at which the count first passes the target. Sample k has every edge stamped before it (09 R215). -/
def edgeCrossing (s : State) (a : Nat) (x0 x1 : AxisSample) (dist : Int) : Option Nat :=
  let k := sleeveOf s a
  if s.n a 0x093000 ≠ 1 ∨ fbKind s k ≠ 1 then none
  else
    let up := decide (s.n a 0x093100 ≠ 2)
    ((((edgePositions (s.i k 0x052300) (s.sleeve k).fb.edges).reverse.filter fun e => decide (x0.time ≤ e.1 ∧ e.1 < x1.time)).find?
      fun e => decide (dist ≤ (if up then e.2 - x0.pos else x0.pos - e.2))).map Prod.fst)

/-- Crossings between the newest sample and the one before it (R156, R159): every target crossed fires, in travel order. While the position is
invalid nothing is crossed. -/
def compareCross (s : State) (a : Nat) : State :=
  if !((compareRaw s a).head?.map AxisSample.ok).getD false then s
  else match compareSamples s a with
  | x1 :: x0 :: _ =>
    let d := wrapDiff (m16 s a) (x1.pos - x0.pos)
    let travel := if s.n a 0x093100 = 2 then -d else d
    let q := (s.axis a).compare.queue
    let dist := aheadOf s a x0.pos
    let hit := q.filter fun t => decide (0 < dist t ∧ dist t ≤ travel)
    let sorted := hit.foldl (fun l t => insertTarget dist t l) []
    let s1 := modCompare s a fun c => { c with queue := q.filter fun t => !decide (0 < dist t ∧ dist t ≤ travel) }
    sorted.foldl (fun s t =>
      let tc : Int := match edgeCrossing s a x0 x1 (dist t) with
        | some st => st
        | none => (x0.time : Int) + rhe64 (fMul b64 (fDiv b64 (fOfInt b64 (dist t)) (fOfInt b64 travel)) (fOfInt b64 ((x1.time - x0.time : Nat) : Int)))
      fireAt s a t tc false) s1
  | _ => s

/-- An instant among instants in order. -/
def insertNat (t : Nat) : List Nat → List Nat
  | [] => [t]
  | x :: r => if t < x then t :: x :: r else x :: insertNat t r

/-- A firing would be more than the 64 edges that a pin takes in the beat in progress (R157): its own edge, and for a pulse its end, with the ends
of running pulses that are still to come in the beat. -/
def pinFull (s : State) (x : PinS) (f : Firing) (level : Bool) : Bool :=
  let stop := s.beat.base + s.beat.period
  let own := (if x.level = level then 0 else 1) + (if f.target.action = 3 ∧ f.time + f.target.width < stop then 1 else 0)
  decide (0 < own ∧ 64 < x.edges + (x.pulseEnds.filter fun e => decide (e < stop)).length + own)

/-- The first firing whose instant has come puts its edge on the pin and its acknowledgement into the next intake (R156 to R158). -/
def compareFire (s : State) (a : Nat) : State :=
  match (s.axis a).compare.firing with
  | [] => s
  | f :: rest =>
    if s.q < f.time then s
    else
      let p := f.target.pin
      let s0 := modCompare (pinUpTo f.time s p) a fun c => { c with firing := rest }
      let x := s0.pin p
      let level := match f.target.action with
        | 0 => true
        | 1 => false
        | 2 => !x.level
        | _ => true
      let driven := s0.n 0 (0x092000 + p) = a ∧ pinDriven s0 p
      if driven ∧ pinFull s0 x f level then missed s0 a f.target 1
      else
        let (t, s1) := if driven then placeEdge s0 p f.time level else (f.time, s0)
        let s2 := if driven ∧ f.target.action = 3 then
            let y := s1.pin p
            s1.setPin p { y with pulseEnds := insertNat (t + f.target.width) y.pulseEnds }
          else s1
        modCompare s2 a fun c => { c with acks := c.acks ++ [{ tag := f.target.tag, time := t, late := f.late, report := f.target.report }] }

/-- The end of the first running pulse on a pin (R157). -/
def pulseEnd (s : State) (p : Nat) : State :=
  let x := s.pin p
  match x.pulseEnds with
  | [] => s
  | t :: rest => if s.q < t then s else (placeEdge (s.setPin p { x with pulseEnds := rest }) p t false).2

/-- Entries that can be formed at a beat start are formed, in stamp order, before the intake of the beat is (R148). -/
def latchSettle (s : State) (a : Nat) : State := (s.axis a).latch.edges.foldl (fun t _ => latchInsert t a) s

/-- The commit counts and reports the firings of the intake (R158). -/
def compareCommit (s : State) (a : Nat) : State :=
  let mine := (s.axis a).compare.acks.filter FireAck.intake
  let s1 := mine.foldl (fun s k =>
    let s1 := bump s a 0x093700
    let s2 := if k.late then bump (s1.setN a 0x093600 (setBit (s1.n a 0x093600) 1)) a 0x093900 else s1
    if k.report ∨ k.late then publish s2 a 0x0910 (leBytes 4 k.tag ++ leBytes 8 (k.time / 8) ++ leBytes 1 (if k.late then 1 else 0)) else s2) s
  modCompare s1 a fun c => { c with acks := c.acks.filter fun k => !k.intake }

/-- CompareCommand FLUSH at the commit that retires it (R158). -/
def compareFlush (s : State) (a : Nat) : State :=
  publish (modCompare s a fun c => { c with queue := [], published := [] }) a 0x0912 (leBytes 2 (targetsHeld s a))

/-- What stands in the FIFOs of an axis at a beat start is the intake of the beat (R148, R158). -/
def latchIntake (s : State) (a : Nat) : State :=
  let x := s.axis a
  if x.latch.fifo.isEmpty ∧ x.compare.acks.isEmpty then s
  else s.setAxis a { x with latch := { x.latch with fifo := x.latch.fifo.map fun e => { e with intake := true } },
                            compare := { x.compare with acks := x.compare.acks.map fun e => { e with intake := true } } }

end Sys2Proof.Machine
end

