-- ==== Sys2Proof/Machine/Engine.lean ====
section
/-! DEFINITION. The control engine of a local axis and the gain schedule of a cluster (07). Values are binary32 bits; every operation rounds
to nearest even, and a subnormal result is zero (R164). -/

namespace Sys2Proof.Machine

/-! ### Numbers -/

/-- Sum, difference, product and quotient of R164. -/
def ad (x y : Nat) : Nat := fAdd b32e x y
def sb (x y : Nat) : Nat := fSub b32e x y
def ml (x y : Nat) : Nat := fMul b32e x y
def dv (x y : Nat) : Nat := fDiv b32e x y
/-- Square root; a negative radicand that rounding leaves counts as 0. -/
def sq (x : Nat) : Nat := if fLt b32e x 0 then 0 else fSqrt b32e x

/-- A state as it is stored: a subnormal one is zero (R164). -/
def fl (x : Nat) : Nat := if x % 2 ^ 31 < 2 ^ 23 then 0 else x

/-- 1.0, 2.0, 3.0, 0.5 and 1.5. -/
def one32 : Nat := 0x3F800000
def two32 : Nat := 0x40000000
def three32 : Nat := 0x40400000
def half32 : Nat := 0x3F000000
def threeHalf32 : Nat := 0x3FC00000
/-- 2π, √3 and √3/2, rounded to binary32. -/
def twoPi32 : Nat := 0x40C90FDB
def sqrt3 : Nat := 0x3FDDB3D7
def halfSqrt3 : Nat := 0x3F5DB3D7

/-- Sine, cosine and tangent (log entry 5). -/
def sin32 (x : Nat) : Nat := (Config.sinF32 (BitVec.ofNat 32 x)).toNat
def cos32 (x : Nat) : Nat := (Config.cosF32 (BitVec.ofNat 32 x)).toNat
def tan32 (x : Nat) : Nat := (Config.tanF32 (BitVec.ofNat 32 x)).toNat

/-- x is above 0, or below. -/
def pos32 (x : Nat) : Bool := fLt b32e 0 x
def neg32 (x : Nat) : Bool := fLt b32e x 0

/-! ### Coefficients (R176, R179) -/

/-- Change the engine of an axis. -/
def modEngine (s : State) (a : Nat) (f : AxisEngine → AxisEngine) : State :=
  let x := s.axis a
  s.setAxis a { x with engine := f x.engine }

/-- ActiveBank. -/
def bankOf (s : State) (a : Nat) : Nat := s.n a 0x064200

/-- The banked objects that a schedule replaces, in the order of its gains. -/
def scheduledObjs : List Nat := [0x620, 0x623, 0x624, 0x622, 0x62B, 0x62C]

/-- The torque share of a member (01 R26), binary32 bits. -/
def shareOf (s : State) (c a : Nat) : Nat :=
  match clusterPlan s c with
  | none => 0
  | some p => (p.shares[p.members.findIdx fun m => m == .device a]?).getD 0

/-- A running coefficient of an axis: the schedule's gain where its cluster schedules it, else the active bank's. -/
def coef (s : State) (a o : Nat) : Nat :=
  let c := clusterOf s a
  let bank := s.n a (o * 256 + bankOf s a)
  if c = 0 ∨ !s.b c 0x065000 then bank
  else match (s.cluster c).inForce[scheduledObjs.findIdx fun x => x == o]? with
    | none => bank
    | some g => if o = 0x620 then g else ml g (shareOf s c a)

/-- Coefficients of a banked filter. -/
def filterCoefs (s : State) (a o n : Nat) : List Nat :=
  (List.range n).map fun i => fieldLE (s.bs a (o * 256 + bankOf s a)) (4 * i) 4

/-- T_b in seconds, binary32. -/
def tb32 (s : State) : Nat := fOfRat b32e (secondsOf s 1)

/-! ### Filters (R168) -/

/-- An unstable biquad: |a2| ≥ 1 or |a1| ≥ 1 + a2. -/
def unstable (c : List Nat) : Bool :=
  let a1 := fRat b32e (c.getD 3 0)
  let a2 := fRat b32e (c.getD 4 0)
  decide (1 ≤ |a2| ∨ 1 + a2 ≤ |a1|)

/-- One step of a biquad in transposed direct form II: output, z1, z2. -/
def biquad (c : List Nat) (x z1 z2 : Nat) : Nat × Nat × Nat :=
  let y := ad (ml (c.getD 0 0) x) z1
  (y, ad (sb (ml (c.getD 1 0) x) (ml (c.getD 3 0) y)) z2, sb (ml (c.getD 2 0) x) (ml (c.getD 4 0) y))

/-- A notch frequency, at most 0.4 / T_b. -/
def notchFreq (s : State) (f : Nat) : Nat := fMin b32e f (dv (fOfRat b32e (2 / 5)) (tb32 s))

/-- The biquad of a notch by the bilinear transform, prewarped at ω_z; none where f_z is 0 (R168). -/
def notchCoefs (s : State) (p : List Nat) : Option (List Nat) :=
  let fz := p.getD 0 0
  if isZero32 fz then none
  else
    let wz := ml twoPi32 (notchFreq s fz)
    let wp := ml twoPi32 (notchFreq s (p.getD 2 0))
    let k := dv wz (tan32 (ml (ml wz (tb32 s)) half32))
    let k2 := ml k k
    let wz2 := ml wz wz
    let wp2 := ml wp wp
    let mz := ml (ml (ml two32 (p.getD 1 0)) wz) k
    let mp := ml (ml (ml two32 (p.getD 3 0)) wp) k
    let a0 := ad (ad k2 mp) wp2
    let g := dv wp2 wz2
    some [dv (ml g (ad (ad k2 mz) wz2)) a0, dv (ml g (ml two32 (sb wz2 k2))) a0, dv (ml g (ad (sb k2 mz) wz2)) a0,
          dv (ml two32 (sb wp2 k2)) a0, dv (ad (sb k2 mp) wp2) a0]

/-- One of the three filters on a value: the output, the new states, and whether its coefficients are unstable. -/
def runFilter (c : Option (List Nat)) (x : Nat) (z : List Nat) (i : Nat) : Nat × List Nat × Bool :=
  match c with
  | none => (x, z, false)
  | some c =>
    if unstable c then (x, z, true)
    else
      let (y, z1, z2) := biquad c x (z.getD (2 * i) 0) (z.getD (2 * i + 1) 0)
      (y, (z.set (2 * i) z1).set (2 * i + 1) z2, false)

/-! ### The beat (R165 steps 1 to 5) -/

/-- Measured position at the start of the beat, unwrapped (09 R214): the beat sample, in every state of the axis. -/
def xm (s : State) (a : Nat) : Int :=
  let k := sleeveOf s a
  match (s.sleeve k).fb.beatSample with
  | some (n, _, p) => if n = s.beat.n then p else s.i k 0x052300
  | none => s.i k 0x052300

/-- The speed reference (R166): value and whether the limit acted. -/
def speedRef (s : State) (a mode : Nat) : Nat × Nat × Bool :=
  let e := fOfRat b32e (((wrapDiff (m16 s a) (s.i a 0x070100 - wrapPos (m16 s a) (xm s a)) : Int) : Rat) / 65536)
  let vsp := s.n a 0x070200
  let v := if mode = 0 then ad (ml (coef s a 0x620) e) (ml (coef s a 0x621) vsp) else vsp
  let l := s.n a 0x060800
  (e, fClamp b32e v l, fLt b32e l v || fLt b32e v (fNeg b32e l))

/-- Trim term τ_trm with its clamp (R169): value, clamp above, clamp below. -/
def trimTerm (s : State) (a : Nat) (it et : Nat) : Nat × Bool × Bool :=
  let pol := fOfInt b32e (s.i a 0x060700)
  let u := ml pol (ad (ml (coef s a 0x62B) et) it)
  let l := s.n a 0x060B00
  (fClamp b32e u l, fLt b32e l u, fLt b32e u (fNeg b32e l))

/-- e_t. -/
def tensionError (s : State) (a : Nat) : Nat := sb (s.n a 0x060300) (s.n a 0x060400)

/-- i_d* (R172). -/
def idStar (s : State) (a : Nat) : Nat := fClamp b32e (s.n a 0x060F00) (s.n a 0x060A00)
/-- √(I_max² − i_d*²). -/
def iqLimit (s : State) (a : Nat) : Nat :=
  let im := s.n a 0x060A00
  let id := idStar s a
  sq (sb (ml im im) (ml id id))

/-- Hand-over presets of a switching beat (R183, R184): the state after them. -/
def handover (s : State) (a : Nat) : State :=
  let g := (s.axis a).engine
  let mode := s.n a 0x060000
  let trim := s.b a 0x060100
  let modeChange := mode != g.mode
  let trimChange := trim != g.trimOn
  if !modeChange && !trimChange then s
  else
    let et := tensionError s a
    let il := coef s a 0x62D
    let want := fNeg b32e (ml (coef s a 0x62B) et)
    let itOn := fClamp b32e want il
    let itNew := if trimChange then (if trim then itOn else 0) else g.iT
    let trm := if trim then (trimTerm s a itNew et).1 else 0
    let ivAfter := if trimChange ∧ !trim ∧ mode ≠ 2 then ad g.iV g.trimLast else g.iV
    let hAfter := if trimChange ∧ !trim ∧ mode = 2 then ad g.h g.trimLast else g.h
    let vlim := coef s a 0x625
    let hlim := s.n a 0x060900
    let ev := sb (speedRef s a mode).2.1 (s.n (sleeveOf s a) 0x052400)
    let ivWant := if modeChange ∧ mode ≠ 2 then
        sb g.tauLast (ad (ad (ml (coef s a 0x623) ev) (ml (coef s a 0x622) (s.n a 0x070300))) trm)
      else ivAfter
    let hWant := if modeChange ∧ mode = 2 then sb g.tauLast (ad (s.n a 0x060200) trm) else hAfter
    let preIv := (modeChange && mode != 2) || (trimChange && !trim && mode != 2)
    let preH := (modeChange && mode == 2) || (trimChange && !trim && mode == 2)
    let iv := if preIv then fClamp b32e ivWant vlim else ivWant
    let h := if preH then fClamp b32e hWant hlim else (if mode = 2 then hWant else 0)
    let step :=
      if preIv then sb iv ivWant
      else if preH then sb h hWant
      else if trimChange then ml (fOfInt b32e (s.i a 0x060700)) (sb itNew want) else 0
    let s1 := modEngine s a fun g => { g with iV := fl iv, iT := fl itNew, h := fl h, mode := mode, trimOn := trim }
    if isZero32 step then s1
    else
      let cause := if modeChange && trimChange then 3 else if modeChange then 0 else if trim then 1 else 2
      (bump s1 a 0x067C00).later a 0x0601 (leBytes 1 cause ++ leBytes 1 g.mode ++ leBytes 1 mode ++ [0] ++ leBytes 4 step)

/-- Does the engine compute: the axis is ACTIVE, or stops with its loops closed in FAULT (R187, 12 R277)? -/
def engineRuns (s : State) (a : Nat) : Bool :=
  isLocal a && (s.st a == usActive || (s.st a == usFault && (s.axis a).traj.stop.isSome))

/-- Entering mode 0 moves the set-point to the measured position before the trajectory stage (R185). A cluster member, whose set-point comes
from the face, keeps the distance from the face's. -/
def enterPosition (s : State) (a : Nat) : State :=
  let g := (s.axis a).engine
  if engineRuns s a ∧ s.n a 0x060000 = 0 ∧ g.mode ≠ 0 then
    let x := s.axis a
    let shift := wrapDiff (m16 s a) (wrapPos (m16 s a) (xm s a) - s.i a 0x070100)
    s.setAxis a { x with
      traj := { x.traj with base := x.traj.base + shift
                            stop := x.traj.stop.map fun r => { r with p0 := r.p0 + shift }
                            run := x.traj.run.map fun r => { r with p0 := r.p0 + shift, cam := r.cam.map fun c => { c with u0 := c.u0 + shift } } }
      follow := { x.follow with
        shift := if clusterOf s a = 0 then x.follow.shift else x.follow.shift + shift
        cam := x.follow.cam.map fun c => { c with u0 := c.u0 + shift } } }
  else s

/-- Objects of the two biquads and the notch. -/
def filterObjs : List Nat := [0x62E, 0x62F, 0x630]

/-- CONFIG_INVALID once for each set of unstable coefficients that becomes running (R168): by filter, the unstable set with its bank, or nothing. -/
def reportFilters (s : State) (a : Nat) (bad : List (List Nat)) : State :=
  let old := (s.axis a).engine.bad
  let s1 := (filterObjs.zip (bad.zip old)).foldl (fun s p =>
    if !p.2.1.isEmpty && p.2.1 != p.2.2 then s.later a 0x0602 (leBytes 2 p.1 ++ leBytes 1 (bankOf s a)) else s) s
  modEngine s1 a fun g => { g with bad := bad }

/-- A filter's set where it is unstable, with its bank. -/
def badSet (s : State) (a : Nat) (c : Option (List Nat)) (bad : Bool) : List Nat := if bad then bankOf s a :: c.getD [] else []

/-- Steps 1 to 5 of Table 7-1 (R165 to R172): integrators, filters and published values of the beat, and the current references. -/
def engineBeat (s0 : State) (a : Nat) : State :=
  if !engineRuns s0 a then s0
  else
    let sH := handover s0 a
    let s := modEngine sH a fun g => if g.clearAsked then { g with h := 0, clearAsked := false } else g
    let g := (s.axis a).engine
    let mode := g.mode
    let tb := tb32 s
    let (ep, vref, sat0) := speedRef s a mode
    let vm := s.n (sleeveOf s a) 0x052400
    let ev := sb vref vm
    let et := tensionError s a
    let (trm, trmHi, trmLo) := if g.trimOn then trimTerm s a g.iT et else (0, false, false)
    let tff := ml (coef s a 0x622) (s.n a 0x070300)
    let src := if mode = 2 then ad (ad (s.n a 0x060200) g.h) trm
      else ad (ad (ad (ml (coef s a 0x623) ev) g.iV) tff) trm
    let (y1, z1, b1) := runFilter (some (filterCoefs s a 0x62E 5)) src g.z 0
    let (y2, z2, b2) := runFilter (some (filterCoefs s a 0x62F 5)) y1 z1 1
    let (tauU, z3, b3) := runFilter (notchCoefs s (filterCoefs s a 0x630 4)) y2 z2 2
    let kt := s.n a 0x061200
    let tmax := fMin b32e (s.n a 0x060900) (ml kt (iqLimit s a))
    let tau := fClamp b32e tauU tmax
    let hi := fLt b32e tmax tauU
    let lo := fLt b32e tauU (fNeg b32e tmax)
    -- R170
    let satV := (hi && pos32 ev) || (lo && neg32 ev)
    let iV := if mode = 2 ∨ satV then g.iV
      else fClamp b32e (ad g.iV (ml (ml (coef s a 0x624) tb) ev)) (coef s a 0x625)
    let pe := ml (fOfInt b32e (s.i a 0x060700)) et
    let satT := (hi && pos32 pe) || (lo && neg32 pe) || (trmHi && pos32 pe) || (trmLo && neg32 pe)
    let iT := if !g.trimOn then 0 else if satT then g.iT
      else fClamp b32e (ad g.iT (ml (ml (coef s a 0x62C) tb) et)) (coef s a 0x62D)
    -- R172
    let iqU := dv tau kt
    let iql := iqLimit s a
    let iq := fClamp b32e iqU iql
    let cur := fLt b32e iql iqU || fLt b32e iqU (fNeg b32e iql)
    let flags := (if mode ≠ 2 && sat0 then 1 else 0) + (if hi || lo then 2 else 0) + (if cur then 4 else 0) + (if trmHi || trmLo then 32 else 0)
    let s1 := modEngine s a fun g => { g with iV := fl iV, iT := fl iT, z := z3.map fl, tauLast := src, trimLast := trm, idRef := idStar s a, iqRef := iq }
    let s2 := ((((s1.setN a 0x067200 tau).setN a 0x067300 src).setN a 0x067400 iq).setN a 0x067D00 (fl iV)).setN a 0x067E00 (fl iT)
    let s3 := if mode = 2 then s2 else s2.setN a 0x067100 vref
    let s4 := if mode = 0 then s3.setN a 0x067000 ep else s3
    reportFilters ((s4.setN a 0x060500 g.h).setN a 0x067A00 flags) a
      [badSet s a (some (filterCoefs s a 0x62E 5)) b1, badSet s a (some (filterCoefs s a 0x62F 5)) b2,
       badSet s a (notchCoefs s (filterCoefs s a 0x630 4)) b3]

/-! ### The tick (R165 steps 6 to 9) -/

/-- Park transform of (α, β) by an angle. -/
def park (al be th : Nat) : Nat × Nat :=
  (ad (ml al (cos32 th)) (ml be (sin32 th)), ad (ml (fNeg b32e al) (sin32 th)) (ml be (cos32 th)))

/-- Electrical angle at the sample and electrical speed (R171). -/
def electrical (s : State) (a : Nat) : Nat × Nat :=
  let k := sleeveOf s a
  let cpr := fbCpr s k
  let p2 := ml (fOfInt b32e (s.i a 0x061000)) twoPi32
  let x := (s.sleeve k).fb.tickPos % (cpr * 65536)
  let xr := f64to32 (fDiv b64 (fOfRat b64 ((x : Rat) / 65536)) (fOfInt b64 cpr))
  (ad (ml p2 xr) (s.n a 0x061100), dv (ml p2 (s.n k 0x052400)) (fOfInt b32e cpr))

/-- The request that the record last returned by the sleeve belongs to (R174; 08 R204): that of the same tick. A record of a tick that the engine
has not requested pairs with a request of nothing (log entry 33). -/
def pairedRequest (s : State) (a : Nat) : List Nat :=
  let t := (s.sleeve (sleeveOf s a)).pwm.returned
  (((s.axis a).engine.request.find? fun x => x.1 == t).map Prod.snd).getD []

/-- The voltage estimate of R174 from the applied duties: d and q. -/
def voltageEstimate (s : State) (a : Nat) : Nat × Nat :=
  let k := sleeveOf s a
  let r := pairedRequest s a
  let vx (i : Nat) : Nat := ml (sb (s.n k (0x043100 + i)) half32) (r.getD 2 0)
  let vu := vx 0
  let vv := vx 1
  let vw := vx 2
  park (dv (sb (sb (ml two32 vu) vv) vw) three32) (dv (sb vv vw) sqrt3) (r.getD 3 0)

/-- A component of the current loop does not integrate (R173, R174). -/
def currentSaturated (clampHi clampLo : Bool) (e req est limit : Nat) : Bool :=
  let sh := sb req est
  let short := fLt b32e limit (fAbs b32e sh) && ((pos32 sh && pos32 req && pos32 e) || (neg32 sh && neg32 req && neg32 e))
  (clampHi && pos32 e) || (clampLo && neg32 e) || short

/-- Duties of U, V and W from the limited voltages (R175). -/
def dutiesOf (vd vq th vdc : Nat) : List Nat :=
  let al := sb (ml vd (cos32 th)) (ml vq (sin32 th))
  let be := ad (ml vd (sin32 th)) (ml vq (cos32 th))
  let vu := al
  let ha := dv (fNeg b32e al) two32
  let vv := ad ha (ml halfSqrt3 be)
  let vw := sb ha (ml halfSqrt3 be)
  let v0 := dv (fNeg b32e (ad (fMax b32e vu (fMax b32e vv vw)) (fMin b32e vu (fMin b32e vv vw)))) two32
  [vu, vv, vw].map fun v => fMin b32e (fMax b32e (ad half32 (dv (ad v v0) vdc)) 0) one32

/-- Steps 6 to 9 in one tick (R171, R173 to R175): duties and integrators of the tick, and the values it publishes; next is the start of the tick
that the duties are for. -/
def engineTick (s : State) (a : Nat) (first : Bool) (next : Nat) : State :=
  if !engineRuns s a then s
  else
    let k := sleeveOf s a
    let g := (s.axis a).engine
    let iD0 := if first then g.iD else g.wD
    let iQ0 := if first then g.iQ else g.wQ
    let tt := fOfRat b32e ((tickQ s k : Nat) / 16000000000)
    let (ths, we) := electrical s a
    let i1 := s.n k 0x054800
    let i2 := s.n k 0x054801
    let (id, iq) := park i1 (dv (ad i1 (ml two32 i2)) sqrt3) ths
    let (idRef, iqRef) := if g.refs.1 = s.beat.n + 1 then g.refs.2 else (g.idRef, g.iqRef)
    let ed := sb idRef id
    let eq := sb iqRef iq
    let kpd := coef s a 0x626
    let kpq := coef s a 0x628
    let lim := coef s a 0x62A
    let decD := ml (ml we (s.n a 0x061400)) iq
    let decQ := ml we (ad (ml (s.n a 0x061300) id) (s.n a 0x061500))
    let req := pairedRequest s a
    let (vdh, vqh) := voltageEstimate s a
    let iDD := if g.preset && first then fClamp b32e (ad (sb vdh (ml kpd ed)) decD) lim else iD0
    let iQQ := if g.preset && first then fClamp b32e (sb (sb vqh (ml kpq eq)) decQ) lim else iQ0
    let vdu := sb (ad (ml kpd ed) iDD) decD
    let vqu := ad (ad (ml kpq eq) iQQ) decQ
    let vdc := fMax b32e (s.n k 0x054900) (s.n a 0x060D00)
    let vlm := dv (ml (s.n a 0x060C00) vdc) sqrt3
    let vd := fClamp b32e vdu vlm
    let vql := sq (sb (ml vlm vlm) (ml vd vd))
    let vq := fClamp b32e vqu vql
    let dHi := fLt b32e vlm vdu
    let dLo := fLt b32e vdu (fNeg b32e vlm)
    let qHi := fLt b32e vql vqu
    let qLo := fLt b32e vqu (fNeg b32e vql)
    let shl := ml (s.n a 0x060E00) vlm
    let iD := if currentSaturated dHi dLo ed (req.getD 0 0) vdh shl then iDD
      else fClamp b32e (ad iDD (ml (ml (coef s a 0x627) tt) ed)) lim
    let iQ := if currentSaturated qHi qLo eq (req.getD 1 0) vqh shl then iQQ
      else fClamp b32e (ad iQQ (ml (ml (coef s a 0x629) tt) eq)) lim
    let tho := ad ths (ml (ml threeHalf32 we) tt)
    let clamp := (if dHi || dLo then 8 else 0) + (if qHi || qLo then 16 else 0)
    let s1 := modEngine s a fun g => { g with
      wD := fl iD, wQ := fl iQ, duties := dutiesOf vd vq tho vdc, request := ((next, [vd, vq, vdc, tho]) :: g.request).take 3
      clamps := (if first then 0 else g.clamps).lor clamp }
    (((((s1.setN a 0x067500 id).setN a 0x067600 iq).setN a 0x067700 vdh).setN a 0x067800 vqh)).setN a 0x067900
      (ml threeHalf32 (ad (ml vdh id) (ml vqh iq)))

/-- The beat commit of an axis's engine: integrators and requests of the beat stand, the flags and their count (R189), and the following
error (12 R278). -/
def engineCommit (s : State) (a : Nat) : State :=
  if !engineRuns s a then s
  else
    let g := (s.axis a).engine
    let flags := (s.n a 0x067A00).lor g.clamps
    let s1 := (modEngine s a fun g => { g with iD := g.wD, iQ := g.wQ, requestC := g.request, preset := false }).setN a 0x067A00 flags
    let s2 := if flags = 0 then s1 else bump s1 a 0x067B00
    let lim := s2.n a 0x0B6000
    if g.mode = 0 ∧ s2.st a = usActive ∧ !isZero32 lim then
      let above := fLt b32s lim (fAbs b32s (s2.n a 0x067000))
      let run := if above then g.errorRun + 1 else 0
      if above ∧ s2.n a 0x0B6100 ≤ run then hit (modEngine s2 a fun g => { g with errorRun := 0 }) a 0
      else modEngine s2 a fun g => { g with errorRun := run }
    else modEngine s2 a fun g => { g with errorRun := 0 }

/-- A late cell returns to the state of its last committed beat (R187, 01 R18). -/
def engineLate (s : State) (a : Nat) : State :=
  modEngine s a fun g => { g with wD := g.iD, wQ := g.iQ, request := g.requestC, duties := [] }

/-- START clears the engine (R187); a bank already requested stays so (R177), and what CONFIG_INVALID has reported stays reported. -/
def engineStart (s : State) (a : Nat) : State :=
  modEngine s a fun g => { mode := s.n a 0x060000, trimOn := s.b a 0x060100, bankRequest := g.bankRequest, bad := g.bad }

/-- The new cell of a rehoused axis: what the full checkpoint holds, and a preset of the current integrators (12 R284, R286). -/
def engineRehoused (s : State) (a : Nat) : State :=
  modEngine s a fun g => { g with trimLast := g.full.1, request := g.full.2, requestC := g.full.2, preset := true }

/-- A full checkpoint of an axis's engine (12 R284). -/
def engineFull (s : State) (a : Nat) : State := modEngine s a fun g => { g with full := (g.trimLast, g.request) }

/-! ### Banks (R177) -/

/-- BankSwapRequest retired by a commit. -/
def bankRequest (s : State) (a v : Nat) : State :=
  if v = 1 ∨ v = 2 then modEngine (s.setN a 0x064100 v) a fun g => { g with bankRequest := some (v - 1) } else s.setN a 0x064100 v

/-- Step 3 of R14: the requested bank becomes active. -/
def bankSwap (s : State) (a : Nat) : State :=
  match (s.axis a).engine.bankRequest with
  | none => s
  | some b => modEngine (s.setN a 0x064200 b) a fun g => { g with bankRequest := none }

/-! ### The coordinator (R179 to R182, 01 R24, R26) -/

/-- Linear interpolation between sets (R180). -/
def schedGain (s : State) (c x o n : Nat) : Nat :=
  let xs := (List.range n).map fun i => s.n c (0x065400 + i)
  let gs := (List.range n).map fun i => s.n c (o * 256 + i)
  if fLe b32s x (xs.getD 0 0) then gs.getD 0 0
  else if fLe b32s (xs.getD (n - 1) 0) x then gs.getD (n - 1) 0
  else
    let j := ((List.range n).filter fun i => fLe b32s (xs.getD i 0) x).getLastD 0
    ad (gs.getD j 0) (ml (dv (sb x (xs.getD j 0)) (sb (xs.getD (j + 1) 0) (xs.getD j 0))) (sb (gs.getD (j + 1) 0) (gs.getD j 0)))

/-- The breakpoints in use rise strictly. -/
def schedRising (s : State) (c n : Nat) : Bool :=
  (List.range (n - 1)).all fun i => fLt b32s (s.n c (0x065400 + i)) (s.n c (0x065400 + i + 1))

/-- The number in an object, as binary32: POS64 as counts (R180). None where it is no numeric scalar. -/
def objAsF32 (s : State) (rd : State → Nat → Nat → Nat → Val) (u o e : Nat) : Option Nat :=
  match namedRow s u o e with
  | none => none
  | some (_, row) =>
    if !row.ty.scalar ∨ row.acc = .w then none
    else
      let v := valInt (rd s u o e)
      some (match row.ty with
        | .f32 => v.toNat
        | .f64 => f64to32 v.toNat
        | .pos64 => fOfRat b32e ((v : Rat) / 65536)
        | _ => fOfInt b32e v)

/-- The region variable (R180). -/
def schedVar (s : State) (rd : State → Nat → Nat → Nat → Val) (c : Nat) : Option Nat :=
  match s.n c 0x065100 with
  | 0 => some (fAbs b32s (s.n c 0x052400))
  | 1 => some (s.n c 0x066000)
  | _ =>
    let b := s.bs c 0x065200
    if b.length = 6 then objAsF32 s rd (fieldLE b 0 2) (fieldLE b 2 2) (fieldLE b 4 1) else none

/-- The diameter estimate (R181). -/
def diameter (s : State) (c : Nat) : State :=
  let v := s.n c 0x052400
  let m := s.n c 0x080000
  if m ≠ 0 ∧ fLe b32s (s.n c 0x065D00) (fAbs b32s v) then
    let raw := dv (ml (s.n c 0x065C00) (seenOf s m).2.1) v
    let d := s.n c 0x066000
    s.setN c 0x066000 (ad d (dv (sb raw d) (fOfInt b32e (s.i c 0x065E00))))
  else s

/-- The gain schedule of a beat (R180, R182). While scheduling is off no beat has been valid. -/
def schedule (s : State) (rd : State → Nat → Nat → Nat → Val) (c : Nat) : State :=
  if !s.b c 0x065000 then s.setCluster c { s.cluster c with gains := [], inForce := [], fullGains := [], scheduleBad := false }
  else
    let n := s.n c 0x065300
    match (if schedRising s c n then schedVar s rd c else none) with
    | some x =>
      let gains := [0x655, 0x656, 0x657, 0x658, 0x659, 0x65A].map fun o => schedGain s c x o n
      (s.setN c 0x065B00 x).setCluster c { s.cluster c with gains := gains, scheduleBad := false }
    | none =>
      let k := s.cluster c
      let s1 := if k.scheduleBad then s
        else s.later c 0x0602 (leBytes 2 (if schedRising s c n then 0x0652 else 0x0654) ++ leBytes 1 0)
      s1.setCluster c { k with scheduleBad := true }

/-- The face objects that a coordinator splits, for member i of the cluster (01 R24, R26; R162): mode and tension by broadcast, torque by ratio. -/
def splitFor (s : State) (c i : Nat) : List (Nat × Val) :=
  let share := (((clusterPlan s c).map ClusterPlan.shares).getD [])[i]?.getD 0
  [(0x060000, s.val c 0x060000), (0x060200, .num (ml (s.n c 0x060200) share)), (0x060300, s.val c 0x060300)]

/-- The split for the local members: dictionary key and value. -/
def splitOf (s : State) (c : Nat) : List (Nat × Val) :=
  match clusterPlan s c with
  | none => []
  | some p => p.members.zipIdx.flatMap fun m => match m.1 with
    | .device u => if isLocal u || isCluster u then (splitFor s c m.2).map fun e => (keyOf u e.1, e.2) else []
    | .remote _ => []

/-- The split for the remote members, by member index: it leaves with the next network cycle, the broadcast set-point of R142 with it. -/
def remoteSplit (s : State) (c : Nat) : NMap (NMap Val) :=
  match clusterPlan s c with
  | none => []
  | some p => p.members.zipIdx.filterMap fun m => match m.1 with
    | .device _ => none
    | .remote _ => some (m.2, splitFor s c m.2 ++ [0x070100, 0x070200, 0x070300, 0x083000].map fun k => (k, s.val c k))

/-- What a member shows of an object: a local one in its own storage, a remote one as it last came. -/
def memberShows (s : State) (c : Nat) (m : Member × Nat) (k : Nat) : Int :=
  match m.1 with
  | .device u => s.i (storeOf s u (k / 256)) k
  | .remote _ => valInt (mapGet (.num 0) (mapGet [] (s.cluster c).remote m.2) k)

/-- The larger in magnitude of two binary32 values, the first where they are alike. -/
def worse32 (x y : Nat) : Nat := if fLt b32s (fAbs b32s x) (fAbs b32s y) then y else x

/-- Face objects by the rule of R26 that combines them (log entry 44): feedback of the lead member, the sum of currents and power, the worst
following error, the fault flags of all. -/
def leadKeys : List Nat := [0x052400, 0x053000, 0x053100]
def sumKeys : List Nat := [0x067500, 0x067600, 0x067900]

/-- What the members' last commits give the face. -/
def heardOf (s : State) (p : ClusterPlan) : NMap Val :=
  let ms := p.members.zipIdx
  let show' (k : Nat) (m : Member × Nat) : Int := memberShows s p.cluster m k
  let lead (k : Nat) : Int := ((ms.find? fun m => match m.1 with
    | .device u => u == p.lead
    | .remote _ => 0x2000 + m.2 == p.lead).map (show' k)).getD 0
  let put (l : NMap Val) (e : Nat × Int) : NMap Val := mapPut (.num 0) l e.1 (.num e.2)
  let worst := ms.foldl (fun x m => worse32 x (show' 0x067000 m).toNat) 0
  let flags (k : Nat) : Nat := ms.foldl (fun x m => x.lor (show' k m).toNat) 0
  ((leadKeys.map fun k => (k, lead k)) ++ [(0x067000, (worst : Int))]
    ++ (sumKeys.map fun k => (k, ((ms.foldl (fun x m => ad x (show' k m).toNat) 0 : Nat) : Int)))
    ++ [(0x0B0000, (flags 0x0B0000 : Int)), (0x0B0100, (flags 0x0B0100 : Int))]).foldl put []

/-- At a beat start every coordinator takes what the members' commits of the beat before have left (01 R24). -/
def facesHear (s : State) : State :=
  (planClusters s).foldl (fun t p => t.setCluster p.cluster { t.cluster p.cluster with heard := heardOf t p }) s

/-- A coordinator publishes on the face what it has heard. -/
def publishFace (s : State) (c : Nat) : State :=
  let h := (s.cluster c).heard
  let s1 := (leadKeys ++ [0x067000] ++ sumKeys).foldl (fun (t : State) k => t.setV c k (mapGet (.num 0) h k)) s
  s1.setCluster c { s1.cluster c with
    flags := ((valInt (mapGet (.num 0) h 0x0B0000)).toNat, (valInt (mapGet (.num 0) h 0x0B0100)).toNat) }

/-- The coordinator's beat beyond the face's trajectory stage: the members' values on the face, diameter, schedule and split. -/
def coordinatorBeat (s : State) (rd : State → Nat → Nat → Nat → Val) (c : Nat) : State :=
  let s1 := schedule (diameter (publishFace s c) c) rd c
  s1.setCluster c { s1.cluster c with split := splitOf s1 c, remoteOut := remoteSplit s1 c, late := false }

/-- The split of the beat before takes effect on the local members at a beat start (01 R24). -/
def applySplit (s : State) (c : Nat) : State :=
  let k := s.cluster c
  let s1 := k.split.foldl (fun s e => s.setV (e.1 / 2 ^ 24) (e.1 % 2 ^ 24) e.2) s
  if k.inForce = k.gains then s1 else s1.setCluster c { k with inForce := k.gains }

end Sys2Proof.Machine
end

