-- ==== Sys2Proof/Machine/Pwm.lean ====
section
/-! DEFINITION. The PWM half of a sleeve (08): carriers, pulses, dead time, applied duties, trips, readback. -/

namespace Sys2Proof.Machine

/-- Change the PWM half of a sleeve. -/
def modPwm (s : State) (k : Nat) (f : SleevePwm → SleevePwm) : State :=
  let x := s.sleeve k
  s.setSleeve k { x with pwm := f x.pwm }

/-! ### The carrier (R193, R198, R199): every sleeve of a powered bank, in every state -/

/-- The sleeve's SyncOffset in the plan; 0 for a sleeve the plan leaves out. -/
def syncOffsetOf (s : State) (k : Nat) : Nat := ((sleevePlan s k).map SleevePlan.syncOffset).getD 0

/-- φ_s in quanta: the offsets of the sleeves before it in its bank's chain, modulo T_b (R198). -/
def carrierPhase (s : State) (k : Nat) : Nat :=
  let first := k - (k - 0x101) % 8
  (((List.range ((k - 0x101) % 8)).map fun i => syncOffsetOf s (first + i)).sum) % max 1 s.tb

/-- PwmUpdateMode. -/
def updateMode (s : State) (k : Nat) : Nat := ((sleevePlan s k).map SleevePlan.mode).getD 0

/-- Span between update instants (Table 8-1). -/
def updateQ (s : State) (k : Nat) : Nat :=
  match updateMode s k with
  | 0 => carrierQ s k
  | 1 => carrierQ s k / 2
  | _ => 2 * carrierQ s k

/-- The last update instant at or before now. -/
def lastInstant (s : State) (k : Nat) : Nat :=
  let base := s.phaseQ + carrierPhase s k
  base + (s.q - base) / max 1 (updateQ s k) * max 1 (updateQ s k)

/-- Is an update instant a valley? -/
def isValley (s : State) (k t : Nat) : Bool := (t - (s.phaseQ + carrierPhase s k)) % max 1 (carrierQ s k) == 0

/-- Switches may be on: ACTIVE, no latched trip, a duty loaded, not freewheeling (R191, R192, R206). -/
def modulates (s : State) (k : Nat) : Bool :=
  s.st k == usActive && s.n k 0x044100 == 0 && (s.sleeve k).pwm.loaded && !(s.sleeve k).pwm.freewheel

/-! ### References (R194) -/

/-- x × T_c / 2 from the valley, rounded to 62.5 ps, ties to even. -/
def edgeAt (tc : Nat) (x : Rat) : Nat := (rhe (x * tc / 2)).toNat

/-- High-side interval of the period from valley v with d1 for its rise and d2 for its fall; none where it has no length. -/
def highOf (tc v : Nat) (d1 d2 : Nat) : Option (Nat × Nat) :=
  let r := v + edgeAt tc (1 - fRat b32s d1)
  let f := v + edgeAt tc (1 + fRat b32s d2)
  if r < f then some (r, f) else none

/-- Add an interval to a reference; one that starts where the last ends continues it. -/
def addHigh (l : List (Nat × Nat)) (i : Option (Nat × Nat)) : List (Nat × Nat) :=
  match i with
  | none => l
  | some (r, f) =>
    match l with
    | (a, b) :: rest => if b = r then (a, f) :: rest else ((r, f) :: l).take 6
    | [] => [(r, f)]

/-- The reference after an update at a peak: the fall of the period's interval is set by the duty loaded there. -/
def peakHigh (tc v : Nat) (d1 d2 : Nat) (l : List (Nat × Nat)) : List (Nat × Nat) :=
  match l with
  | (r, f) :: rest =>
    if v ≤ r ∨ v < f then
      (match highOf tc v d1 d2 with
       | some (_, f') => (r, f') :: rest
       | none => rest)
    else addHigh l (highOf tc v d1 d2)
  | [] => addHigh [] (highOf tc v d1 d2)

/-! ### Pulses (R200 to R202) -/

/-- t_d, t_min and the stretch mode of a sleeve. -/
def deadTime (s : State) (k : Nat) : Nat := s.n k 0x042000
def minPulse (s : State) (k : Nat) : Nat := s.n k 0x042100
def stretches (s : State) (k : Nat) : Bool := s.n k 0x042200 == 1

/-- An edge on the grid in use: 62.5 ps, or the one 2 ns grid of network time while the bank is not calibrated (R197). Log entry 31. -/
def onGrid (s : State) (k t : Nat) : Nat := if s.n k 0x045000 = 0 then t else 32 * (rhe ((t : Rat) / 32)).toNat

/-- Duty that a phase will have at an instant: one already held for it, else the present one. -/
def dutyAt (p : SleevePwm) (x t : Nat) : Nat :=
  (((p.held.filter fun h => decide (h.1 ≤ t)).getLast?.map Prod.snd).getD p.duty).getD x half32

/-- The reference intervals of a high-side switch: those that have a length. -/
def highsOf (f : PhaseS) : List (Nat × Nat) := f.highs.filter fun i => decide (i.1 < i.2)

/-- r_on of the newest pulse of a switch that has begun. -/
def pulseOn (f : PhaseS) (high : Bool) (now : Nat) : Option Nat :=
  if high then ((highsOf f).find? fun i => decide (i.1 ≤ now)).map Prod.fst
  else (f.highs.find? fun i => decide (i.2 ≤ now)).map Prod.snd

/-- The first valley whose references are not placed yet. -/
def nextValley (s : State) (k : Nat) : Nat := (s.sleeve k).pwm.valley + (if updateMode s k = 2 then 2 else 1) * carrierQ s k

/-- Where the reference of a switch turns off that turns on, or continues, at an instant (R201): a high side with the fall and a low side with the
rise of the first high-side interval from there on. What is not placed yet follows from the duty held for it, or the present one. -/
def refOff (s : State) (k x : Nat) (high : Bool) (from' : Nat) : Nat :=
  let p := (s.sleeve k).pwm
  let tc := carrierQ s k
  match ((highsOf (p.phases.getD x {})).filter fun i => decide (from' ≤ i.1)).getLast?, high with
  | some (rise, fall), true =>
    let peak := p.valley + tc / 2
    if updateMode s k = 1 ∧ rise < peak ∧ peak ≤ fall ∧ p.held.any (fun h => decide (h.1 ≤ peak)) then
      p.valley + edgeAt tc (1 + fRat b32s (dutyAt p x peak))
    else fall
  | some (rise, _), false => rise
  | none, true => let v := nextValley s k; v + edgeAt tc (1 + fRat b32s (dutyAt p x v))
  | none, false => let v := nextValley s k; v + edgeAt tc (1 - fRat b32s (dutyAt p x v))

/-- Put a gate of a phase. -/
def putGate (f : PhaseS) (high : Bool) (g : GateS) : PhaseS := if high then { f with hi := g } else { f with lo := g }

/-- Change a phase of a sleeve. -/
def setPhase (s : State) (k x : Nat) (f : PhaseS) : State := modPwm s k fun p => { p with phases := p.phases.set x f }

/-- A gate with one more pulse, from its start to its end on the grid in use. -/
def gatePulse (s : State) (k : Nat) (g : GateS) (ron start stop : Nat) (pass counted : Bool) : GateS :=
  { on := ((onGrid s k start, onGrid s k stop) :: g.on).take 6, ron := some ron, pass := pass, from' := ron, through := false, counted := counted }

/-- A gate whose pulse is not produced. -/
def noPulse (g : GateS) (ron : Nat) : GateS := { g with ron := some ron, pass := false, through := false }

/-- The complement of a dropped pulse stays on through its interval where it is on: it turns off with its own next reference. -/
def staysOn (s : State) (k x : Nat) (high : Bool) (ron : Nat) (c : GateS) : GateS :=
  match c.on with
  | (a, off) :: rest =>
    if off + 16 < ron then c
    else
      let from' := if high then ron + 1 else ron
      { c with on := (a, onGrid s k (max off (refOff s k x (!high) from'))) :: rest, pass := true, from' := from', through := true }
  | [] => c

/-- The decision on a pulse at its r_on (R201, R202, Table 8-3). A pulse whose complement, lengthened, turns off only when its own reference has
ended does not start (log entry 31). -/
def pulseDecide (s : State) (k x : Nat) (high : Bool) : State :=
  if !modulates s k then s
  else
    let f := (s.sleeve k).pwm.phases.getD x {}
    match pulseOn f high s.q with
    | none => s
    | some ron =>
      let g := if high then f.hi else f.lo
      let c := if high then f.lo else f.hi
      let roff := refOff s k x high ron
      if g.ron = some ron ∨ roff ≤ ron then s
      else if g.through then setPhase s k x (putGate f high { g with ron := some ron, from' := ron, through := false, pass := true })
      else
        let td := deadTime s k
        let tm := minPulse s k
        let len : Int := (roff : Int) - ron - td
        let start := match c.on with
          | (_, off) :: _ => max (ron + td) (off + td)
          | [] => ron + td
        if tm ≤ len ∧ 0 < len then
          if roff ≤ start then setPhase s k x (putGate f high (noPulse g ron))
          else
            let long := decide (roff < start + tm)
            let t := setPhase s k x (putGate f high (gatePulse s k g ron start (max roff (start + tm)) true long))
            if long then bump t k 0x043300 else t
        else if stretches s k then
          if tm = 0 then setPhase s k x (putGate f high (noPulse g ron))
          else bump (setPhase s k x (putGate f high (gatePulse s k g ron start (start + tm) false true))) k 0x043300
        else bump (setPhase s k x (putGate (putGate f high (noPulse g ron)) (!high) (staysOn s k x high ron c))) k 0x043200

/-- After an update, a pulse that passes ends with its reference, but lasts at least t_min (R201 last row, R202). -/
def followRef (s : State) (k x : Nat) (high : Bool) (now : Nat) : State :=
  let f := (s.sleeve k).pwm.phases.getD x {}
  let g := if high then f.hi else f.lo
  match g.on with
  | (a, off) :: rest =>
    if !g.pass ∨ off < now then s
    else
      let roff := refOff s k x high g.from'
      let least := a + minPulse s k
      let long := decide (roff < least)
      let t := setPhase s k x (putGate f high { g with on := (a, onGrid s k (max roff least)) :: rest, counted := g.counted || long })
      if long && !g.counted then bump t k 0x043300 else t
  | [] => s

/-! ### Applied duty (R203, R204) -/

/-- Overlap of intervals with [a, b). -/
def overlap (l : List (Nat × Nat)) (a b : Nat) : Nat := (l.map fun i => min i.2 b - max i.1 a).sum

/-- D̂ of a phase over [a, b) with the phase current at a. -/
def appliedDuty (s : State) (k x a b : Nat) : Nat :=
  let p := (s.sleeve k).pwm
  let f := p.phases.getD x {}
  let th := overlap f.hi.on a b
  let t0 := (b - a) - th - overlap f.lo.on a b
  let i := fRat b32s (p.currents.getD x 0)
  let band := fRat b32s (s.n k 0x042300)
  let w : Rat := if band < i then 0 else if i < -band then 1 else 1 / 2
  if b ≤ a then half32 else fOfRat b32s (((th : Rat) + w * t0) / ((b - a : Nat) : Rat))

/-- The record of a completed update interval, with the tick whose committed duty it applied (R204). While the switches are off the requested duty
is 0.5. -/
def intervalRecord (s : State) (k a b : Nat) : Nat × List Nat :=
  let p := (s.sleeve k).pwm
  (p.dutyTick, ((List.range 3).map fun x => if modulates s k then p.duty.getD x half32 else half32) ++ (List.range 3).map fun x => appliedDuty s k x a b)

/-- The update interval that an instant ends is recorded. -/
def closeInterval (s : State) (k t : Nat) : State :=
  match (s.sleeve k).pwm.lastUpdate with
  | none => s
  | some a => if t ≤ a then s else modPwm s k fun p => { p with record := intervalRecord s k a t }

/-- At a tick start the sleeve returns the record of its last complete update interval (R204). -/
def returnRecord (s : State) (k : Nat) : State :=
  if s.st k = usOff then s
  else
    let s1 := closeInterval s k (lastInstant s k)
    let r := (s1.sleeve k).pwm.record
    if r.2.isEmpty then s1
    else (List.range 3).foldl (fun (t : State) x => (t.setN k (0x043000 + x) (r.2.getD x half32)).setN k (0x043100 + x) (r.2.getD (3 + x) half32))
      (modPwm s1 k fun p => { p with returned := r.1 })

/-! ### Delay lines (R197) -/

/-- DelayCalState of every sleeve of a bank. -/
def putCal (s : State) (first want : Nat) : State := (List.range 8).foldl (fun (t : State) i => t.setN (first + i) 0x045000 want) s

/-- DELAY_CAL: the bank falls to the 2 ns grid at once; calibrated again, it returns at the next valley of one of its sleeves. The event is on the
bank's first sleeve (log entry 31). -/
def delayCal (s : State) (bank : Nat) (ok : Bool) : State :=
  let first := 0x101 + 8 * bank
  if s.st first = usOff then s
  else if ok then (if s.n first 0x045000 = 0 then s else modPwm s first fun p => { p with calDue := true })
  else
    let s0 := modPwm s first fun p => { p with calDue := false }
    if s.n first 0x045000 = 1 then s0
    else ((List.range 8).foldl (fun t i => hit t (first + i) 10) (putCal s0 first 1)).later first 0x0403 (leBytes 1 bank ++ leBytes 1 0)

/-- First sleeve of a sleeve's bank. -/
def bankFirst (k : Nat) : Nat := k - (k - 0x101) % 8

/-- A valley of a sleeve: its bank returns to 62.5 ps where it is calibrated again, and the delay lines of every output that has no edge within 4 ns
change roles. -/
def valleyLines (s : State) (k t : Nat) : State :=
  let first := bankFirst k
  let s1 := if (s.sleeve first).pwm.calDue then
      ((putCal s first 0).later first 0x0403 (leBytes 1 ((first - 0x101) / 8) ++ leBytes 1 1) |> fun u => modPwm u first fun p => { p with calDue := false })
    else s
  modPwm s1 k fun p => { p with lines := p.lines.zipIdx.map fun l =>
    let f := p.phases.getD (l.2 / 2) {}
    let near (e : Nat) : Bool := decide (e ≤ t + 64 ∧ t ≤ e + 64)
    if (if l.2 % 2 = 0 then f.hi.on else f.lo.on).any fun i => near i.1 || near i.2 then l.1 else !l.1 }

/-! ### The update (R194, R195) -/

/-- The references that an update at t adds to a phase: d in use from here on, old until here; v the valley of the carrier period. -/
def nextHighs (mode tc v t d old : Nat) (valley starts : Bool) (highs : List (Nat × Nat)) : List (Nat × Nat) :=
  let base := if starts then [(t, t)] else highs
  if valley then
    let h1 := addHigh base (highOf tc v d d)
    if mode = 2 then addHigh h1 (highOf tc (v + tc) d d) else h1
  else if starts then addHigh base ((highOf tc v d d).map fun i => (max t i.1, i.2))
  else peakHigh tc v old d base

/-- The duties of an update instant t are taken: those held for it, with staleness by 01 R19. Answers the state and whether modulation starts. -/
def takeDuties (s : State) (k t : Nat) : State × Bool :=
  let p := (s.sleeve k).pwm
  let valley := isValley s k t
  let active := decide (s.st k = usActive)
  let ready := p.held.filter fun h => decide (h.1 ≤ t)
  let fresh := active && !ready.isEmpty
  let last := ready.getLast?.getD (p.dutyTick, p.duty)
  let use := if fresh then last else (p.dutyTick, p.duty)
  let periods := if updateMode s k = 2 then 2 else 1
  let stale := if fresh then 0 else if active && p.loaded && valley then p.stale + periods else p.stale
  let free := active && p.loaded && !fresh && (p.freewheel || (valley && decide (3 ≤ stale)))
  let s1 := modPwm s k fun p => { p with
    held := p.held.filter fun h => decide (t < h.1)
    dutyTick := use.1, duty := use.2, lastUpdate := some t, stale := stale, freewheel := free, loaded := p.loaded || fresh
    valley := if valley then t else t - carrierQ s k / 2
    currents := [s.n k 0x054800, s.n k 0x054801, s.n k 0x054802] }
  let s2 := if free then
      (if valley then bumpN (modPwm s1 k (gatesOff t)) k 0x043400 periods else modPwm s1 k (gatesOff t))
    else s1
  (s2, fresh && (!p.loaded || p.freewheel))

/-- CARRIER_UPDATE: at an update instant the held duties are taken and the period's references placed (R194, R195). -/
def carrierUpdate (s : State) (k : Nat) : State :=
  if s.st k = usOff ∨ s.q < lastInstant s k then s
  else
    let t := lastInstant s k
    let p := (s.sleeve k).pwm
    if p.lastUpdate = some t then s
    else
      let valley := isValley s k t
      let r := takeDuties (closeInterval s k t) k t
      let s2 := if valley then valleyLines r.1 k t else r.1
      if !modulates s2 k then s2
      else
        (List.range 3).foldl (fun s x =>
          let q := (s.sleeve k).pwm
          let f := q.phases.getD x {}
          let highs := nextHighs (updateMode s k) (carrierQ s k) q.valley t (q.duty.getD x half32) (p.duty.getD x half32) valley r.2 f.highs
          let s1 := setPhase s k x { f with highs := highs }
          followRef (followRef s1 k x true t) k x false t) s2

/-! ### Trips (R205 to R209) -/

/-- Bit of a trip source. -/
def tripBit : TripSource → Nat
  | .pin => 0
  | .overCurrent => 1
  | .veil => 2

/-- A trip source reaches the sleeve (R206 to R208). -/
def tripIn (s : State) (k bit : Nat) : State :=
  if s.st k = usOff ∨ bitOf (s.n k 0x044000) bit then s
  else
    let latched := bitOf (s.n k 0x044100) bit
    let s1 := bump (s.setN k 0x044000 (setBit (s.n k 0x044000) bit)) k 0x044400
    let s2 := s1.setN k 0x044100 (setBit (s1.n k 0x044100) bit)
    let s3 := modPwm s2 k fun p => { gatesOff s.q p with clearing := false }
    let s4 := if latched then s3 else s3.later k 0x0401 [BitVec.ofNat 8 (2 ^ bit)]
    hit s4 k bit

/-- A trip source as it stands at its input: the pin's level, high since a stamp, reaches the sleeve when TripFilter accepts it (R205). -/
def tripArrives (s : State) (k : Nat) (x : TripInput) : State :=
  if x.source = .pin ∧ s.q < x.stamp + s.n k 0x044300 * 1000 then s else tripIn s k (tripBit x.source)

/-- A trip source deasserts (R208). -/
def tripOut (s : State) (k bit : Nat) : State :=
  if bitOf (s.n k 0x044000) bit then sourceInactive (s.setN k 0x044000 (clrBit (s.n k 0x044000) bit)) k bit else s

/-- TripClear at the commit that retires it (R209). -/
def tripClear (s : State) (k : Nat) : Nat × State :=
  if s.n k 0x044000 ≠ 0 then (stTripActive, s) else (stOk, modPwm s k fun p => { p with clearing := true })

/-- The valley after an accepted clear (R209). -/
def tripCleared (s : State) (k : Nat) : State :=
  if (s.sleeve k).pwm.clearing then ((modPwm s k fun p => { p with clearing := false }).setN k 0x044100 0).later k 0x0402 [] else s

/-- The over-current comparator decides (09 R232). -/
def ocDetect (s : State) (k : Nat) (b1 b2 : List Bool) : State := if ocDecides s k b1 b2 then tripIn s k 1 else s

/-! ### Readback (R210) -/

/-- Gate of a pad: UH, UL, VH, VL, WH, WL. -/
def padGate (s : State) (k pin : Nat) : List (Nat × Nat) :=
  let f := (s.sleeve k).pwm.phases.getD (pin / 2) {}
  if pin % 2 = 0 then f.hi.on else f.lo.on

/-- The level that the sleeve drives on a pad at an instant. -/
def padLevel (s : State) (k pin t : Nat) : Bool :=
  ((padGate s k pin).any fun i => decide (i.1 ≤ t ∧ t < i.2)) != (s.rst.fuses.polarity == 1)

/-- The driven level has been stable for 20 ns. -/
def padStable (s : State) (k pin t : Nat) : Bool :=
  (padGate s k pin).all fun i => !decide (i.1 ≤ t ∧ t < i.1 + 320) && !decide (i.2 ≤ t ∧ t < i.2 + 320)

/-- Start of the carrier period in progress. -/
def periodStart (s : State) (k : Nat) : Nat :=
  let base := s.phaseQ + carrierPhase s k
  base + (s.q - base) / max 1 (carrierQ s k) * max 1 (carrierQ s k)

/-- A pad reads back a level: the mismatch is counted, and one in the carrier period after another is a fault (R210). -/
def readback (s : State) (k pin : Nat) (level : Bool) : State :=
  if s.st k = usOff ∨ padLevel s k pin s.q = level ∨ !padStable s k pin s.q then s
  else
    let v := periodStart s k
    let last := ((s.sleeve k).pwm.mismatch.getD pin none)
    let s1 := hit (modPwm s k fun p => { p with mismatch := p.mismatch.set pin (some v) }) k 3
    if last.map (· + carrierQ s k) = some v then hit s1 k 4 else s1

/-- Duties of a tick commit for its sleeve (R195): they belong to the next tick. -/
def handDuties (s : State) (a : Nat) (from' : Nat) : State :=
  let k := sleeveOf s a
  match (s.axis a).engine.duties with
  | [] => s
  | d => modPwm (modEngine s a fun g => { g with duties := [] }) k fun p => { p with held := p.held ++ [(from', d)] }

end Sys2Proof.Machine
end

