-- ==== Sys2Proof/Machine/Recorder.lean ====
section
/-! DEFINITION. Recorders (11): channels, samples, trigger conditions, marks, records, measurements and the stream. -/

namespace Sys2Proof.Machine

/-! ### Channels (R260, R261) -/

/-- Channel entry i of a recorder. -/
def chanEntry (s : State) (r i : Nat) : MapEntry :=
  let b := s.bs r (0x0A0000 + i)
  { unit := fieldLE b 0 2, obj := fieldLE b 2 2, elem := fieldLE b 4 1, type := fieldLE b 5 1, offset := fieldLE b 6 2 }

/-- The channels in use. -/
def channels (s : State) (r : Nat) : List MapEntry := (List.range (s.n r 0x0A0100)).map (chanEntry s r)

/-- Size of a value by its type code (02 Table 2-11). -/
def codeSize (c : Nat) : Nat :=
  match c with
  | 0x01 | 0x02 | 0x06 => 1
  | 0x03 | 0x07 => 2
  | 0x04 | 0x08 | 0x0A => 4
  | _ => 8

/-- RowBytes. -/
def rowBytes (s : State) (r : Nat) : Nat := 2 + ((channels s r).map fun c => codeSize c.type).sum

/-- Rows per datagram q (R271). -/
def rowsPerDatagram (s : State) (r : Nat) : Nat := 1428 / rowBytes s r

/-- The object that an entry names. -/
def boundRow (s : State) (e : MapEntry) : Option ObjRow := (namedRow s e.unit e.obj e.elem).map Prod.snd

/-- Is a channel entry valid (R258, R260)? -/
def chanOk (s : State) (e : MapEntry) : Bool :=
  match boundRow s e with
  | none => false
  | some row => row.ty.scalar && row.ty.code == e.type && row.acc != .w && e.offset == 0

/-- The objects of a face that its cell publishes with a commit, whose values go stale. -/
def publishedObj (o : Nat) : Bool :=
  decide (0x605 ≤ o ∧ o ≤ 0x605 ∨ 0x670 ≤ o ∧ o ≤ 0x67E ∨ 0x701 ≤ o ∧ o ≤ 0x704 ∨ 0x713 ≤ o ∧ o ≤ 0x717 ∨ 0x807 = o ∨ 0x80C ≤ o ∧ o ≤ 0x80E
    ∨ o = 0x814 ∨ o = 0x830 ∨ o = 0x65B ∨ o = 0x660)

/-- The r export of a kernel whose cell was late in the last beat (01 R19): an rw export is written by the host, and no commit publishes it. -/
def exportStale (s : State) (u o : Nat) : Bool :=
  s.kernels.any fun e => e.2.stale && e.2.home == u && e.2.image.objs.any fun x => x.obj == o && !x.rw

/-- The stale flag of a value (10 R245, 11 R261). -/
def staleValue (s : State) (u o : Nat) : Bool :=
  if 0xC000 ≤ o then exportStale s u o else (isAxis u || isCluster u) && publishedObj o && s.b u 0x035100

/-! ### Taking a sample (R259, R261) -/

/-- The first beat from n on whose number is a multiple of the divider. -/
def firstSample (d n : Nat) : Nat := (n + d - 1) / d * d

/-- Note rows lost (R269): those of the ring and those of the stream alike. -/
def loseRow (s : State) (r index : Nat) : State :=
  let x := s.rec' r
  let l := x.loss.getD (index, 0, 0, 0)
  bump (s.setRec r { x with loss := some (l.1, l.2.1 + 1, l.2.2) }) r 0x0A3300

/-- The capture of a sample at a beat start. rd reads an object as it stands. -/
def capture (s : State) (rd : State → Nat → Nat → Nat → Val) (r : Nat) : State :=
  let x := s.rec' r
  let d := max 1 (s.n r 0x0A0200)
  match x.firstBeat with
  | none => s
  | some f =>
    if s.st r ≠ usActive ∨ s.beat.n < f ∨ s.beat.n % d ≠ 0 then s
    else
      let cs := channels s r
      let stale := bitsToNat (cs.map fun c => staleValue s c.unit c.obj)
      let row : RowS := { index := x.next, time := s.beatNs, stale := stale, vals := cs.map fun c => valInt (rd s c.unit c.obj c.elem), hits := x.hits }
      if 64 ≤ x.ring.length then loseRow (s.setRec r { x with next := x.next + 1, hits := [] }) r x.next
      else s.setRec r { x with next := x.next + 1, hits := [], ring := x.ring ++ [row] }

/-! ### Conditions (R262, R263) -/

/-- A sample value as the number that conditions compare, in binary64 (R262). -/
def chanNum (code : Nat) (v : Int) : Rat :=
  match code with
  | 0x0A => fRat b32s v.toNat
  | 0x0B => fRat b64 v.toNat
  | 0x0C => fRat b64 (d64 ((v : Rat) / 65536))
  | _ => fRat b64 (fOfInt b64 v)

/-- A TriggerCondition that the recorder takes (R262): the bytes of Table 11-1. -/
def conditionOk (s : State) (r : Nat) (b : Bytes) : Bool :=
  let k := fieldLE b 0 1
  decide (k ≤ 6) && (!(k == 1 || k == 2 || k == 3) || decide (fieldLE b 1 1 < s.n r 0x0A0100))
    && (k != 3 || decide (fRat b64 (fieldLE b 8 8) ≤ fRat b64 (fieldLE b 16 8)))

/-- Next j of a time condition from an instant on (R263). -/
def timeFrom (b : Bytes) (t : Nat) : Nat :=
  let t0 := fieldLE b 8 8
  let p := fieldLE b 16 8
  if t ≤ t0 then 0 else if p = 0 then 1 else (t - t0 + p - 1) / p

/-- A condition of a run is rewritten from some bytes (R262): they hold for samples of the write's intake beat and before. -/
def conditionWritten (s : State) (r c : Nat) (old : Bytes) : State :=
  if s.st r ≠ usActive then s
  else
    let x := s.rec' r
    s.setRec r { x with was := x.was ++ [(c, old, s.beatNs)] }

/-- The bytes of a condition at a sample. -/
def conditionAt (s : State) (r c time : Nat) : Bytes :=
  (((s.rec' r).was.find? fun w => w.1 == c && decide (time ≤ w.2.2)).map fun w => w.2.1).getD (s.bs r (0x0A1000 + c))

/-- Conditions whose rewriting takes effect at a sample: it is the first of an edge, and a time condition starts anew. -/
def conditionsTurn (s : State) (r time : Nat) : State :=
  let x := s.rec' r
  let turned := x.was.filter fun w => decide (w.2.2 < time)
  if turned.isEmpty then s
  else
    let s1 := s.setRec r { x with was := x.was.filter fun w => decide (time ≤ w.2.2), fresh := (x.fresh ++ turned.map Prod.fst).dedup }
    turned.foldl (fun (t : State) w =>
      let y := t.rec' r
      t.setRec r { y with timeNext := mapPut 0 y.timeNext w.1 (timeFrom (conditionAt t r w.1 time) (w.2.2 + 1)) }) s1

/-- Does a condition select what has been noted (Table 11-1)? -/
def selectsHit (b : Bytes) (h : HitS) : Bool :=
  fieldLE b 0 1 == h.kind && (if h.kind = 4 then fieldLE b 4 2 == h.unit && (fieldLE b 6 2 == 0 || bitOf (fieldLE b 6 2) h.input)
    else fieldLE b 4 2 == 0 || fieldLE b 4 2 == h.unit)

/-- A mark: mark time in 0.5 ns and detail. -/
structure MarkS where
  cond : Nat
  kind : Nat
  stale : Bool
  time : Nat
  detail : Nat
deriving DecidableEq, Repr

/-- What one condition is met by at a sample. -/
def metBy (s : State) (r c : Nat) (row : RowS) : List MarkS :=
  let b := conditionAt s r c row.time
  let x := s.rec' r
  let k := fieldLE b 0 1
  let ch := fieldLE b 1 1
  let sense := fieldLE b 2 1
  let e := chanEntry s r ch
  let v := chanNum e.type (row.vals.getD ch 0)
  let t1 := fRat b64 (fieldLE b 8 8)
  let t2 := fRat b64 (fieldLE b 16 8)
  let one : List MarkS := [{ cond := c, kind := k, stale := bitOf row.stale ch && decide (k ≤ 3), time := 2 * row.time, detail := 0 }]
  let yes (p : Bool) : List MarkS := if p then one else []
  match k with
  | 1 => yes (if sense = 1 then decide (v ≤ t1) else decide (t1 ≤ v))
  | 2 =>
    match x.prev with
    | none => []
    | some pv =>
      if x.fresh.contains c then []
      else
        let p := chanNum e.type (pv.getD ch 0)
        let up := decide (p < t1 ∧ t1 ≤ v)
        let dn := decide (t1 < p ∧ v ≤ t1)
        yes (match sense with | 0 => up | 1 => dn | _ => up || dn)
  | 3 => yes (if sense = 1 then decide (v < t1 ∨ t2 < v) else decide (t1 ≤ v ∧ v ≤ t2))
  | 4 => (row.hits.filter (selectsHit b)).map fun h => { cond := c, kind := 4, stale := false, time := h.stamp, detail := h.detail }
  | 5 => (row.hits.filter (selectsHit b)).map fun h => { cond := c, kind := 5, stale := false, time := 2 * row.time, detail := h.detail }
  | 6 =>
    let j := mapGet 0 x.timeNext c
    let p := fieldLE b 16 8
    yes (decide (fieldLE b 8 8 + j * p ≤ row.time) && (p != 0 || j == 0))
  | _ => []

/-! ### The stream buffer (R268, R269) -/

/-- Bytes that a block takes. -/
def blockBytes (b : BlockS) : Nat := 4 + b.body.length

/-- Bytes in the buffer. -/
def bufferBytes (x : RecS) : Nat := (x.buffer.map blockBytes).sum

/-- Put a block that is not a row into the buffer; it is dropped only when the buffer is full. -/
def putBlock (s : State) (r : Nat) (b : BlockS) : State :=
  let x := s.rec' r
  if bufferBytes x + blockBytes b ≤ Config.streamBufferBytes then s.setRec r { x with buffer := x.buffer ++ [{ b with run := x.run }] }
  else
    let l := x.loss.getD (x.next, 0, 0, 0)
    s.setRec r { x with loss := some (l.1, l.2.1, if b.kind = 3 then l.2.2.1 + 1 else l.2.2.1, if b.kind = 4 then l.2.2.2 + 1 else l.2.2.2) }

/-- A LOSS block for the losses not yet reported, with STREAM_LOSS, at a place in the buffer. -/
def putLoss (s : State) (r place : Nat) : State :=
  let x := s.rec' r
  match x.loss with
  | none => s
  | some (f, rows, marks, meas) =>
    let body := leBytes 4 f ++ leBytes 4 rows ++ leBytes 2 (min marks 65535) ++ leBytes 2 (min meas 65535)
    let b : BlockS := { kind := 5, body := body, run := x.run }
    let fits := decide (bufferBytes x + blockBytes b ≤ Config.streamBufferBytes)
    (s.setRec r { x with loss := none, buffer := if fits then x.buffer.take place ++ [b] ++ x.buffer.drop place else x.buffer }).later
      r 0x0A01 (leBytes 4 f ++ leBytes 4 rows)

/-- Bytes of a row. -/
def rowData (s : State) (r : Nat) (row : RowS) : Bytes :=
  leBytes 2 row.stale ++ ((channels s r).zip row.vals).flatMap fun p => leBytesI (codeSize p.1.type) p.2

/-- Put a row into the buffer; one that finds less than 4 KiB free is dropped. Losses are reported ahead of the blocks of the row's sample, which
start at a place in the buffer (R268, R269). Consecutive rows share a block. -/
def putRow (s0 : State) (r place : Nat) (row : RowS) : State :=
  if Config.streamBufferBytes < bufferBytes (s0.rec' r) + 4096 then loseRow s0 r row.index
  else
    let s := putLoss s0 r place
    let x := s.rec' r
    let d := rowData s r row
    let alone : BlockS := { kind := 2, body := leBytes 4 row.index ++ leBytes 2 1 ++ leBytes 2 0 ++ d, rows := 1, run := x.run }
    match x.buffer.getLast? with
    | some b =>
      if b.kind = 2 ∧ b.run = x.run ∧ fieldLE b.body 0 4 + b.rows = row.index ∧ b.rows < rowsPerDatagram s r then
        let body := leBytes 4 (fieldLE b.body 0 4) ++ leBytes 2 (b.rows + 1) ++ leBytes 2 0 ++ b.body.drop 8 ++ d
        s.setRec r { x with buffer := x.buffer.dropLast ++ [{ b with body := body, rows := b.rows + 1 }] }
      else s.setRec r { x with buffer := x.buffer ++ [alone] }
    | none => s.setRec r { x with buffer := [alone] }

/-! ### Records and measurements (R265 to R267) -/

/-- Channels measured. -/
def measured (s : State) (r : Nat) : List Nat := (bitsOf 16 (s.n r 0x0A2200)).filter fun c => decide (c < s.n r 0x0A0100)

/-- y of a channel value (R266). -/
def measureY (code : Nat) (v ref : Int) : Nat :=
  match code with
  | 0x05 | 0x09 | 0x0D => fOfInt b32s (v - ref)
  | 0x0C => fOfRat b32s ((v - ref : Int) / 65536)
  | 0x0A => v.toNat
  | 0x0B => f64to32 v.toNat
  | _ => fOfInt b32s v

/-- Compensated addition: sum and compensation. -/
def kahan (sum comp y : Nat) : Nat × Nat :=
  let z := fSub b32 y comp
  let t := fAdd b32 sum z
  (t, fSub b32 (fSub b32 t sum) z)

/-- A measurement with one more sample of index n. -/
def measureAdd (m : MeasureS) (code n : Nat) (v : Int) : MeasureS :=
  let y := measureY code v m.ref
  let (s1, c1) := kahan m.sum m.sumC y
  let (q1, d1) := kahan m.sq m.sqC (fMul b32 y y)
  { m with sum := s1, sumC := c1, sq := q1, sqC := d1
           min := if n = 0 ∨ fLt b32s y m.min then y else m.min, minAt := if n = 0 ∨ fLt b32s y m.min then n else m.minAt
           max := if n = 0 ∨ fLt b32s m.max y then y else m.max, maxAt := if n = 0 ∨ fLt b32s m.max y then n else m.maxAt }

/-- A 64-bit integer type, whose reference value the MEASURE body carries. -/
def hasRef (code : Nat) : Bool := code == 0x05 || code == 0x09 || code == 0x0C || code == 0x0D

/-- The 40 bytes of a channel's measurement (Table 11-2). -/
def measureBytes (code n : Nat) (m : MeasureS) : Bytes :=
  let nn := fOfInt b32s n
  let amp := fDiv b32 (fSub b32 m.max m.min) 0x40000000
  leBytes 1 m.channel ++ leBytes 3 0 ++ leBytes 4 (fDiv b32 m.sum nn) ++ leBytes 4 (fSqrt b32 (fDiv b32 m.sq nn)) ++ leBytes 4 m.min
    ++ leBytes 4 m.minAt ++ leBytes 4 m.max ++ leBytes 4 m.maxAt ++ leBytes 4 amp ++ (if hasRef code then leBytesI 8 m.ref else leBytes 8 0)

/-- A record closes (R265 to R267): its MEASURE block. -/
def closeRecord (s : State) (r : Nat) (period : Nat) (cut : Bool) : State :=
  let x := s.rec' r
  match x.record with
  | none => s
  | some c =>
    let win := s.n r 0x0A2000 == 2
    let body := leBytes 4 c.first ++ leBytes 4 c.n ++ leBytes 8 period ++ leBytes 1 c.cond
      ++ leBytes 1 ((if cut then 1 else 0) + (if win then 2 else 0)) ++ leBytes 2 (s.n r 0x0A2200)
      ++ c.chans.flatMap fun m => measureBytes (chanEntry s r m.channel).type c.n m
    let s1 := s.setRec r { x with record := none }
    bump ((putBlock s1 r { kind := 4, body := body }).setBs r 0x0A3400 body) r 0x0A3500

/-- Period of a window record (R267). -/
def windowPeriod (c : RecordS) : Nat := (c.prevMark.map fun p => c.markTime - p).getD 0

/-! ### One sample (R263 to R268) -/

/-- Is the recorder armed at a sample (R264)? -/
def armed (x : RecS) (t : Nat) : Bool :=
  match x.holdoff with
  | .armed => true
  | .until u => decide (u ≤ t)
  | .events _ => false

/-- The MARK block of a mark. -/
def markBlock (index : Nat) (m : MarkS) : BlockS :=
  { kind := 3, body := leBytes 4 index ++ leBytes 1 m.cond ++ leBytes 1 m.kind ++ leBytes 2 (if m.stale then 1 else 0)
      ++ leBytes 8 m.time ++ leBytes 4 m.detail }

/-- Hold-off after a sample (R264). -/
def nextHoldoff (s : State) (r : Nat) (row : RowS) (anyMet marked : Bool) : Holdoff :=
  let x := s.rec' r
  if marked then
    match s.n r 0x0A1100 with
    | 1 => .until (row.time + s.n r 0x0A1200 * 1000)
    | 2 => .events (s.n r 0x0A1300)
    | _ => .armed
  else match x.holdoff with
  | .events n => if anyMet then (if n ≤ 1 then .armed else .events (n - 1)) else .events n
  | .until u => if u ≤ row.time then .armed else .until u
  | .armed => .armed

/-- TRIGGER_EVALUATION and the work of one row: conditions, marks, records, stream. -/
def recordRow (s0 : State) (r : Nat) (row : RowS) : State :=
  let s := conditionsTurn s0 r row.time
  let x := s.rec' r
  let met := (List.range 8).flatMap fun c => metBy s r c row
  let isArmed := armed x row.time
  let marks := if isArmed then met else []
  let marked := !marks.isEmpty
  let mt := (marks.headD ⟨0, 0, false, 0, 0⟩).time
  let cond := (marks.headD ⟨0, 0, false, 0, 0⟩).cond
  let mode := s.n r 0x0A2000
  -- records closing before the sample
  let s1 := match x.record with
    | none => s
    | some c =>
      if mode = 1 ∧ marked then closeRecord s r (mt - c.markTime) false
      else if mode = 2 ∧ s.n r 0x0A2100 ≤ c.n then closeRecord s r (windowPeriod c) false
      else s
  -- a record opening at the sample
  let y := s1.rec' r
  let opened : Option RecordS :=
    if marked ∧ mode ≠ 0 ∧ y.record.isNone then
      some { first := row.index, firstTime := row.time, markTime := mt, prevMark := y.lastMark, cond := cond,
             chans := (measured s1 r).map fun c => { channel := c, ref := row.vals.getD c 0 } }
    else y.record
  let rec' := opened.map fun c =>
    { c with n := c.n + 1, chans := c.chans.map fun m => measureAdd m (chanEntry s1 r m.channel).type c.n (row.vals.getD m.channel 0) }
  let hold := nextHoldoff s1 r row (!met.isEmpty) marked
  let tn := (List.range 8).foldl (fun m c =>
    let b := conditionAt s1 r c row.time
    if fieldLE b 0 1 = 6 ∧ met.any (fun k => k.cond == c) then mapPut 0 m c (timeFrom b (row.time + 1)) else m) y.timeNext
  let s2 := s1.setRec r { y with record := rec', holdoff := hold, lastMark := if marked then some mt else y.lastMark
                                 prev := some row.vals, fresh := [], timeNext := tn }
  let s3 := marks.foldl (fun s m => bump (putBlock s r (markBlock row.index m)) r 0x0A3200) s2
  (putRow s3 r x.buffer.length row).setN r 0x0A3000 (row.index % 2 ^ 32)

/-- Every row of the ring is processed and leaves it. -/
def recordRing (s : State) (r : Nat) : State :=
  let x := s.rec' r
  x.ring.foldl (fun s row => recordRow s r row) (s.setRec r { x with ring := [] })

/-- A run that STOP (cause 0) or DISABLE (cause 1) has ended is finished (R259): its last rows, an open record cut and measured, and END, which
flushes the stream. -/
def finishRun (s : State) (r : Nat) : State :=
  match (s.rec' r).ending with
  | none => s
  | some cause =>
    let s1 := recordRing s r
    let x := s1.rec' r
    let s2 := match x.record with
      | none => s1
      | some c =>
        let d := max 1 (s1.n r 0x0A0200)
        if s1.n r 0x0A2000 = 2 ∧ s1.n r 0x0A2100 ≤ c.n then closeRecord s1 r (windowPeriod c) false
        else
          let last := s1.beatStart ((x.firstBeat.getD 0) + (c.first + c.n - 1) * d + 1) / Config.quantaPerNs
          closeRecord s1 r (2 * (last - c.firstTime)) true
    let s3 := putBlock (putLoss s2 r (s2.rec' r).buffer.length) r { kind := 6, body := leBytes 4 x.next ++ leBytes 1 cause ++ leBytes 3 0 }
    let y := s3.rec' r
    s3.setRec r { y with flush := true, ending := none, firstBeat := none, hits := [], was := [] }

/-- The recorder's commit: every row of the ring is processed and leaves it (R261), and a run that has ended is finished. -/
def recorderCommit (s : State) (r : Nat) : State :=
  if (s.rec' r).ending.isSome then finishRun s r else if s.st r = usActive then recordRing s r else s

/-! ### Commands (R258, R259, R271) -/

/-- Bytes per second booked by the recorders that are READY or ACTIVE, and one more (R271). -/
def streamRate (s : State) (also : Nat) : Rat :=
  let us := recorderUnits.filter fun r => r == also || s.st r == usReady || s.st r == usActive
  (((us.map fun r => s.n r 0x0A0500).sum * 1472 : Nat) : Rat) / ((s.n 0 0x023300 * s.tb : Nat) / 16000000000 : Rat)

/-- Why a recorder refuses ENABLE (R258): the lowest code that applies (02 Table 2-5). -/
def recorderRefusal (s : State) (r : Nat) : Option Nat :=
  let sl := s.n r 0x0A0400
  let openSlot := match s.slot sl with
    | .opened _ => decide (sl < 16)
    | _ => false
  if s.n r 0x0A0200 * rowsPerDatagram s r * s.n r 0x0A0500 < s.n 0 0x023300 ∨ 40000000 < streamRate s r then some 0x43
  else if !(channels s r).all (chanOk s) then some 0x44
  else if !openSlot then some 0x45
  else none

/-- START of a recorder (R259): a new run, with HEADER as its first block. One that acts after the samples of the beat have been taken begins with
the next beat. What the run before has left in the buffer leaves first. -/
def startRecorder (s0 : State) (r : Nat) : State :=
  let s := finishRun s0 r
  let x := s.rec' r
  let d := max 1 (s.n r 0x0A0200)
  let f := firstSample d (if s.beat.captured = s.beat.n + 1 then s.beat.n + 1 else s.beat.n)
  let tn := (List.range 8).foldl (fun m c => mapPut 0 m c (timeFrom (s.bs r (0x0A1000 + c)) s.beatNs)) ([] : NMap Nat)
  let s1 := (s.setRec r { run := x.run + 1, firstBeat := some f, timeNext := tn, buffer := x.buffer, numbers := x.numbers,
                          sentInCycle := x.sentInCycle, cycle := x.cycle }).setN r 0x0A3100 0
  let body := leBytes 2 d ++ leBytes 1 (s.n r 0x0A0100) ++ leBytes 1 0 ++ leBytes 2 (rowBytes s r) ++ leBytes 2 0 ++ leBytes 8 f
    ++ leBytes 4 (s.n 0 0x023000) ++ (List.range (s.n r 0x0A0100)).flatMap fun i => s.bs r (0x0A0000 + i)
  putBlock s1 r { kind := 1, body := body }

/-- STOP (cause 0) or DISABLE (cause 1) ends a run (R259): no more samples; what is left of it comes with the recorder's commit. -/
def endRun (s : State) (r cause : Nat) : State := s.setRec r { s.rec' r with ending := some cause }

/-! ### Sending (R268, R270) -/

/-- The blocks at the front of the buffer that one datagram takes. -/
def takeBlocks : Nat → List BlockS → List BlockS
  | _, [] => []
  | room, b :: r => if blockBytes b ≤ room then b :: takeBlocks (room - blockBytes b) r else []

/-- The blocks of the oldest run in the buffer. -/
def oldestRun (x : RecS) : List BlockS := x.buffer.takeWhile fun b => b.run == (x.buffer.headD default).run

/-- The payload of a STREAM datagram (R268). -/
def streamPayload (r run : Nat) (bs : List BlockS) : Bytes :=
  leBytes 2 r ++ leBytes 2 bs.length ++ leBytes 4 run ++ bs.flatMap fun b => leBytes 1 b.kind ++ leBytes 1 0 ++ leBytes 2 b.body.length ++ b.body

/-- STREAM_DATAGRAM_SEND: a full or flushed datagram leaves within the cycle's allowance (R270). The blocks of a run that has ended are flushed, and
no datagram holds blocks of two runs, whose numbers each count for themselves (R259, R268). -/
def streamSend (s : State) (r : Nat) : State :=
  let x := s.rec' r
  let cyc := s.beat.n / max 1 (s.n 0 0x023300)
  let used := if x.cycle = cyc then x.sentInCycle else 0
  let lead := oldestRun x
  let run := (lead.headD default).run
  let bs := takeBlocks 1440 lead
  let size := (bs.map blockBytes).sum
  let full := decide (bs.length < lead.length ∨ 1440 < size + 12 + rowBytes s r)
  match s.slot (s.n r 0x0A0400) with
  | .opened ss =>
    if bs.isEmpty ∨ s.n r 0x0A0500 ≤ used ∨ !(full || x.flush || run != x.run) then s
    else
      let num := (mapGet 0 x.numbers run + 1) % 2 ^ 32
      let rest := x.buffer.drop bs.length
      let numbers := (mapPut 0 x.numbers run num).filter fun e => e.1 == x.run || rest.any fun b => b.run == e.1
      ((s.setRec r { x with buffer := rest, sentInCycle := used + 1, cycle := cyc, numbers := numbers,
                            flush := x.flush && rest.any fun b => b.run == x.run }).setN r 0x0A3100 num).emit
        (lfpSent ss.src 0x40 0 ss.sid num (streamPayload r run bs))
  | _ => s

/-- STREAM_FLUSH_TIMEOUT: what the buffer holds is ready to leave. -/
def streamFlush (s : State) (r : Nat) : State :=
  let x := s.rec' r
  if x.buffer.isEmpty then s else s.setRec r { x with flush := true }

/-- A session has ended: recorders that stream to it go to READY at the next beat start (R259). -/
def streamSessionEnded (s : State) (slot : Nat) : State :=
  recorderUnits.foldl (fun s r =>
    if s.st r = usActive ∧ s.n r 0x0A0400 = slot then s.setRec r { s.rec' r with sessionGone := true } else s) s

end Sys2Proof.Machine
end

