-- ==== Sys2Proof/Machine/Time.lean ====
section
/-! DEFINITION. Network time (03): the servo, steps, time states, PTP messages and the pulse per second. -/

namespace Sys2Proof.Machine

/-- Change the time state. -/
def modTime (s : State) (f : TimeS → TimeS) : State := { s with time := f s.time }

/-- A sleeve is ACTIVE: no step of the counter is allowed (R77). -/
def stepBarred (s : State) : Bool := anyState s 0x101 0x120 usActive

/-- TimeState. -/
def timeState (s : State) : Nat := s.n 0 0x020100

/-- Enter a time state (R79, Table 3-2): its event, its count, and in HOLDOVER the frozen adjustment. -/
def setTimeState (s : State) (st : Nat) : State :=
  let old := timeState s
  if old = st then s
  else
    let s1 := publish (s.setN 0 0x020100 st) 0 0x0201 (leBytes 1 old ++ leBytes 1 st)
    modTime (if st = 3 then bump s1 0 0x022B00 else s1) fun t => { t with lockRun := 0, unlockRun := 0 }

/-- Put the adjustment F in force (R76, R77): A and FreqAdjust follow. The spec's round() states no rule for a half; this and every other whole
number formed here takes the nearest, a half to even. DESIGN CHOICE, log entry 30. -/
def setFreq (s : State) (f : Rat) : State :=
  let a := rhe (f * 8589934592 / 1000000000)
  (modTime s fun t => { t with freq := f, adjust := max (-(2 ^ 31)) (min (2 ^ 31 - 1) a) }).setI 0 0x022800 (rhe f)

/-- The counter holds 64 integer and 32 fractional bits of nanoseconds and wraps (R76; 02 R68). -/
def counterMod : Nat := 2 ^ 96

/-- An instant d quanta further. -/
def shifted (d : Int) (t : Nat) : Nat := ((t : Int) + d).toNat

/-- The instants of a gate, d quanta further. -/
def shiftGate (d : Int) (g : GateS) : GateS :=
  { g with on := g.on.map fun x => (shifted d x.1, shifted d x.2)
           ron := g.ron.map (shifted d)
           from' := shifted d g.from' }

/-- The instants of the PWM half of a sleeve, d quanta further. -/
def shiftPwm (d : Int) (p : SleevePwm) : SleevePwm :=
  { p with
    held := p.held.map fun x => (shifted d x.1, x.2)
    lastUpdate := p.lastUpdate.map (shifted d)
    valley := shifted d p.valley
    phases := p.phases.map fun f => { highs := f.highs.map fun x => (shifted d x.1, shifted d x.2), hi := shiftGate d f.hi, lo := shiftGate d f.lo }
    mismatch := p.mismatch.map fun m => m.map (shifted d)
    dutyTick := shifted d p.dutyTick
    record := (shifted d p.record.1, p.record.2)
    returned := shifted d p.returned }

/-- The instants from which the feedback half of a sleeve takes intervals, d quanta further. -/
def shiftFb (d : Int) (f : SleeveFb) : SleeveFb :=
  { f with
    edges := f.edges.map fun x => (shifted d x.1, x.2)
    tickTime := shifted d f.tickTime
    beatSample := f.beatSample.map fun x => (x.1, shifted d x.2.1, x.2.2)
    frames := f.frames.map fun x => { x with time := shifted d x.time }
    started := f.started.map (shifted d) }

/-- What has been placed on the timing clock stands d quanta further in the new time: the beat in progress runs to its deadline (R78), and edges
already placed keep their instants. Log entry 30. -/
def shiftPlaced (s : State) (d : Int) : State :=
  let sh := shifted d
  { s with
    beat := { s.beat with base := sh s.beat.base }
    cells := s.cells.map fun e => (e.1, { e.2 with shut := e.2.shut.map sh })
    pins := s.pins.map fun e => (e.1, { e.2 with
      lastEdge := e.2.lastEdge.map sh
      pulseEnds := e.2.pulseEnds.map sh
      scheduled := e.2.scheduled.map fun x => (sh x.1, x.2) })
    sleeves := s.sleeves.map fun e => (e.1, { pwm := shiftPwm d e.2.pwm, fb := shiftFb d e.2.fb })
    axes := s.axes.map fun e => (e.1, { e.2 with
      compare := { e.2.compare with firing := e.2.compare.firing.map fun f => { f with time := sh f.time } }
      engine := { e.2.engine with
        request := e.2.engine.request.map fun x => (sh x.1, x.2)
        requestC := e.2.engine.requestC.map fun x => (sh x.1, x.2)
        full := (e.2.engine.full.1, e.2.engine.full.2.map fun x => (sh x.1, x.2)) } }) }

/-- A step of the counter to a new value, which wraps (R78; 02 R68). -/
def stepTo (s : State) (counter : Int) : State :=
  let c := (counter % counterMod).toNat
  let d : Int := counter - s.time.counter
  let s1 := shiftPlaced (modTime s fun t => { t with counter := c }) ((c / Config.counterPerQuantum : Nat) - (s.time.counter / Config.counterPerQuantum : Nat))
  let s2 := { s1 with beat := { s1.beat with restart := true } }
  publish (bump s2 0 0x022A00) 0 0x0202 (leBytesI 8 (rhe ((d : Rat) / (Config.counterPerNs : Nat))))

/-- Enter HOLDOVER: F is frozen at the mean of its last 16 values (R79). Every update of the servo enters a value, one that steps the time too,
and fewer than 16 are averaged as they are: DESIGN CHOICE, log entry 30. -/
def enterHoldover (s : State) : State :=
  let h := s.time.freqHistory
  let s1 := if h.isEmpty then s else setFreq s (h.sum / (h.length : Nat))
  setTimeState s1 3

/-- T_s in ns. -/
def syncIntervalNs (s : State) : Rat := 1000000000 * (2 : Rat) ^ (s.i 0 0x020800)

/-- One update of the servo (R77) from θ in units of 2^-16 ns, with the interval in ns. The spec gives the servo no number format: integ and f
are exact rationals, and OffsetFromMaster holds θ whole, whose I64 a read wraps. DESIGN CHOICE, log entry 30. -/
def servo (s : State) (theta16 : Int) (ts : Rat) : State :=
  let th : Rat := (theta16 : Rat) / 65536
  let s0 := s.setI 0 0x022600 theta16
  let big := decide ((s.n 0 0x022300 : Rat) < |th|)
  let fl : Rat := (s.n 0 0x022200 : Nat)
  let s1 :=
    if big && !stepBarred s then
      let s1 := stepTo s0 ((s0.time.counter : Int) - theta16 * 65536)
      modTime s1 fun t => { t with integ := 0, largeReported := false }
    else
      let lim := fl * ts / 1000000000
      let integ := max (-lim) (min lim (s0.time.integ + fRat b32s (s.n 0 0x022100) * th))
      let f := -(fRat b32s (s.n 0 0x022000) * th + integ) / ts * 1000000000
      let s1 := setFreq (modTime s0 fun t => { t with integ := integ }) (max (-fl) (min fl f))
      if big && !s.time.largeReported then
        publish (modTime s1 fun t => { t with largeReported := true }) 0 0x0203 (leBytesI 8 (rhe th))
      else modTime s1 fun t => { t with largeReported := big }
  let lt : Rat := (s.n 0 0x022400 : Nat)
  let s2 := modTime s1 fun t => { t with
    freqHistory := (t.freq :: t.freqHistory).take 16
    lockRun := if |th| < lt then t.lockRun + 1 else 0
    unlockRun := if 4 * lt < |th| then t.unlockRun + 1 else 0 }
  if timeState s2 = 1 ∧ 16 ≤ s2.time.lockRun then setTimeState s2 2
  else if timeState s2 = 2 ∧ 4 ≤ s2.time.unlockRun then setTimeState s2 1
  else s2

/-! ### PTP messages (R73 to R75) -/

/-- PhyTxLatency and PhyRxLatency of a port in 2^-16 ns, rounded down from ps: DESIGN CHOICE, log entry 30. -/
def phyTx (s : State) (p : Nat) : Int := s.i 0 (0x021000 + p) * 65536 / 1000
def phyRx (s : State) (p : Nat) : Int := s.i 0 (0x021100 + p) * 65536 / 1000
/-- Network time in 2^-16 ns. -/
def now16 (s : State) : Int := ((s.time.counter / 65536 : Nat) : Int)
/-- Link delay of a port. -/
def linkDelay (s : State) (p : Nat) : Int := s.time.linkDelay.getD p 0

/-- The device's clock identity: RingNumber and NodeNumber form its low bytes (R86); the spec gives the rest no value, and it is free (log
entry 30). -/
def clockIdentity (s : State) : Nat :=
  (Config.openValue 73 [] % 2 ^ 40).toNat * 2 ^ 24 + (s.n 0 0x026000 * 4096 + s.n 0 0x026100) % 2 ^ 24

/-- The device's own data set in the BMCA's order; what the spec gives no value for is the default of IEEE 1588 (log entry 30). -/
def ownDataSet (s : State) : List Nat := [s.n 0 0x020B00, 248, 0xFE, 0xFFFF, s.n 0 0x020C00, clockIdentity s, 0]

/-- The transport in use (Table 3-1): UDP/IPv4 rather than Ethernet. A message on the other one is not heard. -/
def overUdp (s : State) : Bool := s.n 0 0x020500 == 1

/-- A PTP message leaves by a port. -/
def ptpSend (s : State) (kind : PtpKind) (port seq : Nat) (stamp correction : Int) : State := s.emit (.ptp (overUdp s) kind port seq stamp correction)

/-- A PTP message is heard: it is of the device's domain and transport. -/
def heard (s : State) (m : PtpMsg) : Bool := m.domain == s.n 0 0x020400 && m.udp == overUdp s

/-- Quanta in a second. -/
def quantaPerSecond : Nat := 16000000000

/-- The announce interval as a power of 2 in s, and the intervals of the announce timeout: the spec gives neither, and these are the defaults of
IEEE 1588-2019. PRESUMED, log entry 30. -/
def logAnnounce : Int := 1
def announceTimeout : Nat := 3 * (2 * quantaPerSecond)

/-- The data set of an Announce in the BMCA's order (R73). -/
def dataSet (a : Announce) : List Nat :=
  [a.priority1, a.clockClass, a.accuracy, a.variance, a.priority2, a.identity, a.stepsRemoved]

/-- Is the first data set better? -/
def better : List Nat → List Nat → Bool
  | a :: r, b :: t => if a < b then true else if b < a then false else better r t
  | _, _ => false

/-- An Announce (R73, Table 3-2): the best master is selected. -/
def announceMsg (s : State) (a : Announce) : State :=
  if a.domain ≠ s.n 0 0x020400 ∨ a.udp ≠ overUdp s then s
  else
    let take := match s.time.master with
      | none => true
      | some m => m.source == a.source || better (dataSet a) (dataSet m)
    if !take then s
    else if s.n 0 0x020200 = 1 ∧ !better (dataSet a) (ownDataSet s) then
      (match s.time.master with
       | some m => if m.source = a.source then setTimeState (modTime s fun t => { t with master := none, syncWait := none }) 0 else s
       | none => s)
    else
      let s1 := (modTime s fun t => { t with master := some a, syncWait := none, announceAt := t.uptime }).setBs 0 0x022900 (leBytes 8 a.identity).reverse
      if timeState s1 = 0 then setTimeState s1 1 else s1

/-- Does a message come from the selected master? -/
def fromMaster (s : State) (m : PtpMsg) : Bool :=
  heard s m && match s.time.master with
    | some a => a.source == m.source
    | none => false

/-- Mean path delay that a Sync is corrected by: the link's in peer delay, the path's in end-to-end (R73). -/
def pathDelay (s : State) (p : Nat) : Int :=
  if s.n 0 0x020200 = 2 ∧ s.n 0 0x020600 = 1 then s.i 0 0x022700 else linkDelay s p

/-- An offset from a Sync: its receipt stamp, the master's origin time and the corrections (R75, R77). -/
def syncOffset (s : State) (m : PtpMsg) (origin correction : Int) : State :=
  let s1 := if timeState s = 3 then setTimeState s 1 else s
  servo s1 (m.stamp + phyRx s m.port - origin - correction - pathDelay s m.port) (syncIntervalNs s)

/-- A Sync (R77). -/
def syncMsg (s : State) (m : PtpMsg) : State :=
  if !fromMaster s m then s
  else if m.twoStep then modTime s fun t => { t with syncWait := some m }
  else syncOffset s m m.origin m.correction

/-- A Follow_Up of the Sync that waits (R73, R77). -/
def followUpMsg (s : State) (m : PtpMsg) : State :=
  match s.time.syncWait with
  | none => s
  | some y =>
    if !fromMaster s m ∨ y.seq ≠ m.seq ∨ y.port ≠ m.port then s
    else syncOffset (modTime s fun t => { t with syncWait := none }) y m.origin (y.correction + m.correction)

/-- The peer-delay mechanism is in use (Table 3-1). -/
def peerDelay (s : State) : Bool := s.n 0 0x020200 != 2 || s.n 0 0x020600 == 0

/-- A Pdelay_Req: the response carries the turnaround, or the receipt time with a follow-up (R73, R75). -/
def pdelayReqMsg (s : State) (m : PtpMsg) : State :=
  if !peerDelay s ∨ !heard s m then s
  else
    let t2 := m.stamp + phyRx s m.port
    let t3 := now16 s + phyTx s m.port
    if s.b 0 0x020700 then ptpSend (ptpSend s .pdelayResp m.port m.seq t2 0) .pdelayRespFollowUp m.port m.seq t3 m.correction
    else ptpSend s .pdelayResp m.port m.seq 0 (m.correction + (t3 - t2))

/-- A Pdelay_Resp to the device's own request: the link delay (R73, R74). -/
def pdelayRespMsg (s : State) (m : PtpMsg) (t1 t2 t3 : Int) : State :=
  if !peerDelay s ∨ !heard s m then s
  else
    let t4 := m.stamp + phyRx s m.port
    let d := ((t4 - (t1 + phyTx s m.port)) - (t3 - t2) - m.correction) / 2
    (modTime s fun t => { t with linkDelay := t.linkDelay.set m.port d }).setI 0 0x022700 d

/-- A Delay_Req at a port of a boundary clock: its receipt time goes back (R73). -/
def delayReqMsg (s : State) (m : PtpMsg) : State :=
  if s.n 0 0x020200 ≠ 2 ∨ s.n 0 0x020600 ≠ 1 ∨ !heard s m then s
  else ptpSend s .delayResp m.port m.seq (m.stamp + phyRx s m.port) m.correction

/-- A Delay_Resp: the mean path delay of the end-to-end mechanism (R73). t1 and t2 belong to the Sync, t3 to the request, the message's
origin is the master's receipt time. -/
def delayRespMsg (s : State) (m : PtpMsg) (t1 t2 t3 : Int) : State :=
  if s.n 0 0x020200 ≠ 2 ∨ s.n 0 0x020600 ≠ 1 ∨ !fromMaster s m then s
  else s.setI 0 0x022700 (((t2 + phyRx s m.port - t1) + (m.origin - (t3 + phyTx s m.port)) - m.correction) / 2)

/-- A forwarded event message (R74): residence time and ingress link delay, in 2^-16 ns, join the correction. The residence operand is the time
between the two crossings of the RGMII boundary, so the latencies of both PHYs come to it (R75): the egress stamp is later by PhyTxLatency, and the
ingress stamp by PhyRxLatency. -/
def forwardMsg (s : State) (m : PtpMsg) (residence : Nat) : State :=
  if s.n 0 0x020200 = 2 then s
  else s.emit (.ptp m.udp .forwarded (1 - m.port) m.seq m.origin
    (m.correction + (residence + phyTx s (1 - m.port) - phyRx s m.port) + linkDelay s m.port))

/-- The announce timeout has run out since the last Announce of the selected master. -/
def announceLost (s : State) : Bool := decide (s.time.announceAt + announceTimeout ≤ s.time.uptime)

/-- No Sync for 4 intervals, or the announce timeout (Table 3-2). The announce timeout ends the selection of the master: another, or in role 1 the
device itself, may be selected (R73). -/
def syncLost (s : State) : State :=
  let s1 := if timeState s = 2 then enterHoldover s else s
  if announceLost s then modTime s1 fun t => { t with master := none, syncWait := none } else s1

/-! ### Messages of the device's own (R73) -/

/-- Ports on which the device is the master: both where it is grandmaster, in role 1 without a selected master; in role 2 every port but the one
that leads to the selected master. -/
def masterPorts (s : State) : List Nat :=
  match s.n 0 0x020200, s.time.master with
  | 1, none => [0, 1]
  | 2, none => [0, 1]
  | 2, some m => [0, 1].filter (· != m.port)
  | _, _ => []

/-- The data set that the device announces: its own, or its master's one step further (R73). -/
def announced (s : State) : List Nat :=
  match s.time.master with
  | none => ownDataSet s
  | some m => (dataSet m).take 6 ++ [m.stepsRemoved + 1]

/-- One Sync on a port: with its transmit stamp, or two-step with a Follow_Up that carries it (R73, R75). -/
def sendSync (s : State) (p : Nat) : State :=
  let stamp := now16 s + phyTx s p
  if s.b 0 0x020700 then ptpSend (ptpSend s .sync p s.time.syncSeq 0 0) .followUp p s.time.syncSeq stamp 0
  else ptpSend s .sync p s.time.syncSeq stamp 0

/-- One Announce on a port. -/
def sendAnnounce (s : State) (p : Nat) : State := s.emit (.announce (overUdp s) p s.time.announceSeq (announced s))

/-- Ports on which the device asks for the delay: every port in peer delay, the port of the selected master end to end. -/
def delayPorts (s : State) : List Nat :=
  if peerDelay s then [0, 1] else ((s.time.master.map Announce.port).toList)

/-- One request for the delay of a port. -/
def sendDelayReq (s : State) (p : Nat) : State :=
  ptpSend s (if peerDelay s then .pdelayReq else .delayReq) p s.time.delaySeq (now16 s + phyTx s p) 0

/-- A 16-bit sequence number moves on. -/
def ptpNext (n : Nat) : Nat := (n + 1) % 65536

/-- A multiple of an interval of 2^l seconds lies between two instants of powered time, in quanta. -/
def intervalEnds (l : Int) (a b : Nat) : Bool :=
  let q : Nat := if l < 0 then quantaPerSecond / 2 ^ (-l).toNat else quantaPerSecond * 2 ^ l.toNat
  a / q != b / q

/-- The messages that fall due between two instants of powered time: Syncs every 2^LogSyncInterval s, delay requests every 2^LogPdelayInterval s,
Announces every announce interval. -/
def ptpDue (s : State) (a b : Nat) : State :=
  let mp := masterPorts s
  let s1 := if !mp.isEmpty && intervalEnds (s.i 0 0x020800) a b then
      modTime (mp.foldl sendSync s) fun t => { t with syncSeq := ptpNext t.syncSeq } else s
  let s2 := if !mp.isEmpty && intervalEnds logAnnounce a b then
      modTime (mp.foldl sendAnnounce s1) fun t => { t with announceSeq := ptpNext t.announceSeq } else s1
  let dp := delayPorts s
  if !dp.isEmpty && intervalEnds (s.i 0 0x020900) a b then
    modTime (dp.foldl sendDelayReq s2) fun t => { t with delaySeq := ptpNext t.delaySeq } else s2

/-! ### Manual step and pulse per second (R78, R79, R89) -/

/-- TimeOfDaySet (R78). -/
def timeOfDay (s : State) (ns : Nat) : Nat × State :=
  if stepBarred s then (stWrongState, s) else (stOk, modTime (stepTo s (ns * Config.counterPerNs : Nat)) fun t => { t with todSet := true })

/-- Network time crosses a whole second (R89). -/
def ppsOut (s : State) : State :=
  if s.b 0 0x024000 then s.emit (.pps (s.q / quantaPerSecond * quantaPerSecond) (s.n 0 0x024100)) else s

/-- A rising edge on PPS_IN (R79, R89). As a servo update its interval is the second between two pulses: DESIGN CHOICE, log entry 30. -/
def ppsIn (s : State) (stamp : Nat) : State :=
  let s1 := bump (s.setN 0 0x024200 (stamp / Config.quantaPerNs)) 0 0x024300
  if s.n 0 0x020200 = 1 ∧ s.n 0 0x024400 = 1 ∧ s.time.master.isNone then
    let second := rhe ((stamp : Rat) / (quantaPerSecond : Nat)) * quantaPerSecond
    servo s1 (((stamp : Int) - second) * 4096) 1000000000
  else s1

/-! ### Bounds of the timing objects (R82) -/

/-- Shortest tick of the running plan in quanta; the beat where the plan has no sleeve. -/
def shortestTick (plan : List SleevePlan) (tb : Nat) : Nat :=
  plan.foldl (fun m p => min m (tb / max 1 (match p.mode with | 0 => p.divider | 1 => 2 * p.divider | _ => p.divider / 2))) tb

/-- The bounds between the timing objects and CommitMargin (R82): steps of 62.5 ns, beats and ns. -/
def timingBounds (plan : List SleevePlan) (tb phase cycle apply launch cutoff margin : Nat) : Bool :=
  decide (phase + 1 ≤ tb) && decide (1 ≤ apply ∧ apply ≤ cycle) && decide (16 * (launch + 1) ≤ cycle * tb * 1000)
    && decide (1000000 ≤ cycle * tb * 1000) && decide (16 * cutoff < apply * tb * 1000)
    && decide (4 ≤ margin ∧ margin ≤ 32 ∧ 4 * (margin * 1000) ≤ shortestTick plan (tb * 1000))

/-- The objects that the bounds tie together. -/
def timingObjs : List Nat := [0x230, 0x231, 0x233, 0x235, 0x236, 0x237]

/-- A timing object as it would be with a new value for one of them. -/
def timingWith (s : State) (o v x : Nat) : Nat := if o = x then v else s.n 0 (x * 256)

end Sys2Proof.Machine
end

