-- ==== Sys2Proof/Machine/Plan.lean ====
section
/-! DEFINITION. The comb plan: the checks of 01 R31 and of the rules it names, and its application with the self-test of its cells
(01 R33, R408, R409; 10 R248 to R250; 17 R372). -/

namespace Sys2Proof.Machine

/-- The device is in the limp state (17 R378). -/
def limp (s : State) : Bool := s.rst.limp

/-! ### Validation (01 R31) -/

/-- Ticks that a plan gives a beat of a sleeve (08 Table 8-1). -/
def planTicks (p : SleevePlan) : Nat := max 1 (match p.mode with | 0 => p.divider | 1 => 2 * p.divider | _ => p.divider / 2)

/-- The role may serve the unit (R31). -/
def roleFits : Role → Nat → Bool
  | .none, _ => false
  | .localServo, u => isLocal u
  | .netGroup, u => kindOf u == some .netAxis
  | .virtGroup, u => kindOf u == some .virtAxis
  | .recorder, u => isRecorder u
  | .coordinator, u => isCluster u

/-- The cells that a plan gives a role. -/
def roleCells (p : CombPlan) : List CellPlan := p.cells.filter fun c => c.role != .none

/-- A cell's role under a plan. -/
def cellRoleOk (s : State) (p : CombPlan) (c : CellPlan) : Bool :=
  decide (150 ≤ c.clock ∧ c.clock ≤ 600 ∧ c.clock % 25 = 0) && isCell c.cell
    && (c.role == .none || (p.quadrants.contains (quadrantOf c.cell) && s.st c.cell != usRetired))
    && c.units.all (roleFits c.role)
    && (match c.role with
        | .none => c.units.isEmpty
        | .localServo => decide (c.units.length ≤ 1)
        | .netGroup | .virtGroup => decide (c.units.length ≤ 8)
        | .recorder => true
        | .coordinator => decide (c.units.length ≤ 16))

/-- A sleeve's entry: carrier and tick (08 R193, 01 R12), not RETIRED if it is bound (12 R281). -/
def sleevePlanOk (s : State) (p : SleevePlan) : Bool :=
  let t := s.n 0 0x023000
  isSleeve p.sleeve && (p.axis == 0 || (isLocal p.axis && s.st p.sleeve != usRetired))
    && (p.divider == 1 || p.divider == 2 || p.divider == 4) && decide (p.mode ≤ 2) && !(p.mode == 2 && p.divider == 1)
    && decide (40 * p.divider ≤ t ∧ t ≤ 4000 * p.divider) && decide (80 * planTicks p ≤ t)

/-- A member is an axis, a recorder, another cluster of the plan, or one of another device (R21). -/
def memberOk (p : CombPlan) (c : Nat) : Member → Bool
  | .device u => isAxis u || isRecorder u || (isCluster u && u != c && p.clusters.any fun x => x.cluster == u)
  | .remote _ => true

/-- A cluster's entry (R21, R31): 2 to 64 members, its coordinator the one cell that serves it. -/
def clusterPlanOk (p : CombPlan) (c : ClusterPlan) : Bool :=
  isCluster c.cluster && decide (2 ≤ c.members.length ∧ c.members.length ≤ 64) && c.members.all (memberOk p c.cluster)
    && ((roleCells p).filter fun x => x.units.contains c.cluster).map CellPlan.cell == [c.coordinator]

/-- An axis runs a cam segment. -/
def runsCam (s : State) (a : Nat) : Bool := ((s.axis a).traj.run.map fun r => r.seg.kind == 5).getD false

/-- Worst-case cost of a role per beat, in cycles (10 Table 10-5), with the settings that the served units hold. -/
def roleCost (s : State) (p : CombPlan) (c : CellPlan) : Nat :=
  match c.role with
  | .none => 0
  | .localServo =>
    1400 + 900 * ((p.sleeves.filter fun k => c.units.contains k.axis).map planTicks).sum
  | .netGroup | .virtGroup => 300 + (c.units.map fun a => 600 + if s.n a 0x080200 = 2 ∨ runsCam s a then 700 else 0).sum
  | .recorder => 200 + (c.units.map fun r => 60 * s.n r 0x0A0100).sum
  | .coordinator =>
    ((p.clusters.filter fun k => c.units.contains k.cluster).map fun k =>
      300 + 150 * k.members.length + if s.b k.cluster 0x065000 then 400 else 0).sum

/-- The cycles that R250 leaves a user kernel on a cell: floor(f (T_b - m - 0.8 µs)) - C_role. -/
def kernelShare (s : State) (p : CombPlan) (c : CellPlan) : Int :=
  ((c.clock * (625 * ((s.n 0 0x023000 : Int) - s.n 0 0x032000) - 8000)) / 10000) - roleCost s p c

/-- The images of a plan that parse, with their kernels. -/
def planImages (p : CombPlan) : List (KernelPlan × KImage) := p.kernels.filterMap fun k => (parseImage k.image).map fun i => (k, i)

/-- The exports of every kernel of a plan, with their home units. -/
def planExports (p : CombPlan) : List (Nat × KObject) := (planImages p).flatMap fun x => x.2.objs.map fun o => (x.1.home, o)

/-- Is a unit a direct member of a cluster of the plan? -/
def memberIn (cs : List ClusterPlan) (u : Nat) : Bool := cs.any fun c => c.members.contains (.device u)

/-- A kernel of the plan (10 R248 to R250). -/
def kernelPlanOk (s : State) (p : CombPlan) (k : KernelPlan) : Bool :=
  match parseImage k.image with
  | none => false
  | some i =>
    decide (k.kernel < 128) && (isAxis k.home || isCluster k.home || k.home == 0)
      && imageOk { s with plan := some p } (planExports p) (memberIn p.clusters)
          ((planImages p).flatMap fun x => if x.1.home = k.home ∧ x.1.kernel ≠ k.kernel then x.2.objs.map KObject.obj else []) i
      && ((roleCells p).find? fun c => c.cell == k.cell).any fun c => decide ((i.budget : Int) ≤ kernelShare s p c)

/-- No reason of R31, R193, R249, R250, R281, R358 or R378 refuses the plan. A plan whose lists contradict themselves is none either. -/
def planOk (s : State) (p : CombPlan) : Bool :=
  let free := ((List.range 129).drop 1).filter fun c =>
    p.quadrants.contains (quadrantOf c) && s.st c != usRetired && !((roleCells p).any fun x => x.cell == c)
  let served := (roleCells p).flatMap CellPlan.units
  !limp s && !s.journal.retirementsLost
    && decide (s.n 0 0x031400 ≤ free.length)
    && p.cells.all (cellRoleOk s p) && decide ((p.cells.map CellPlan.cell).Nodup) && decide served.Nodup
    && p.sleeves.all (sleevePlanOk s) && decide ((p.sleeves.map SleevePlan.sleeve).Nodup)
    && (served.filter isLocal).all (fun a => ((p.sleeves.filter fun k => k.axis == a).length == 1))
    && decide (((p.sleeves.map SleevePlan.axis).filter (· != 0)).Nodup)
    && p.clusters.all (clusterPlanOk p) && decide ((p.clusters.flatMap ClusterPlan.members |>.filter fun m => match m with
        | .device _ => true
        | .remote _ => false).Nodup)
    && decide (4 * (s.n 0 0x032000 * 1000) ≤ shortestTick p.sleeves s.tb)
    && p.kernels.all (kernelPlanOk s p) && decide ((p.kernels.map KernelPlan.kernel).Nodup) && decide ((p.kernels.map KernelPlan.cell).Nodup)

/-! ### Application (01 R33, 17 R372) -/

/-- The role that a plan gives a cell. -/
def planRole (p : CombPlan) (c : Nat) : RoleS :=
  match (roleCells p).find? fun x => x.cell == c with
  | none => {}
  | some x => { role := x.role, clock := x.clock, units := x.units, kernel := (p.kernels.find? fun k => k.cell == c).map KernelPlan.kernel }

/-- The last journaled value of an exported object, as a number of its type (10 R247). -/
def journaledExport (s : State) (home : Nat) (x : KObject) : Option Int :=
  (((regionOf s.nva (liveIdx s.nva)).filter fun r => r.space == 0 && !r.erase && r.path == [home] && r.obj == x.obj).getLast?).map fun r =>
    decodeNum (kernelTy x.type) r.data

/-- Put a kernel of a plan in force: its state area from the image, its exports at their defaults or journaled values (R244, R247, R248). -/
def loadKernel (s : State) (k : KernelPlan) : State :=
  match parseImage k.image with
  | none => s
  | some i =>
    let s1 := i.objs.foldl (fun t x =>
      let d := valInt (exportRow x).dflt
      t.setI k.home (x.obj * 256) (if x.journaled then (journaledExport s k.home x).getD d else d)) s
    (s1.setKernel k.kernel { image := i, home := k.home, state := i.state, fullState := i.state }).setN 0 (0x110400 + k.kernel) 1

/-- Every axis, recorder and cluster number that a plan may name. -/
def planUnits (s : State) (p : CombPlan) : List Nat :=
  (List.range 0x1A0).map (0x200 + ·) ++ recorderUnits ++ ((p.clusters ++ planClusters s).map ClusterPlan.cluster).dedup

/-- The bit of NO_CELL of a unit (12 Table 12-1). -/
def noCellBit (u : Nat) : Nat := if isAxis u then 2 else 0

/-- A unit other than a cell under a new plan: OFF where the plan leaves it out, out of OFF where the plan takes it in (Tables 1-3, 1-4). -/
def planUnit (p : CombPlan) (s : State) (u : Nat) : State :=
  let inPlan := (roleCells p).any fun c => c.units.contains u
  let st := s.st u
  if st = usRetired then s
  else if inPlan then
    let s1 := sourceInactive s u (noCellBit u)
    if st = usOff then setUnit true s1 u usDisabled else s1
  else if st = usOff then s
  else if isAxis u then axisTo true s u usOff
  else putState true s u usOff

/-- A cell under a new plan: OFF in a quadrant that is not powered, else DISABLED with its self-test running (R33, R372). -/
def planCell (p : CombPlan) (s : State) (c : Nat) : State :=
  if s.st c = usRetired then s.setCell c {}
  else if p.quadrants.contains (quadrantOf c) then putState true (s.setCell c { selfTest := true, planned := planRole p c }) c usDisabled
  else putState true (s.setCell c {}) c usOff

/-- Put a plan in force. Every rehousing and every pending replacement of the plan before it ends. -/
def applyPlan (s : State) (p : CombPlan) : State :=
  let s1 := (planUnits s p).foldl (planUnit p) { s with plan := some p, rehousings := [], rst := { s.rst with quadrants := p.quadrants } }
  let s2 := ((List.range 129).drop 1).foldl (planCell p) { s1 with kernels := [], clusters := [] }
  let s3 := (List.range 128).foldl (fun t k => t.setN 0 (0x110400 + k) 0) s2
  let s4 := p.kernels.foldl loadKernel (s3.setN 0 0x031100 p.signature)
  let s5 := (p.clusters.map ClusterPlan.cluster).foldl (fun t c => if (t.fault c).waiting then t else
    putState true t c (clusterState t c)) s4
  watchReserve (putState true s5 0 (rootState s5))

/-- COMB_PLAN_APPLY: the status of the write and, where the plan is accepted, the plan in force with its record on the way to the journal
(R31, R33; 16 Table 16-4). -/
def combPlanApply (s : State) (p : CombPlan) : Nat × State :=
  if s.st 0 ≠ usDisabled then (stWrongState, s)
  else if !planOk s p then (stPlanInvalid, s)
  else (stOk, applyPlan s p)

/-! ### Roles (01 R33, R408; 12 R290) -/

/-- A cell takes a role: ACTIVE, its deadlines from the next beat start on. -/
def takeRole (s : State) (c : Nat) (w : RoleS) : State :=
  setUnit true ((s.setCell c { work := w, committed := true, hotBeat := s.beat.n, fullBeat := s.beat.n, fullDue := true }).setN c 0x032300 0) c usActive

/-- A serving cell that drains hands its work to a reserve cell (17 R384). -/
def drainMove (s : State) (u : Nat) : State :=
  let w := (s.cell u).work
  if !isCell u ∨ w.role = .none ∨ s.st u ≠ usActive ∨ s.rehousings.any (fun r => r.failed == u || r.target == some u) then s
  else startReadying s { kind := .drain, failed := u, work := w }

/-- A cell that has passed its self-test is READY, and ACTIVE if the plan gives it a role (R33), which a drain moves on at once. -/
def admitCell (s : State) (c : Nat) : State :=
  let w := (s.cell c).planned
  let s1 := setUnit true (s.setCell c {}) c usReady
  if w.role = .none then s1
  else
    let s2 := takeRole s1 c w
    if draining s2 c then drainMove s2 c else s2

/-- The nurse gives the role of a cell that failed its self-test to a reserve cell (R408). -/
def roleReassign (s : State) (failed : Nat) : State :=
  let w := (s.cell failed).planned
  if w.role = .none ∨ s.st failed ≠ usFault then s
  else
    let s1 := s.setCell failed { s.cell failed with planned := {} }
    let r : Rehouse := { kind := .reassign, failed := failed, work := w }
    startReadying s1 r

/-- The waiting role, of those with no cell, whose lowest unit number is lowest (12 R290). -/
def waitingRole (s : State) : Option Rehouse :=
  (s.rehousings.filter fun r => r.noCell && r.target.isNone).foldl (fun best r =>
    match best with
    | none => some r
    | some b => if r.work.units.min?.getD 0 < b.work.units.min?.getD 0 then some r else best) none

/-- A READY cell is given to a waiting role and readied (12 R290). -/
def roleGrant (s : State) (c : Nat) : State :=
  match waitingRole s with
  | none => s
  | some r =>
    if s.st c ≠ usReady ∨ draining s c ∨ 4 ≤ activeRehousings s then s
    else setUnit true { s with rehousings := s.rehousings.map fun q => if q == r then { r with kind := if r.kind = .reassign then .reassign else .grant, target := some c } else q } c usActive

/-- The oldest rehousing that waits for its turn or for a reserve cell starts (12 R289, R292; 17 R384). -/
def queuedStart (s : State) : State :=
  match s.rehousings.find? fun r => r.target.isNone && !r.noCell with
  | none => s
  | some r => if 4 ≤ activeRehousings s then s else startReadying { s with rehousings := s.rehousings.erase r } r

/-- The first beat that starts at least one beat after now (12 R292). -/
def beatAfterNext (s : State) : Nat := if s.q = s.beat.base then s.beat.n + 1 else s.beat.n + 2

/-- A reserve cell is readied (12 R286 step 3, R292). -/
def readyingDone (s : State) (c : Nat) : State :=
  { s with rehousings := s.rehousings.map fun r =>
      if r.target = some c ∧ !r.readied then
        { r with readied := true, notBefore := if r.kind = .replacement ∨ r.kind = .drain then beatAfterNext s else s.beat.n + 1 }
      else r }

/-- The state area that a kernel has on its new cell: the hot words of the last commit and the full checkpoint's other words (12 R284), or
what R252 gives a replacement. -/
def kernelMoved (x : KernelS) (r : Rehouse) : KernelS :=
  let exact := r.kind = .drain ∨ r.kind = .replacement
  let area := if exact then x.state else x.state.take x.image.hotWords ++ x.fullState.drop x.image.hotWords
  match r.image with
  | some (i, keep) =>
    let area := if keep ∧ i.stateBytes = x.image.stateBytes then area else i.state
    { x with image := i, state := area, fullState := area, resumed := true, run := none }
  | none => { x with state := area, resumed := true, run := none }

/-- The weave switches a role to its readied cell at a beat start (12 R286 step 4, R290, R292; 01 R408). -/
def weaveSwitch (s : State) (r : Rehouse) : State :=
  match r.target with
  | none => s
  | some t =>
    let fresh := r.kind = .reassign
    let old := s.cell r.failed
    let s0 : State := { s with rehousings := s.rehousings.erase r }
    let hot := if r.kind = .drain ∨ r.kind = .replacement then old.hotBeat else if fresh then s.beat.n - 1 else r.stale - 1
    let s1 := (s0.setN t 0x032300 0).setCell t {
      work := r.work
      hotBeat := hot
      fullBeat := old.fullBeat
      fullDue := true
      rehoused := if r.kind = .fault then some (r.failed, r.stale) else none
      replaced := r.replaces }
    let s2 := match r.work.kernel with
      | none => s1
      | some k => if fresh then s1 else s1.setKernel k (kernelMoved (s1.kernel k) r)
    let s3 := if r.kind = .fault ∨ r.kind = .grant then
        r.work.units.foldl (fun u a =>
          if isLocal a then engineRehoused u a
          else if isCluster a then u.setCluster a { u.cluster a with gains := (u.cluster a).fullGains }
          else u) s2
      else s2
    let s3 := if r.replaces.isSome then s3.setN 0 0x0B5300 0xFF else s3
    let s4 := if r.noCell then r.work.units.foldl (fun u a => sourceInactive u a (noCellBit a)) s3 else s3
    if r.kind = .replacement ∨ r.kind = .drain then s4.setCell r.failed { selfTest := true }
    else if fresh then s4
    else s4.setCell r.failed { s4.cell r.failed with work := {}, shut := none, ticks := 0, committed := false, late := false, closed := false }

/-! ### Leaving FAULT (12 R280 to R283) -/

/-- #0B33 OperatingTime in ms: the value the last start-up took from the journal and the powered time since (R282). -/
def operatingMs (s : State) : Nat := s.n 0 0x0B3300 + s.time.uptime / 16000000

/-- Recoveries of a unit within RetireWindow, newest first (R281). -/
def recentRecoveries (s : State) (u : Nat) : List Nat :=
  (s.fault u).recoveries.filter fun t => decide (operatingMs s ≤ t + s.n 0 0x0B3200 * 3600000)

/-- RetireThreshold of a unit's kind. -/
def retireThreshold (s : State) (u : Nat) : Nat := s.n 0 (0x0B3100 + ((kindOf u).map UKind.code).getD 0)

/-- The journal's records of a recovery (Table 16-4, RecoveryCount as a J object, OperatingTime). -/
def recoveryRecords (s : State) (u : Nat) : List JRecord :=
  [{ valueRecord [u] 0x0B03 0 0 false (leBytes 2 (s.n u 0x0B0300)) with fin := false },
   { itemRecord 4 (leBytes 2 u ++ ((s.fault u).recoveries.take (retireThreshold s u)).flatMap (leBytes 8)) with fin := false },
   itemRecord 5 (leBytes 8 (operatingMs s))]

/-- A recovery or retirement is counted. -/
def noteRecovery (s : State) (u : Nat) : State :=
  bump (s.setFault u { s.fault u with recoveries := (operatingMs s :: (s.fault u).recoveries).take 255, waiting := false }) u 0x0B0300

/-- A unit leaves FAULT to READY. -/
def recoverTo (s : State) (u : Nat) : State :=
  let s1 := noteRecovery s u
  let s2 := if isCluster u then setUnit true s1 u (clusterState s1 u)
    else if isAxis u then
      let x := s1.axis u
      sleeveFollows true (setUnit true (s1.setAxis u { x with traj := { x.traj with stop := none } }) u usReady) u usReady
    else if isSleeve u then feedbackRestore (setUnit true s1 u usReady) u
    else if isCell u then admitCell s1 u
    else setUnit true s1 u usReady
  let s3 := publish s2 u 0x0B02 (leBytes 2 (s2.n u 0x0B0300))
  let s4 := if u = fieldUnit ∧ s3.field.restoreDue then publish { s3 with field := { s3.field with restoreDue := false } } u 0x0D02 [] else s3
  journal s4 (recoveryRecords s4 u) .none

/-- A unit's quiet period is over and nothing holds it: it is retired after its record commits, or leaves FAULT (R280, R281). -/
def recover (s : State) (u : Nat) : State :=
  let thr := retireThreshold s u
  if !isCluster u ∧ thr ≠ 0 ∧ thr ≤ (recentRecoveries s u).length + 1 then   -- no cluster is RETIRED (01 Table 1-3)
    journal s [itemRecord 3 (leBytes 2 u ++ [1])] (.retire u)
  else
    let s1 := recoverTo s u
    let a := if isSleeve u then axisOf s1 u else 0
    if a ≠ 0 ∧ s1.st a = usFault ∧ (s1.fault a).waiting then
      let thr := retireThreshold s1 a
      if thr ≠ 0 ∧ thr ≤ (recentRecoveries s1 a).length + 1 then journal s1 [itemRecord 3 (leBytes 2 a ++ [1])] (.retire a) else recoverTo s1 a
    else s1

/-- The quiet period of a unit ends (R280). -/
def quietPeriodEnd (s : State) (u : Nat) : State :=
  match kindOf u with
  | none => s
  | some k =>
    if s.st u ≠ usFault ∨ containedActive s u k ∨ k = .veil ∨ k = .root then s
    else if k = .cell then (if (s.cell u).selfTest then s else s.setCell u { s.cell u with selfTest := true })
    else if k = .localAxis ∧ s.st (sleeveOf s u) = usFault then s.setFault u { s.fault u with waiting := true }
    else if k = .cluster ∧ !(s.fault u).waiting then s
    else recover s u

/-- The retirement record of a unit has committed (R281). -/
def retireUnit (s : State) (u : Nat) : State :=
  if s.st u ≠ usFault then s
  else
    let s1 := noteRecovery s u
    let s2 := if isAxis u then axisTo true s1 u usRetired
      else if isSleeve u then feedbackRestore (setUnit true s1 u usRetired) u else setUnit true s1 u usRetired
    let s3 := publish s2 u 0x0B03 (leBytes 2 (s2.n u 0x0B0300))
    let a := if isSleeve u then axisOf s3 u else 0
    let s4 := if a ≠ 0 ∧ (s3.st a = usReady ∨ s3.st a = usActive ∨ s3.st a = usFault) then axisTo true s3 a usDisabled else s3
    journal s4 (recoveryRecords s4 u) .none

/-- The release record of a unit has committed (R283). -/
def releaseUnit (s : State) (u : Nat) : State :=
  if s.st u ≠ usRetired then s
  else
    let s1 := setUnit true (s.setFault u { s.fault u with recoveries := [] }) u usDisabled
    if isCell u then s1.setCell u { selfTest := true } else s1

/-- RetireRelease: refused unless the root is DISABLED and the unit RETIRED (R283). -/
def retireRelease (s : State) (u : Nat) : Option Nat :=
  if s.st 0 ≠ usDisabled ∨ s.st u ≠ usRetired then some stWrongState else none

/-- Units RETIRED: #0B41 RetiredList. -/
def retiredUnits (s : State) : List Nat :=
  (s.dict.filter fun e => e.1 % 2 ^ 24 == 0x030000 && e.2 == .num usRetired).map fun e => e.1 / 2 ^ 24

/-- The outcome of a built-in self-test (01 R33, R406; 12 R280, R283, R292; 17 R385). -/
def selfTestDone (s : State) (c : Nat) (pass : Bool) : State :=
  let x := s.cell c
  if !x.selfTest then s
  else
    let s1 := closeShadow (s.setCell c { x with selfTest := false }) (0x20000 + c) (10 * quantaPerUs)
    if !pass then hitCell s1 c 8
    else if s1.st c = usFault then recover s1 c
    else admitCell s1 c

/-- OperatingTime is journaled (R282). -/
def operatingTimeSave (s : State) : State := journal s [itemRecord 5 (leBytes 8 (operatingMs s))] .none

/-- Writing 1 clears bits of FaultSticky or FaultShadowed (R275). -/
def stickyClear (s : State) (u obj e v : Nat) : State :=
  s.setN u (obj * 256 + e) (bitsToNat ((List.range 32).map fun i => bitOf (s.n u (obj * 256 + e)) i && !bitOf v i))

end Sys2Proof.Machine
end

