-- ==== Sys2Proof/Machine/Can.lean ====
section
/-! DEFINITION. The CAN controllers (15): transmit slots, arbitration, error states, reception, reference messages. -/

namespace Sys2Proof.Machine

/-- Change a controller. -/
def modCan (s : State) (u : Nat) (f : CanS → CanS) : State := s.setCan u (f (s.canOf u))

/-! ### Records (R341, R342) -/

/-- Length may stand in a record (Table 15-2). -/
def lengthOk (fdf : Bool) (n : Nat) : Bool := decide (n ≤ 8) || (fdf && [12, 16, 20, 24, 32, 48, 64].contains n)

/-- A transmit record is valid (R342). -/
def recordOk (mode : Nat) (b : Bytes) : Bool :=
  let id := fieldLE b 0 4
  let fl := fieldLE b 4 1
  let n := fieldLE b 5 1
  let fdf := bitOf fl 1
  decide (b.length = 80) && decide (id < (if bitOf fl 0 then 2 ^ 29 else 2 ^ 11)) && decide (fl < 64) && !bitOf fl 5 && lengthOk fdf n
    && decide (fieldLE b 7 1 = 0 ∧ fieldLE b 8 8 = 0) && ((b.drop (16 + n)).all (· == 0))
    && !(bitOf fl 3 && fdf) && !(bitOf fl 2 && !fdf) && !(fdf && mode == 0)

/-- The frame that a transmit record spells; a remote frame carries no data. -/
def readFrame (b : Bytes) : CanFrame :=
  let fl := fieldLE b 4 1
  { ident := fieldLE b 0 4, ide := bitOf fl 0, fdf := bitOf fl 1, brs := bitOf fl 2, rtr := bitOf fl 3, esi := false,
    data := (b.drop 16).take (fieldLE b 5 1) }

/-- A write to TxSlot (R342). -/
def txSlotWrite (s : State) (u i : Nat) (b : Bytes) : Nat × State :=
  let x := slotOf s u i
  if x.state = slPending ∨ x.state = slSending then (0x20, s)
  else if !recordOk (s.n u 0x0E0000) b then (0x21, s)
  else
    let c := s.canOf u
    (stOk, putSlot (s.setCan u { c with order := c.order + 1 }) u i
      { state := slPending, frame := readFrame b, report := bitOf (fieldLE b 4 1) 4, limit := fieldLE b 6 1, order := c.order })

/-- A write to TxAbort (R347, Table 15-3). -/
def txAbort (s : State) (u mask : Nat) : State :=
  (bitsOf 32 mask).foldl (fun t i =>
    let x := slotOf t u i
    if x.state = slPending then endSlot t u i slAborted
    else if x.state = slSending then putSlot t u i { x with abort := true }
    else if x.state = slEmpty then t
    else putSlot t u i {}) s

/-! ### Arbitration (R343) -/

/-- The arbitration field as a number: a lower one wins. -/
def arbKey (f : CanFrame) : Nat :=
  if f.ide then (f.ident / 2 ^ 18) * 2 ^ 21 + 3 * 2 ^ 19 + f.ident % 2 ^ 18 * 2 + (if f.rtr then 1 else 0)
  else f.ident * 2 ^ 21 + (if f.rtr then 2 ^ 20 else 0)

/-- The reference message that waits, as a frame (R351). -/
def refFrame (s : State) (u : Nat) (data : Bytes) : CanFrame :=
  let x := s.n u 0x0E4100
  { ident := x % 2 ^ 29, ide := bitOf x 29, fdf := false, brs := false, rtr := false, esi := false, data := data }

/-- What the controller may send: slots by number, 32 for the reference slot; key, order and frame. -/
def offers (s : State) (u : Nat) : List (Nat × Nat × Nat × CanFrame) :=
  let c := s.canOf u
  ((slotsIn s u slPending).map fun i => let x := slotOf s u i; (i, arbKey x.frame, x.order, x.frame))
    ++ match c.refData with
      | some d => if c.refSending then [] else [(32, arbKey (refFrame s u d), c.refOrder, refFrame s u d)]
      | none => []

/-- The offer that would win: the lowest arbitration field, then the earliest in queue order. -/
def bestOffer (l : List (Nat × Nat × Nat × CanFrame)) : Option (Nat × Nat × Nat × CanFrame) :=
  l.foldl (fun best x => match best with
    | none => some x
    | some b => if x.2.1 < b.2.1 ∨ (x.2.1 = b.2.1 ∧ x.2.2.1 < b.2.2.1) then some x else best) none

/-- A frame of the controller is on the bus. -/
def onBus (s : State) (u : Nat) : Bool := (s.canOf u).refSending || !(slotsIn s u slSending).isEmpty

/-- The bus allows a transmission: the chosen frame wins arbitration and goes out, or loses and stays pending (R343). -/
def arbitration (s : State) (u : Nat) (won : Bool) (sof : Nat) : State :=
  let c := s.canOf u
  if s.st u ≠ usActive ∨ c.err = 2 ∨ onBus s u ∨ c.stopping.isSome ∨ !won then s
  else match bestOffer (offers s u) with
    | none => s
    | some (32, _, _, f) => (s.setCan u { c with refSending := true, refSof := sof / Config.quantaPerNs }).emit (.can u f)
    | some (i, _, _, f) => (putSlot s u i { slotOf s u i with state := slSending, sof := sof / Config.quantaPerNs }).emit (.can u f)

/-! ### Error counters and states (R345, R346) -/

/-- Show the counters and the state (R346). -/
def showErrors (s : State) (u : Nat) : State :=
  let c := s.canOf u
  ((s.setN u 0x0E0700 c.err).setN u 0x0E0800 (min c.tec 255)).setN u 0x0E0900 (min c.rxErr 255)

/-- Error active or error passive by the counters; entry into error passive is published once (R346). -/
def errorState (s : State) (u : Nat) : State :=
  let c := s.canOf u
  if c.err = 2 then showErrors s u
  else if 128 ≤ c.tec ∨ 128 ≤ c.rxErr then
    if c.err = 1 then showErrors s u
    else hit (publish (showErrors (s.setCan u { c with err := 1 }) u) u 0x0E02 (leBytes 1 (min c.tec 255) ++ leBytes 1 (min c.rxErr 255))) u 1
  else showErrors (s.setCan u { c with err := 0 }) u

/-- A valid frame, received or sent: the acknowledgement run and BusAlone end (R345). -/
def notAlone (s : State) (u : Nat) : State := (modCan s u fun c => { c with ackRun := 0 }).setB u 0x0E0D00 false

/-- STOP or DISABLE that waited for the frame in progress (R340). -/
def canStopped (s : State) (u : Nat) : State :=
  match (s.canOf u).stopping with
  | none => s
  | some dis =>
    if onBus s u then s
    else
      let s1 := modCan s u fun c => { c with stopping := none }
      if dis then setUnit true (canAbortPending s1 u) u usDisabled else setUnit true s1 u usReady

/-- The frame on the bus has been sent (R344, R351). -/
def txDone (s : State) (u : Nat) : State :=
  if !onBus s u ∨ s.st u ≠ usActive then s
  else
    let s1 := (slotsIn s u slSending).foldl (fun t i => endSlot t u i slDone) s
    let c := s1.canOf u
    let s2 := if c.refSending then
        (s1.setCan u { c with refSending := false, refLast := some c.refSof, refNext := false, order := c.order + 1, refOrder := c.order
                              refData := if c.refNext then some (leBytes 8 c.refSof) else none }).setN u 0x0E4300 c.refSof
      else s1
    canStopped (errorState (notAlone (modCan s2 u fun c => { c with tec := c.tec - 1 }) u) u) u

/-- An attempt of a slot has failed (R344, R346, R347). -/
def attemptFails (s : State) (u i : Nat) (ack busOff : Bool) : State :=
  let x := slotOf s u i
  let y := { x with attempts := min (x.attempts + 1) 255, state := slPending }
  let s1 := putSlot s u i y
  if x.abort then endSlot s1 u i slAborted
  else if x.limit ≠ 0 ∧ x.limit ≤ x.attempts + 1 then endSlot s1 u i (if ack ∧ !busOff then slNoAck else slErrors)
  else s1

/-- A reference message whose attempt failed: the one that has fallen due meanwhile takes its place (R351). -/
def refFails (s : State) (u : Nat) : State :=
  let c := s.canOf u
  let s1 := s.setCan u { c with refSending := false, refNext := false }
  if c.refNext then bump s1 u 0x0E4400 else s1

/-- Sixteen consecutive acknowledgement errors (R345). -/
def aloneStep (s : State) (u slot : Nat) : State :=
  if (s.canOf u).ackRun < 16 ∨ s.b u 0x0E0D00 = true then s
  else bump (publish (s.setB u 0x0E0D00 true) u 0x0E05 (leBytes 1 slot)) u 0x0E0C00

/-- Entry into bus-off (R346): slot is the slot whose frame was in progress. -/
def busOff (s : State) (u slot : Nat) : State :=
  let back := if (slotOf s u slot).state = slPending then slot else 0xFF
  hit (publish (showErrors s u) u 0x0E03 (leBytes 1 back)) u 0

/-- The frame in progress has failed: the counters first, then its slot. -/
def errorCounts (c : CanS) (e : CanTxErr) : CanS :=
  match e with
  | .ack clean =>
    let tec := if clean && c.err == 1 then c.tec else c.tec + 8
    { c with tec := tec, ackRun := c.ackRun + 1, err := if 255 < tec then 2 else c.err }
  | .other => { c with tec := c.tec + 8, err := if 255 < c.tec + 8 then 2 else c.err }

/-- The error is an acknowledgement error. -/
def isAckError : CanTxErr → Bool
  | .ack _ => true
  | .other => false

/-- A transmit error (R344 to R346). -/
def txError (s : State) (u : Nat) (e : CanTxErr) : State :=
  if onBus s u = false ∨ s.st u ≠ usActive then s
  else
    let slot := (slotsIn s u slSending).headD 0xFF
    let s1 := modCan s u fun c => errorCounts c e
    let off := (s1.canOf u).err == 2
    let s2 := if (s1.canOf u).refSending then refFails s1 u else s1
    let s3 := (slotsIn s2 u slSending).foldl (fun t i => attemptFails t u i (isAckError e) off) s2
    let s4 := aloneStep s3 u slot
    canStopped (if off then busOff s4 u slot else errorState s4 u) u

/-- A bus error seen as a receiver (R345, R351). -/
def busError (s : State) (u : Nat) : State :=
  let c := s.canOf u
  if s.st u ≠ usActive ∨ c.err = 2 then s else errorState (s.setCan u { c with rxErr := min (c.rxErr + 1) 255 }) u

/-- The wait at bus-off is over (R346). -/
def busRecovered (s : State) (u : Nat) : State :=
  let c := s.canOf u
  if c.err ≠ 2 then s else publish (showErrors (s.setCan u { c with err := 0, tec := 0, rxErr := 0 }) u) u 0x0E04 []

/-! ### Reception (R348 to R350) -/

/-- A filter element. -/
def filterOf (s : State) (u i : Nat) : Bytes := s.bs u (0x0E2000 + i)

/-- The action of a filter: bit 0 FIFO, bit 1 extract. -/
def filterAction (b : Bytes) : Nat := fieldLE b 8 1 / 2 % 4

/-- Does a filter match a frame? One whose action is off does not. -/
def filterMatches (b : Bytes) (f : CanFrame) : Bool :=
  filterAction b != 0 && (bitOf (fieldLE b 8 1) 0 == f.ide) && ((f.ident.xor (fieldLE b 0 4)).land (fieldLE b 4 4) == 0)

/-- The record of a received frame (Table 15-2). -/
def rxRecord (f : CanFrame) (filter stamp : Nat) : Bytes :=
  let fl := bitsToNat [f.ide, f.fdf, f.brs, f.rtr, false, f.esi]
  leBytes 4 f.ident ++ leBytes 1 fl ++ leBytes 1 f.data.length ++ leBytes 1 filter ++ [0] ++ leBytes 8 stamp
    ++ (f.data ++ List.replicate (64 - f.data.length) 0).take 64

/-- The FIFO action (R349). -/
def rxFifo (s : State) (u : Nat) (rec : Bytes) : State :=
  let c := s.canOf u
  if c.fifo.length < 128 then (s.setCan u { c with fifo := c.fifo ++ [rec], overflow := false }).setN u 0x0E2200 (c.fifo.length + 1)
  else
    let s1 := bump (s.setCan u { c with overflow := true }) u 0x0E2300
    if c.overflow then s1 else publish s1 u 0x0E06 (leBytes 1 c.fifo.length)

/-- Size in bytes of an extracted type; 0 for a code that none has. -/
def extractSize (t : Nat) : Nat :=
  match t with
  | 0x02 | 0x06 => 1
  | 0x03 | 0x07 => 2
  | 0x04 | 0x08 | 0x0A => 4
  | _ => 0

/-- The extract action (R350). -/
def rxExtract (s : State) (u i : Nat) (b : Bytes) (f : CanFrame) (stamp : Nat) : State :=
  let o := fieldLE b 9 1
  let t := fieldLE b 10 1
  let n := extractSize t
  if f.data.length < o + n ∨ f.rtr then bump s u (0x0E3200 + i)
  else
    let raw := (f.data.drop o).take n
    let v := leNat (if bitOf (fieldLE b 11 1) 0 then raw.reverse else raw)
    let x := if t = 0x0A then v else fOfInt b32s (if t = 0x06 ∨ t = 0x07 ∨ t = 0x08 then signed (8 * n) v else v)
    (s.setN u (0x0E3000 + i) (fMul b32s x (fieldLE b 12 4))).setN u (0x0E3100 + i) stamp

/-- The receive error counter after a frame received well, by ISO 11898-1: down by one, or from above 127 to a value between 119 and 127
that the standard leaves open (log entry 9). -/
def recAfterGood (r : Nat) : Nat :=
  if r ≤ 127 then r - 1 else 119 + ((Config.openValue 15 [r]) % 9).toNat

/-- A valid frame of another node (R348). -/
def canReceive (s : State) (u : Nat) (f : CanFrame) (sof : Nat) : State :=
  let c := s.canOf u
  if (s.st u ≠ usReady ∧ s.st u ≠ usActive) ∨ c.err = 2 then s
  else if s.b u 0x0E4000 && f.ident == s.n u 0x0E4100 % 2 ^ 29 && f.ide == bitOf (s.n u 0x0E4100) 29 then busError s u
  else
    let s1 := notAlone s u
    let s2 := if s.st u = usActive then errorState (modCan s1 u fun c => { c with rxErr := recAfterGood c.rxErr }) u else s1
    let stamp := sof / Config.quantaPerNs
    match (List.range 64).find? fun i => filterMatches (filterOf s2 u i) f with
    | none => s2
    | some i =>
      let b := filterOf s2 u i
      let s3 := if filterAction b % 2 = 1 then rxFifo s2 u (rxRecord f i stamp) else s2
      if 2 ≤ filterAction b then rxExtract s3 u i b f stamp else s3

/-- RxRead (R349): the oldest records, removed. -/
def rxTake (s : State) (u dataLength : Nat) : Bytes × State :=
  let c := s.canOf u
  let q := dataLength / 80
  let n := min c.fifo.length (if q = 0 then 18 else min q 18)
  ((c.fifo.take n).flatten,
   (s.setCan u { c with fifo := c.fifo.drop n, overflow := c.overflow && n == 0 }).setN u 0x0E2200 (c.fifo.length - n))

/-! ### Reference messages (R351) -/

/-- A reference message falls due on a controller that is on its bus (R351); it is sent in normal operation. -/
def refDue (s : State) (u : Nat) : State :=
  let c := s.canOf u
  if !s.b u 0x0E4000 ∨ (s.st u ≠ usActive ∧ s.st u ≠ usReady) then s
  else if c.refSending then
    if c.refNext then bump s u 0x0E4400 else s.setCan u { c with refNext := true }
  else if c.refData.isSome then bump s u 0x0E4400
  else s.setCan u { c with refData := some ((c.refLast.map (leBytes 8)).getD (List.replicate 8 0xFF)), refOrder := c.order, order := c.order + 1 }

/-- RefEnable is written: the first message after it is set carries ones (R351). -/
def refEnabled (s : State) (u : Nat) : State := modCan s u fun c => { c with refLast := none, refData := none, refNext := false }

/-! ### Unit commands and the UNIT reset (R340; 17 R385) -/

/-- UnitCommand to a controller. -/
def canCommand (s : State) (u c : Nat) : Nat × State :=
  let st := s.st u
  let drains := draining s u
  match c with
  | 1 =>
    if st ≠ usActive then (stWrongState, s)
    else (stOk, canStopped (modCan s u fun x => { x with stopping := some ((x.stopping).getD false) }) u)
  | 2 =>
    if st = usReady then (stOk, setUnit true (canAbortPending s u) u usDisabled)
    else if st = usActive then (stOk, canStopped (modCan s u fun x => { x with stopping := some true }) u)
    else (stWrongState, s)
  | 3 => if st ≠ usDisabled ∨ drains then (stWrongState, s) else (stOk, setUnit true s u usReady)
  | 4 => if st ≠ usReady ∨ drains then (stWrongState, s) else (stOk, setUnit true s u usActive)
  | _ => (stRange, s)

/-- A UNIT reset of a controller: every slot EMPTY, the FIFO empty, both error counters 0 (17 R385). -/
def canReset (s : State) (u : Nat) : State :=
  let s1 := (List.range 32).foldl (fun t i => (t.setN u (0x0E1100 + i) 0).setN u (0x0E1200 + i) 0) (s.setCan u {})
  showErrors ((s1.setN u 0x0E2200 0).setB u 0x0E0D00 false) u

/-- Bit rates that the CAN clock can make (R338). -/
def rateOk (r : Nat) : Bool := r != 0 && 80000000 % r == 0

/-- Clocks of the 80 MHz CAN clock in a bit (R338). -/
def clocksPerBit (r : Nat) : Nat := 80000000 / r

/-- Time quanta in a bit: the largest number up to 80 that divides its clocks (R338). -/
def quantaPerBit (r : Nat) : Nat := (((List.range 81).drop 1).filter fun q => clocksPerBit r % q == 0).foldl max 1

/-- The quantum of the sample point, nearest to a point in per mille (R338, Table 15-1). -/
def sampleQuantum (r permille : Nat) : Nat := (quantaPerBit r * permille + 500) / 1000

/-- The synchronisation jump width: phase segment 2, the quanta after the sample point (R338). -/
def jumpWidth (r permille : Nat) : Nat := quantaPerBit r - sampleQuantum r permille

end Sys2Proof.Machine
end

