-- ==== Sys2Proof/Machine/Field.lean ====
section
/-! DEFINITION. The field die and the seam (14): frames, inputs, outputs, supplies, channel faults. -/

namespace Sys2Proof.Machine

/-- Change the field die. -/
def modField (s : State) (f : FieldS → FieldS) : State := { s with field := f s.field }

/-- A switch by its ChannelState element. -/
def switchOf (s : State) (c : Nat) : SwitchS :=
  if c < 48 then mapGet {} s.field.outputs (c - 32) else mapGet {} s.field.supplies (c - 48)

/-- ChannelState element of a switch. -/
def switchElem : FieldSwitch → Nat
  | .output o => 32 + o
  | .supply k => 48 + k

/-- Element of LimitEventCount of a switch: outputs, then supplies. -/
def limitElem (c : Nat) : Nat := c - 32

/-- Every ChannelState element of a switch. -/
def switchElems : List Nat := (List.range 20).map (32 + ·)

/-- The bit that the field die has received for a switch. -/
def commanded (s : State) (c : Nat) : Bool := if c < 48 then bitOf s.field.command (c - 32) else bitOf s.field.supplyCmd (c - 48)

/-- Levels of the output terminals: a switch that is on reads 1. -/
def outputLevels (s : State) : Nat := bitsToNat ((List.range 16).map fun o => (mapGet {} s.field.outputs o).on)

/-- VFIELD_LOW or DIE_OVERTEMP stands recorded: everything is off (R325). -/
def dieOff (s : State) : Bool := s.st fieldUnit == usFault && (faultBit s fieldUnit 0xB01 2 || faultBit s fieldUnit 0xB01 3)

/-! ### Frames (R323, R324) -/

/-- What the comb die commands: outputs while ACTIVE, supplies in READY, ACTIVE and FAULT (R325, R331). -/
def downFrame (s : State) : Nat × Nat × Bool :=
  let st := s.st fieldUnit
  (if st = usActive then s.n fieldUnit 0x0D2000 else 0,
   if (st = usReady ∨ st = usActive ∨ st = usFault) ∧ !dieOff s then s.n fieldUnit 0x0D3000 else 0,
   st == usFault)

/-- What the field die reports. -/
def upFrame (s : State) : Nat × Nat × Nat :=
  (bitsToNat ((List.range 32).map fun i => (mapGet {} s.field.inputs i).level),
   bitsToNat ((List.range 32).map fun i => (mapGet {} s.field.inputs i).wireOpen), outputLevels s)

/-- One frame leaves in each direction at a multiple of 62.5 µs (R323). -/
def seamSend (s : State) : State :=
  if !s.field.powered then s
  else
    let s1 := modField s fun f => { f with flyDown := downFrame s, flyUp := upFrame s, frame := (f.frame + 1) % 65536 }
    (s1.emit (.seam true s.field.frame)).emit (.seam false s.field.frame)

/-- A switch follows its command: off when it is 0, which also cancels a retry; on when it is 1 and nothing holds the channel (R328, R330). -/
def followCommand (s : State) (c : Nat) : State :=
  let x := switchOf s c
  let cs := s.n fieldUnit (0x0D4000 + c)
  if !commanded s c then
    let s1 := setSwitch s c { x with on := false, retry := false }
    if cs = 1 then s1.setN fieldUnit (0x0D4000 + c) 0 else s1
  else if cs ≠ 0 ∨ x.retry then s
  else setSwitch s c { x with on := true }

/-- The outputs go into the seam-loss state (R324): those without hold go off. -/
def seamLossState (s : State) : State :=
  let hold := s.n fieldUnit 0x0D2300
  (List.range 16).foldl (fun t o => if bitOf hold o then t else setSwitch t (32 + o) { switchOf t (32 + o) with on := false, retry := false })
    (modField s fun f => { f with seamLost := true })

/-- The field die takes a valid frame. In FAULT of the unit its outputs are in the seam-loss state (R325) and stay there until the unit has left
FAULT (R324). -/
def takeDown (s : State) : State :=
  let f := s.field.flyDown
  let held := f.2.2
  let s0 := if held ∧ !s.field.seamLost then seamLossState s else s
  let s1 := modField s0 fun x => { x with command := if held then x.command else f.1, supplyCmd := f.2.1, seamLost := held }
  (if held then switchElems.filter (48 ≤ ·) else switchElems).foldl followCommand s1

/-- A frame arrives (R323, R324, R326). -/
def seamReceive (s : State) (toField valid : Bool) : State :=
  if !s.field.powered then s
  else if !valid then hit s fieldUnit 1
  else if toField then takeDown s
  else
    let f := s.field.flyUp
    sourceInactive (((modField s fun x => { x with rxLevels := f.1, rxOpen := f.2.1 }).setB fieldUnit 0x0D0200 true).setN fieldUnit 0x0D2500 f.2.2)
      fieldUnit 0

/-- The field die has received no valid frame for more than 2 ms (R324). -/
def fieldLoss (s : State) : State := if !s.field.powered then s else seamLossState s

/-- The comb die has received no valid frame for more than 2 ms (R324). -/
def seamLoss (s : State) : State :=
  hit ((modField s fun f => { f with restoreDue := s.st fieldUnit != usOff }).setB fieldUnit 0x0D0200 false) fieldUnit 0

/-- At a beat start the levels last received become visible (R326). -/
def fieldBeat (s : State) : State := (s.setN fieldUnit 0x0D1200 s.field.rxLevels).setN fieldUnit 0x0D1400 s.field.rxOpen

/-! ### Inputs (R326, R327) -/

/-- One input at a sample. -/
def inputSample (s : State) (levels low i : Nat) : State :=
  let x := mapGet {} s.field.inputs i
  let f := s.n fieldUnit (0x0D1100 + i)
  let watch := bitOf (s.n fieldUnit 0x0D1300) i
  let lowNow := watch && bitOf low i
  let wire := if lowNow == x.wireOpen then 0 else x.wire + 1
  let flips := if x.wireOpen then decide (f < wire) || !watch else decide (f + 1 < wire)
  let open' := if flips then !x.wireOpen else x.wireOpen
  let raw := bitOf levels i
  let count := if raw == x.level then 0 else x.count + 1
  let level := if f < count then raw else x.level
  let y : FieldIn := { level := level && !open', count := if f < count then 0 else count, wire := if flips then 0 else wire, wireOpen := open' }
  let s1 := modField s fun d => { d with inputs := mapPut {} d.inputs i y }
  if open' && !x.wireOpen then hit s1 fieldUnit (4 + i)
  else if !open' && x.wireOpen then sourceInactive s1 fieldUnit (4 + i)
  else s1

/-- The inputs are sampled, every 25 µs (R326). -/
def fieldSample (s : State) (levels low : Nat) : State :=
  if !s.field.powered then s else (List.range 32).foldl (fun t i => inputSample t levels low i) s

/-! ### Outputs and supplies (R329 to R334) -/

/-- The current limit turns a switch off: a limit event (R330), with a retry or, at RetryLimit, the overload of its channel. -/
def limitEvent (s : State) (ch : FieldSwitch) : State :=
  let c := switchElem ch
  let x := switchOf s c
  if !s.field.powered ∨ !x.on then s
  else
    let n := match x.lastRetry with
      | some t => if s.time.uptime < t + 1000000 * quantaPerUs then x.events + 1 else 1
      | none => 1
    let s1 := setSwitch s c { x with on := false, events := n }
    let s2 := match ch with
      | .output o => hit s1 fieldUnit (36 + o)
      | .supply _ => bump s1 fieldUnit (0x0D2700 + limitElem c)
    if s.n fieldUnit 0x0D2900 ≤ n then
      hit s2 fieldUnit (match ch with | .output o => 52 + o | .supply k => 100 + k)
    else (setSwitch s2 c { switchOf s2 c with retry := true }).setN fieldUnit (0x0D4000 + c) 1

/-- The retry time is over (R330): on again if the command is still 1. -/
def outputRetry (s : State) (ch : FieldSwitch) : State :=
  let c := switchElem ch
  let x := switchOf s c
  if !s.field.powered ∨ !x.retry then s
  else
    let s1 := s.setN fieldUnit (0x0D4000 + c) 0
    if commanded s c then setSwitch s1 c { x with on := true, retry := false, lastRetry := some s.time.uptime }
    else setSwitch s1 c { x with retry := false }

/-- A switch overheats (R329, R331). -/
def switchHot (s : State) (ch : FieldSwitch) : State :=
  if !s.field.powered then s else hit s fieldUnit (match ch with | .output o => 68 + o | .supply k => 104 + k)

/-- The open-load test of an output that is off (R329). -/
def openLoad (s : State) (o : Nat) : State :=
  if !s.field.powered ∨ (switchOf s (32 + o)).on ∨ !bitOf (s.n fieldUnit 0x0D2600) o then s else hit s fieldUnit (84 + o)

/-- A test-pulse output is held in its limit (R332). -/
def tpOverload (s : State) (o : Nat) : State := if !s.field.powered then s else hit s fieldUnit (108 + o)

/-- VFIELD stands below 18 V for 1 ms (Table 14-3). -/
def vfieldLow (s : State) (uv : Nat) : State := if !s.field.powered ∨ Config.vfieldLow ≤ uv then s else hit s fieldUnit 2

/-- The die overheats (Table 14-3). -/
def dieHot (s : State) : State := if !s.field.powered then s else hit s fieldUnit 3

/-- The sources of a channel. -/
def channelSources (c : Nat) : List Nat :=
  if c < 32 then [4 + c] else if c < 48 then [52 + (c - 32), 68 + (c - 32), 84 + (c - 32)] else [100 + (c - 48), 104 + (c - 48)]

/-- The quiet period of a channel ends (R333): it leaves FAULT off, and is commanded anew. -/
def channelQuietEnd (s : State) (c : Nat) : State :=
  if s.n fieldUnit (0x0D4000 + c) ≠ 2 ∨ (channelSources c).any (faultBit s fieldUnit 0xB01) then s
  else
    let s1 := bump (s.setN fieldUnit (0x0D4000 + c) 0) fieldUnit (0x0D4100 + c)
    let s2 := if c < 32 then s1 else clearCommandBit s1 c
    publish s2 fieldUnit 0x0D01 (leBytes 1 c ++ leBytes 2 (s2.n fieldUnit (0x0D4100 + c)))

/-- OutputSet and OutputClear (R328). -/
def outputMask (s : State) (set : Bool) (mask : Nat) : State :=
  s.setN fieldUnit 0x0D2000 (bitsToNat ((List.range 16).map fun o =>
    if bitOf mask o then set else bitOf (s.n fieldUnit 0x0D2000) o))

/-! ### Power (R325; 17 Table 17-1) -/

/-- VFIELD is absent: the FIELD domain is off. -/
def vfieldAbsent (s : State) : State :=
  let s1 := modField s fun f => { frame := f.frame, rxLevels := f.rxLevels, rxOpen := f.rxOpen, restoreDue := f.restoreDue }
  if s1.st fieldUnit = usRetired then s1 else setUnit true s1 fieldUnit usOff

/-- VFIELD has risen: the field die comes up with everything off. -/
def fieldPowerUp (s : State) : State :=
  if s.field.powered then s
  else
    let s1 := modField s fun f => { f with powered := true }
    if s1.st fieldUnit = usOff then setUnit true s1 fieldUnit usDisabled else s1

end Sys2Proof.Machine
end

