-- ==== Sys2Proof/Machine/Veil.lean ====
section
/-! DEFINITION. The veil (13): its cycle, STO groups, SS1, safety inputs, dark tests and test pulses, configuration signature, enrolment. -/

namespace Sys2Proof.Machine

/-! ### Small parts -/

/-- Change the veil. -/
def modVeil (s : State) (f : VeilS → VeilS) : State := { s with veil := f s.veil }
/-- Change a group. -/
def modGroup (s : State) (g : Nat) (f : GroupS → GroupS) : State := s.setGroup g (f (s.group g))
/-- A safety input. -/
def safeIn (s : State) (i : Nat) : SafeIn := mapGet {} s.veil.inputs i
/-- Change a safety input. -/
def setSafeIn (s : State) (i : Nat) (x : SafeIn) : State := modVeil s fun v => { v with inputs := mapPut {} v.inputs i x }
/-- The veil's feedback of a sleeve. -/
def veilFb (s : State) (k : Nat) : VeilFb := mapGet {} s.veil.fb k
/-- Change the veil's feedback of a sleeve. -/
def setVeilFb (s : State) (k : Nat) (x : VeilFb) : State := modVeil s fun v => { v with fb := mapPut {} v.fb k x }

/-- #0C30 VeilFeedbackKind. -/
def veilKind (s : State) (k : Nat) : Nat := s.n veilUnit (0x0C3000 + (k - 0x101))
/-- Every group number. -/
def allGroups : List Nat := List.range 8
/-- Every sleeve number. -/
def allSleeves : List Nat := (List.range 32).map (0x101 + ·)
/-- The veil is out of reset and powered. -/
def veilRuns (s : State) : Bool :=
  s.st veilUnit != usOff && (s.rst.phase == .keeperBoot || s.rst.phase == .replay || s.rst.phase == .running)

/-- A hit of a veil source (R319). -/
def veilHit (s : State) (bit : Nat) : State := hit s veilUnit bit

/-- Every group is in STO: no output high (R317). -/
def allInSto (s : State) : Bool := allGroups.all fun g => !(s.group g).high

/-! ### Configuration signature (R316, R298) -/

/-- A configuration element as the signature takes it. -/
def veilElemBytes (s : State) (row : ObjRow) (e : Nat) : Bytes :=
  let b := encodeVal row.ty (s.val veilUnit (row.obj * 256 + e))
  if row.ty == .arrU16 then leBytes 2 (b.length / 2) ++ b else b

/-- The bytes of #0C10.00 to #0C36.1F, in ascending order of object and element. -/
def veilConfigBytes (s : State) : Bytes :=
  ((rowsOf 0xC10).filter fun r => decide (0xC10 ≤ r.obj ∧ r.obj ≤ 0xC36)).flatMap fun r =>
    (((List.range (r.elHi + 1)).drop r.elLo).map (veilElemBytes s r)).flatten

/-- The computed signature equals ConfigSignature and no sleeve is in two groups. -/
def veilSigned (s : State) : Bool :=
  decide ((crc32c (veilConfigBytes s) : Int) = s.i veilUnit 0x0C0000) && decide ((allGroups.flatMap (groupSleeves s)).Nodup)

/-! ### Driving the outputs (R298 to R302) -/

/-- Assert the blocking signal to the sleeves of a list (R302). -/
def blockSleeves (s : State) (ks : List Nat) : State :=
  ks.foldl (fun t k => tripIn (modVeil t fun v => { v with blocking := (k :: v.blocking.filter (· != k)) }) k 2) s

/-- End the blocking signal to the sleeves of a list. -/
def unblockSleeves (s : State) (ks : List Nat) : State :=
  ks.foldl (fun t k => if t.veil.blocking.contains k then tripOut (modVeil t fun v => { v with blocking := v.blocking.filter (· != k) }) k 2 else t) s

/-- Is the cause latched (Table 13-1)? -/
def latchedCause (c : Nat) : Bool := decide (3 ≤ c ∧ c ≤ 6)

/-- READY and ACTIVE follow the groups (R297). -/
def veilFollows (s : State) : State :=
  if s.st veilUnit = usReady ∧ !allInSto s then setUnit true s veilUnit usActive
  else if s.st veilUnit = usActive ∧ allInSto s then setUnit true s veilUnit usReady
  else s

/-- Open the safe-stop shadows of a group (12 Table 12-2) that are not open yet. -/
def stopShadow (s : State) (g : Nat) : State :=
  (groupSleeves s g).foldl (fun t k =>
    let open' (t : State) (u : Nat) (bits : List Nat) : State :=
      if (t.fault u).openShadows.any (fun x => x.1 == 0x10000 + g) then t else openShadow t u (0x10000 + g) bits
    let t1 := open' t k [0]
    if axisOf t1 k = 0 then t1 else open' t1 (axisOf t1 k) followingBits) s

/-- #0C06 StoLevels. -/
def stoLevels (s : State) : Nat := bitsToNat (allGroups.map fun g => (s.group g).high)

/-- STO of a group is driven with a cause (R300, R302): the output goes low, the axes leave ACTIVE at the next beat start. -/
def stoApply (s : State) (g cause : Nat) : State :=
  let x := s.group g
  let was := x.high
  let latch := latchedCause cause
  let s0 := if x.ss1.isSome then publish s veilUnit 0x0C04 (leBytes 1 g ++ leBytes 1 4) else s
  let s1 := modGroup s0 g fun x => { x with
    high := false, ss1 := none, decided := none, releasing := false, askStop := false
    changed := if was then s.veil.cycle else x.changed
    askReady := x.askReady || was
    latched := if latch then some cause else x.latched }
  let s2 := (s1.setN veilUnit (0x0C0400 + g) cause).setN veilUnit (0x0C0300 + g) (if (s1.group g).latched.isSome then 3 else 1)
  let s3 := if was then stopShadow s2 g else s2
  let s4 := if latch then blockSleeves s3 (groupSleeves s3 g) else s3
  veilFollows (publish s4 veilUnit 0x0C01 (leBytes 1 g ++ leBytes 1 cause))

/-- A group is released (R299). -/
def stoRelease (s : State) (g : Nat) : State :=
  let s1 := modGroup s g fun x => { x with high := true, releasing := false, changed := s.veil.cycle }
  veilFollows (publish (s1.setN veilUnit (0x0C0300 + g) 0) veilUnit 0x0C02 (leBytes 1 g))

/-- The veil decides STO for a group that is not in STO, driven at the next output instant. -/
def decideSto (s : State) (g cause : Nat) : State :=
  modGroup s g fun x => { x with decided := match x.decided with | some c => some c | none => some cause, releasing := false }

/-- What was decided in the cycle before is driven now; a group whose SS1 started asks the comb to stop (R300, R305). -/
def driveGroup (s : State) (g : Nat) : State :=
  let x := s.group g
  match x.decided with
  | some c => stoApply s g c
  | none =>
    if x.releasing ∧ s.st veilUnit ≠ usFault then stoRelease s g
    else match x.ss1 with
      | some r => if s.veil.cycle = r.j0 + 1 then s.setGroup g { x with askStop := true } else s
      | none => s

/-- The veil in FAULT: every output low, every sleeve of a group blocked, VEIL_REQ raised (R296). -/
def veilTrips (s : State) : State :=
  if s.st veilUnit = usFault ∧ !s.veil.tripped then
    let s1 := allGroups.foldl (fun t g => if (t.group g).high then stoApply t g 8 else t) s
    let s2 := allGroups.foldl (fun t g => blockSleeves t (groupSleeves t g)) s1
    let s3 := modVeil s2 fun v => { v with tripped := true }
    { s3 with rst := { s3.rst with raised := s3.rst.raised ++ [.veilReq] } }
  else s

/-! ### The veil's own feedback (R295) -/

/-- Speed in counts per second as binary32. -/
def veilRate (counts : Int) (periods : Int) : Nat := fOfRat b32s ((counts : Rat) * 40000000 / (periods : Rat))

/-- Feedback of one sleeve at a cycle start. -/
def veilSpeed (s : State) (inp : VeilInputs) (k : Nat) : State :=
  let x := veilFb s k
  let kind := veilKind s k
  let m := s.i veilUnit (0x0C3100 + (k - 0x101))
  let same := kind != 0 && s.n k 0x050000 == kind
  let y : VeilFb :=
    if kind = 1 ∨ kind = 2 then
      let change := ((inp.counts.find? fun c => c.1 == k).map Prod.snd).getD 0
      let bad := ((inp.illegal.find? fun c => c.1 == k).map Prod.snd).getD 0
      { x with count := x.count + change, prev := x.count, frames := [], framePrev := none,
               valid := same && decide (bad ≤ 2), speed := veilRate (wrapDiff m change) 10000 }
    else if kind = 0 then { x with valid := false, speed := 0, frames := [], framePrev := none, sinceGood := 0 }
    else if !same ∨ 4 ≤ x.sinceGood then { x with valid := false, frames := [], framePrev := none, sinceGood := min (x.sinceGood + 1) 5 }
    else
      match x.frames with
      | a :: rest =>
        match (match x.framePrev with | some b => some b | none => rest.getLast?) with
        | some b =>
          { x with valid := true, framePrev := some a, frames := [a], sinceGood := x.sinceGood + 1,
                   speed := if a.2 = b.2 then x.speed else veilRate (wrapDiff m (a.1 - b.1)) ((a.2 : Int) - b.2) }
        | none => { x with valid := false, sinceGood := x.sinceGood + 1 }
      | [] => { x with valid := false, sinceGood := x.sinceGood + 1 }
  ((setVeilFb s k y).setN veilUnit (0x0C0D00 + (k - 0x101)) y.speed).setB veilUnit (0x0C0E00 + (k - 0x101)) y.valid

/-- The position of a snooped frame that is good (R295, 09 R219, R222), and the sample counter of an FSP reply. VeilSerialFormat gives the layout
and check of SSI; good is the
line's level before the first clock edge of SSI (high), and the framing of FSP (every start and stop bit right); the field widths of FSP and SsiErrorMask are the sleeve's, and CPR is VeilCountsPerRev: log entry 48. -/
def veilFrameRead (s : State) (k : Nat) (good : Bool) : SnoopedFrame → Option (Nat × Option Nat)
  | .ssi bits =>
    let b := s.bs veilUnit (0x0C3200 + (k - 0x101))
    let tb := fieldLE b 0 1
    let sb := fieldLE b 1 1
    let stb := fieldLE b 2 1
    let cb := fieldLE b 3 1
    let (_, single, status, check) := ssiFields tb sb stb (fieldLE b 4 1 != 0) bits
    let r := crcBits cb (fieldLE b 8 4 % 2 ^ cb) (fieldLE b 12 4 % 2 ^ cb) (bits.take (tb + sb + stb))
    if veilKind s k = 3 ∧ good ∧ bits.length = tb + sb + stb + cb ∧ (cb = 0 ∨ check = checkOut cb (fieldLE b 5 1) r)
        ∧ status.land (s.n k 0x051200) = 0 ∧ (single : Int) < s.i veilUnit (0x0C3100 + (k - 0x101)) then some (single, none) else none
  | .fsp b =>
    let status := fieldLE b 0 1
    let single := fieldLE b 1 (fieldBytes s k) % 2 ^ s.n k 0x050800
    if veilKind s k = 4 ∧ good ∧ b.length = 3 + fieldBytes s k ∧ fieldLE b (b.length - 2) 2 = fspCrc (b.take (b.length - 2))
        ∧ !bitOf status 0 ∧ (veilFb s k).counter ≠ some (status / 16) ∧ (single : Int) < s.i veilUnit (0x0C3100 + (k - 0x101))
    then some (single, some (status / 16)) else none

/-- A serial frame that the veil snooped (R295). -/
def veilFrame (s : State) (k : Nat) (good : Bool) (frame : SnoopedFrame) (received : Nat) : State :=
  if !veilRuns s then s
  else match veilFrameRead s k good frame with
  | none => s
  | some (p, c) =>
    let x := veilFb s k
    if (x.frames.head?.map Prod.snd) = some received then s
    else setVeilFb s k { x with frames := ((p : Int), received) :: x.frames, sinceGood := 0, counter := c }

/-- Veil speed and MeasuredSpeed differ by more than CrossCheckTolerance (R303). -/
def crossDiffers (s : State) (k : Nat) : Bool :=
  let tol := s.n veilUnit (0x0C3600 + (k - 0x101))
  veilKind s k != 0 && !isZero32 tol && fLt b32s tol (fAbs b32s (fSub b32s (veilFb s k).speed (s.n k 0x052400)))

/-- Count the cycles of cross-check difference of a released group. -/
def crossCount (s : State) (g : Nat) : State :=
  (groupSleeves s g).foldl (fun t k =>
    let x := veilFb t k
    setVeilFb t k { x with cross := if (t.group g).high && crossDiffers t k then min (x.cross + 1) 4 else 0 }) s

/-! ### Safety inputs (R307 to R312) -/

/-- One channel through its filter: the new level and count. -/
def filterChannel (f : Nat) (level : Bool) (cnt : Nat) (raw : Bool) : Bool × Nat :=
  if raw == level then (level, 0) else if f ≤ cnt then (raw, 0) else (level, cnt + 1)

/-- A fault of a safety input (R309, R310). -/
def inputFault (s : State) (i kind : Nat) : State :=
  let x := safeIn s i
  if x.fault ≠ 0 then s
  else publish (veilHit (setSafeIn s i { x with fault := kind }) (if kind = 2 then 6 else 7)) veilUnit 0x0C05 (leBytes 1 i ++ leBytes 1 kind)

/-- A channel of the input is in the safe state, or a fault holds the input in demand. -/
def inputDemand (s : State) (i : Nat) : Bool := let x := safeIn s i; !x.a || !x.b || x.fault != 0

/-- The input is neither in demand nor in fault nor waiting. -/
def inputReleased (s : State) (i : Nat) : Bool := !inputDemand s i && !((safeIn s i).waiting && s.n veilUnit (0x0C2400 + i) == 1)

/-- The acknowledgement of an input that waits (R312): a falling edge after a high level of 100 ms to 5 s, on a standard input as the seam's frames
bring it (14 R323). -/
def acknowledge (s : State) (i : Nat) : SafeIn :=
  let x := safeIn s i
  let high := bitOf s.field.rxLevels (s.n veilUnit (0x0C2500 + i))
  if inputDemand s i then { x with waiting := true, ackHigh := if high then 20001 else 0 }
  else if high then { x with ackHigh := min (x.ackHigh + 1) 20001 }
  else { x with waiting := x.waiting && s.n veilUnit (0x0C2400 + i) == 1 && !decide (400 ≤ x.ackHigh ∧ x.ackHigh ≤ 20000), ackHigh := 0 }

/-- A safety input at a cycle start. -/
def inputCycle (s : State) (inp : VeilInputs) (i : Nat) : State :=
  let f := s.n veilUnit (0x0C2000 + i)
  let x := safeIn s i
  let dead := decide (8 < s.veil.deadLanes)
  let fa := if dead then (false, 0) else filterChannel f x.a x.cntA (inp.chanA.getD i false)
  let fb := if dead then (false, 0) else filterChannel f x.b x.cntB (inp.chanB.getD i false)
  let dis := if fa.1 == fb.1 then 0 else x.disagree + 1
  let s1 := setSafeIn s i { x with
    a := fa.1, cntA := fa.2, b := fb.1, cntB := fb.2, disagree := min dis 4000
    fault := if !fa.1 ∧ !fb.1 then 0 else x.fault }
  let s2 := if 0 < dis ∧ dis = s.n veilUnit (0x0C2100 + i) then inputFault s1 i 2 else s1
  let s3 := setSafeIn s2 i (acknowledge s2 i)
  let st := if (safeIn s3 i).fault ≠ 0 then (safeIn s3 i).fault else if inputDemand s3 i then 1 else if inputReleased s3 i then 0 else 4
  s3.setN veilUnit (0x0C0800 + i) st

/-- Inputs that act on a group (R308). -/
def inputsOf (s : State) (g : Nat) : List Nat := (List.range 8).filter fun i => bitOf (s.n veilUnit (0x0C2300 + i)) g

/-- Some input in demand acts on the group with an action. -/
def demands (s : State) (g action : Nat) : Bool := (inputsOf s g).any fun i => inputDemand s i && s.n veilUnit (0x0C2200 + i) == action

/-- A dark pulse of a test output has been read (R310): channels that should have read 0 V and did not are faulty. During seam loss the outputs
send none (14 R324). -/
def testPulse (s : State) (output : Nat) (reads : List (Nat × Bool)) : State :=
  if !veilRuns s ∨ !s.field.powered ∨ s.field.seamLost then s
  else (List.range 8).foldl (fun t i =>
    let src := t.n veilUnit (0x0C2600 + i)
    let zero (ch : Nat) : Bool := ((reads.find? fun r => r.1 == ch).map Prod.snd).getD true
    let bad := (src % 16 == output && !zero (2 * i)) || (src / 16 == output && !zero (2 * i + 1))
    if bad then inputFault t i 3 else t) s

/-! ### Groups in a cycle (R299 to R306, R313) -/

/-- Some sleeve of the group that has veil feedback has none that is valid. -/
def feedbackInvalid (s : State) (g : Nat) : Bool := (groupSleeves s g).any fun k => veilKind s k != 0 && !(veilFb s k).valid

/-- |v| of a sleeve as the veil sees it. -/
def veilAbs (s : State) (k : Nat) : Nat := fAbs b32s (veilFb s k).speed

/-- The envelope of SS1 for a sleeve at k cycles after the delay (R305). -/
def envelope (s : State) (sl v0 : Nat) (k : Int) : Nat :=
  let e := sl - 0x101
  let top := fAdd b32s v0 (s.n veilUnit (0x0C3400 + e))
  if k < 0 then top
  else fMax b32s (fSub b32s top (fMul b32s (fMul b32s (s.n veilUnit (0x0C3300 + e)) (fOfRat b32s (1 / 4000))) (fOfInt b32s k)))
    (s.n veilUnit (0x0C3500 + e))

/-- Start SS1 of a group, or STO where its feedback cannot supervise it (R305). -/
def ss1Start (s : State) (g : Nat) (fromInput : Bool) : State :=
  let ks := groupSleeves s g
  if ks.any fun k => !(veilFb s k).valid then decideSto s g 1
  else
    let s1 := modGroup s g fun x => { x with ss1 := some { j0 := s.veil.cycle, v0 := ks.map fun k => (k, veilAbs s k), fromInput := fromInput } }
    publish (s1.setN veilUnit (0x0C0300 + g) 2) veilUnit 0x0C03 (leBytes 1 g ++ leBytes 1 (if fromInput then 0 else 1))

/-- SS1 of a group ends (R306). -/
def ss1End (s : State) (g how cause : Nat) : State :=
  decideSto (publish (modGroup s g fun x => { x with ss1 := none, askStop := false }) veilUnit 0x0C04 (leBytes 1 g ++ leBytes 1 how)) g cause

/-- The pending immediate request of a group. -/
def immediateAsked (s : State) (g : Nat) : Bool := (s.group g).requests.any fun r => !r.2

/-- A cycle of a group in SS1 (R305, R306). -/
def ss1Cycle (s : State) (g : Nat) (r : Ss1S) : State :=
  let ks := groupSleeves s g
  let k : Int := (s.veil.cycle : Int) - r.j0 - s.n veilUnit (0x0C1200 + g)
  let still := ks.all fun x => fLe b32s (veilAbs s x) (s.n veilUnit (0x0C3500 + (x - 0x101)))
  if feedbackInvalid s g then ss1End (veilHit s 9) g 3 4
  else if r.v0.any fun v => fLt b32s (envelope s v.1 v.2 k) (veilAbs s v.1) then ss1End (veilHit s 8) g 2 3
  else if demands s g 1 then ss1End s g 4 0
  else if immediateAsked s g then ss1End s g 4 2
  else if still ∧ 1 ≤ r.stand then ss1End s g 0 1
  else if s.n veilUnit (0x0C1100 + g) ≤ s.veil.cycle - r.j0 then ss1End s g 1 1
  else modGroup s g fun x => { x with ss1 := some { r with stand := if still then r.stand + 1 else 0 } }

/-- STOFB of a group that is low for STO reads high, or a dark test has failed (R313). -/
def readbackFails (s : State) (inp : VeilInputs) (g : Nat) : Bool :=
  let x := s.group g
  x.latched != some 6 && (x.darkFailed || (!x.high && decide (x.changed < s.veil.cycle) && bitOf inp.stofb g))

/-- The causes that latch a group or stop it at once, of a group that is released (Table 13-1). -/
def releasedCycle (s : State) (g : Nat) : State :=
  if feedbackInvalid s g then decideSto (veilHit s 9) g 4
  else if (groupSleeves s g).any fun k => (veilFb s k).cross == 4 then decideSto (veilHit s 10) g 5
  else if s.st veilUnit ≠ usReady ∧ s.st veilUnit ≠ usActive then decideSto s g 8
  else if demands s g 1 then decideSto s g 0
  else if immediateAsked s g then decideSto s g 2
  else if demands s g 2 then ss1Start s g true
  else if (s.group g).requests.any Prod.snd then ss1Start s g false
  else s

/-- Everything that R299 asks for held at this cycle's start. -/
def mayRelease (s : State) (g : Nat) : Bool :=
  let x := s.group g
  (s.st veilUnit == usReady || s.st veilUnit == usActive) && s.rst.veilTested && x.latched.isNone
    && (inputsOf s g).all (inputReleased s) && x.requests.isEmpty && !feedbackInvalid s g
    && !s.rst.combDown && !(groupSleeves s g).any s.veil.resetSleeves.contains

/-- The clears of a group that the veil registers (R304): refused while the cause persists. -/
def latchClears (s : State) (g : Nat) : State :=
  let x := s.group g
  if x.clears.isEmpty then s
  else
    let persists := match x.latched with
      | some 4 => feedbackInvalid s g
      | some 5 => (groupSleeves s g).any (crossDiffers s)
      | some 6 => true
      | _ => false
    let s1 := modGroup s g fun x => { x with clears := [], latched := if persists then x.latched else none }
    let s2 := if !persists ∧ x.latched.isSome then unblockSleeves (s1.setN veilUnit (0x0C0300 + g) (if x.high then 0 else 1)) (groupSleeves s1 g)
      else s1
    x.clears.foldl (fun t o => answerSt t o (if persists then stTripActive else stOk)) s2

/-- The decision of a cycle for a group. -/
def groupCycle (s : State) (inp : VeilInputs) (g : Nat) : State :=
  let s1 := crossCount (latchClears (modGroup s g fun x => { x with requests := x.requests.filter fun r => s.st r.1 == usFault }) g) g
  let x := s1.group g
  let s2 :=
    if readbackFails s1 inp g then decideSto (modGroup (veilHit s1 5) g fun x => { x with darkFailed := false }) g 6
    else if x.decided.isSome then s1
    else if x.high then (match x.ss1 with | some r => ss1Cycle s1 g r | none => releasedCycle s1 g)
    else modGroup s1 g fun x => { x with releasing := mayRelease s1 g }
  -- the veil reports torque removed once STOFBg reads low (R300)
  if !x.high && !bitOf inp.stofb g then closeShadow s2 (0x10000 + g) (2000 * quantaPerUs) else s2

/-! ### Enrolment (R317) -/

/-- Safety input 0 as the enrolment sees it: two cycles of both channels safe and back confirm it; the key then goes to the journal. -/
def enrolCycle (s : State) : State :=
  match s.veil.enrol with
  | none => s
  | some (key, n, safe, o) =>
    let x := safeIn s 0
    let bothSafe := !x.a && !x.b
    let back := x.a && x.b
    if safe && back then
      if 1 ≤ n then journal (modVeil s fun v => { v with enrol := none }) [itemRecord 1 (3 :: key)] (.key 3 key o)
      else modVeil s fun v => { v with enrol := some (key, n + 1, false, o) }
    else if bothSafe then modVeil s fun v => { v with enrol := some (key, n, true, o) }
    else s

/-- Step 1 of R317: the root and the veil DISABLED, every group in STO. -/
def enrolReady (s : State) : Bool := s.st 0 == usDisabled && s.st veilUnit == usDisabled && allInSto s

/-- SafetyKeyEnrol: a refusal, or the enrolment begins and is answered later. -/
def safetyEnrol (s : State) (key : Bytes) (o : Option Origin) : Option Nat × State :=
  if !enrolReady s ∨ (mapGet [] s.keys 3) ≠ [] ∨ s.veil.enrol.isSome then (some stWrongState, s)
  else (none, modVeil s fun v => { v with enrol := some (key, 0, false, o) })

/-- 60 s pass without a confirmation. -/
def enrolTimeout (s : State) : State :=
  match s.veil.enrol with
  | none => s
  | some (_, _, _, o) => answerSt (modVeil s fun v => { v with enrol := none }) o 0x23

/-- The records of the erasure of R317: one transaction. A level key of zero bytes stands for none. -/
def safetyErasure (s : State) : List JRecord :=
  ((s.dict.filter fun e => e.1 / 2 ^ 24 == veilUnit && (e.1 / 256 % 2 ^ 16 == 0xC00 || decide (0xC10 ≤ e.1 / 256 % 2 ^ 16 ∧ e.1 / 256 % 2 ^ 16 ≤ 0xC36))).map
    fun e => ({ erase := true, fin := false, path := [veilUnit], obj := e.1 / 256 % 2 ^ 16, elem := e.1 % 256 } : JRecord))
  ++ [itemRecord 1 (3 :: List.replicate 32 0)]

/-- SafetyReset (R317): refused unless step 1 holds. -/
def safetyReset (s : State) (o : Option Origin) : Option Nat × State :=
  if !enrolReady s then (some stWrongState, s) else (none, journal s (safetyErasure s) (.safetyErase o))

/-- The erasure has committed. -/
def safetyErased (s : State) : State :=
  let keep (e : Nat × Val) : Bool :=
    !(e.1 / 2 ^ 24 == veilUnit && (e.1 / 256 % 2 ^ 16 == 0xC00 || decide (0xC10 ≤ e.1 / 256 % 2 ^ 16 ∧ e.1 / 256 % 2 ^ 16 ≤ 0xC36)))
  { s with dict := s.dict.filter keep, keys := mapPut [] s.keys 3 [] }

/-! ### The cycle (R294) -/

/-- One veil cycle: the outputs decided in the cycle before are driven; inputs are sampled; every group is decided. -/
def veilCycle (s : State) (inp : VeilInputs) : State :=
  if !veilRuns s then s
  else
    let s0 := modVeil s fun v => { v with cycle := v.cycle + 1 }
    let s1 := veilTrips (allGroups.foldl driveGroup s0)
    let s2 := modVeil s1 fun v => { v with deadLanes := if inp.lanesAlive then 0 else min (v.deadLanes + 1) 9, stofb := inp.stofb }
    let s3 := if s2.veil.deadLanes = 9 ∧ s.veil.deadLanes = 8 then veilHit s2 4 else s2
    let s4 := match inp.diagFail with
      | some b => if b < 4 then veilHit s3 b else s3
      | none => s3
    let s5 := (List.range 8).foldl (fun t i => inputCycle t inp i) s4
    let s6 := allSleeves.foldl (fun t k => veilSpeed t inp k) s5
    let s7 := enrolCycle (allGroups.foldl (fun t g => groupCycle t inp g) s6)
    s7.setN veilUnit 0x0C0900 (bitsToNat ((List.range 8).flatMap fun i => [(safeIn s7 i).a, (safeIn s7 i).b]))

/-- The dark test of a released output (R313, R314). -/
def darkTest (s : State) (g : Nat) (lowSeen highSeen : Bool) : State :=
  let x := s.group g
  if !veilRuns s ∨ !x.high ∨ s.veil.cycle ≤ x.changed + 1 then s
  else if lowSeen ∧ (highSeen ∨ x.decided.isSome) then s
  else modGroup s g fun x => { x with darkFailed := true }

/-! ### Enable, disable, self-test (R297, R316) -/

/-- UnitCommand to the veil: a refusal, or none where the command is accepted and answered when its record has committed. -/
def veilCommand (s : State) (c : Nat) (o : Option Origin) : Option Nat × State :=
  let st := s.st veilUnit
  if c = 3 then
    if st ≠ usDisabled ∨ limp s ∨ !s.rst.veilTested then (some stWrongState, s)
    else
      let s1 := s.setB veilUnit 0x0C0100 (veilSigned s)
      if !veilSigned s then (some 0x46, s1)
      else
        let s2 := setUnit true (modVeil s1 fun v => { v with enabled := true }) veilUnit usReady
        (none, journal (publish s2 veilUnit 0x0C06 (leBytes 4 (s2.n veilUnit 0x0C0000))) [itemRecord 2 [1]] (.reply o))
  else if c = 2 then
    if st ≠ usReady ∧ st ≠ usActive then (some stWrongState, s)
    else
      let s1 := setUnit true (modVeil s fun v => { v with enabled := false }) veilUnit usDisabled
      let s2 := allGroups.foldl (fun t g => if (t.group g).high then decideSto t g 8 else modGroup t g fun x => { x with releasing := false }) s1
      (none, journal s2 [itemRecord 2 [0]] (.reply o))
  else (some stWrongState, s)

/-- Self-test has passed and replay has delivered the veil's configuration: the signature is computed (R316), and a veil that was enabled comes
up READY if it is signed (R297). -/
def veilComesUp (s : State) : State :=
  if s.rst.veilTested ∧ s.rst.phase = .running then
    let s1 := s.setB veilUnit 0x0C0100 (veilSigned s)
    if veilSigned s ∧ s.veil.enabled ∧ s.st veilUnit = usDisabled ∧ !limp s then setUnit true s1 veilUnit usReady else s1
  else s

/-- The veil's self-test ends (17 R388 step 5). -/
def veilTestDone (s : State) (pass : Bool) : State :=
  if !veilRuns s ∨ s.n veilUnit 0x0C0200 ≠ 0 then s
  else if pass then veilComesUp { (s.setN veilUnit 0x0C0200 1) with rst := { s.rst with veilTested := true } }
  else s.setN veilUnit 0x0C0200 2

end Sys2Proof.Machine
end

