-- ==== Sys2Proof/Machine/Units.lean ====
section
/-! DEFINITION. UnitCommand on every kind of unit (01 R30, R406; 04 R107; 08 R191; 11 R257 to R259; 13 R297; 14 R325; 15 R340), and what
AxisModulus and PhaseTrimAdd do to an axis. -/

namespace Sys2Proof.Machine

/-! ### Axes -/

/-- What START does to the trajectory and follow stage of a face: its set-point (04 R107), whose base on an image is the extrapolated value (05
R140), and the follow state ready to engage. -/
def startTraj (s : State) (a : Nat) : State :=
  let x := s.axis a
  let m := m16 s a
  let target := if isLocal a then s.i a 0x053100 * m + s.i a 0x053000
    else match (if s.n a 0x080200 = 3 then x.follow.image else none) with
      | some h => x.traj.base + wrapDiff m ((imageValue s h).1 - wrapPos m x.traj.base) + x.follow.applied
      | none => x.traj.base + x.follow.applied
  s.setAxis a { x with
    traj := { x.traj with
      base := target - x.follow.applied
      vel := 0
      acc := 0
      stop := none
      held := !x.traj.queue.isEmpty
      dry := x.traj.queue.isEmpty
      stopAsked := false
      abortAsked := false
      limit := none }
    follow := { x.follow with
      released := false
      engaged := false
      cam := none
      settings := []
      qPrev := none
      shift := 0
      camReported := false } }

/-- START of an axis. -/
def startAxis (now : Bool) (s : State) (a : Nat) : State :=
  let s1 := startTraj s a
  sleeveFollows now (setUnit now (if isLocal a then engineStart s1 a else s1) a usActive) a usActive

/-- Why an axis refuses ENABLE: its sleeve is RETIRED (12 R281) or drains (17 R384), its serial transaction does not fit the beat (09 R224),
or it stands in no STO group (13 R298). The limp state needs no check, for it has no plan (17 R378). -/
def enableRefusal (s : State) (a : Nat) : Option Nat :=
  let k := sleeveOf s a
  if !isLocal a then none
  else if s.st k = usRetired ∨ draining s k then some stWrongState
  else if frameTooLong s k then some 0x42
  else if (groupsOfSleeve s k).isEmpty then some 0x47
  else none

/-- Why an axis refuses START: no cam table in mode 2 (05 R134), a latched trip (08 R208), an STO group that is not released (13 R298), a
sleeve in FAULT, which takes no part in START (08 R191). -/
def startRefusal (s : State) (a : Nat) : Option Nat :=
  let k := sleeveOf s a
  if s.n a 0x080200 = 2 ∧ s.n a 0x080800 = 0xFFFF then some stRange
  else if !isLocal a then none
  else if s.n k 0x044100 ≠ 0 then some 0x41
  else if s.st k = usFault then some stWrongState
  else if (groupsOfSleeve s k).any (fun g => s.n veilUnit (0x0C0300 + g) != 0) then some 0x48
  else none

/-- STOP of an ACTIVE axis: it acts as ABORT in the next axis beat and ends in READY (04 R105). -/
def askStopAxis (s : State) (a : Nat) : State :=
  let x := s.axis a
  s.setAxis a { x with traj := { x.traj with queue := [], stopAsked := true } }

/-- A UnitCommand on an axis: the status and the state after it. -/
def axisCommand (now : Bool) (s : State) (a c : Nat) : Nat × State :=
  let st := s.st a
  match c with
  | 1 => if st = usActive then (stOk, askStopAxis s a) else (stWrongState, s)
  | 2 =>
    if st = usActive ∨ st = usReady then (stOk, sleeveFollows now (axisTo now s a usDisabled) a usDisabled) else (stWrongState, s)
  | 3 =>
    if st = usDisabled then
      match enableRefusal s a with
      | some e => (e, s)
      | none => (stOk, sleeveFollows now (setUnit now s a usReady) a usReady)
    else (stWrongState, s)
  | 4 =>
    if st = usReady then
      match startRefusal s a with
      | some e => (e, s)
      | none => (stOk, startAxis now s a)
    else (stWrongState, s)
  | _ => (stRange, s)

/-- AxisModulus written on a DISABLED axis keeps the unwrapped set-point (04 R95). -/
def setModulus (s : State) (a m : Nat) : State :=
  let x := s.axis a
  let u := if m16 s a = 0 then s.i a 0x070100 else s.i a 0x070400 * m16 s a + s.i a 0x070100
  let s1 := s.setN a 0x070000 m
  let u' := if m = 0 then posSat u else u
  let s2 := s1.setAxis a { x with traj := { x.traj with base := u' - x.follow.applied } }
  let s3 := (s2.setI a 0x070100 (wrapPos ((m : Int) * 65536) u')).setI a 0x070400 (wrapTurns ((m : Int) * 65536) u')
  if isLocal a then
    let f := s.i (sleeveOf s a) 0x052300
    (s3.setI a 0x053000 (wrapPos ((m : Int) * 65536) f)).setI a 0x053100 (wrapTurns ((m : Int) * 65536) f)
  else s3

/-- PhaseTrimAdd (05 R130): saturating. -/
def phaseTrimAdd (s : State) (a : Nat) (x : Int) : State := s.setI a 0x081000 (posSat (s.i a 0x081000 + x))

/-! ### Cells, sleeves, recorders, the field die -/

/-- UnitCommand on a cell (01 R406). -/
def cellCommand (s : State) (u c : Nat) : Nat × State :=
  let st := s.st u
  if c = 3 ∧ st = usDisabled then (stOk, s.setCell u { s.cell u with selfTest := true })
  else if c = 2 ∧ st = usReady then (stOk, setUnit true s u usDisabled)
  else (stWrongState, s)

/-- UnitCommand on a sleeve: a bound one takes none (08 R191). A sleeve bound to no axis follows Table 1-4. -/
def sleeveCommand (s : State) (u c : Nat) : Nat × State :=
  let st := s.st u
  if axisOf s u ≠ 0 then (0x40, s)
  else if c = 1 ∧ st = usActive then (stOk, setUnit true (hem s u) u usReady)
  else if c = 2 ∧ (st = usReady ∨ st = usActive) then (stOk, setUnit true (hem s u) u usDisabled)
  else if c = 3 ∧ st = usDisabled ∧ !limp s ∧ !draining s u then (if frameTooLong s u then (0x42, s) else (stOk, setUnit true s u usReady))
  else if c = 4 ∧ st = usReady then (stOk, setUnit true s u usActive)
  else (stWrongState, s)

/-- UnitCommand on a recorder (11 R257 to R259; 17 R384). -/
def recorderCommand (now : Bool) (s : State) (u c : Nat) : Nat × State :=
  let st := s.st u
  if c = 1 ∧ st = usActive then (stOk, setUnit now (endRun s u 0) u usReady)
  else if c = 2 ∧ st = usActive then (stOk, setUnit now (endRun s u 1) u usDisabled)
  else if c = 2 ∧ st = usReady then (stOk, setUnit now s u usDisabled)
  else if c = 3 ∧ st = usDisabled ∧ !draining s u then
    match recorderRefusal s u with
    | some e => (e, s)
    | none => (stOk, setUnit now s u usReady)
  else if c = 4 ∧ st = usReady ∧ !draining s u then (stOk, setUnit now (startRecorder s u) u usActive)
  else (stWrongState, s)

/-- UnitCommand on the field die (14 R325; 17 R378). -/
def fieldCommand (s : State) (c : Nat) : Nat × State :=
  let st := s.st fieldUnit
  if c = 1 ∧ st = usActive then (stOk, setUnit true s fieldUnit usReady)
  else if c = 2 ∧ (st = usReady ∨ st = usActive) then (stOk, setUnit true s fieldUnit usDisabled)
  else if c = 3 ∧ st = usDisabled ∧ !limp s then (stOk, setUnit true s fieldUnit usReady)
  else if c = 4 ∧ st = usReady then (stOk, setUnit true s fieldUnit usActive)
  else (stWrongState, s)

/-- A hit of a detector (12 R274): a trip source latches the sleeve's trip (08 R206), a feedback source loses the feedback (09 R226). -/
def detectorHit (s : State) (u bit : Nat) : State :=
  if !isSleeve u then hit s u bit
  else if bit ≤ 2 then tripIn s u bit
  else match bit with
    | 6 => feedbackFault s u 0 6
    | 8 => feedbackFault s u 1 8
    | 9 => feedbackFault s u 2 9
    | _ => hit s u bit

/-! ### Every unit -/

/-- Does a command name a transition from a state (Table 1-4)? -/
def namesTransition (c st : Nat) : Bool :=
  match c with
  | 1 => st == usActive
  | 2 => st == usReady || st == usActive
  | 3 => st == usDisabled
  | 4 => st == usReady
  | _ => false

/-- Members that a face's command goes to: those for which it names a transition; a nested face passes it on. -/
def memberUnits (s : State) : Nat → Nat → List Nat
  | 0, _ => []
  | n + 1, c => (((clusterPlan s c).map localMembers).getD []).flatMap fun u => if isCluster u then memberUnits s n u else [u]

/-- One member under a command of its face. -/
def memberCommand (now : Bool) (s : State) (u c : Nat) : Nat × State :=
  if isRecorder u then recorderCommand now s u c else axisCommand now s u c

/-- UnitCommand on a cluster face: every local member takes it at the same beat start (11 R259), or none does: the first refusal of a member
is the face's. -/
def clusterCommand (now : Bool) (s : State) (u c : Nat) : Nat × State :=
  if !namesTransition c (s.st u) then (stWrongState, s)
  else if c = 4 ∧ axisFace s u ∧ s.n u 0x080200 = 2 ∧ s.n u 0x080800 = 0xFFFF then (stRange, s)   -- 05 R134
  else
    let s0 := if c = 4 then
        let s1 := startTraj s u
        s1.setI u 0x066000 (s1.i u 0x065F00)
      else if c = 1 ∧ s.st u = usActive then askStopAxis s u
      else s
    let r := ((memberUnits s 32 u).filter fun m => namesTransition c (s.st m)).foldl
      (fun (r : Nat × State) m => if r.1 = stOk then memberCommand now r.2 m c else r) (stOk, s0)
    if r.1 = stOk then r else (r.1, s)

/-- UnitCommand on any unit: a status, or none where the answer waits for the journal, and the state after it. -/
def unitCommand (now : Bool) (s : State) (u c : Nat) (o : Option Origin) : Option Nat × State :=
  let put (r : Nat × State) : Option Nat × State := (some r.1, r.2)
  match kindOf u with
  | some .cell => put (cellCommand s u c)
  | some .sleeve => put (sleeveCommand s u c)
  | some .localAxis | some .netAxis | some .virtAxis => put (axisCommand now s u c)
  | some .recorder => put (recorderCommand now s u c)
  | some .can => put (canCommand s u c)
  | some .veil => veilCommand s c o
  | some .field => put (fieldCommand s c)
  | some .cluster => put (clusterCommand now s u c)
  | _ => (some stNoObject, s)

end Sys2Proof.Machine
end

