-- ==== Sys2Proof/Machine/Jobs.lean ====
section
/-! DEFINITION. The job library and commits (04 R109 to R119), cam tables (05 R132 to R134), restart and live update of a user kernel
(10 R251, R252; 12 R292). -/

namespace Sys2Proof.Machine

/-! ### Cam tables -/

/-- A stored CamTable of some axis, a job of the library, a standby bank or a kind-5 segment names the table (05 R134). -/
def tableInUse (s : State) (t : Nat) : Bool :=
  s.dict.any (fun e => e.1 % 2 ^ 24 == 0x080800 && e.2 == .num t)
  || s.standby.any (fun e => e.1 % 2 ^ 24 == 0x080800 && e.2 == .num t)
  || s.jobs.any (fun j => j.2.any fun e => e.key == 0x080800 && e.value == .num t)
  || s.axes.any (fun a =>
      let uses (g : Segment) : Bool := g.kind == 5 && g.table == t
      a.2.traj.queue.any uses || (a.2.traj.run.map fun r => uses r.seg).getD false)

/-- Written points of a table, as runs of a first point and a count. -/
def camRunsOf (s : State) (t : Nat) : List (Nat × Nat) := mapGet [] s.camRuns t

/-- Take the points a to b - 1 out of a list of runs. -/
def runCut (l : List (Nat × Nat)) (a b : Nat) : List (Nat × Nat) :=
  l.flatMap fun r =>
    (if r.1 < a then [(r.1, min a (r.1 + r.2) - r.1)] else [])
    ++ (if b < r.1 + r.2 then [(max b r.1, r.1 + r.2 - max b r.1)] else [])

/-- Points held in a list of runs. -/
def runPoints (l : List (Nat × Nat)) : Nat := (l.map Prod.snd).sum

/-- #0840 CamPoolUsed. -/
def camPoolUsed (s : State) : Nat := (s.camRuns.map fun e => runPoints e.2).sum

/-- The runs after a write of points to an element (05 R132; 02 R67). -/
def runsWritten (l : List (Nat × Nat)) (e : Nat) (offset : Nat) (len : Nat) (last : Bool) : List (Nat × Nat) :=
  let a := e * 512 + offset / 8
  let b := a + len / 8
  let kept := runCut l a (if last then (e + 1) * 512 else b)
  if a < b then kept ++ [(a, b - a)] else kept

/-- Why a write of points or of a header is refused (05 R133): TABLE_NOT_OPEN, or the pool would overflow. -/
def camWriteRefusal (s : State) (o : Nat) (w : Write) : Option Nat :=
  if o < 0x2400 then
    let t := o - 0x2000
    if camState s t ≠ 1 then some 0x21
    else if Config.camPoolPoints < camPoolUsed s - runPoints (camRunsOf s t)
        + runPoints (runsWritten (camRunsOf s t) w.elem w.offset w.data.length w.last) then some 0x20
    else none
  else if camState s (o - 0x2400) ≠ 1 then some 0x21
  else none

/-- A write of points takes effect. -/
def camPointsWritten (s : State) (t : Nat) (e offset len : Nat) (last : Bool) : State :=
  { s with camRuns := mapPut [] s.camRuns t (runsWritten (camRunsOf s t) e offset len last) }

/-- The header is one of Table 5-3. -/
def camHeaderOk (b : Bytes) : Bool :=
  b.length == 16 && decide (2 ≤ fieldLE b 0 4 ∧ fieldLE b 0 4 ≤ 65536) && decide (fieldLE b 4 1 ≤ 1) && zeros b 5 3
    && (fieldLE b 4 1 == 1 || fieldLE b 8 8 == 0)

/-- What SEAL asks of an OPEN table (05 R133). -/
def sealOk (s : State) (t : Nat) : Bool :=
  let b := s.bs 0 ((0x2400 + t) * 256)
  let n := camCount s t
  let l := camRunsOf s t
  camHeaderOk b && runPoints l == n && l.all (fun r => decide (r.1 + r.2 ≤ n))
    && decide ((camRise s t).natAbs ≤ 2 ^ 52)
    && (List.range n).all fun i => decide ((camPoint s t i - camPoint s t 0).natAbs ≤ 2 ^ 52)

/-- Why a CamCommand is refused. -/
def camRefusal (s : State) (t c : Nat) : Option Nat :=
  let st := camState s t
  match c with
  | 1 => if st ≠ 1 ∧ tableInUse s t then some 0x23 else none
  | 2 => if st ≠ 1 then some 0x21 else if sealOk s t then none else some stRange
  | _ => if tableInUse s t then some 0x23 else none

/-- Elements of a table that hold points. -/
def camElems (s : State) (t : Nat) : List Nat := (List.range 128).filter fun e => !(s.bs 0 ((0x2000 + t) * 256 + e)).isEmpty

/-- The records of an accepted CamCommand: one transaction. -/
def camRecords (s : State) (t c : Nat) : List JRecord :=
  let st (v : Nat) : JRecord := valueRecord [0] (0x2800 + t) 0 0 false (leBytes 1 v)
  match c with
  | 1 => [st 1]
  | 2 => [st 2]
  | _ => (camElems s t).map (fun e => ({ erase := true, fin := false, path := [0], obj := 0x2000 + t, elem := e } : JRecord))
    ++ [{ erase := true, path := [0], obj := 0x2800 + t }]

/-- An accepted CamCommand takes effect (05 R133). -/
def camCommand (s : State) (t c : Nat) : State :=
  match c with
  | 1 => s.setN 0 ((0x2800 + t) * 256) 1
  | 2 => s.setN 0 ((0x2800 + t) * 256) 2
  | _ =>
    let s1 := (camElems s t).foldl (fun u e => u.setBs 0 ((0x2000 + t) * 256 + e) []) s
    { s1.setN 0 ((0x2800 + t) * 256) 0 with camRuns := mapPut [] s1.camRuns t [] }

/-! ### Staging (R109, R110) -/

/-- The entries of a job. -/
def jobOf (s : State) (j : Nat) : List JobEntry := mapGet [] s.jobs j

/-- Does an entry hold this address? -/
def JobEntry.at (e : JobEntry) (path : List Nat) (key : Nat) : Bool := e.path == path && e.key == key

/-- Why a STAGE item is refused by the last check: the lowest code that applies. -/
def stageRefusal (s : State) (job : Nat) (path : List Nat) (o e : Nat) (data : Bytes) : Option Nat :=
  let full := decide (65536 ≤ (jobOf s job).length) && !(jobOf s job).any (fun x => x.at path (o * 256 + e))
  let table := fieldLE data 0 2
  if full then some stJobFull
  else if o = 0x808 ∧ table ≠ 0xFFFF ∧ camState s table ≠ 2 then some 0x22
  else if (s.commit.map fun c => c.job == job).getD false then some stJobPending
  else none

/-- Order of two paths with their keys: by unit numbers, then by key. -/
def addressBefore (ka kb : Nat) : List Nat → List Nat → Bool
  | [], [] => decide (ka < kb)
  | [], _ :: _ => true
  | _ :: _, [] => false
  | x :: xs, y :: ys => if x = y then addressBefore ka kb xs ys else decide (x < y)

/-- Order of a listing: path, object, element (16 R364). -/
def entryBefore (a b : JobEntry) : Bool := addressBefore a.key b.key a.path b.path

/-- Put an entry in its place. -/
def insertEntry (e : JobEntry) : List JobEntry → List JobEntry
  | [] => [e]
  | x :: xs => if entryBefore e x then e :: x :: xs else x :: insertEntry e xs

/-- A staged value joins its job: parts merge, starting from an empty element (R109). -/
def stageValue (s : State) (job : Nat) (path : List Nat) (unit k : Nat) (ty : Ty) (data : Bytes) (offset : Nat) (last : Bool) : State :=
  let l := jobOf s job
  let old := (l.find? fun e => e.at path k).map JobEntry.value
  let v : Val := if ty.scalar then .num (decodeNum ty data) else .bytes (writePart ((old.map valRaw).getD []) data offset (last || ty == .str))
  let l' := if old.isSome then l.map (fun e => if e.at path k then { e with value := v } else e)
    else insertEntry { path := path, unit := unit, key := k, value := v } l
  { s with jobs := mapPut [] s.jobs job l' }

/-- Empty a job (R110). -/
def discardJob (s : State) (job : Nat) : State := { s with jobs := mapPut [] s.jobs job [] }

/-! ### Commit (R112 to R118) -/

/-- Quanta of a network cycle. -/
def cycleQ (s : State) : Nat := s.n 0 0x023300 * s.tb

/-- n_T of R113 for a trigger time in ns. -/
def triggerBeat (s : State) (timeT : Nat) : Nat :=
  if s.tb = 0 then 0 else (timeT * Config.quantaPerNs - s.phaseQ + s.tb - 1) / s.tb

/-- The guard interval G of R112 in quanta. -/
def guardQ (s : State) (job : Nat) : Nat :=
  max (s.n 0 0x078000 * cycleQ s) (((jobOf s job).length + 7) / 8 * quantaPerUs + 50 * quantaPerUs)

/-- A COMMIT payload (Table 2-6) read: job, trigger kind, direction, T, P, path; none where R410 calls it malformed. -/
def readCommit (b : Bytes) : Option (Nat × Nat × Nat × Nat × Int × List Nat) :=
  let kind := fieldLE b 1 1
  let dir := fieldLE b 2 1
  let depth := fieldLE b 3 1
  let p := fieldLEI b 12 8
  if b.length < 20 ∨ b.length ≠ 20 + 2 * depth ∨ 1 < kind ∨ 2 < dir ∨ 31 < depth then none
  else if kind = 0 ∧ (dir ≠ 0 ∨ depth ≠ 0 ∨ p ≠ 0) then none
  else if kind = 1 ∧ depth = 0 then none
  else some (fieldLE b 0 1, kind, dir, fieldLE b 4 8, p, readU16s depth (b.drop 20))

/-- The axis face that the master path of a position trigger names. -/
def masterFace (s : State) (path : List Nat) : Option Nat :=
  match resolve s path with
  | .unit u _ => if (isAxis u && s.st u != usOff) || (isCluster u && axisFace s u) then some u else none
  | _ => none

/-- Serve a COMMIT of a session: a refusal, or none with the commit pending and its record on the way to the journal (R112). -/
def commitServe (s : State) (levelOk : Bool) (payload : Bytes) (o : Option Origin) : Option Nat × State :=
  match readCommit payload with
  | none => (some stBadRequest, s)
  | some (job, kind, dir, t, p, path) =>
    let master := if kind = 0 then some 0 else masterFace s path
    let rec6 : JRecord := itemRecord 6 (payload ++ leBytes 8 (triggerBeat s t))
    match master with
    | none => (some stBadPath, s)
    | some m =>
      if !levelOk then (some stLevel, s)
      else if t * Config.quantaPerNs < s.q + guardQ s job then (some stTooLate, s)
      else if (jobOf s job).isEmpty then (some stNoJob, s)
      else if journalFull s [rec6] then (some stJournalFull, s)
      else if s.commit.isSome then (some stCommitPending, s)
      else
        let c : Commit := { job := job, trigger := kind, dir := dir, master := m, timeT := t, posP := p, beat := triggerBeat s t, guard := guardQ s job }
        (none, journal { s with commit := some c } [rec6] (.reply o))

/-- The commit's outcome has been decided: its event, its count and its record (R118; 16 Table 16-4). -/
def commitOutcome (s : State) (code counter : Nat) (data : Bytes) (job : Nat) (records : List JRecord) (act : TxnAct) : State :=
  journal (publish (bump s 0 counter) 0 code data) (records ++ [itemRecord 6 (leBytes 1 job)]) act

/-- Loading is complete: the job's values stand in the standby banks (R111). Of two addresses of a job that reach one object the
later in path order stands: DESIGN CHOICE, log entry 26. -/
def commitLoaded (s : State) : State :=
  match s.commit with
  | none => s
  | some c =>
    if c.armed then s
    else { s with
      commit := some { c with armed := true }
      standby := (jobOf s c.job).map fun e => (keyOf (storeOf s e.unit (e.key / 256)) e.key, e.value) }

/-- One network cycle before the firing beat the loading is checked (R116). -/
def commitLoadCheck (s : State) : State :=
  match s.commit with
  | none => s
  | some c =>
    if c.armed ∨ s.beat.n + s.n 0 0x023300 < triggerBeat s c.timeT then s
    else commitOutcome { s with commit := none, standby := [] } 0x0712 0x078A00 (leBytes 1 c.job ++ [0]) c.job [] .none

/-- Serve a REVOKE (R117): a refusal, or none where it is honoured and answered when its record has committed.
G is the one of the commit's acceptance, whatever GuardCycles has become: DESIGN CHOICE, log entry 26. -/
def revokeServe (s : State) (levelOk : Bool) (payload : Bytes) (o : Option Origin) : Option Nat × State :=
  let job := fieldLE payload 0 1
  if payload.length ≠ 4 ∨ !zeros payload 1 3 then (some stBadRequest, s)
  else if !levelOk then (some stLevel, s)
  else match s.commit with
    | some c =>
      if c.job = job then
        if s.beatStart (triggerBeat s c.timeT) ≤ s.q + c.guard then (some stTooLate, s)
        else (none, commitOutcome { s with commit := none, standby := [] } 0x0711 0x078900 (leBytes 1 job) job [] (.reply o))
      else if (s.flipped.map fun f => f.1 == job).getD false then (some stTooLate, s)
      else (some stNoJob, s)
    | none => if (s.flipped.map fun f => f.1 == job).getD false then (some stTooLate, s) else (some stNoJob, s)

/-! ### The flip (R111, R113 to R115) -/

/-- The master's last two fresh positions cross P in the direction (R114). -/
def crosses (m dir : Nat) (p : Int) (q1 q2 : Int) : Bool :=
  let mm : Int := (m : Int) * 65536
  let fwd : Bool :=
    if m = 0 then decide (q2 < p ∧ p ≤ q1)
    else let d := (q1 - q2) % mm; let x := (p - q2) % mm; decide (0 < d ∧ 2 * d < mm ∧ 0 < x ∧ x ≤ d)
  let back : Bool :=
    if m = 0 then decide (q1 ≤ p ∧ p < q2)
    else let d := (q2 - q1) % mm; let x := (q2 - p) % mm; decide (0 < d ∧ 2 * d < mm ∧ 0 < x ∧ x ≤ d)
  match dir with
  | 1 => fwd
  | 2 => back
  | _ => fwd || back

/-- The position trigger of a commit fires at the beat in progress. -/
def positionFires (s : State) (c : Commit) : Bool :=
  c.trigger == 1 && c.armed && s.n c.master 0x083000 + 1 == s.beat.n
    && match (s.axis c.master).follow.history with
      | q1 :: q2 :: _ => crosses (s.n c.master 0x070000) c.dir c.posP q1 q2
      | _ => false

/-- A standby value becomes the running value of an st object; a change of BankSelect requests its bank, behind a swap request (07 R177). -/
def flipOne (s : State) (e : Nat × Val) : State :=
  let u := e.1 / 2 ^ 24
  let k := e.1 % 2 ^ 24
  let s1 := s.setV u k e.2
  if k = 0x064000 ∧ s.val u k ≠ e.2 then
    modEngine s1 u fun g => { g with bankRequest := match g.bankRequest with | some b => some b | none => some (valInt e.2).toNat }
  else s1

/-- Step 1 of R14: a commit that is due flips (R113 to R115); one that is not loaded by then has failed (R116). -/
def jobFlip (s : State) : State :=
  match s.commit with
  | none => s
  | some c =>
    let due := decide (triggerBeat s c.timeT ≤ s.beat.n)
    if c.armed ∧ (due ∨ positionFires s c) then
      { s.standby.foldl flipOne s with standby := [], commit := none, flipped := some (c.job, c.trigger, s.beat.n) }
    else if due then commitLoadCheck s
    else s

/-- The records of the J values of a job, for the journal's running values. -/
def flipRecords (s : State) (job : Nat) : List JRecord :=
  ((jobOf s job).map fun e =>
    let u := storeOf s e.unit (e.key / 256)
    let ty := (((kindOf u).bind fun k => rowOf k (e.key / 256) (e.key % 256)).map ObjRow.ty).getD .blob
    { valueRecord [u] (e.key / 256) (e.key % 256) 0 true (encodeVal ty e.value) with fin := false })

/-- At the beat deadline of the firing beat the outcome is published (R118, Table 4-3). -/
def commitDone (s : State) : State :=
  match s.flipped with
  | none => s
  | some (job, trigger, n) =>
    let s1 := ({ s with flipped := none }).setN 0 0x078500 n
    commitOutcome s1 0x0710 0x078800 (leBytes 1 job ++ leBytes 1 trigger ++ leBytes 8 n) job (flipRecords s1 job) .none

/-! ### User kernels (10 R251, R252; 12 R292) -/

/-- KernelRestart: a stopped kernel runs again from the next beat start. -/
def kernelRestart (s : State) (k : Nat) : State :=
  if s.n 0 (0x110400 + k) = 2 then s.setKernel k { s.kernel k with restart := true } else s

/-- The bytes of the image for a live replacement. -/
def updateImage (s : State) : Bytes := (List.range 16).flatMap fun e => s.bs 0 (0x111000 + e)

/-- Exports that a new image must keep (R252). -/
def exportShape (i : KImage) : List (Nat × Nat × Bool) := i.objs.map fun x => (x.obj, x.type, x.rw)

/-- The new image is valid on the cell that runs the kernel, with the running kernel's exports (R252). -/
def updateOk (s : State) (k : Nat) (i : KImage) : Bool :=
  let old := s.kernel k
  let c := kernelCell s k
  let w := (s.cell c).work
  match s.plan with
  | none => false
  | some p =>
    let others := s.kernels.filter fun e => e.1 != k
    let ex := (others.flatMap fun e => e.2.image.objs.map fun o => (e.2.home, o)) ++ i.objs.map fun o => (old.home, o)
    let mine := (others.filter fun e => e.2.home == old.home).flatMap fun e => e.2.image.objs.map KObject.obj
    imageOk s ex (memberIn p.clusters) mine i && exportShape i == exportShape old.image
      && decide ((i.budget : Int) ≤ kernelShare s p { cell := c, role := w.role, clock := w.clock, units := w.units })

/-- The signature of the plan once a new image stands in it: a CRC over bytes whose format the spec does not give. Log entry 9. -/
def newSignature (s : State) (k : Nat) (i : KImage) : Nat := (Config.openValue 252 [s.i 0 0x031100, k, i.signature]).toNat % 2 ^ 32

/-- The journal transaction of a kernel image (16 R355): its parts and the plan's signature. -/
def imageRecords (s : State) (k : Nat) (i : KImage) : List JRecord :=
  (((List.range 16).filter fun e => !(s.bs 0 (0x111000 + e)).isEmpty).map fun e =>
    { valueRecord [0] 0x1110 e 0 true (s.bs 0 (0x111000 + e)) with fin := false })
  ++ [itemRecord 7 (leBytes 4 (newSignature s k i))]

/-- KernelUpdateApply: its status, and where it is accepted the replacement under way (R252, R292). -/
def kernelUpdate (s : State) (k : Nat) : Nat × State :=
  match parseImage (updateImage s) with
  | none => (0x20, s)
  | some i =>
    if s.n 0 (0x110400 + k) = 0 then (stWrongState, s)
    else if s.rehousings.any fun r => r.replaces.isSome then (stWrongState, s)
    else if !updateOk s k i then (0x20, s)
    else
      let c := kernelCell s k
      let keep := bitOf (fieldLE (updateImage s) 11 1) 0
      let r : Rehouse := { kind := .replacement, failed := c, work := (s.cell c).work, journaled := false, replaces := some k, image := some (i, keep) }
      let s1 := journal ((s.setKernel k { s.kernel k with imageBytes := updateImage s }).setN 0 0x0B5300 k) (imageRecords s k i) (.kernelImage k)
      (stOk, startReadying s1 r)

/-- The image's record has committed: the plan carries the new image (R252, R292 step 2). -/
def kernelImageCommitted (s : State) (k : Nat) : State :=
  let bytes := (s.kernel k).imageBytes
  match parseImage bytes with
  | none => s
  | some i =>
    let sig := newSignature s k i
    let upd (p : CombPlan) : CombPlan :=
      { p with signature := sig, kernels := p.kernels.map fun x => if x.kernel = k then { x with image := bytes } else x }
    let s1 : State := { s with
      rehousings := s.rehousings.map fun q => if q.replaces = some k then { q with journaled := true } else q
      plan := s.plan.map upd
      nva := { s.nva with plan := s.nva.plan.map upd } }
    (s1.setKernel k { s.kernel k with imageBytes := [] }).setN 0 0x031100 sig

end Sys2Proof.Machine
end

