-- ==== Sys2Proof/Machine/Journal.lean ====
section
/-! DEFINITION. The NVA die (16): records and anchors, the retirement list, rendering, replay, firmware slots. -/

namespace Sys2Proof.Machine

/-- Change the journal's keeper state. -/
def modJournal (s : State) (f : JournalS → JournalS) : State := { s with journal := f s.journal }
/-- Change the NVA die. -/
def modNva (s : State) (f : Nva → Nva) : State := { s with nva := f s.nva }

/-- The dictionary is ready and the keeper runs: acyclic service, the journal and the keeper's own work go on. -/
def keeperUp (s : State) : Bool := s.rst.phase == .running && !s.rst.keeperDown

/-! ### What the NVA die holds, as bytes (R354, Tables 16-2, 16-3, 16-5; R360) -/

/-- The payload of a record (Table 16-3). -/
def recordPayload (r : JRecord) : Bytes :=
  leBytes 1 r.space ++ leBytes 1 r.job ++ leBytes 1 r.path.length ++ leBytes 1 r.elem ++ leBytes 2 r.obj ++ leBytes 2 r.offset
    ++ leBytes 2 r.data.length ++ leBytes 1 (if r.last then 1 else 0) ++ [0] ++ r.path.flatMap (leBytes 2) ++ r.data

/-- A record with its check (Table 16-2), and the padding to the next 16-byte boundary. -/
def recordImage (r : JRecord) : Bytes :=
  let p := recordPayload r
  let b := leBytes 4 r.seq ++ leBytes 4 r.epoch ++ leBytes 2 p.length ++ leBytes 1 (if r.erase then 2 else 1) ++ leBytes 1 (if r.fin then 1 else 0) ++ p
  let c := b ++ leBytes 4 (crc32c b)
  c ++ List.replicate (recordBytes r - c.length) 0

/-- A copy of the anchor (Table 16-5). -/
def anchorImage (a : Anchor) : Bytes :=
  let b := leBytes 4 a.generation ++ leBytes 4 a.epoch ++ leBytes 4 a.firstSeq ++ leBytes 1 a.live ++ leBytes 1 a.bootSlot ++ leBytes 1 a.trialSlot ++ [0]
  b ++ leBytes 4 (crc32c b)

/-- A copy of the retirement list (R360). -/
def retiredImage (l : Nat × List Nat) : Bytes :=
  let b := leBytes 4 l.1 ++ leBytes 2 l.2.length ++ [0, 0] ++ l.2.flatMap (leBytes 2)
  b ++ leBytes 4 (crc32c b)

/-- Bytes of the journal: its record area from offset 0x1000 of a region on. -/
def regionImage (n : Nva) (r : Nat) : Bytes := (regionOf n r).flatMap recordImage

/-! ### Records (R354, R355) -/

/-- Number records from a sequence on, under an epoch. -/
def stampRecords (epoch : Nat) : Nat → List JRecord → List JRecord
  | _, [] => []
  | q, r :: rs => { r with seq := q, epoch := epoch, checkOk := true } :: stampRecords epoch ((q + 1) % 2 ^ 32) rs

/-- The sequence that the next record of a region takes. -/
def nextSeq (n : Nva) (r first : Nat) : Nat :=
  match (regionOf n r).getLast? with
  | some x => (x.seq + 1) % 2 ^ 32
  | none => first

/-- Append records to a region. -/
def appendTo (n : Nva) (r epoch first : Nat) (rs : List JRecord) : Nva :=
  setRegion n r (regionOf n r ++ stampRecords epoch (nextSeq n r first) rs)

/-- Append records to the live region, and to the other one while rendering runs (R356, R361). -/
def appendRecords (s : State) (rs : List JRecord) : State :=
  let a := liveAnchor s.nva
  let live := liveIdx s.nva
  let n1 := appendTo s.nva live a.epoch a.firstSeq rs
  let n2 := if s.journal.rendering then appendTo n1 (1 - live) ((a.epoch + 1) % 2 ^ 32) 0 rs else n1
  let last := ((regionOf n2 live).getLast?.map JRecord.seq).getD s.journal.seq
  modJournal { s with nva := n2 } fun j => { j with seq := last }

/-- #0F02 RegionUsed. -/
def regionUsed (n : Nva) : Nat := ((regionOf n (liveIdx n)).map recordBytes).sum

/-! ### Anchors and the retirement list (R358 to R360) -/

/-- The generation of the retirement list in force. -/
def retiredGen (n : Nva) : Nat := max ((n.retired0.map Prod.fst).getD 0) ((n.retired1.map Prod.fst).getD 0)

/-- Write both copies of the retirement list. -/
def writeRetired (s : State) (units : List Nat) : State :=
  let l := some ((retiredGen s.nva + 1) % 2 ^ 32, units)
  modNva s fun n => { n with retired0 := l, retired1 := l }

/-- The units that the retirement list names: the valid copy of the higher generation; none where no copy is valid. -/
def retiredList (n : Nva) : Option (List Nat) :=
  match n.retired0, n.retired1 with
  | some a, some b => some (if a.1 < b.1 then b.2 else a.2)
  | some a, none => some a.2
  | none, some b => some b.2
  | none, none => none

/-- Write both copies of the anchor, and with it the retirement list. -/
def writeAnchor (s : State) (f : Anchor → Anchor) : State :=
  let a := f (liveAnchor s.nva)
  let a' := some { a with generation := ((liveAnchor s.nva).generation + 1) % 2 ^ 32 }
  writeRetired (modNva s fun n => { n with anchor0 := a', anchor1 := a' }) (retiredUnits s)

/-! ### Rendering (R361, R363) -/

/-- Mark the last record of a list as its END. -/
def endLast : List JRecord → List JRecord
  | [] => []
  | [r] => [{ r with fin := true }]
  | r :: rs => { r with fin := false } :: endLast rs

/-- Rendering begins: the snapshot goes into the other region under the next epoch. -/
def startRender (s : State) : State :=
  if s.journal.rendering then s
  else
    let a := liveAnchor s.nva
    let live := liveIdx s.nva
    let snap := endLast (liveRecords (regionOf s.nva live))
    let first := nextSeq s.nva live a.firstSeq
    let n := setRegion s.nva (1 - live) (stampRecords ((a.epoch + 1) % 2 ^ 32) first snap)
    modJournal { s with nva := n } fun j => { j with rendering := true }

/-- Rendering ends with the anchor that names the new region. -/
def renderDone (s : State) : State :=
  if !s.journal.rendering ∨ !keeperUp s then s
  else
    let other := 1 - liveIdx s.nva
    let first := ((regionOf s.nva other).head?.map JRecord.seq).getD ((s.journal.seq + 1) % 2 ^ 32)
    let s1 := writeAnchor s fun a => { a with epoch := (a.epoch + 1) % 2 ^ 32, firstSeq := first, live := other }
    let last := ((regionOf s1.nva other).getLast?.map JRecord.seq).getD s.journal.seq
    let s2 := modJournal s1 fun j => { j with rendering := false, seq := last }
    publish (bump s2 0 0x0F0600) 0 0x0F01 (leBytes 4 (liveAnchor s2.nva).epoch ++ leBytes 4 (liveBytes s2.nva))

/-- The region is three quarters full (R361). -/
def renderIfFull (s : State) : State := if 3 * Config.regionBytes ≤ 4 * regionUsed s.nva then startRender s else s

/-- RenderNow (R361): ignored while rendering. -/
def renderNow (s : State) : State := startRender s

/-! ### Where power or a reset strikes (R357, R363, R365, R367) -/

/-- The keeper stops writing: of the transaction in hand, the records begun have completed. How far it was is not known, so the number of
its records is a free value. Everything that waited is gone. -/
def cutJournal (s : State) : State :=
  match s.journal.queue with
  | [] => modJournal s fun j => { j with rendering := false }
  | t :: _ =>
    let k := (Config.openValue 365 [s.freeCount]).toNat % (t.records.length + 1)
    let s1 := appendRecords s (t.records.take k)
    modJournal { s1 with freeCount := s.freeCount + 1 } fun j => { j with queue := [], rendering := false }

/-! ### Replay (R357) -/

/-- The records up to the first torn one. -/
def validRun (epoch : Nat) : Nat → List JRecord → List JRecord
  | _, [] => []
  | q, r :: rs => if r.checkOk ∧ r.epoch = epoch ∧ r.seq = q then r :: validRun epoch ((q + 1) % 2 ^ 32) rs else []

/-- The complete transactions: everything up to the last END. -/
def completeRun (l : List JRecord) : List JRecord := (l.reverse.dropWhile fun r => !r.fin).reverse

/-- A dictionary record takes effect on the running values (R354, Table 16-3). Only J objects have such records. -/
def replayValue (s : State) (r : JRecord) : State :=
  let u := r.path.getLastD 0
  match (kindOf u).bind fun k => rowOf k r.obj r.elem with
  | none => s
  | some row =>
    let k := r.obj * 256 + r.elem
    if !row.jour then s
    else if r.erase then
      let s1 := s.setV u k row.dflt
      if 0x2000 ≤ r.obj ∧ r.obj < 0x2400 then
        { s1 with camRuns := mapPut [] s1.camRuns (r.obj - 0x2000) (runCut (camRunsOf s1 (r.obj - 0x2000)) (r.elem * 512) (r.elem * 512 + 512)) }
      else s1
    else if row.ty.scalar then
      let v := decodeNum row.ty r.data
      let s1 := s.setI u k v
      if row.stick ∧ (row.ty.maxNat : Int) ≤ v then
        let i := stickIndex ((kindOf u).getD .root) r.obj r.elem
        s1.setN u (0x0B1000 + i / 32) (setBit (s1.n u (0x0B1000 + i / 32)) (i % 32))
      else s1
    else
      let s1 := s.setBs u k (writePart (s.bs u k) r.data r.offset r.last)
      if 0x2000 ≤ r.obj ∧ r.obj < 0x2400 then camPointsWritten s1 (r.obj - 0x2000) r.elem r.offset r.data.length r.last else s1

/-- A job record takes effect on the library. -/
def replayJob (s : State) (r : JRecord) : State :=
  let k := r.obj * 256 + r.elem
  if r.erase then
    if r.path.isEmpty then discardJob s r.job
    else { s with jobs := mapPut [] s.jobs r.job ((jobOf s r.job).filter fun e => !e.at r.path k) }
  else
    let u := r.path.getLastD 0
    match (kindOf u).bind fun kd => rowOf kd r.obj r.elem with
    | none => s
    | some row => stageValue s r.job r.path u k row.ty r.data r.offset r.last

/-- n 64-bit numbers. -/
def readU64s : Nat → Bytes → List Nat
  | 0, _ => []
  | n + 1, b => fieldLE b 0 8 :: readU64s n (b.drop 8)

/-- A device item takes effect (Table 16-4). A key of zero bytes stands for the erased SAFETY key. -/
def replayItem (s : State) (r : JRecord) : State :=
  let d := r.data
  match r.obj with
  | 1 =>
    let key := d.drop 1
    { s with keys := mapPut [] s.keys (fieldLE d 0 1) (if key.all (· == 0) then [] else key) }
  | 2 => { s with veil := { s.veil with enabled := fieldLE d 0 1 == 1 } }
  | 3 =>
    let u := fieldLE d 0 2
    s.setN u 0x030000 (if fieldLE d 2 1 = 1 then usRetired else usOff)
  | 4 => s.setFault (fieldLE d 0 2) { s.fault (fieldLE d 0 2) with recoveries := readU64s ((d.length - 2) / 8) (d.drop 2) }
  | 5 => s.setN 0 0x0B3300 (fieldLE d 0 8)
  | 6 =>
    let j := fieldLE d 0 1
    { s with rst := { s.rst with commitOpen := if d.length = 1 then s.rst.commitOpen.erase j else s.rst.commitOpen ++ [j] } }
  | 7 => s.setN 0 0x031100 (fieldLE d 0 4)
  | _ => s

/-- A record takes effect. -/
def replayRecord (s : State) (r : JRecord) : State :=
  if r.space = 0 then replayValue s r else if r.space = 1 then replayJob s r else replayItem s r

/-- Forget every retirement that the state shows, before the records or the list give them again. -/
def unretire (s : State) : State := (retiredUnits s).foldl (fun t u => t.setN u 0x030000 usOff) s

/-- Publish an event when the dictionary is ready. -/
def dueEvent (s : State) (code : Nat) (data : Bytes) : State := { s with rst := { s.rst with due := s.rst.due ++ [(code, data)] } }

/-- Replay of a journal with a valid anchor: its complete transactions in order; the rest is discarded (R357). -/
def replayJournal (s : State) : State :=
  let a := liveAnchor s.nva
  let live := liveIdx s.nva
  let all := regionOf s.nva live
  let kept := completeRun (validRun a.epoch a.firstSeq all)
  let s1 := kept.foldl replayRecord (unretire s)
  let last := (kept.getLast?.map JRecord.seq).getD ((a.firstSeq + 2 ^ 32 - 1) % 2 ^ 32)
  let s2 := modJournal { s1 with nva := setRegion s1.nva live kept } fun j => { j with seq := if kept.isEmpty then 0 else last }
  let s3 := if retiredList s2.nva = some (retiredUnits s2) then s2 else writeRetired s2 (retiredUnits s2)
  let tail := all.drop kept.length
  if tail.isEmpty then s3
  else dueEvent (bump s3 0 0x0F0700) 0x0F02 (leBytes 4 ((last + 1) % 2 ^ 32) ++ leBytes 4 ((tail.map recordBytes).sum))

/-- Start-up without a valid anchor (R358): defaults, the retirements of the list, a fresh anchor. -/
def freshJournal (s : State) : State :=
  let l := retiredList s.nva
  let s1 := (l.getD []).foldl (fun t u => t.setN u 0x030000 usRetired) (unretire s)
  let n : Nva := { s1.nva with anchor0 := some {}, anchor1 := some {}, region0 := [], region1 := [], plan := none }
  let s2 := modJournal { s1 with nva := n } fun j => { j with seq := 0, retirementsLost := l.isNone }
  dueEvent (writeRetired s2 (retiredUnits s2)) 0x0F03 [if l.isNone then 1 else 0]

/-- Journal replay at start-up. -/
def replay (s : State) : State :=
  if s.nva.anchor0.isNone ∧ s.nva.anchor1.isNone then freshJournal s else replayJournal s

/-! ### Firmware (R368, R369) -/

/-- A slot is on trial. -/
def onTrial (s : State) : Bool := (liveAnchor s.nva).trialSlot != 0xFF

/-- The slot that is not BootSlot. -/
def otherSlot (s : State) : Nat := 1 - (liveAnchor s.nva).bootSlot % 2

/-- A part of the image is written into the slot that is not BootSlot. -/
def firmwareWrite (s : State) (o e : Nat) (data : Bytes) (offset : Nat) (last : Bool) : State :=
  let i := (o - 0xF20) * 256 + e
  let put (m : NMap Bytes) : NMap Bytes := mapPut [] m i (writePart (mapGet [] m i) data offset last)
  modNva s fun n => if otherSlot s = 0 then { n with firmA := put n.firmA } else { n with firmB := put n.firmB }

/-- The keeper's ROM has booted: which slot runs, and what is reported of a trial (R369). -/
def bootSlot (s : State) (signatureOk : Bool) : State :=
  if !onTrial s then { s with rst := { s.rst with revert := false } }
  else if s.rst.revert ∨ !signatureOk then
    let s1 := writeAnchor s fun a => { a with trialSlot := 0xFF }
    let s2 := modJournal { s1 with rst := { s1.rst with revert := false } } fun j => { j with trial := none }
    dueEvent s2 0x0F06 [BitVec.ofNat 8 (liveAnchor s2.nva).bootSlot]
  else
    let s1 := modJournal s fun j => { j with trial := some (liveAnchor s.nva).trialSlot }
    dueEvent s1 0x0F04 [BitVec.ofNat 8 (liveAnchor s.nva).trialSlot]

/-- The trial slot is confirmed. -/
def firmwareConfirmed (s : State) : State :=
  match s.journal.trial with
  | none => s
  | some k =>
    if !keeperUp s then s
    else
      let s1 := writeAnchor s fun a => { a with bootSlot := k, trialSlot := 0xFF }
      publish (modJournal s1 fun j => { j with trial := none }) 0 0x0F05 [BitVec.ofNat 8 k]

end Sys2Proof.Machine
end

