-- ==== Sys2Proof/Machine/Reset.lean ====
section
/-! DEFINITION. Reset, power domains and start-up (17): sources and their reach, the fuse table, start-up, KEEPER and COMB resets, drain and
unit reset, JTAG and temperature; PFAIL (16 R365); the address in force (02 R36, R37). -/

namespace Sys2Proof.Machine

/-- Change the reset controller's state. -/
def modRst (s : State) (f : ResetS → ResetS) : State := { s with rst := f s.rst }

/-! ### Codes (Tables 17-2, 17-3) -/

/-- Code of a source. -/
def sourceCode : ResetSource → Nat
  | .por => 1 | .borCore => 2 | .borIo => 3 | .pin => 4 | .keeperWdg => 5 | .fatal => 6 | .veilReq => 7 | .swReq => 8 | .debug => 9 | .thermal => 10

/-- Code of a reach. -/
def reachCode : Reach → Nat
  | .full => 0 | .device => 1 | .keeper => 2 | .comb => 3

/-- Width of a reach (R375). -/
def reachWidth : Reach → Nat
  | .full => 3 | .device => 2 | .keeper => 1 | .comb => 1

/-- Sources that stay asserted until RESET_SOURCE_DEASSERT; the others assert for an instant. -/
def heldSource : ResetSource → Bool
  | .borCore | .borIo | .pin | .thermal => true
  | _ => false

/-- The reach that the fuses give a source; SW_REQ names its own. -/
def mappedReach (s : State) : ResetSource → Reach
  | .por | .borCore | .borIo => .full
  | .pin => if s.rst.phase = .powerFail then .full else s.rst.fuses.pin
  | .keeperWdg => s.rst.fuses.keeperWdg
  | .fatal => s.rst.fuses.fatal
  | .veilReq => s.rst.fuses.veilReq
  | .swReq => .keeper
  | .debug => s.rst.fuses.debug
  | .thermal => s.rst.fuses.thermal

/-! ### What a reset leaves (R371, R381; 00 R8; 01 R29) -/

/-- A dictionary key of the backup domain. -/
def backupKey (k : Nat) : Bool := decide (0x100000 ≤ k ∧ k ≤ 0x1004FF) || k == 0x0B0500

/-- The dictionary after a reset of reach DEVICE or FULL: the backup domain, the RETIRED units, and the units outside the reach. -/
def resetDict (s : State) (outside : Nat → Bool) : NMap Val :=
  let kept := s.dict.filter fun e => backupKey e.1 || outside (e.1 / 2 ^ 24) || (e.1 % 2 ^ 24 == 0x030000 && e.2 == .num usRetired)
  let i := stickIndex .root 0x1000 0
  let key := 0x0B1000 + i / 32
  if bitOf (s.n 0 key) (i % 32) then mapPut (.num 0) kept key (.num (2 ^ (i % 32))) else kept

/-- The device at the start of a reset of reach DEVICE or FULL: everything volatile is gone (R371). The NVA die, the backup domain and the
fuse shadow stay, and the levels that stand at the feedback and latch inputs; the queue of commands and the log of what was sent are no part of the device. -/
def wiped (s : State) : State :=
  { pending := s.pending
    sent := s.sent
    dict := resetDict s fun _ => false
    sleeves := s.sleeves.foldl (fun m e => mapPut {} m e.1 { fb := { a := e.2.fb.a, b := e.2.fb.b, z := e.2.fb.z, c := e.2.fb.c } }) []
    latchIns := s.latchIns.foldl (fun m e => mapPut {} m e.1 { level := e.2.level != e.2.cand.isSome }) []
    nva := s.nva
    kernelSerial := s.kernelSerial
    freeCount := s.freeCount
    field := { powered := s.field.powered }
    rst := { phase := .inReset, fuses := s.rst.fuses, junction := s.rst.junction, thermalArmed := s.rst.thermalArmed, revert := s.rst.revert,
             quadrants := s.rst.quadrants } }

/-- The cells of the powered quadrants, which a reset holds in reset and does not switch off (R372). -/
def poweredCells (s : State) : List Nat := ((List.range 129).drop 1).filter fun c => s.rst.quadrants.contains (quadrantOf c)

/-- Domains come out of reset: sleeves, CAN controllers, the veil, a powered field die and the cells of powered quadrants are DISABLED unless
RETIRED (R388; Table 1-4). -/
def powerDomains (s : State) : State :=
  (allSleeves ++ [0x500, 0x501, veilUnit] ++ (if s.field.powered then [fieldUnit] else []) ++ poweredCells s).foldl (fun t u =>
    if t.st u = usOff then t.setN u 0x030000 usDisabled else t) (if s.st 0 = usOff then s.setN 0 0x030000 usDisabled else s)

/-! ### A reset begins (R373 to R376, R379, R380, R382, R383) -/

/-- LastResetCause and LastResetReach (R375, R381). A source that begins or widens a reset sets them; of sources in one AON clock cycle, the
widest reach and then the lowest code. -/
def noteCause (s : State) (fresh : Bool) (src : ResetSource) (r : Reach) : State :=
  let set (s : State) : State := (s.setN 0 0x100100 (sourceCode src)).setN 0 0x100200 (reachCode r)
  let now : Reach := match s.n 0 0x100200 with | 0 => .full | 1 => .device | 2 => .keeper | _ => .comb
  if fresh then modRst (set s) fun x => { x with since := s.time.uptime }
  else if s.time.uptime ≠ s.rst.since then s
  else if reachWidth now < reachWidth r ∨ (reachWidth now = reachWidth r ∧ sourceCode src < s.n 0 0x100100) then set s
  else s

/-- A FULL or DEVICE reset begins, or a reset is widened to one; nRST is driven low (R380). -/
def bigReset (s : State) (src : ResetSource) (r : Reach) : State :=
  let held := s.rst.sources ++ (if heldSource src then [src] else [])
  let s1 := if s.rst.phase = .inReset then s else wiped (cutJournal s)
  noteCause (modRst s1 fun x => { x with phase := .inReset, reach := r, sources := held, stretch := held.isEmpty, nRstLow := true }) true src r

/-- A KEEPER reset begins (R382): the journal and the sessions stand in the hive store. -/
def keeperReset (s : State) : State := modRst s fun x => { x with keeperDown := true, stretch := true }

/-- A unit of the plan becomes DISABLED at a COMB reset (R383 step 3). -/
def combUnit (s : State) (u : Nat) : State :=
  let st := s.st u
  if st = usOff ∨ st = usRetired then s
  else if isAxis u then sleeveFollows true (axisTo true s u usDisabled) u usDisabled
  else if isCell u then putState true s u usDisabled
  else setUnit true s u usDisabled

/-- CounterSaturation keeps the bits of the counters that keep their values (02 R69). -/
def keepSaturation (s t : State) (u : Nat) : State :=
  let i := stickIndex ((kindOf u).getD .cell) 0x0B03 0
  let k := 0x0B1000 + i / 32
  if bitOf (s.n u k) (i % 32) then t.setN u k (2 ^ (i % 32)) else t

/-- V objects of the cells return to their defaults (00 R8): of CounterSaturation the bits of the counters that stay do. -/
def combCell (s : State) (c : Nat) : State :=
  let mine (e : Nat × Val) : Bool := e.1 / 2 ^ 24 == c && (let o := e.1 / 256 % 2 ^ 16;
    o != 0x300 && o != 0x1012 && !((rowOf .cell o (e.1 % 256)).map ObjRow.jour).getD false)
  keepSaturation s { s with dict := s.dict.filter fun e => !mine e } c

/-- A COMB reset begins (R383). -/
def combBegin (s : State) : State :=
  if s.rst.combDown then s
  else
    let shadow (t : State) (u : Nat) (bits : List Nat) : State := openShadow t u 0x30000 bits
    let s0 := allSleeves.foldl (fun t k => shadow t k [0])
      (((List.range 0x1A0).map (0x200 + ·)).foldl (fun t a => if t.st a = usOff then t else shadow t a [0, 1, 2]) s)
    let s1 : State := (s0.setN 0 0x0B5300 0xFF)
    let s2 : State := { s1 with
      cells := []
      rehousings := []
      outbox := []
      clusters := []
      kernels := s1.kernels.map fun e => (e.1, { e.2 with run := none })
      recorders := s1.recorders.map fun e => (e.1, { run := e.2.run, buffer := e.2.buffer, loss := e.2.loss }) }
    let s2 := (planClusters s2).foldl (fun t c => t.setFault c.cluster { t.fault c.cluster with waiting := false }) s2
    let s3 := watchReserve ((((List.range 0x1A0).map (0x200 + ·)) ++ recorderUnits ++ (List.range 129).drop 1).foldl combUnit s2)
    let s4 := (((List.range 0x1A0).map (0x200 + ·)) ++ (planClusters s3).map ClusterPlan.cluster).foldl
      (fun t a => if t.st a = usOff ∨ t.st a = usRetired then t
        else (if isCluster a then followFaces true 31 (putState true t a (clusterState t a)) a else t).setB a 0x035100 true) s3
    let s5 := allSleeves.foldl hem s4
    -- BankSwapRequest reads 0 after any reset (07 R177)
    let s5 := ((List.range 32).map (0x200 + ·)).foldl (fun t a => t.setN a 0x064100 0) (((List.range 129).drop 1).foldl combCell s5)
    -- cause 7 for every group that holds a sleeve of an axis (13 Table 13-4)
    let s6 := allGroups.foldl (fun t g => if (t.group g).high ∧ (groupSleeves t g).any (fun k => axisOf t k != 0) then decideSto t g 7
      else modGroup t g fun x => { x with releasing := false }) s5
    modRst s6 fun x => { x with combDown := true, stretch := true }

/-- The order to act on a source: the reset it takes, given what is in progress. -/
def assertSource (s : State) (src : ResetSource) (reach : Reach) : State :=
  let out := s.rst.phase = .powerFail ∧ src ≠ .por ∧ src ≠ .borCore ∧ src ≠ .pin
  if out then s
  else
    let s0 := if src = .keeperWdg ∨ src = .fatal then modRst s fun x => { x with revert := x.revert || onTrial s } else s
    let s1 := bump s0 0 0x100000
    match s.rst.phase with
    | .fuseLoad => bigReset (s1.setB 0 0x100300 true) src .full
    | .inReset =>
      if reachWidth s.rst.reach < reachWidth reach then bigReset s1 src reach
      else noteCause (modRst s1 fun x => { x with
        sources := if heldSource src then src :: x.sources.filter (· != src) else x.sources
        stretch := x.stretch && !heldSource src }) false src reach
    | .powerFail => bigReset s1 src .full
    | _ =>
      let again := s.rst.keeperDown && reach == .keeper && s.time.uptime != s.rst.since
      let r := if again then Reach.device else reach
      let inOne := s.time.uptime == s.rst.since && (s.rst.keeperDown || s.rst.combDown)
      match r with
      | .full | .device => bigReset s1 src r
      | .keeper =>
        if s.rst.phase ≠ .running then noteCause (modRst s1 fun x => { x with phase := .keeperBoot }) true src r
        else if s.rst.keeperDown then noteCause s1 false src r
        else keeperReset (noteCause s1 (!inOne) src r)
      | .comb => if s.rst.combDown then noteCause s1 false src r else combBegin (noteCause s1 (!inOne) src r)

/-- The raised sources of faults are served (12 R274, 13 R296). -/
def serveRaised (s : State) : State :=
  s.rst.raised.foldl (fun t src => assertSource t src (mappedReach t src)) (modRst s fun x => { x with raised := [] })

/-! ### Sources from outside -/

/-- POR (R373, R381): the supplies stand above their power-on thresholds. With no battery the backup domain has lost its contents. -/
def porAsserts (s : State) (v : Supplies) : State :=
  if v.vcore < Config.vcorePowerOn ∨ v.vddio < Config.vddioPowerOn ∨ v.vdd18 < Config.vdd18PowerOn then s
  else
    let i := stickIndex .root 0x1000 0
    let s1 : State := if 2000000 ≤ v.vbat ∧ v.vbat ≤ 3600000 then s
      else { s with dict := (s.dict.filter fun e => !backupKey e.1) }.setN 0 (0x0B1000 + i / 32) (clrBit (s.n 0 (0x0B1000 + i / 32)) (i % 32))
    assertSource (modRst s1 fun x => { x with sources := [], stretch := x.stretch || x.phase == .inReset, quadrants := [] }) .por .full

/-- BOR_CORE. -/
def borCoreAsserts (s : State) (v : Supplies) : State := if v.vcore < Config.vcoreBrownOut then assertSource s .borCore .full else s

/-- BOR_IO. -/
def borIoAsserts (s : State) (v : Supplies) : State :=
  if v.vddio < Config.vddioBrownOut ∨ v.vdd18 < Config.vdd18BrownOut then assertSource s .borIo .full else s

/-- PIN: ignored for 5 µs after the device has released nRST (R380). -/
def pinAsserts (s : State) : State := if s.time.uptime < s.rst.nRstIgnored then s else assertSource s .pin (mappedReach s .pin)

/-- KEEPER_WDG. -/
def keeperWdgAsserts (s : State) : State := assertSource s .keeperWdg s.rst.fuses.keeperWdg

/-- DEBUG: only while JTAG is unlocked (R389). -/
def debugAsserts (s : State) : State := if s.rst.jtag.isSome then assertSource s .debug s.rst.fuses.debug else s

/-- THERMAL: above 125 °C. -/
def thermalAsserts (s : State) (mc : Int) : State :=
  let s1 := modRst s fun x => { x with junction := mc }
  if 125000 < mc then assertSource s1 .thermal s.rst.fuses.thermal else s1

/-- ResetRequest (R376): refused where the fuse mask does not permit the reach; else the reset acts once the reply has left. -/
def resetRequest (s : State) (r : Reach) (o : Option Origin) : Nat × State :=
  if !bitOf s.rst.fuses.swMask (reachCode r) then (stRange, s) else (stOk, modRst s fun x => { x with swReach := some (r, o) })

/-- The reply to a write has left. -/
def replyLeft (s : State) (o : Option Origin) : Bool :=
  match o with
  | none => true
  | some o => match s.slot o.slot with
    | .opened ss => ss.sid != o.sid || !ss.inflight.any fun q => q.req == o.req
    | _ => true

/-- A software reset whose reply has left acts. -/
def serveSoftware (s : State) : State :=
  match s.rst.swReach with
  | none => s
  | some (r, o) => if replyLeft s o then assertSource (modRst s fun x => { x with swReach := none }) .swReq r else s

/-- A source deasserts; with the last one the stretch starts (R380). -/
def sourceDeassert (s : State) (src : ResetSource) : State :=
  let l := s.rst.sources.filter (· != src)
  modRst s fun x => { x with sources := l, stretch := x.stretch || (x.phase == .inReset && l.isEmpty) }

/-! ### The fuse table (R377, R378) -/

/-- The check of a row holds. -/
def fuseCheckOk (r : FuseRow) : Bool := (crcBits 8 0x2F 0xFF (msbBits 32 r.data)).xor 0xFF == r.check

/-- Field i of the reach map. -/
def reachField (d i : Nat) : Nat := d / 16 ^ i % 16

/-- The codes of row 18 are ones that Table 17-2 allows: PIN FULL or DEVICE; KEEPER_WDG FULL, DEVICE or KEEPER; FATAL, VEIL_REQ and THERMAL
FULL or DEVICE; DEBUG any. -/
def reachMapOk (d : Nat) : Bool :=
  decide (reachField d 0 ≤ 1 ∧ reachField d 1 ≤ 2 ∧ reachField d 2 ≤ 1 ∧ reachField d 3 ≤ 1 ∧ reachField d 4 ≤ 3 ∧ reachField d 5 ≤ 1)

/-- A reach by its code. -/
def reachOfCode (c : Nat) : Reach := match c with | 0 => .full | 1 => .device | 2 => .keeper | _ => .comb

/-- Row r of what the array reads; a row that is not given reads as nothing and fails. -/
def fuseRowFails (rows : List FuseRow) (r : Nat) : Bool :=
  match rows[r]? with
  | none => true
  | some x => !fuseCheckOk x || (r == 18 && !reachMapOk x.data)

/-- The data of a row. -/
def fuseData (rows : List FuseRow) (r : Nat) : Nat := ((rows[r]?).map FuseRow.data).getD 0

/-- The bits of the rows of a range that fail. -/
def fuseFailed (rows : List FuseRow) (lo hi : Nat) : Nat := bitsToNat ((List.range 32).map fun r => decide (lo ≤ r ∧ r ≤ hi) && fuseRowFails rows r)

/-- The AON shadow that a fuse load leaves. -/
def loadFuses (rows : List FuseRow) : FuseS :=
  let m := fuseData rows 18
  let o := fuseData rows 19
  let s0 : FuseS := {}
  let s1 : FuseS := if fuseRowFails rows 18 then s0
    else { s0 with
      pin := reachOfCode (reachField m 0)
      keeperWdg := reachOfCode (reachField m 1)
      fatal := reachOfCode (reachField m 2)
      veilReq := reachOfCode (reachField m 3)
      debug := reachOfCode (reachField m 4)
      thermal := reachOfCode (reachField m 5) }
  let s2 : FuseS := if fuseRowFails rows 19 then s1
    else { s1 with swMask := o % 16, jtag := bitOf o 4, polarity := if bitOf o 5 then 1 else 0 }
  { s2 with
    trimFailed := fuseFailed rows 0 17
    optionFailed := fuseFailed rows 18 31
    salt := [10, 11, 12, 13].flatMap fun r => leBytes 4 (fuseData rows r)
    serial := [14, 15, 16, 17].flatMap fun r => leBytes 4 (fuseData rows r) }

/-- Fuse load ends (R378, R388 step 1): nRST is released. -/
def fuseLoadDone (s : State) (rows : List FuseRow) : State :=
  if s.rst.phase ≠ .fuseLoad then s
  else
    let f := loadFuses rows
    powerDomains (modRst s fun x => { x with fuses := f, limp := f.trimFailed != 0, phase := .keeperBoot, nRstLow := false, nRstIgnored := s.time.uptime + 80000 })

/-! ### Address in force (02 R36, R37) -/

/-- The serial number without its padding. -/
def serialBytes (s : State) : Bytes :=
  let b := if s.rst.fuses.serial.isEmpty then (List.range 16).map (Config.factoryByte 2) else s.rst.fuses.serial
  (b.reverse.dropWhile (· == 0)).reverse

/-- #0003 DeviceSalt: 16 bytes of the fuses. -/
def saltBytes (s : State) : Bytes :=
  if s.rst.fuses.salt.isEmpty then (List.range 16).map (Config.factoryByte 3) else s.rst.fuses.salt

/-- The commissioning address (02 R37). -/
def commissionAddr (s : State) : Nat :=
  let k := fspCrc (serialBytes s)
  169 * 2 ^ 24 + 254 * 2 ^ 16 + (1 + k / 256 % 254) * 256 + (1 + k % 256 % 254)

/-- The stored network settings come into force; with no address stored the device probes for the commissioning address. -/
def netUp (s : State) : State :=
  let a := s.n 0 0x010100
  let s1 := { s with
    ipv4 := a
    lfpPort := s.n 0 0x010000
    linkLocal := false
    netMask := if a = 0 then 0xFFFF0000 else s.n 0 0x010200
    gateway := if a = 0 then 0 else s.n 0 0x010300 }
  if a = 0 then s1.emit (.arpProbes (commissionAddr s)) else s1

/-- The outcome of three probes, or of a later answer for the address (02 R37). -/
def commissionProbe (s : State) (answered : Bool) : State :=
  if s.ipv4 ≠ 0 ∨ s.rst.phase ≠ .running then s
  else if answered then { s with linkLocal := false }.emit (.arpProbes (commissionAddr s))
  else { s with linkLocal := true }

/-! ### Start-up, and the ends of KEEPER and COMB resets (R382, R383, R388) -/

/-- RESET_REPORT. -/
def resetReport (s : State) : State :=
  publish s 0 0x1001 (leBytes 1 (s.n 0 0x100100) ++ leBytes 1 (s.n 0 0x100200) ++ leBytes 4 (s.n 0 0x100000) ++ leBytes 1 (s.n 0 0x100300))

/-- What waited for the dictionary is published. -/
def flushDue (s : State) : State :=
  s.rst.due.foldl (fun t e => publish t 0 e.1 e.2) (modRst s fun x => { x with due := [] })

/-- The keeper's ROM boot ends; a confirmed slot whose signature fails does not run (R388 step 2). -/
def keeperBootDone (s : State) (ok : Bool) : State :=
  if s.rst.phase ≠ .keeperBoot ∨ (!ok ∧ !onTrial s) then s
  else modRst (bootSlot s ok) fun x => { x with phase := .replay, replayStart := s.time.uptime }

/-- Journal replay ends: the plan is applied and the dictionary is ready (R388 steps 3 and 4). A commit that a reset ended is reported as
failed (04 R118). -/
def journalReplayDone (s : State) : State :=
  if s.rst.phase ≠ .replay then s
  else
    let s1 := (powerDomains (replay s)).setN 0 0x0F0800 ((s.time.uptime - s.rst.replayStart) / quantaPerUs)
    let s2 := match s1.nva.plan with
      | some p => if limp s1 ∨ s1.journal.retirementsLost then s1 else applyPlan s1 p
      | none => s1
    let s3 := netUp (modRst (allSleeves.foldl acquire ((List.range 16).foldl pinIdle s2)) fun x => { x with phase := .running })
    let s4 := resetReport s3
    let s5 := s4.rst.commitOpen.foldl (fun t j => commitOutcome t 0x0712 0x078A00 (leBytes 1 j ++ [1]) j [] .none)
      (modRst s4 fun x => { x with commitOpen := [] })
    let s6 := if s5.rst.limp then publish s5 0 0x1002 (leBytes 4 s5.rst.fuses.trimFailed) else s5
    let s7 := if s6.rst.fuses.optionFailed ≠ 0 then publish s6 0 0x1003 (leBytes 4 s6.rst.fuses.optionFailed) else s6
    veilComesUp (flushDue s7)

/-- The keeper has resumed after a KEEPER reset; a rendering that it broke off starts again (16 R363). -/
def keeperResetDone (s : State) (ok : Bool) : State :=
  if !s.rst.keeperDown ∨ s.rst.stretch ∨ (!ok ∧ !onTrial s) then s
  else
    let s1 := modRst (bootSlot s ok) fun x => { x with keeperDown := false }
    let s2 := if s1.journal.rendering then startRender (modJournal s1 fun j => { j with rendering := false }) else s1
    flushDue (resetReport s2)

/-- A COMB reset ends: the plan is applied again (R383 step 6). -/
def combEnd (s : State) : State :=
  let s1 := modRst s fun x => { x with combDown := false }
  let s2 := match s1.plan with
    | some p => applyPlan s1 p
    | none => s1
  resetReport (closeShadow s2 0x30000 (2000 * quantaPerUs))

/-- The stretch ends (R380). -/
def stretchEnd (s : State) : State :=
  if !s.rst.stretch then s
  else
    let s1 := modRst s fun x => { x with stretch := false }
    if s.rst.phase = .inReset then
      if s.rst.reach = .full then modRst s1 fun x => { x with phase := .fuseLoad }
      else powerDomains (modRst s1 fun x => { x with phase := .keeperBoot, nRstLow := false, nRstIgnored := s.time.uptime + 80000 })
    else if s.rst.combDown then combEnd s1
    else s1

/-! ### PFAIL (16 R365) -/

/-- PFAIL is acted on: the domains go off, the record in flight completes, the NVA is parked. The field die keeps its own supply. -/
def pfail (s : State) : State :=
  let s1 := wiped (cutJournal s)
  let s2 : State := { s1 with field := s.field, dict := resetDict s fun u => u == fieldUnit }
  let s3 := (allSleeves ++ [0x500, 0x501, veilUnit]).foldl (fun t u => if t.st u = usRetired then t else t.setN u 0x030000 usOff) s2
  modRst s3 fun x => { x with phase := .powerFail, domainsOff := true, sources := s.rst.sources, quadrants := [] }

/-! ### Drain (R384) -/

/-- The condition of Table 17-6. -/
def idleForDrain (s : State) (u : Nat) : Bool :=
  let st := s.st u
  match kindOf u with
  | some .cell => (st == usDisabled || st == usReady || st == usFault) && (s.cell u).work.role == .none && !s.rehousings.any fun r => r.target == some u
  | some .sleeve => st == usDisabled || st == usFault
  | some .recorder => st == usDisabled || st == usFault || (st == usReady && (s.rec' u).buffer.isEmpty)
  | some .can => st == usDisabled || st == usFault || (st == usReady && !onBus s u)
  | _ => false

/-- #1012 DrainState. -/
def drainState (s : State) (u : Nat) : Nat := if !draining s u then 0 else if idleForDrain s u then 2 else 1

/-- DrainRequest 1. -/
def drainStart (s : State) (u : Nat) : Nat × State :=
  if s.st u = usRetired ∨ s.rehousings.any (fun r => r.failed == u && r.replaces.isSome) then (stWrongState, s)
  else if draining s u then (stOk, s)
  else (stOk, watchReserve (drainMove (s.setN u 0x101200 1) u))

/-- DrainRequest 2: a move that has not switched yet is given up, and the cell readied for it goes back. -/
def drainCancel (s : State) (u : Nat) : Nat × State :=
  if s.st u = usRetired ∨ s.rehousings.any (fun r => r.failed == u && r.replaces.isSome) then (stWrongState, s)
  else
    let mine := s.rehousings.filter fun r => r.kind == .drain && r.failed == u
    let s1 := { s.setN u 0x101200 0 with rehousings := s.rehousings.filter fun r => !(r.kind == .drain && r.failed == u) }
    (stOk, watchReserve (mine.foldl (fun t r => match r.target with | some c => setUnit true t c usReady | none => t) s1))

/-- DRAIN_IDLE: the condition of Table 17-6 holds; a recorder's or controller's stop that waited for it is over. -/
def drainIdle (s : State) (u : Nat) : State := if drainState s u = 2 then s.setN u 0x101200 2 else s

/-! ### Unit reset (R385) -/

/-- The dictionary of a unit after its reset: J values, the asserted sources and the unit's state stay; the rest is at its default. -/
def unitDict (s : State) (u : Nat) : NMap Val :=
  let k := (kindOf u).getD .cell
  s.dict.filter fun e =>
    e.1 / 2 ^ 24 != u || (let o := e.1 / 256 % 2 ^ 16; o == 0x300 || o == 0xB01 || ((rowOf k o (e.1 % 256)).map ObjRow.jour).getD false)

/-- The unit's logic restarts. -/
def unitRestart (s : State) (u : Nat) : State :=
  let s1 := setUnit true (keepSaturation s { s with dict := unitDict s u } u) u usDisabled
  let s2 := match kindOf u with
    | some .cell =>
      let t := s1.setCell u { selfTest := true }
      (neighbours u).foldl (fun t n => openShadow t n (0x20000 + u) [5, 6]) t
    | some .sleeve =>
      let t := openShadow s1 u (0x20000 + u) [3, 4, 5, 6, 7, 8, 9]
      let a := axisOf t u
      let t1 := if a = 0 then t else openShadow t a (0x20000 + u) [0, 1]
      let f := (t1.sleeve u).fb
      let t2 := acquire (hem (t1.setSleeve u { fb := { a := f.a, b := f.b, z := f.z, c := f.c } }) u) u
      let t3 := (groupsOfSleeve t2 u).foldl (fun t g => if (t.group g).high then decideSto t g 7 else modGroup t g fun x => { x with releasing := false }) t2
      let t4 := closeShadow (putMeasured t3 u (t3.i u 0x052300)) (0x20000 + u) (1000 * quantaPerUs)
      (List.range 3).foldl (fun t b => if faultBit s u 0xB01 b then tripIn t u b else t) t4
    | some .recorder => s1.setRec u {}
    | some .can => canReset s1 u
    | _ => s1
  publish (bump s2 0 0x101500) u 0x1004 []

/-- UnitReset: its status and what it does (R385). -/
def unitReset (s : State) (u : Nat) : Nat × State :=
  if s.st u = usRetired then (stWrongState, s)
  else if drainState s u ≠ 2 then (stRefusedBusy, s)
  else (stOk, unitRestart s u)

/-! ### JTAG and temperature (R389, R390) -/

/-- JtagUnlock by a session. -/
def jtagUnlock (s : State) (slot : Nat) : Nat × State :=
  if !s.rst.fuses.jtag then (stRange, s) else (stOk, modRst s fun x => { x with jtag := some slot })

/-- A session has ended: the JTAG port that it unlocked is locked. -/
def jtagSessionEnded (s : State) (slot : Nat) : State := if s.rst.jtag = some slot then modRst s fun x => { x with jtag := none } else s

/-- THERMAL_HIGH: above 115 °C. -/
def thermalHigh (s : State) (mc : Int) : State :=
  let s1 := modRst s fun x => { x with junction := mc }
  if 115000 < mc ∧ s.rst.thermalArmed then
    publish (bump (modRst s1 fun x => { x with thermalArmed := false }) 0 0x102200) 0 0x1005 (leBytes 4 (fOfRat b32s ((mc : Rat) / 1000)))
  else s1

/-- Below 110 °C THERMAL_HIGH is armed again. -/
def thermalRearm (s : State) (mc : Int) : State :=
  modRst s fun x => { x with junction := mc, thermalArmed := x.thermalArmed || decide (mc < 110000) }

/-! ### Firmware (16 R368) -/

/-- FirmwareApply with the outcome of the signature check: its status, the trial slot in the anchor, and the KEEPER reset, which no source of
Table 17-2 asserts. -/
def firmwareApply (s : State) (signatureOk : Bool) : Nat × State :=
  if onTrial s then (0x21, s)
  else if !signatureOk then (0x20, s)
  else (stOk, writeAnchor s fun a => { a with trialSlot := otherSlot s })

/-- The keeper restarts into the trial slot. -/
def firmwareRestart (s : State) : State := keeperReset (s.setN 0 0x100200 2)

end Sys2Proof.Machine
end

