-- ==== Sys2Proof/Machine/Session.lean ====
section
/-! DEFINITION. LFP: datagrams, opening and ending of sessions, the request window, waggles, ARP and ICMP (02 R36 to R59, R410). -/

namespace Sys2Proof.Machine

/-! ### Datagrams (R38 to R41) -/

/-- Message kinds of Table 2-2. -/
def mkOpen : Nat := 0x01
def mkChallenge : Nat := 0x02
def mkProof : Nat := 0x03
def mkOpenOk : Nat := 0x04
def mkOpenFail : Nat := 0x05
def mkClose : Nat := 0x06
def mkKeepalive : Nat := 0x07
def mkRead : Nat := 0x10
def mkWrite : Nat := 0x11
def mkStage : Nat := 0x12
def mkCommit : Nat := 0x13
def mkRevoke : Nat := 0x14
def mkReply : Nat := 0x1F
def mkWaggle : Nat := 0x20
def mkWaggleAck : Nat := 0x21
def mkPdOut : Nat := 0x30
def mkPdIn : Nat := 0x31

/-- The kinds that a host or a peer sends. -/
def hostKinds : List Nat := [mkOpen, mkProof, mkClose, mkKeepalive, mkRead, mkWrite, mkStage, mkCommit, mkRevoke, mkWaggleAck, mkPdOut, mkPdIn]

/-- The parts of a datagram that its service uses (Table 2-1). -/
structure Lfp where
  kind : Nat
  sid : Nat
  seq : Nat
  payload : Bytes
deriving DecidableEq, Repr

/-- Read a datagram: the counter that a discard counts in, or its parts (R38, R41). The Check is the last four bytes. -/
def readLfp (b : Bytes) : Except Nat Lfp :=
  let n := b.length
  if n < 24 ∨ 1472 < n then .error 0x011100
  else if crc32c (b.take (n - 4)) ≠ fieldLE b (n - 4) 4 then .error 0x011000
  else if fieldLE b 0 1 ≠ 1 ∨ fieldLE b 16 2 ≠ n - 24 ∨ !hostKinds.contains (fieldLE b 1 1) then .error 0x011100
  else .ok { kind := fieldLE b 1 1, sid := fieldLE b 4 8, seq := fieldLE b 12 4, payload := (b.drop 20).take (n - 24) }

/-- Number a precedes number b by the serial arithmetic of R71, 32 bits. -/
def precedes32 (a b : Nat) : Bool := decide (0 < (b + 2 ^ 32 - a) % 2 ^ 32 ∧ (b + 2 ^ 32 - a) % 2 ^ 32 < 2 ^ 31)

/-! ### Session slots -/

/-- The slot of an open session with this identifier. -/
def sessionBySid (s : State) (sid : Nat) : Option (Nat × Session) :=
  s.slots.findSome? fun e => match e.2 with
    | .opened ss => if ss.sid = sid then some (e.1, ss) else none
    | _ => none

/-- The slot of a session that a datagram comes from: identifier, address and port (R50). -/
def sessionOf (s : State) (src : Src) (sid : Nat) : Option (Nat × Session) :=
  (sessionBySid s sid).filter fun e => e.2.src == src

/-- A pending challenge by its identifier: slot, level, source, challenge. -/
def challengeBySid (s : State) (sid : Nat) : Option (Nat × Nat × Src × Bytes) :=
  s.slots.findSome? fun e => match e.2 with
    | .challenge l src x b => if x = sid then some (e.1, l, src, b) else none
    | _ => none

/-- Change an open session. -/
def modSession (s : State) (i : Nat) (f : Session → Session) : State :=
  match s.slot i with
  | .opened ss => s.setSlot i (.opened (f ss))
  | _ => s

/-- A free slot, the lowest. -/
def freeSlot (s : State) : Option Nat := (List.range 16).find? fun i => s.slot i == .free

/-- An event is let go by a session: it leaves the queue when no session holds it any more (R58). -/
def releaseEvents (s : State) (i : Nat) (p : QEvent → Bool) : State :=
  { s with events := (s.events.map fun e => if p e then { e with holders := e.holders.filter (· != i) } else e).filter fun e => !e.holders.isEmpty }

/-- A session ends (R51): its slot is free, its waggles leave the queue (R58), streams to it stop (11 R259), a JTAG port that it unlocked is
locked (17 R389), and the slot's subscription returns to its default. -/
def endSession (s : State) (i : Nat) : State :=
  match s.slot i with
  | .opened _ =>
    let s1 := releaseEvents (s.setSlot i .free) i fun _ => true
    jtagSessionEnded (streamSessionEnded (s1.setN 0 (0x002500 + i) 0xFFFFFFFF) i) i
  | _ => s

/-! ### Opening (R49, R53, R54) -/

/-- Send OPEN_FAIL. -/
def openFail (s : State) (dst : Src) (sid status : Nat) : State := s.emit (lfpSent dst mkOpenFail 0 sid 0 (leBytes 1 status))

/-- Quanta of powered time in a minute. -/
def minuteQ : Nat := 960000000000

/-- OPEN_FAIL with AUTH_FAILED: counted, and noted against its source address unless the address is barred (R54). -/
def authFailed (s : State) (dst : Src) (sid : Nat) (note : Bool) : State :=
  let s1 := openFail (bump s 0 0x002100) dst sid 0x18
  if !note then s1
  else
    let recent := s.time.uptime :: (mapGet [] s.authFails dst.addr).filter fun t => decide (s.time.uptime ≤ t + minuteQ)
    if 8 ≤ recent.length then
      { s1 with authFails := mapPut [] s1.authFails dst.addr [], authBars := mapPut 0 s1.authBars dst.addr (s.time.uptime + minuteQ) }
    else { s1 with authFails := mapPut [] s1.authFails dst.addr recent }

/-- The OPEN_OK of a session. -/
def sendOpenOk (s : State) (i : Nat) (ss : Session) (again : Bool) : State :=
  s.emit (lfpSent ss.src mkOpenOk ((if again then 1 else 0) + (if ss.keyless then 2 else 0)) ss.sid 0
    (leBytes 1 i ++ leBytes 1 ss.level ++ leBytes 1 32 ++ leBytes 1 8))

/-- A session opens in a slot. -/
def openIn (s : State) (i level : Nat) (keyless : Bool) (src : Src) (sid : Nat) : State :=
  let ss : Session := { level := level, keyless := keyless, src := src, sid := sid }
  sendOpenOk ((s.setSlot i (.opened ss)).setN 0 (0x002500 + i) 0xFFFFFFFF) i ss false

/-- The draw is one the device makes: not zero, held by no session or challenge, 32 bytes of challenge. -/
def drawOk (s : State) (d : OpenDraw) : Bool :=
  d.sid != 0 && decide (d.sid < 2 ^ 64) && d.challenge.length == 32 && (sessionBySid s d.sid).isNone && (challengeBySid s d.sid).isNone

/-- OPEN. -/
def openServe (s : State) (src : Src) (payload : Bytes) (d : OpenDraw) : State :=
  let level := fieldLE payload 0 1
  let key := mapGet [] s.keys level
  if s.time.uptime < mapGet 0 s.authBars src.addr then authFailed s src 0 false
  else if payload.length ≠ 4 ∨ !zeros payload 1 3 ∨ 4 < level then openFail s src 0 stBadRequest
  else if key = [] ∧ level = 3 then openFail s src 0 0x17
  else match freeSlot s with
    | none => openFail s src 0 0x19
    | some i =>
      if !drawOk s d then s
      else if key = [] then openIn s i level true src d.sid
      else (s.setSlot i (.challenge level src d.sid d.challenge)).emit (lfpSent src mkChallenge 0 d.sid 0 d.challenge)

/-- PROOF; one that names no session and no challenge is answered with its own Sequence (R50). -/
def proofServe (s : State) (src : Src) (sid seq : Nat) (payload : Bytes) : State :=
  match sessionOf s src sid with
  | some (i, ss) => sendOpenOk s i ss true
  | none =>
    match (challengeBySid s sid).filter fun c => c.2.2.1 == src with
    | none => s.emit (lfpSent src mkOpenFail 0 sid seq (leBytes 1 stNoSession))
    | some (i, level, _, ch) =>
      if payload = hmac (mapGet [] s.keys level) ch then openIn s i level false src sid
      else authFailed (s.setSlot i .free) src sid true

/-- No matching PROOF within 2 s of the CHALLENGE. -/
def challengeExpires (s : State) (i : Nat) : State :=
  match s.slot i with
  | .challenge _ src sid _ => authFailed (s.setSlot i .free) src sid true
  | _ => s

/-! ### The request window (R43, R50) -/

/-- Take the held requests that have become due into number order. -/
def drainHeld : Nat → Session → Session
  | 0, ss => ss
  | n + 1, ss =>
    match ss.held.find? fun h => h.req == ss.expect with
    | none => ss
    | some h => drainHeld n { ss with
        expect := (ss.expect + 1) % 2 ^ 32
        ready := ss.ready ++ [h]
        held := ss.held.filter fun x => x.req != h.req }

/-- A request with a number reaches its session: taken, held, answered from the stored replies, or discarded (R43). -/
def requestArrives (s : State) (i : Nat) (ss : Session) (kind seq : Nat) (payload : Bytes) : State :=
  let d := (seq + 2 ^ 32 - ss.expect) % 2 ^ 32
  let h : Held := { req := seq, kind := kind, payload := payload }
  if d = 0 then s.setSlot i (.opened (drainHeld 8 { ss with expect := (ss.expect + 1) % 2 ^ 32, ready := ss.ready ++ [h] }))
  else if d ≤ 7 then
    if ss.held.any fun x => x.req == seq then s else s.setSlot i (.opened { ss with held := ss.held ++ [h] })
  else if 2 ^ 32 - 8 ≤ d then
    match ss.stored.find? fun r => r.1 == seq with
    | some r => s.emit (lfpSent ss.src mkReply 1 ss.sid seq r.2)
    | none => s
  else s

/-- The answer to a request that comes from no session (R50). -/
def noSession (s : State) (src : Src) (d : Lfp) : State :=
  let reply (l : List Nat) : State := s.emit (lfpSent src mkReply 0 d.sid d.seq (l.flatMap fun st => itemBytes { status := st }))
  let k := d.kind
  if k = mkRead ∨ k = mkWrite ∨ k = mkStage then
    match parseItems (k == mkRead) d.payload with
    | none => reply [stBadRequest]
    | some its => reply (its.map fun it => if itemMalformed (k == mkStage) it then stBadRequest else stNoSession)
  else if k = mkCommit ∨ k = mkRevoke then reply [stNoSession]
  else if k = mkClose then reply []
  else s

/-! ### Waggles (R55 to R59) -/

/-- The WAGGLE payload of an event (Table 2-8). -/
def wagglePayload (e : QEvent) : Bytes :=
  leBytes 1 1 ++ leBytes 1 0 ++ leBytes 2 e.fseq ++ leBytes 2 e.code ++ leBytes 2 e.data.length ++ leBytes 8 e.time ++ leBytes 4 e.beat
    ++ leBytes 2 e.unit ++ e.data

/-- Send the next waggle of a session, while the window lets it (R56). One whose number has been acknowledged already is let go at once. -/
def waggleSendNext (s : State) (i : Nat) : State :=
  match s.slot i with
  | .opened ss =>
    match ss.unsent with
    | [] => s
    | x :: rest =>
      let d := (ss.delivered + 1) % 2 ^ 32
      if precedes32 ((ss.acked + 32) % 2 ^ 32) d then s
      else match s.events.find? fun e => e.serial == x with
        | none => s.setSlot i (.opened { ss with unsent := rest })
        | some e =>
          let now := precedes32 ss.acked d
          let t := (s.setSlot i (.opened { ss with unsent := rest, delivered := d, outstanding := if now then ss.outstanding ++ [(d, x)] else ss.outstanding })).emit
            (lfpSent ss.src mkWaggle 0 ss.sid d (wagglePayload e))
          if now then t else releaseEvents t i fun y => y.serial == x
  | _ => s

/-- Resend the unacknowledged waggles of a session (R56). -/
def waggleResend (s : State) (i : Nat) : State :=
  match s.slot i with
  | .opened ss => ss.outstanding.foldl (fun t o =>
      match s.events.find? fun e => e.serial == o.2 with
      | some e => t.emit (lfpSent ss.src mkWaggle 1 ss.sid o.1 (wagglePayload e))
      | none => t) s
  | _ => s

/-- WAGGLE_ACK with a number (R56, R58): every number up to it is acknowledged; one that does not advance is ignored. -/
def waggleAcked (s : State) (i : Nat) (ss : Session) (a : Nat) : State :=
  if !precedes32 ss.acked a then s
  else
    let mine := ss.outstanding.filter fun o => !precedes32 a o.1
    releaseEvents (s.setSlot i (.opened { ss with acked := a, outstanding := ss.outstanding.filter fun o => precedes32 a o.1 })) i
      fun e => mine.any fun o => o.2 == e.serial

/-- Append the GAPs of one face while the queue has room: the state, and whether every GAP of the face has been appended (R59). -/
def gapsOf : Nat → State → Nat → State × Bool
  | 0, s, _ => (s, false)
  | n + 1, s, u =>
    let l := mapGet {} s.lost u
    if l.count = 0 then (s, true)
    else if Config.eventQueueBytes < queueUse s + gapBytes then (s, false)
    else
      let k := min l.count 65535
      let (f, s1) := takeFaceSeq s u
      let s2 := { s1 with lost := mapPut {} s1.lost u (if l.count = k then {} else { first := (l.first + k) % 65536, count := l.count - k }) }
      let hs := selectors s 0x0001
      let s3 := if hs.isEmpty then s2 else enqueueEvent s2 u 0x0001 (leBytes 2 l.first ++ leBytes 2 k) f hs
      gapsOf n s3 u

/-- Append the GAPs that wait, in ascending order of unit number, while they fit (R59). -/
def appendGaps (s : State) : State :=
  ((s.lost.map Prod.fst).foldl (fun (r : State × Bool) u => if r.2 then gapsOf ((mapGet {} s.lost u).count / 65535 + 2) r.1 u else r) (s, true)).1

/-! ### ARP and ICMP (R36, R37) -/

/-- The address at which the device answers: the one applied, or the commissioning address once it holds it. -/
def ownAddr (s : State) : Option Nat :=
  if s.rst.phase ≠ .running then none else if s.ipv4 ≠ 0 then some s.ipv4 else if s.linkLocal then some (commissionAddr s) else none

/-- A datagram that reaches the device: sent to its address and to the port it listens on, and no fragment (R36). -/
def reaches (s : State) (d : Dgram) : Bool := ownAddr s == some d.dst.addr && d.dst.port == s.lfpPort && !d.fragment

/-- An ARP request. -/
def arpServe (s : State) (r : ArpRequest) : State :=
  if ownAddr s = some r.targetIp then s.emit (.arpReply r.senderMac r.senderIp r.targetIp) else s

/-- An ICMP echo request; a fragment is discarded. -/
def icmpServe (s : State) (e : IcmpEcho) : State :=
  if ownAddr s = some e.dst ∧ !e.fragment then s.emit (.icmpReply e.src e.ident e.seq e.data) else s

end Sys2Proof.Machine
end

