-- ==== Sys2Proof/Machine/Write.lean ====
section
/-! DEFINITION. What a dictionary write does: the check that is the unit's own (02 Table 2-5), the effect, and the way a write takes to it: at
once, through the queue of its serving cell (01 OP1), at the next beat start (01 R30) or with its journal record (00 R8). -/

namespace Sys2Proof.Machine

/-! ### Process maps (02 R61, R62) -/

/-- The bytes of a map image: the first element fills its 4,096 bytes. -/
def mapImage (s : State) (o : Nat) : Bytes :=
  let a := s.bs 0 (o * 256)
  a ++ List.replicate (4096 - a.length) 0 ++ s.bs 0 (o * 256 + 1)

/-- Entry i of a map image. -/
def mapEntryAt (b : Bytes) (i : Nat) : MapEntry :=
  { unit := fieldLE b (8 * i) 2, obj := fieldLE b (8 * i + 2) 2, elem := fieldLE b (8 * i + 4) 1, type := fieldLE b (8 * i + 5) 1,
    offset := fieldLE b (8 * i + 6) 2 }

/-- The entries in use of a map. -/
def mapEntries (s : State) (image count : Nat) : List MapEntry :=
  let b := mapImage s image
  (List.range (s.n 0 (count * 256))).map (mapEntryAt b)

/-- The object that a map entry names, with the unit that stores it. -/
def mapRow (s : State) (e : MapEntry) : Option (Nat × ObjRow) :=
  namedRow s e.unit e.obj e.elem

/-- An entry is one of R62. -/
def mapEntryOk (s : State) (rx : Bool) (e : MapEntry) : Bool :=
  match mapRow s e with
  | none => false
  | some (_, r) =>
    r.ty.scalar && r.ty.code == e.type && decide (e.offset + r.ty.size ≤ 8192)
      && (if rx then r.acc == .rw || r.acc == .w else r.acc != .w)

/-- The fields of two entries share a byte. -/
def mapOverlap (a b : MapEntry) : Bool := decide (a.offset < b.offset + codeSize b.type ∧ b.offset < a.offset + codeSize a.type)

/-- No two fields of a map overlap. -/
def mapDisjoint : List MapEntry → Bool
  | [] => true
  | e :: r => !r.any (mapOverlap e) && mapDisjoint r

/-- A map passes R62. -/
def mapOk (s : State) (rx : Bool) (l : List MapEntry) : Bool := l.all (mapEntryOk s rx) && mapDisjoint l

/-- #0234 CycleNumber of the beat in progress (03 R81). -/
def cycleNow (s : State) : Nat := s.beat.n / max 1 (s.n 0 0x023300) % 2 ^ 32

/-- PdMapApply: MAP_INVALID, or the reply with the cycle c, after which the new maps govern (R62). -/
def pdMapApply (s : State) : Option ItemReply × State :=
  let rx := mapEntries s 0x140 0x142
  let tx := mapEntries s 0x141 0x143
  if !mapOk s true rx || !mapOk s false tx then (some { status := stMapInvalid }, s)
  else
    let c := cycleNow s
    let s1 : State := { s with beat := { s.beat with mapNext := some (c, rx, tx), txNext := ([], []) } }
    (some { status := stOk, data := leBytes 4 c }, publish s1 0 0x0004 (leBytes 4 ((c + 1) % 2 ^ 32)))

/-! ### The unit's own check (02 Table 2-5) -/

/-- A BeatPeriod keeps the running plan and every sleeve's settings within the rules that 03 R82 names. -/
def beatPeriodOk (s : State) (v : Nat) : Bool :=
  let t := s.setN 0 0x023000 v
  (planSleeves s).all (fun p =>
      decide (40 * p.divider ≤ v ∧ v ≤ 4000 * p.divider) && decide (80 * planTicks p ≤ v))
  && ((List.range 32).all fun k => !frameTooLong t (0x101 + k)
      && decide (4 * (deadTime t (0x101 + k) + minPulse t (0x101 + k)) ≤ carrierQ t (0x101 + k)))
  && (match s.plan with
      | none => true
      | some p => (planImages p).all fun x =>
          ((roleCells p).find? fun c => c.cell == x.1.cell).any fun c => decide ((x.2.budget : Int) ≤ kernelShare t p c))

/-- The bounds that tie the timing objects and CommitMargin together, with a new value for one of them (03 R82). -/
def timingOk (s : State) (o v : Nat) : Bool :=
  let x (p : Nat) : Nat := timingWith s o v p
  timingBounds (planSleeves s) (x 0x230) (x 0x231) (x 0x233) (x 0x235) (x 0x236) (x 0x237) (x 0x320)
    && (o != 0x230 || beatPeriodOk s v)

/-- The divider may drive a pin pair: both pins are owned by the sleeve (09 R235). -/
def dividerPinsOk (s : State) (k p : Nat) : Bool := s.n 0 (0x092000 + p) == k && s.n 0 (0x092000 + p + 1) == k

/-- Objects that the length of a serial transaction depends on (09 R224). -/
def serialObjs : List Nat := [0x500, 0x506, 0x507, 0x508, 0x509, 0x50A, 0x50C, 0x50D, 0x50F]

/-- A stored value replaced: the running effect of a write to an object with no behaviour of its own (00 R7, 02 R67). -/
def plainWrite (s : State) (u o : Nat) (row : ObjRow) (w : Write) : State :=
  let k := o * 256 + w.elem
  if row.ty.scalar then s.setI u k (decodeNum row.ty w.data)
  else s.setBs u k (writePart (s.bs u k) w.data w.offset (w.last || row.ty == .str || (fixedSize o).isSome))

/-- Refusals of sleeve settings (08 R200, 09 R218, R224, R235). -/
def sleeveRefusal (s : State) (u o : Nat) (row : ObjRow) (w : Write) : Option Nat :=
  let v := leNat w.data
  let t := plainWrite s u o row w
  if (o = 0x420 ∨ o = 0x421) ∧ carrierQ s u < 4 * (deadTime t u + minPulse t u) then some stRange
  else if (o = 0x500 ∨ o = 0x501) ∧ fbKind t u = 2 ∧ fbCpr t u % 6 ≠ 0 then some stRange
  else if o = 0x553 ∧ !dividerPinsOk s u v then some 0x20
  else if o = 0x550 ∧ v = 1 ∧ !dividerPinsOk s u (s.n u 0x055300) then some 0x20
  else if serialObjs.contains o ∧ frameTooLong t u then some 0x42
  else none

/-- Refusals of root objects. -/
def rootRefusal (s : State) (o : Nat) (w : Write) : Option Nat :=
  let v := leNat w.data
  if timingObjs.contains o ∨ o = 0x320 then (if timingOk s o v then none else some stRange)
  else if o = 0x312 then (if s.st 0 ≠ usDisabled then some stWrongState else none)
  else if o = 0x787 then (if (s.commit.map fun c => c.job == w.elem).getD false then some stJobPending else none)
  else if 0x2000 ≤ o ∧ o < 0x2800 then camWriteRefusal s o w
  else if 0x2C00 ≤ o ∧ o < 0x3000 then camRefusal s (o - 0x2C00) v
  else if 0xF20 ≤ o ∧ o ≤ 0xF27 then (if onTrial s then some 0x21 else none)
  else if o = 0xF11 then (if s.journal.retirementsLost then none else some stWrongState)
  else if o = 0xB40 then (if (kindOf v).isNone then some stRange else retireRelease s v)
  else if o = 0x1003 then (if v = 0 then none else some stRange)
  else none

/-- The check that is the unit's own, before a write is taken: a status, or none. -/
def ownRefusal (s : State) (u o : Nat) (row : ObjRow) (w : Write) : Option Nat :=
  if u = 0 then rootRefusal s o w
  else if isSleeve u then sleeveRefusal s u o row w
  else if (o = 0x902 ∨ o = 0x930) ∧ leNat w.data = 1 ∧ !isLocal u then some stRange
  else if o = 0xA10 ∧ !conditionOk s u w.data then some stRange
  else if (o = 0xE01 ∨ o = 0xE03) ∧ !rateOk (leNat w.data) then some stRange
  else none

/-- The lower of two refusals (02 Table 2-5). -/
def lowerCode (a b : Option Nat) : Option Nat :=
  match a, b with
  | some x, some y => some (min x y)
  | some x, none => some x
  | none, y => y

/-- Refusals of a STAGE by the object's own chapter (05 R140, 07 R179). -/
def stageOwn (s : State) (u o : Nat) (data : Bytes) : Option Nat :=
  if o = 0x802 ∧ leNat data = 3 ∧ kindOf u ≠ some .virtAxis then some stRange
  else if o = 0x650 ∧ leNat data = 1 ∧
      (((((clusterPlan s u).map localMembers).getD []).map (servingCell s)).filter (· != 0)).dedup.length < 2 then some 0x20
  else none

/-! ### Effects -/

/-- A status with the state after it, as the reply of an item. -/
def withStatus (r : Nat × State) : Option ItemReply × State := (some { status := r.1 }, r.2)

/-- OK with the state after it. -/
def withOk (s : State) : Option ItemReply × State := withStatus (stOk, s)

/-- NetApply: the stored network settings come into force; every open session is closed, the writing one once it has its reply (02 R36). -/
def netApply (s : State) (o : Option Origin) : State :=
  (List.range 16).foldl (fun t i =>
    match t.slot i with
    | .opened ss =>
      if (o.map fun x => x.slot == i && x.sid == ss.sid).getD false then t.setSlot i (.opened { ss with closing := true })
      else endSession t i
    | .challenge .. | .free => t) (netUp s)

/-- Writes to the root that do something of their own; none where a write only stores. -/
def rootWrite (s : State) (o : Nat) (w : Write) : Option (Option ItemReply × State) :=
  let v := leNat w.data
  match o with
  | 0x104 => some (withOk (netApply s w.origin))
  | 0x230 | 0x231 => some (withOk { s.setN 0 (o * 256) v with beat := { s.beat with restart := true } })
  | 0x144 => some (pdMapApply s)
  | 0x920 | 0x921 => some (withOk (pinReset (s.setN 0 (o * 256 + w.elem) v) w.elem))
  | 0x245 => some (withStatus (timeOfDay s v))
  | 0x312 => some (none, s)
  | 0xF10 => some (withOk (renderNow s))
  | 0xF11 => some (withOk { s with journal := { s.journal with retirementsLost := false } })
  | 0xF30 => some (none, { s with journal := { s.journal with verifying := true } })
  | 0x1010 => some (withStatus (resetRequest s (reachOfCode (v - 1)) w.origin))
  | 0x1030 => some (withStatus (jtagUnlock s ((w.origin.map Origin.slot).getD 16)))
  | 0x1106 => some (withOk (s.setN 0 (0x110600 + w.elem) 0))
  | 0x110A => some (withOk (kernelRestart s w.elem))
  | 0x1111 => some (withStatus (kernelUpdate s v))
  | _ =>
    if 0x2000 ≤ o ∧ o < 0x2400 then
      some (withOk (camPointsWritten (s.setBs 0 (o * 256 + w.elem) (writePart (s.bs 0 (o * 256 + w.elem)) w.data w.offset w.last)) (o - 0x2000) w.elem w.offset
        w.data.length w.last))
    else if 0x2C00 ≤ o ∧ o < 0x3000 then some (withOk (camCommand s (o - 0x2C00) v))
    else if 0xF20 ≤ o ∧ o ≤ 0xF27 then some (withOk (firmwareWrite s o w.elem w.data w.offset w.last))
    else none

/-- A RemoteBeat has come: the remote value it completes has arrived, which the axis evaluates in its next beat (05 R140). -/
def remoteArrived (s : State) (u : Nat) : State :=
  let x := s.axis u
  s.setAxis u { x with follow := { x.follow with arrived := true } }

/-- QueueCommand (04 R105). -/
def queueCommand (s : State) (u v : Nat) : State := if v = 1 then queueFlush s u else queueAbort s u

/-- TorqueOffsetClear acts in the axis's next beat (07 R186). -/
def torqueOffsetClear (s : State) (u : Nat) : State := modEngine s u fun g => { g with clearAsked := true }

/-- Writes to an axis or cluster face that do something of their own. -/
def axisWrite (s : State) (u o : Nat) (row : ObjRow) (w : Write) : Option (Option ItemReply × State) :=
  let v := leNat w.data
  match o with
  | 0x606 => some (withOk (torqueOffsetClear s u))
  | 0x641 => some (withOk (bankRequest s u v))
  | 0x700 => some (withOk (setModulus s u v))
  | 0x710 => some (withStatus (segmentAppend s u w.data))
  | 0x712 => some (withOk (queueCommand s u v))
  | 0x811 => some (withOk (phaseTrimAdd s u (decodeNum .i64 w.data)))
  | 0x823 => some (withOk (remoteArrived (plainWrite s u o row w) u))
  | 0x933 => some (withStatus (compareAppend s u w.data))
  | 0x935 => some (withOk (compareFlush s u))
  | 0x936 => some (withOk (stickyClear s u 0x936 0 v))
  | _ => none

/-- Objects of a sleeve's decoder: writing them starts it anew (09 R214). -/
def decoderObj (o : Nat) : Bool := decide (0x500 ≤ o ∧ o ≤ 0x512) || decide (0x1120 ≤ o ∧ o ≤ 0x1122)

/-- The divider is enabled, or N or D changes: its remainder is cleared at the next sample (09 R234). -/
def dividerWritten (s : State) (u o : Nat) (row : ObjRow) (w : Write) : State :=
  let t := plainWrite s u o row w
  if t.i u (o * 256) = s.i u (o * 256) ∨ (o = 0x550 ∧ !t.b u (o * 256)) then t else modFb t u fun f => { f with divClear := true }

/-- Writes to a sleeve that do something of their own. -/
def sleeveWrite (s : State) (u o : Nat) (row : ObjRow) (w : Write) : Option (Option ItemReply × State) :=
  match o with
  | 0x442 => some (withStatus (tripClear s u))
  | 0x514 =>
    -- the reply to an accepted write comes with the transaction's end (09 R223)
    let r := registerWrite s u w
    some (if r.1 = stOk then none else some { status := r.1 }, r.2)
  | 0x550 => some (withOk (dividerWritten s u o row w))
  | 0x551 => some (withOk (dividerWritten s u o row w))
  | 0x552 => some (withOk (dividerWritten s u o row w))
  | _ => if decoderObj o then some (withOk (decoderWritten (plainWrite s u o row w) u)) else none

/-- Writes to the other units that do something of their own. -/
def otherWrite (s : State) (u o : Nat) (row : ObjRow) (w : Write) : Option (Option ItemReply × State) :=
  let v := leNat w.data
  match o with
  | 0xA10 => some (withOk (conditionWritten (plainWrite s u o row w) u w.elem (s.bs u (o * 256 + w.elem))))
  | 0xC05 =>
    let g := s.group w.elem
    some (none, s.setGroup w.elem { g with clears := g.clears ++ [w.origin] })
  | 0xD21 => some (withOk (outputMask s true v))
  | 0xD22 => some (withOk (outputMask s false v))
  | 0xE10 => some (withStatus (txSlotWrite s u w.elem w.data))
  | 0xE13 => some (withOk (txAbort s u v))
  | 0xE40 => some (withOk (refEnabled (plainWrite s u o row w) u))
  | _ => none

/-- DrainRequest (17 R384). -/
def drainCommand (s : State) (u v : Nat) : Nat × State := if v = 1 then drainStart s u else drainCancel s u

/-- Writes that every unit takes alike: sticky bits (12 R275), stick counters (02 R70), drain and UNIT reset (17 R384, R385). -/
def commonWrite (s : State) (u o : Nat) (row : ObjRow) (w : Write) : Option (Option ItemReply × State) :=
  let v := leNat w.data
  if o = 0xB00 ∨ o = 0xB02 then some (withOk (stickyClear s u o w.elem v))
  else if row.stick then some (withOk (clearStick s u (o * 256 + w.elem)))
  else if o = 0x1011 then some (withStatus (drainCommand s u v))
  else if o = 0x1013 then some (withStatus (unitReset s u))
  else none

/-- The effect of a write whose checks have passed: its reply, none where that comes later, and the state after it. -/
def writeEffect (s : State) (u o : Nat) (row : ObjRow) (w : Write) : Option ItemReply × State :=
  let own := (commonWrite s u o row w).orElse fun _ =>
    if u = 0 then rootWrite s o w
    else if isAxis u || isCluster u then axisWrite s u o row w
    else if isSleeve u then sleeveWrite s u o row w
    else otherWrite s u o row w
  own.getD (withOk (plainWrite s u o row w))

/-- Give a reply where there is one. -/
def replyWith (o : Option Origin) (r : Option ItemReply × State) : State :=
  match r.1 with
  | some x => answer r.2 o x
  | none => r.2

/-- Carry out a write on a unit and answer it. -/
def writeNow (s : State) (u o : Nat) (w : Write) : State :=
  match (kindOf u).bind fun k => objAt s u k o with
  | none => s
  | some row => replyWith w.origin (writeEffect s u o row w)

/-! ### The ways of a write -/

/-- Is the unit served by a cell (01 Table 1-6)? A sleeve is served with its axis. -/
def cellServed (u : Nat) : Bool := isAxis u || isRecorder u || isCluster u || isSleeve u

/-- The cell that a unit's writes wait for, 0 if none. -/
def cellOf (s : State) (u : Nat) : Nat :=
  if isSleeve u then (if axisOf s u = 0 then 0 else servingCell s (axisOf s u)) else servingCell s u

/-- The last part of a write to an element of varying length fixes its length (02 R67). -/
def endsElement (row : ObjRow) (o : Nat) (w : Write) : Bool := w.last || row.ty.scalar || row.ty == .str || (fixedSize o).isSome

/-- The record of a J write. -/
def writeRecord (u o : Nat) (row : ObjRow) (w : Write) : JRecord := valueRecord [u] o w.elem w.offset (endsElement row o w) w.data

/-- The refusal of a transaction for which the journal has no room (16 R362). -/
def fullRefusal (s : State) (rs : List JRecord) : Option Nat := if journalFull s rs then some stJournalFull else none

/-- Commands whose records are their own: LevelKey, RetireRelease, JobDiscard, CamCommand (16 Table 16-4). -/
def journaledCommand (s : State) (o : Nat) (w : Write) : Option (List JRecord × TxnAct) :=
  let v := leNat w.data
  if o = 0x010 then some ([itemRecord 1 (leBytes 1 w.elem ++ w.data)], .key w.elem w.data w.origin)
  else if o = 0xB40 then some ([itemRecord 3 (leBytes 2 v ++ [0])], .release v w.origin)
  else if o = 0x787 then some ([{ erase := true, space := 1, job := w.elem }], .discard w.elem w.origin)
  else if 0x2C00 ≤ o ∧ o < 0x3000 then some (camRecords s (o - 0x2C00) v, .write o w none)
  else none

/-- The transaction of a journaled write or command (16 R355): none where the write goes another way. -/
def journalTxn (s : State) (u o : Nat) (row : ObjRow) (w : Write) (port : Option Nat) : Option (List JRecord × TxnAct) :=
  (if u = 0 then journaledCommand s o w else none).orElse fun _ =>
    if row.jour && o != 0x301 && o != 0xC0A && o != 0xC0B then some ([writeRecord u o row w], .write o w port) else none

/-- Take a write whose checks have passed (OP1): the reply, none where it comes later, and the state after it. Of the refusals of the last
check the lowest is given (02 Table 2-5). A write of an output port joins the intake of its unit's next beat (10 R246). -/
def takeWrite (s : State) (u o : Nat) (row : ObjRow) (w : Write) (port : Option Nat := none) : Option ItemReply × State :=
  let txn := journalTxn s u o row w port
  match lowerCode (ownRefusal s u o row w) (txn.bind fun t => fullRefusal s t.1) with
  | some e => (some { status := e }, s)
  | none =>
    match txn with
    | some t => (none, journal s t.1 t.2)
    | none =>
      if o = 0xC0A then let r := safetyEnrol s w.data w.origin; (r.1.map fun x => { status := x }, r.2)
      else if o = 0xC0B then let r := safetyReset s w.origin; (r.1.map fun x => { status := x }, r.2)
      else if o = 0x301 ∧ !cellServed u then (none, { s with commands := s.commands ++ [(u, leNat w.data, w.origin)] })
      else if (cellServed u ∧ o ≠ 0x1011 ∧ o ≠ 0x1013) ∨ port.isSome then (none, { s with writes := s.writes ++ [{ obj := o, w := w, port := port }] })
      else writeEffect s u o row w

/-- A value that the process image applied at this beat start holds over the write (02 R64, 05 R131). -/
def mappedOver (s : State) (u o e : Nat) : Bool :=
  let held (x : Nat) : Bool := s.beat.applied.any fun a => a.1 == keyOf u (x * 256 + e)
  held o || (o == 0x811 && held 0x810)

/-- A write that is refused at its turn is answered; an output port's counts for its kernel (10 R246). -/
def refuseLate (s : State) (port : Option Nat) (o : Option Origin) (status : Nat) : State :=
  match port with
  | some k => bump s 0 (0x110900 + k)
  | none => answerSt s o status

/-- A dx object of a unit that is not DISABLED (02 Table 2-5). -/
def dxRefused (s : State) (u o : Nat) : Bool :=
  (((kindOf u).bind fun k => objAt s u k o).map fun row => row.acc == .dx).getD false && s.st u != usDisabled

/-- A queued write takes effect and is answered (01 R15, OP1). -/
def applyQueued (s : State) (q : QWrite) : State :=
  let u := q.w.unit
  match q.done with
  | some st => answerSt s q.w.origin st
  | none =>
    if q.obj = 0x301 then
      let r := unitCommand false s u (leNat q.w.data) q.w.origin
      match r.1 with
      | some st => if st = stOk then answerSt r.2 q.w.origin st else refuseLate r.2 q.port q.w.origin st
      | none => r.2
    else if mappedOver s u q.obj q.w.elem then answerSt s q.w.origin stOk
    else if !q.recorded && dxRefused s u q.obj then refuseLate s q.port q.w.origin stWrongState
    else match (kindOf u).bind fun k => objAt s u k q.obj with
      | none => s
      | some row =>
        let r := writeEffect s u q.obj row q.w
        match q.port, r.1 with
        | some k, some x => if x.status = stOk then r.2 else bump r.2 0 (0x110900 + k)
        | _, _ => replyWith q.w.origin r

/-! ### The journal transaction at the front commits (16 R355, R356) -/

/-- The unit with its recorded J writes that wait for their intake carried out: what a further write of it is checked against. -/
def withRecorded (s : State) (u : Nat) : State :=
  (s.writes.filter fun q => q.recorded && q.w.unit == u).foldl (fun t q =>
    match (kindOf u).bind fun k => objAt t u k q.obj with
    | some row => plainWrite t u q.obj row q.w
    | none => t) s

/-- A refusal that has come about while the transaction of an accepted write waited for its turn (log entry 46). -/
def turnRefusal (s : State) : TxnAct → Option Nat
  | .write o w _ =>
    match (kindOf w.unit).bind fun k => objAt s w.unit k o with
    | none => some stNoObject
    | some row => if dxRefused s w.unit o then some stWrongState else ownRefusal (withRecorded s w.unit) w.unit o row w
  | .stage job path u o w => lowerCode (stageOwn s u o w.data) (stageRefusal s job path o w.elem w.data)
  | .discard job _ => if (s.commit.map fun c => c.job == job).getD false then some stJobPending else none
  | .release u _ => retireRelease s u
  | .key .. | .retire _ | .safetyErase _ | .kernelImage .. | .reply _ | .none => none

/-- The origin of a transaction's reply, and the output port that wrote it. -/
def TxnAct.source : TxnAct → Option Origin × Option Nat
  | .write _ w p => (w.origin, p)
  | .stage _ _ _ _ w => (w.origin, Option.none)
  | .discard _ o | .key _ _ o | .release _ o | .safetyErase o | .reply o => (o, Option.none)
  | .retire _ | .kernelImage .. | .none => (Option.none, Option.none)

/-- The records of a transaction at its turn: those of a CamCommand are of the table as it stands then (05 R133). -/
def turnRecords (s : State) (t : Txn) : List JRecord :=
  match t.act with
  | .write o w _ => if w.unit = 0 ∧ 0x2C00 ≤ o ∧ o < 0x3000 then camRecords s (o - 0x2C00) (leNat w.data) else t.records
  | _ => t.records

/-- A J write has committed. On a unit that a cell serves, and from an output port, it takes effect with the unit's next intake (02 R44; 10
R246); a dx write takes effect now, while its unit is DISABLED, and is answered there. -/
def writeCommitted (s : State) (o : Nat) (w : Write) (port : Option Nat) : State :=
  if cellServed w.unit ∨ port.isSome then
    match (kindOf w.unit).bind fun k => objAt s w.unit k o with
    | none => s
    | some row =>
      let later (t : State) (d : Option Nat) : State := { t with writes := t.writes ++ [{ obj := o, w := w, done := d, recorded := true, port := port }] }
      if row.acc = .dx then later (writeEffect s w.unit o row w).2 (some stOk) else later s none
  else writeNow s w.unit o w

/-- A key has committed: it is installed, and a keyless session that wrote it closes once it has its reply (02 R52, R53). -/
def keyCommitted (s : State) (level : Nat) (k : Bytes) (o : Option Origin) : State :=
  let s1 : State := { s with keys := mapPut [] s.keys level k }
  let s2 := match o with
    | some x => modSession s1 x.slot fun ss => if ss.sid = x.sid ∧ ss.keyless then { ss with closing := true } else ss
    | none => s1
  answerSt s2 o stOk

/-- What a transaction does when its END record has committed. -/
def txnActs (s : State) : TxnAct → State
  | .write o w port => writeCommitted s o w port
  | .stage job path u o w =>
    let row := ((kindOf u).bind fun k => objAt s u k o).getD default
    answerSt (stageValue s job path w.unit (o * 256 + w.elem) row.ty w.data w.offset (w.last || (fixedSize o).isSome)) w.origin stOk
  | .discard job o => answerSt (discardJob s job) o stOk
  | .key level k o => keyCommitted s level k o
  | .retire u => let t := retireUnit s u; writeRetired t (retiredUnits t)
  | .release u o => let t := releaseUnit s u; answerSt (writeRetired t (retiredUnits t)) o stOk
  | .safetyErase o => answerSt (safetyErased s) o stOk
  | .kernelImage k => kernelImageCommitted s k
  | .reply o => answerSt s o stOk
  | .none => s

/-- The END record of the transaction in flight commits: its records stand in the journal, its effect and its reply follow. A transaction whose
write the device would refuse by then is dropped with none of its records, and answered so. -/
def journalCommits (s : State) : State :=
  match s.journal.queue with
  | [] => s
  | t :: rest =>
    if !keeperUp s then s
    else match turnRefusal s t.act with
    | some e => refuseLate { s with journal := { s.journal with queue := rest } } t.act.source.2 t.act.source.1 e
    | none =>
      let s1 := appendRecords { s with journal := { s.journal with queue := rest } } (turnRecords s t)
      let plan := t.records.any fun r => r.space == 2 && r.obj == 7
      let s2 : State := if plan then { s1 with nva := { s1.nva with plan := s1.plan } } else s1
      renderIfFull (txnActs s2 t.act)

end Sys2Proof.Machine
end

