-- ==== Sys2Proof/Machine/Read.lean ====
section
/-! DEFINITION. What a read of an object returns (02 R67; the object tables): the stored value, or a value formed when the read is served. -/

namespace Sys2Proof.Machine

/-- A BOOL as a value. -/
def boolVal (b : Bool) : Val := .num (if b then 1 else 0)
/-- A natural number as a value. -/
def natVal (n : Nat) : Val := .num n

/-- Picoseconds of a span in quanta of 62.5 ps. -/
def toPs (q : Nat) : Nat := q * 625 / 10

/-- The bytes of a firmware slot's version string: part of the image, whose inside the spec does not give; ASCII. Log entry 8. -/
def versionBytes (i : Nat) : Bytes :=
  (List.range ((Config.openValue 368 [i]) % 65).toNat).map fun j => BitVec.ofNat 8 ((Config.factoryByte (4 + i) j).toNat % 128)

/-- #1020 DomainState by element of Table 17-1: 0 off, 1 on, 2 in reset. -/
def domainState (s : State) (e : Nat) : Nat :=
  let up : Nat := match s.rst.phase with
    | .inReset => 2
    | _ => if s.rst.domainsOff then 0 else 1
  if e ≤ 1 then 1
  else if e = 3 then (if s.rst.keeperDown then 2 else up)
  else if 6 ≤ e ∧ e ≤ 9 then
    (if up = 0 ∨ !s.rst.quadrants.contains (e - 6) then 0 else if s.rst.combDown then 2 else up)
  else if e = 13 then (if s.field.powered then up else 0)
  else up

/-- The bytes of one entry of a job listing (16 R364). -/
def listingEntry (s : State) (e : JobEntry) : Bytes :=
  let o := e.key / 256
  let ty := (((kindOf e.unit).bind fun k => rowOf k o (e.key % 256)).map ObjRow.ty).getD .blob
  let v := encodeVal ty e.value
  leBytes 1 e.path.length ++ e.path.flatMap (leBytes 2) ++ leBytes 2 o ++ leBytes 1 (e.key % 256) ++ leBytes 1 ty.code
    ++ leBytes 4 v.length ++ leBytes 4 (crc32c v)

/-- Pages of whole entries, at most 4,096 bytes each. -/
def pages : List Bytes → Bytes → List Bytes
  | [], page => [page]
  | e :: r, page => if 4096 < page.length + e.length then page :: pages r e else pages r (page ++ e)

/-- One page of the listing of a job. -/
def listingPage (s : State) (job page : Nat) : Bytes := ((pages ((jobOf s job).map (listingEntry s)) [])[page]?).getD []

/-- Objects of the sessions, formed when read. -/
def readSession (s : State) (slot o e : Nat) : Option Val :=
  match o with
  | 0x002 => some (.bytes (serialBytes s))
  | 0x003 => some (.bytes (saltBytes s))
  | 0x011 => some (boolVal (mapGet [] s.keys e != []))
  | 0x022 => some (natVal (match s.slot e with | .opened ss => ss.level | _ => 0xFF))
  | 0x023 => some (natVal (match s.slot e with | .opened ss => ss.src.addr | _ => 0))
  | 0x024 => some (natVal slot)
  | 0x025 => some (natVal (slotMask s e))
  | 0x121 => some (natVal (queueUse s))
  | 0x200 => some (natVal s.ns)
  | 0x232 => some (natVal s.beat.n)
  | 0x234 => some (natVal (cycleNow s))
  | _ => none

/-- Objects of jobs, latch and compare on the root, formed when read. -/
def readJobs (s : State) (o e : Nat) : Option Val :=
  match o with
  | 0x313 => some (natVal (reserveCount s))
  | 0x781 => some (natVal (match s.commit with | none => 0 | some c => if c.armed then 2 else 1))
  | 0x782 => some (natVal ((s.commit.map Commit.job).getD 0))
  | 0x783 => some (natVal ((s.commit.map Commit.timeT).getD 0))
  | 0x784 => some (natVal ((s.commit.map fun c => triggerBeat s c.timeT).getD 0))
  | 0x786 => some (natVal (jobOf s e).length)
  | 0x840 => some (natVal (camPoolUsed s))
  | 0x911 => some (boolVal (latchLevel s e))
  | 0x922 => some (boolVal (pinLevel s e))
  | 0xA40 => some (.num (streamRate s 0).floor)
  | 0xB33 => some (natVal (operatingMs s))
  | 0xB41 => some (.bytes ((retiredUnits s).flatMap (leBytes 2)))
  | 0xB52 => some (natVal (activeRehousings s))
  | 0x1100 => some (natVal (kernelCell s e))
  | 0x1101 => some (natVal (s.kernel e).home)
  | 0x1102 => some (natVal (s.kernel e).image.budget)
  | 0x1103 => some (natVal (s.kernel e).image.signature)
  | _ => if 0x3000 ≤ o ∧ o ≤ 0x30FF then some (.bytes (listingPage s (o - 0x3000) e)) else none

/-- Objects of the journal, of reset and of power, formed when read. -/
def readSystem (s : State) (o e : Nat) : Option Val :=
  match o with
  | 0xF00 => some (boolVal s.journal.rendering)
  | 0xF01 => some (natVal (liveIdx s.nva))
  | 0xF02 => some (natVal (regionUsed s.nva))
  | 0xF03 => some (natVal (liveBytes s.nva))
  | 0xF04 => some (natVal s.journal.seq)
  | 0xF05 => some (natVal (liveAnchor s.nva).epoch)
  | 0xF31 => some (natVal (if onTrial s then 2 else if s.journal.verifying then 1 else 0))
  | 0xF32 => some (.bytes (versionBytes e))
  | 0xF33 => some (natVal (liveAnchor s.nva).bootSlot)
  | 0x1008 => some (boolVal s.rst.limp)
  | 0x1009 => some (natVal s.rst.fuses.trimFailed)
  | 0x100A => some (natVal s.rst.fuses.optionFailed)
  | 0x100B => some (natVal (match ([.por, .borCore, .borIo, .pin, .keeperWdg, .fatal, .veilReq, .swReq, .debug, .thermal] : List ResetSource)[e - 1]? with
      | some .swReq => 0xFF
      | some x => reachCode (mappedReach s x)
      | none => 0))
  | 0x100C => some (natVal s.rst.fuses.swMask)
  | 0x1020 => some (natVal (domainState s e))
  | 0x1021 => some (natVal (fOfRat b32s ((s.rst.junction : Rat) / 1000)))
  | 0x1031 => some (natVal (if s.rst.jtag.isSome then 1 else if s.rst.fuses.jtag then 0 else 2))
  | _ => none

/-- Objects of a sleeve that the plan and the beat give (08 Table 8-1, R193, R198; 09 R230). -/
def readSleeve (s : State) (u o e : Nat) : Option Val :=
  match o with
  | 0x401 => some (natVal (axisOf s u))
  | 0x402 => some (natVal s.rst.fuses.polarity)
  | 0x410 => some (natVal (((sleevePlan s u).map SleevePlan.divider).getD 1))
  | 0x411 => some (natVal (updateMode s u))
  | 0x412 => some (natVal (toPs (match e with | 0 => carrierQ s u | 1 => s.tb | 2 => s.tb / 2 | _ => s.tb / 4)))
  | 0x413 => some (natVal (toPs (tickQ s u)))
  | 0x414 => some (natVal (syncOffsetOf s u))
  | 0x415 => some (natVal (carrierPhase s u))
  | 0x540 => some (natVal (((s.plan.bind fun p => p.sdDividers[(u - 0x101) / 8]?)).getD 20))
  | _ => none

/-- Objects of axes, clusters, cells and recorders, formed when read. -/
def readFace (s : State) (u o e : Nat) : Option Val :=
  match o with
  | 0x330 => some (natVal (((clusterPlan s u).map fun c => c.members.length).getD 0))
  | 0x331 => some (natVal (match (clusterPlan s u).bind fun c => c.members[e]? with
      | some (.device m) => m
      | some (.remote _) => 0x2000 + e
      | none => 0))
  | 0x332 => some (natVal (((clusterPlan s u).map ClusterPlan.coordinator).getD 0))
  | 0x340 => some (natVal (cellOf s u))
  | 0x341 => some (natVal (match (s.cell u).work.role with
      | .none => 0 | .localServo => 1 | .netGroup => 2 | .virtGroup => 3 | .recorder => 4 | .coordinator => 5))
  | 0x342 => some (natVal (((planCells s).find? fun c => c.cell == u).map CellPlan.clock |>.getD 150))
  | 0x711 => some (natVal (64 - queueCount s u))
  | 0x906 => some (natVal (s.axis u).latch.fifo.length)
  | 0x934 => some (natVal (256 - targetsHeld s u))
  | 0x93A => some (natVal (compareLatency s u / 16))
  | 0xA03 => some (natVal (rowBytes s u))
  | 0xA14 => some (boolVal (s.st u == usActive && armed (s.rec' u) s.ns))
  | _ => none

/-- Objects that every unit has, and those of the veil and the CAN controllers. -/
def readOther (s : State) (u o e : Nat) : Option Val :=
  match o with
  | 0x302 => some (natVal (((kindOf u).map UKind.code).getD 0))
  | 0xB00 => if isCluster u ∧ e = 0 then some (natVal ((s.n u 0x0B0000).lor (s.cluster u).flags.1)) else none
  | 0xB01 => if isCluster u ∧ e = 0 then some (natVal ((s.n u 0x0B0100).lor (s.cluster u).flags.2)) else none
  | 0xB04 => some (natVal (min 255 (recentRecoveries s u).length))
  | 0xC06 => some (natVal (stoLevels s))
  | 0xC07 => some (natVal s.veil.stofb)
  | 0xE06 =>
    some (if s.n u 0x0E0000 = 1 ∧ 1000000 < s.n u 0x0E0300 then .num (Config.openValue 338 [u, (s.canOf u).order] % 65536) else natVal 0)
  | 0x1012 => some (natVal (drainState s u))
  | _ => none

/-- The value that a read of an element returns, in a session's slot; u is the unit that stores the object. -/
def readVal (s : State) (slot u o e : Nat) : Val :=
  let own := (readOther s u o e).orElse fun _ =>
    if u = 0 then (readSession s slot o e).orElse fun _ => (readJobs s o e).orElse fun _ => readSystem s o e
    else if isSleeve u then readSleeve s u o e |>.orElse fun _ => readFace s u o e
    else readFace s u o e
  own.getD (s.val u (o * 256 + e))

/-- A read by the machine itself, on the unit that an entry of a map, a channel or a port names. -/
def readAt (s : State) (u o e : Nat) : Val := readVal s 0xFF (storeOf s u o) o e

/-- The data of a READ item: a scalar whole, or the bytes wanted of another element (Table 2-3). -/
def readData (s : State) (slot : Nat) (c : Checked) (it : Item) : Bytes :=
  let b := encodeVal c.row.ty (readVal s slot c.store it.obj it.elem)
  if c.row.ty.scalar then b
  else let r := b.drop it.offset; if it.dlen = 0 then r else r.take it.dlen

end Sys2Proof.Machine
end

