-- ==== Sys2Proof/Machine/Process.lean ====
section
/-! DEFINITION. Process data (02 R61 to R65; 03 R84, R85): received parts, the apply beat, the transmit image and its launch. -/

namespace Sys2Proof.Machine

/-- Beats of a network cycle. -/
def cycleBeats (s : State) : Nat := max 1 (s.n 0 0x023300)

/-- Precedence of the source that a datagram of process data comes from (R64, R65): 0 the owner session, 1 to 8 the peers; none for any other. -/
def pdSource (s : State) (src : Src) (d : Lfp) : Option Nat :=
  if d.sid = 0 then
    if src.addr = 0 then none else ((List.range 8).find? fun e => s.n 0 (0x014600 + e) == src.addr).map (· + 1)
  else if d.kind ≠ mkPdOut then none
  else (sessionOf s src d.sid).bind fun x => if x.1 = s.n 0 0x014500 then some 0 else none

/-- A part of a payload (R63), if it is one. -/
def readPart (source : Nat) (b : Bytes) : Option PdPart :=
  let n := fieldLE b 4 2
  if b.length < 8 ∨ b.length ≠ 8 + n ∨ 1440 < n ∨ fieldLE b 1 1 = 0 ∨ 6 < fieldLE b 1 1 ∨ fieldLE b 1 1 ≤ fieldLE b 0 1 then none
  else some { source := source, index := fieldLE b 0 1, count := fieldLE b 1 1, offset := fieldLE b 2 2, data := b.drop 8 }

/-- The cut-off of the cycle in progress, in quanta (03 R84). -/
def pdCutoff (s : State) : Nat :=
  s.beatStart (s.beat.n / cycleBeats s * cycleBeats s + s.n 0 0x023500) - s.n 0 0x023700 * Config.quantaPerNs

/-- A datagram of process data arrives at an instant in ns: its part joins the shadow bank, or is late (R63). -/
def pdArrives (s : State) (x : Dgram) (arrival : Nat) : State :=
  if s.rst.phase ≠ .running ∨ !reaches s x then s
  else match readLfp x.bytes with
    | .error k => bump s 0 k
    | .ok d =>
      if d.kind ≠ mkPdOut ∧ d.kind ≠ mkPdIn then s
      else match (pdSource s x.src d).bind fun k => readPart k d.payload with
        | none => s
        | some p =>
          if d.seq ≠ cycleNow s ∨ pdCutoff s ≤ arrival * Config.quantaPerNs then bump s 0 0x014800
          else { s with beat := { s.beat with pdParts := s.beat.pdParts ++ [p], pdCycle := cycleNow s } }

/-! ### The apply beat -/

/-- The bytes that the parts give a map entry: of the source of highest precedence that wholly contains it (R65). -/
def pdBytes (parts : List PdPart) (e : MapEntry) : Option Bytes :=
  let n := codeSize e.type
  let ps := parts.filter fun p => decide (p.offset ≤ e.offset ∧ e.offset + n ≤ p.offset + p.data.length)
  ((List.range 9).findSome? fun k => (ps.filter fun p => p.source == k).getLast?).map fun p => (p.data.drop (e.offset - p.offset)).take n

/-- A mapped value takes effect (R63, 07 R177). A value that a write would be refused for leaves the object as it stands. -/
def pdWrite (s : State) (e : MapEntry) (b : Bytes) : State :=
  match mapRow s e with
  | none => s
  | some (u, row) =>
    let w : Write := { unit := u, elem := e.elem, data := b }
    if !rangeOk s u row e.obj b || (ownRefusal s u e.obj row w).isSome then s
    else if row.acc = .w then (takeWrite s u e.obj row w).2
    else
      let v : Val := .num (decodeNum row.ty b)
      let held : State := { s with beat := { s.beat with applied := s.beat.applied ++ [(keyOf u (e.obj * 256 + e.elem), v)] } }
      if e.obj = 0x641 ∧ s.val u 0x064100 = v then held else (writeEffect held u e.obj row w).2

/-- Parts that a source did not send although it sent one (R65). -/
def pdMissing (parts : List PdPart) : Nat :=
  ((List.range 9).map fun k =>
    let ps := parts.filter fun p => p.source == k
    match ps.getLast? with
    | none => 0
    | some p => p.count - ((ps.map PdPart.index).dedup.filter fun i => decide (i < p.count)).length).sum

/-- Is the beat in progress an apply beat (03 R84)? -/
def applyBeat (s : State) : Bool :=
  decide (s.n 0 0x023500 ≤ s.beat.n) && (s.beat.n - s.n 0 0x023500) % cycleBeats s == 0

/-- What a remote member sends of itself (01 R24): its state and the values that R26 combines. -/
def remoteKeys : List Nat := 0x030000 :: leadKeys ++ [0x067000] ++ sumKeys ++ [0x0B0000, 0x0B0100]

/-- A value of a remote member as one that its object can hold: what the other device sends is its own, a free value (log entry 44). -/
def remoteValue (c i cycle k : Nat) : Int :=
  let v := Config.remoteMember c i cycle k
  if k = 0x030000 then v % 6
  else if k = 0x053000 ∨ k = 0x053100 then wrapI 64 v
  else if k = 0x0B0000 ∨ k = 0x0B0100 ∨ fFinite b32s (v % 2 ^ 32).toNat then v % 2 ^ 32
  else 0

/-- At an apply beat a face takes what the cycle has brought of its remote members, and their states (01 R21, R24; 05 R142). -/
def remoteTakes (s : State) (p : ClusterPlan) : State :=
  let cyc := s.beat.n / cycleBeats s
  let far := p.members.zipIdx.filterMap fun m => match m.1 with
    | .device _ => none
    | .remote _ => some m.2
  if far.isEmpty then s
  else
    let k := s.cluster p.cluster
    let t := followFace true (s.setCluster p.cluster { k with
      remote := far.map fun i => (i, remoteKeys.map fun key => (key, .num (remoteValue p.cluster i cyc key))) }) p
    followFaces true 31 t p.cluster

/-- Maps that wait govern from the first beat of a later cycle on, and the kept images with them (R62). -/
def mapInstall (s : State) : State :=
  match s.beat.mapNext with
  | none => s
  | some (c, rx, tx) =>
    if cycleNow s = c then s
    else { s with beat := { s.beat with
        rxMap := rx, txMap := tx, mapNext := none, txImage := s.beat.txNext.1, txBefore := s.beat.txNext.2, txNext := ([], []) } }

/-- Step 2 of 01 R14: the parts of a cycle are applied by the map that governed it; then maps that wait come into force (R62). -/
def pdApply (s : State) : State :=
  let s0 : State := { s with beat := { s.beat with applied := [] } }
  let s1 :=
    if !applyBeat s then s0
    else
      let c := (s.beat.n - s.n 0 0x023500) / cycleBeats s % 2 ^ 32
      let parts := if s.beat.pdCycle = c then s.beat.pdParts else []
      let t := s.beat.rxMap.foldl (fun t e => match pdBytes parts e with
        | some b => pdWrite t e b
        | none => t) { s0 with beat := { s0.beat with pdParts := [] } }
      (planClusters t).foldl remoteTakes (bumpN t 0 0x014700 (pdMissing parts))
  mapInstall s1

/-! ### The transmit image (03 R85) -/

/-- Write a field into an image. -/
def putField (b : Bytes) (o : Nat) (f : Bytes) : Bytes := b.take o ++ f ++ b.drop (o + f.length)

/-- The value that a transmit map entry carries. AccelSetpoint of a network axis that sends its set-point as a torque too (NetSetpointKind 2)
carries AccelSetpoint times NetInertia (04 R94). DESIGN CHOICE, log entry 45. -/
def txValue (s : State) (u o e : Nat) : Val :=
  let v := readVal s 0xFF u o e
  if o = 0x703 ∧ kindOf u = some .netAxis ∧ s.n u 0x070600 = 2 then .num (fMul b32s (valInt v).toNat (s.n u 0x070700)) else v

/-- The image of a transmit map, of the values as they stand. -/
def imageOf (s : State) (tx : List MapEntry) : Bytes :=
  let n := tx.foldl (fun m e => max m (e.offset + codeSize e.type)) 0
  tx.foldl (fun b e =>
    match mapRow s e with
    | none => b
    | some (u, r) => putField b e.offset (encodeVal r.ty (txValue s u e.obj e.elem))) (List.replicate n 0)

/-- The image of the map that waits for its cycle, of the values as they stand. -/
def nextImage (s : State) : Bytes := ((s.beat.mapNext.map fun m => imageOf s m.2.2)).getD []

/-- The beat deadline of the beat in progress, in quanta (01 R13). -/
def beatDeadline (s : State) : Nat := s.beat.base + s.beat.period - s.beat.margin

/-- The values published at the beat deadline of the beat in progress are kept for the launch (R85): once for a beat; what is published at that
deadline after they were kept takes their place. -/
def keepImage (s : State) : State :=
  let b := s.beat
  let again := b.kept == b.n + 1
  { s with beat := { b with
      txImage := imageOf s b.txMap
      txBefore := if again then b.txBefore else b.txImage
      txNext := if b.mapNext.isNone then b.txNext else (nextImage s, if again then b.txNext.2 else b.txNext.1)
      kept := b.n + 1 } }

/-- The values are kept when network time has passed the beat deadline. -/
def keepPast (s : State) : State :=
  if s.beat.running ∧ s.beat.kept ≠ s.beat.n + 1 ∧ beatDeadline s < s.q then keepImage s else s

/-- Values published at a deadline whose image is kept already join it. -/
def keepMore (s : State) : State := if s.beat.running ∧ s.beat.kept = s.beat.n + 1 then keepImage s else s

/-- The end of a beat: its image is kept at the latest now. -/
def keepLast (s : State) : State := if s.beat.running ∧ s.beat.kept ≠ s.beat.n + 1 then keepImage s else s

/-- Maps that have just been applied: the values of the last deadline stand until the next one, so their image is formed now (R62). -/
def keepNext (s : State) : State :=
  if s.beat.mapNext.isSome ∧ s.beat.txNext = ([], []) then { s with beat := { s.beat with txNext := (nextImage s, nextImage s) } } else s

/-- The image that PD_IN of the cycle in progress carries: of the last beat deadline at least 1 µs before the launch (R85). -/
def launchImage (s : State) : Bytes :=
  let launch := s.beatStart (s.beat.n / cycleBeats s * cycleBeats s) + s.n 0 0x023600 * Config.quantaPerNs
  let kept := s.beat.kept == s.beat.n + 1
  if beatDeadline s + quantaPerUs ≤ launch then (if kept then s.beat.txImage else imageOf s s.beat.txMap)
  else if s.beat.base - s.beat.margin + quantaPerUs ≤ launch then (if kept then s.beat.txBefore else s.beat.txImage)
  else s.beat.txBefore

/-- The parts of an image: 1,440 bytes each (R63). Log entry 40. -/
def pdParts (b : Bytes) : List Bytes :=
  let n := (b.length + 1439) / 1440
  (List.range n).map fun i =>
    let d := (b.drop (1440 * i)).take 1440
    leBytes 1 i ++ leBytes 1 n ++ leBytes 2 (1440 * i) ++ leBytes 2 d.length ++ leBytes 2 0 ++ d

/-- PD_IN of the cycle in progress leaves for the owner session and each peer (R64, 03 R85). -/
def pdLaunch (s : State) : State :=
  if s.rst.phase ≠ .running then s
  else
    let ps := pdParts (launchImage s)
    let c := cycleNow s
    let owner : List (Src × Nat) := match s.slot (s.n 0 0x014500) with
      | .opened ss => [(ss.src, ss.sid)]
      | _ => []
    let peers : List (Src × Nat) := (List.range 8).filterMap fun e =>
      if s.n 0 (0x014600 + e) = 0 then none else some (⟨s.n 0 (0x014600 + e), s.lfpPort⟩, 0)
    (owner ++ peers).foldl (fun t x => ps.foldl (fun t p => t.emit (lfpSent x.1 mkPdIn 0 x.2 c p)) t) s

end Sys2Proof.Machine
end

