-- ==== Sys2Proof/Machine/Clock.lean ====
section
/-! DEFINITION. A cycle of the comb timing clock (03 R76) and what falls due in it: PTP messages of the device's own (03 R73), and the values of a
beat deadline (03 R85). -/

namespace Sys2Proof.Machine

/-- One cycle of the 500 MHz clock: 2 ns and A units of 2^-32 ns of network time, which wraps; 2 ns of powered time (03 R76). A runs 64-bit
seconds over. -/
def clockCycle (s : State) : State :=
  modTime s fun t => { t with
    counter := (((t.counter : Int) + 2 * Config.counterPerNs + t.adjust) % counterMod).toNat
    uptime := t.uptime + 2 * Config.quantaPerNs }

/-- A clock cycle in which no command waits. -/
def idleCycle (s : State) : State :=
  let t := clockCycle s
  keepPast (if s.rst.phase = .running then ptpDue t s.time.uptime t.time.uptime else t)

end Sys2Proof.Machine
end

