-- ==== Sys2Proof/Machine/Outcome.lean ====
section
/-! DEFINITION. How a command's effect becomes an outcome of exec. -/

namespace Sys2Proof.Machine

/-- The outcome of a command whose effect is t: t with the queue as it was, for a command acts on everything but the queue. -/
def quiet (s t : State) : Host.Outcome State Fault Refusal := .next { t with pending := s.pending }

end Sys2Proof.Machine
end

