-- ==== Sys2Proof/Machine/Service.lean ====
section
/-! DEFINITION. The service of requests: items in order, waits of OP1, replies (02 R42 to R46, R410; 01 OP1; 04 R109, R112, R117), and what
follows every command: waiting requests, closing sessions, raised resets. -/

namespace Sys2Proof.Machine

/-! ### One item -/

/-- Does the write wait in the queue of its unit, so that another queued write may be taken behind it? -/
def queues (u o : Nat) (row : ObjRow) : Bool :=
  o == 0x301 || (cellServed u && !row.jour && row.acc != .dx && o != 0x1011 && o != 0x1013)

/-- Replies that items of the request in service still wait for; the items not yet taken do not count. -/
def unresolved (ss : Session) (n : Nat) : Nat :=
  (ss.inflight.map fun q => (q.items.filter Option.isNone).length).sum - (if ss.next = 0 then 0 else n - ss.next)

/-- What takes the queued writes of a unit in order: the cell that serves it, the keeper where the cell is missing, or the beat start that
carries out the commands of units no cell serves. -/
def takerOf (s : State) (u : Nat) : Bool × Nat := if cellServed u then (true, cellOf s u) else (false, 0)

/-- Queued writes and commands of a session that have not been answered and that the lane of a unit takes in order. -/
def queued (s : State) (i sid u : Nat) : Nat :=
  let mine (o : Option Origin) : Bool := (o.map fun x => x.slot == i && x.sid == sid).getD false
  (s.writes.filter fun q => mine q.w.origin && takerOf s q.w.unit == takerOf s u).length
    + (if (takerOf s u).1 then 0 else (s.commands.filter fun c => mine c.2.2).length)

/-- Bytes of the replies that a request has so far, and of the shortest replies to the items behind the present one (R45). -/
def replyUsed (q : Request) (done : Nat) : Nat :=
  (q.items.map fun r => ((r.map fun x => (itemBytes x).length).getD 0)).sum + 4 * (q.items.length - done - 1)

/-- A READ item is served (R45; 15 R349). -/
def readServe (s : State) (i req : Nat) (ss : Session) (n : Nat) (c : Checked) (it : Item) : ItemReply × State :=
  let used := ((ss.inflight.find? fun q => q.req == req).map fun q => replyUsed q n).getD 0
  let r : Bytes × State := if it.obj = 0xE21 then rxTake s c.store it.dlen else (readData s i c it, s)
  if 1448 < used + 4 + r.1.length then ({ status := stTooLong }, s) else ({ status := stOk, type := c.row.ty.code, data := r.1 }, r.2)

/-- A STAGE item whose checks have passed: refused with the lowest code that applies, or its record goes to the journal (04 R109, R110). -/
def stageServe (s : State) (c : Checked) (it : Item) (o : Origin) : Option ItemReply × State :=
  let w : Write := { unit := c.store, elem := it.elem, data := it.data, offset := it.offset, last := it.flags == 1, origin := some o }
  let rs : List JRecord := [{ writeRecord c.store it.obj c.row w with space := 1, job := it.job, path := it.path }]
  let own := lowerCode (stageOwn s c.store it.obj it.data) (stageRefusal s it.job it.path it.obj it.elem it.data)
  match lowerCode own (lowerCode (fullRefusal s rs) (if c.remote then some stRemotePath else none)) with
  | some e => (some { status := e }, s)
  | none => (none, journal s rs (.stage it.job it.path c.store it.obj { w with unit := c.unit }))

/-- The kind of an item-carrying request. -/
def reqKind (k : Nat) : ReqKind := if k = mkRead then .read else if k = mkWrite then .write else .stage

/-- A write that has passed its checks is taken and answered; PdMapApply forms the image of the new maps (R62; 03 R85). -/
def writeServe (s : State) (u o : Nat) (row : ObjRow) (w : Write) : State :=
  let t := replyWith w.origin (takeWrite s u o row w)
  if o = 0x144 then keepNext t else t

/-- Carry out one item of a request. -/
def itemServe (s : State) (i n : Nat) (ss : Session) (h : Held) (it : Item) (c : Except Nat Checked) : State :=
  let o : Origin := { slot := i, sid := ss.sid, req := h.req, item := n }
  match c with
  | .error e => answerSt s (some o) e
  | .ok c =>
    match reqKind h.kind with
    | .read => let r := readServe s i h.req ss n c it; answer r.2 (some o) r.1
    | .write =>
      writeServe s c.store it.obj c.row
        { unit := c.store, elem := it.elem, data := it.data, offset := it.offset, last := it.flags == 1, origin := some o }
    | .stage => replyWith (some o) (stageServe s c it o)

/-- Must the item wait for the session's earlier writes (OP1)? -/
def itemWaits (s : State) (i : Nat) (ss : Session) (n : Nat) (kind : Nat) (it : Item) (c : Except Nat Checked) : Bool :=
  let open' := unresolved ss n
  match kind == mkRead, c with
  | true, _ => ss.next == 0 && !ss.inflight.isEmpty
  | false, .ok c => open' != 0 && !(kind == mkWrite && queues c.store it.obj c.row && open' == queued s i ss.sid c.store)
  | false, .error _ => open' != 0

/-- Type code shown with an OK (Table 2-4). -/
def typeShown (c : Except Nat Checked) : Nat := match c with | .ok c => c.row.ty.code | .error _ => 0

/-- The request with one more item taken into service. -/
def takeItem (ss : Session) (h : Held) (n : Nat) (typ : Nat) : Session :=
  let q : Request := ((ss.inflight.find? fun q => q.req == h.req).getD
    { req := h.req, items := List.replicate n none, types := List.replicate n 0 })
  let q' := { q with types := q.types.set ss.next typ }
  let rest := ss.inflight.filter fun q => q.req != h.req
  if ss.next + 1 < n then { ss with inflight := rest ++ [q'], next := ss.next + 1 }
  else { ss with inflight := rest ++ [q'], next := 0, ready := ss.ready.drop 1 }

/-! ### One request -/

/-- A request with one item that is answered as a whole: taken out of the ready list. -/
def takeWhole (s : State) (i : Nat) (ss : Session) (h : Held) : State :=
  s.setSlot i (.opened { ss with ready := ss.ready.drop 1, inflight := ss.inflight ++ [{ req := h.req, items := [none] }] })

/-- COMMIT or REVOKE: its level, and its service (R47; 04 R112, R117). -/
def commitRequest (s : State) (i : Nat) (ss : Session) (h : Held) : State :=
  let o : Origin := { slot := i, sid := ss.sid, req := h.req, item := 0 }
  let ok := !ss.keyless && levelOk ss.level 1 false
  let s1 := takeWhole s i ss h
  let r := if h.kind = mkCommit then commitServe s1 ok h.payload (some o) else revokeServe s1 ok h.payload (some o)
  match r.1 with
  | some st => answerSt r.2 (some o) st
  | none => r.2

/-- CLOSE: a REPLY with no items, and the session ends; with a payload it is malformed (R51, R410). -/
def closeRequest (s : State) (i : Nat) (ss : Session) (h : Held) : State :=
  if h.payload ≠ [] then answerSt (takeWhole s i ss h) (some { slot := i, sid := ss.sid, req := h.req, item := 0 }) stBadRequest
  else endSession (sendReply s i { ss with ready := ss.ready.drop 1 } h.req []) i

/-- Take one item or one whole request of a session into service; none where nothing can be taken now. -/
def serveStep (s : State) (i : Nat) : Option State :=
  match s.slot i with
  | .opened ss =>
    match ss.ready with
    | [] => none
    | h :: _ =>
      if ss.closing ∧ ss.next = 0 then none
      else if h.kind = mkCommit ∨ h.kind = mkRevoke then (if unresolved ss 0 = 0 then some (commitRequest s i ss h) else none)
      else if h.kind = mkClose then (if ss.inflight.isEmpty then some (closeRequest s i ss h) else none)
      else match parseItems (h.kind == mkRead) h.payload with
        | none =>
          if h.kind = mkRead ∧ !ss.inflight.isEmpty then none
          else some (answerSt (takeWhole s i ss h) (some { slot := i, sid := ss.sid, req := h.req, item := 0 }) stBadRequest)
        | some its =>
          match its[ss.next]? with
          | none => none
          | some it =>
            let c := checkItem s i ss (reqKind h.kind) it
            if itemWaits s i ss its.length h.kind it c then none
            else
              let ss1 := takeItem ss h its.length (typeShown c)
              some (itemServe (s.setSlot i (.opened ss1)) i ss.next ss1 h it c)
  | .free | .challenge .. => none

/-- Serve a session as far as it goes. -/
def serveSession : Nat → State → Nat → State
  | 0, s, _ => s
  | n + 1, s, i => match serveStep s i with
    | some t => serveSession n t i
    | none => s

/-- An upper bound of the items that wait in a session. -/
def serveFuel (s : State) (i : Nat) : Nat :=
  match s.slot i with
  | .opened ss => (ss.ready.map fun h => h.payload.length / 10 + 2).sum + 1
  | .free | .challenge .. => 0

/-- A session that is to close, and whose requests have been replied to, ends (R36, R53). -/
def closeIfDone (s : State) (i : Nat) : State :=
  match s.slot i with
  | .opened ss => if ss.closing ∧ ss.inflight.isEmpty then endSession s i else s
  | .free | .challenge .. => s

/-- Every session is served as far as it goes, while acyclic service runs (17 R382). -/
def pump (s : State) : State :=
  if !keeperUp s then s
  else (List.range 16).foldl (fun t i => closeIfDone (serveSession (serveFuel t i) t i) i) s

/-- What follows the effect of a command: requests that can now go on, and the resets that the effect has raised. -/
def settle (s : State) : State := serveSoftware (serveRaised (pump s))

/-- The outcome of a command whose effect is t. -/
def done (s t : State) : Host.Outcome State Fault Refusal := quiet s (settle t)

/-! ### Datagrams -/

/-- Kinds that acyclic service handles, which a KEEPER reset pauses (R51). -/
def pausable (k : Nat) : Bool := k != mkKeepalive && k != mkWaggleAck && k != mkPdOut && k != mkPdIn

/-- A datagram of acyclic service. -/
def acyclic (s : State) (src : Src) (d : Lfp) (draw : OpenDraw) : State :=
  if d.kind = mkOpen then openServe s src d.payload draw
  else if d.kind = mkProof then proofServe s src d.sid d.seq d.payload
  else match sessionOf s src d.sid with
    | none => noSession s src d
    | some (i, ss) =>
      if d.kind = mkWaggleAck then waggleAcked s i ss d.seq
      else if d.kind = mkKeepalive then s
      else requestArrives s i ss d.kind d.seq d.payload

/-- A datagram of LFP other than process data arrives (R36 to R41, R51; 17 R388). -/
def lfpArrives (s : State) (x : Dgram) (draw : OpenDraw) : State :=
  if s.rst.phase ≠ .running ∨ !reaches s x then s
  else match readLfp x.bytes with
    | .error k => bump s 0 k
    | .ok d =>
      if d.kind = mkPdOut ∨ d.kind = mkPdIn then s
      else if s.rst.keeperDown ∧ pausable d.kind then { s with rst := { s.rst with paused := s.rst.paused ++ [(x, draw)] } }
      else acyclic s x.src d draw

/-- A datagram that a command names by its kind: one of another kind is not that command's, and nothing happens. -/
def lfpCommand (k : Nat) (s : State) (x : Dgram) (draw : OpenDraw) : State :=
  match readLfp x.bytes with
  | .ok d => if d.kind = k then lfpArrives s x draw else s
  | .error _ => lfpArrives s x draw

/-- The datagrams held during a KEEPER reset are handled. -/
def servePaused (s : State) : State :=
  s.rst.paused.foldl (fun t x => pump (lfpArrives t x.1 x.2)) { s with rst := { s.rst with paused := [] } }

end Sys2Proof.Machine
end

