-- ==== Sys2Proof/Machine/Beat.lean ====
section
/-! DEFINITION. The start of a beat and of a tick: the steps of 01 R14 in order, the weave (12 R286, R292), unit commands (01 R30), kernel runs
(10 R237, R245 to R247), recorder captures (11 R261); and what closes the beat before (01 R18 to R20, R25). -/

namespace Sys2Proof.Machine

/-! ### Time and deadlines -/

/-- Network time has reached an instant, in quanta: where it stands below, it and powered time move on to it; the counter wraps (02 R68). -/
def advanceTo (s : State) (t : Nat) : State :=
  if t ≤ s.q then s
  else
    let c := t * Config.counterPerQuantum
    { s with time := { s.time with counter := c % counterMod, uptime := s.time.uptime + (c - s.time.counter) / Config.counterPerQuantum } }

/-- The commit margin m in quanta (01 R13). -/
def marginQ (s : State) : Nat := s.n 0 0x032000 * Config.quantaPerStep

/-- Ticks that a cell commits in a beat: those of the sleeve of its local axis, else the one of the beat (01 R17). -/
def cellTicks (s : State) (c : Nat) : Nat :=
  match (s.cell c).work.units.find? isLocal with
  | some a => ticksPerBeat s (sleeveOf s a)
  | none => 1

/-- The deadline of tick k of the beat in progress, in quanta (01 R13). -/
def tickDeadline (s : State) (c k : Nat) : Nat := s.beat.base + (k + 1) * (s.beat.period / cellTicks s c) - s.beat.margin

/-- The cells that serve a role. -/
def servingCells (s : State) : List Nat := (s.cells.filter fun e => e.2.work.role != .none).map Prod.fst

/-! ### Late cells (01 R18 to R20, R25; 12 R291) -/

/-- The outputs of a face are stale for the beat in progress: counted once. -/
def markStale (s : State) (u : Nat) : State :=
  let x := s.axis u
  if !(isAxis u || isCluster u) || x.traj.staleBeat == s.beat.n + 1 then s
  else bump ((s.setAxis u { x with traj := { x.traj with staleBeat := s.beat.n + 1 } }).setB u 0x035100 true) u 0x035000

/-- A unit and the clusters above it are stale. -/
def staleUp : Nat → State → Nat → State
  | 0, s, _ => s
  | n + 1, s, u =>
    let s1 := markStale s u
    if clusterOf s1 u = 0 then s1 else staleUp n s1 (clusterOf s1 u)

/-- A unit has published nothing in the beat: it is stale, with the clusters above it; a coordinator's local members mark their outputs too. -/
def unitStale (s : State) (u : Nat) : State :=
  let s1 := staleUp 32 s u
  if isCluster u then
    (((clusterPlan s1 u).map localMembers).getD []).foldl markStale (s1.setCluster u { s1.cluster u with late := true })
  else s1

/-- What a late or stopped kernel has done in the beat is discarded (10 R244, R246). -/
def dropRun (s : State) (k : Nat) : State :=
  let x := s.kernel k
  match x.run with
  | none => s
  | some r =>
    let s1 := s.setKernel k { x with run := none }
    (s1.setN 0 (0x110500 + k) r.used).setN 0 (0x110600 + k) (max (s1.n 0 (0x110600 + k)) r.used)

/-- What a UnitCommand has done at the beat start to an axis whose cell does not commit the beat is taken back, where the axis still stands as
the command left it: nothing of the beat takes effect, and the command is read again (R18; 04 R103). -/
def takeBack (s : State) (q : QWrite) : State :=
  let u := q.w.unit
  match q.undo with
  | none => s
  | some d =>
    if s.st u ≠ d.left then s
    else
      let s1 := d.dict.foldl (fun t e => if t.val (e.1 / 2 ^ 24) (e.1 % 2 ^ 24) = e.2.2 then t.setV (e.1 / 2 ^ 24) (e.1 % 2 ^ 24) e.2.1 else t) s
      let x := s1.axis u
      let s2 : State := { s1.setAxis u { d.before with
          latch := if x.latch = d.after.latch then d.before.latch else x.latch
          compare := if x.compare = d.after.compare then d.before.compare else x.compare } with
        outbox := d.said.foldl List.erase s1.outbox }
      let s3 := followFaces false 31 s2 u
      putState true s3 0 (rootState s3)

/-- The commands of a cell's queues that have acted in the beat act no more: the last one is taken back first. -/
def takeBackAll (s : State) (c : Nat) : State :=
  let mine (q : QWrite) : Bool := cellOf s q.w.unit == c && q.done.isSome && !q.recorded
  let s1 := (s.writes.filter mine).reverse.foldl takeBack s
  { s1 with writes := s1.writes.map fun q => if mine q then { q with done := none, undo := none } else q }

/-- What a kernel has published last is stale, or is not (01 R19). -/
def setStale (s : State) (k : Nat) (b : Bool) : State := let x := s.kernel k; if x.stale = b then s else s.setKernel k { x with stale := b }

/-- A late cell abandons the beat: its dynamic state returns to that of its last committed beat, and it reads the entries of the beat again
(01 R18). -/
def abandon (s : State) (c : Nat) : State :=
  let w := (s.cell c).work
  let s1 := w.units.foldl (fun t u => if isLocal u then engineLate t u else t) (takeBackAll s c)
  match w.kernel with
  | some k => setStale (dropRun s1 k) k true
  | none => s1

/-- The beat deadline passes without a commit of the cell: stale outputs, and for a cell whose gate is open LateRun and its hit (01 R20). -/
def cellLate (s : State) (c : Nat) : State :=
  let x := s.cell c
  let s1 := s.setCell c { x with late := true, closed := true, fullDue := x.fullDue || s.beat.n % 64 == 0 }
  let s2 := x.work.units.foldl unitStale (abandon s1 c)
  if x.shut.isSome then s2
  else
    let run := min 16 (s2.n c 0x032300 + 1)
    hitCell (s2.setN c 0x032300 run) c (if s2.n c 0x032100 ≤ run then 1 else 2)

/-- DEADLINE: the next deadline of a serving cell that has not committed passes. -/
def deadline (s : State) (c : Nat) : State :=
  let x := s.cell c
  if !s.beat.running ∨ x.work.role = .none ∨ x.committed ∨ x.closed then s
  else
    let k := if x.late then cellTicks s c - 1 else x.ticks
    let s1 := advanceTo s (tickDeadline s c k)
    if k + 1 < cellTicks s c then s1.setCell c { x with late := true } else keepMore (commitDone (cellLate s1 c))

/-- The end of the beat in progress: every serving cell that has not committed is late; a role without a cell is stale (12 R290). -/
def closeBeat (s : State) : State :=
  if !s.beat.running then s
  else
    let s1 := (servingCells s).foldl (fun t c => if (t.cell c).committed || (t.cell c).closed then t else cellLate t c) s
    keepLast <| commitDone ((s1.rehousings.filter fun r => r.noCell && r.kind != .reassign).foldl (fun t r =>
      let t1 := r.work.units.foldl unitStale t
      (r.work.kernel.map fun k => setStale t1 k true).getD t1) s1)

/-! ### The weave at a beat start (12 R286 step 4, R292; 17 R384) -/

/-- May a readied rehousing switch at the beat in progress? A replacement or drain needs the old cell's commit of the beat before. -/
def switchNow (s : State) (r : Rehouse) : Bool :=
  r.readied && r.journaled && decide (r.notBefore ≤ s.beat.n)
    && ((r.kind != .replacement && r.kind != .drain) || (s.cell r.failed).hotBeat + 1 == s.beat.n)

/-- The weave switches everything that is ready for it. -/
def weaveBeat (s : State) : State :=
  (s.rehousings.filter (switchNow s)).foldl (fun t r =>
    let t1 := weaveSwitch t r
    match r.target with
    | some c => if draining t1 c then drainMove t1 c else t1
    | none => t1) s

/-! ### Unit commands (01 R30) -/

/-- UnitCommands of units that no cell serves act in arrival order and are answered. -/
def commandsAct (s : State) : State :=
  s.commands.foldl (fun t x =>
    let r := unitCommand true t x.1 x.2.1 x.2.2
    match r.1 with
    | some st => answerSt r.2 x.2.2 st
    | none => r.2) { s with commands := [] }

/-- Two writes of one unit or of one session: the later one does not pass the earlier (OP1). -/
def sameOrder (a b : QWrite) : Bool :=
  a.w.unit == b.w.unit || match a.w.origin, b.w.origin with
    | some x, some y => x.slot == y.slot && x.sid == y.sid
    | _, _ => false

/-- What a command has changed of an axis and of its sleeve between two states. -/
def undoOf (s t : State) (u : Nat) : UndoS :=
  let mine (k : Nat) : Bool := k / 2 ^ 24 == u || (k / 2 ^ 24 == sleeveOf s u && isLocal u)
  let keys := (((s.dict ++ t.dict).map Prod.fst).filter mine).dedup
  let entry (k : Nat) : Nat × Val × Val := (k, s.val (k / 2 ^ 24) (k % 2 ^ 24), t.val (k / 2 ^ 24) (k % 2 ^ 24))
  { left := t.st u
    dict := (keys.map entry).filter fun e => e.2.1 != e.2.2
    before := s.axis u
    after := t.axis u
    said := (t.outbox.drop s.outbox.length).filter fun e => mine (e.unit * 2 ^ 24) }

/-- One entry of the write queues at a beat start: a UnitCommand that stands behind no other entry of its unit or its session acts, where the
gate of its cell is open. Answers the state and the queue so far. -/
def frontAct (r : State × List QWrite) (q : QWrite) : State × List QWrite :=
  let u := q.w.unit
  let shut := (r.1.cell (cellOf r.1 u)).shut.isSome
  if q.obj ≠ 0x301 ∨ q.done.isSome ∨ shut ∨ r.2.any (fun x => x.done.isNone && sameOrder x q) then (r.1, r.2 ++ [q])
  else
    let x := unitCommand false r.1 u (leNat q.w.data) q.w.origin
    (x.2, r.2 ++ [{ q with done := some (x.1.getD stOk), undo := if isAxis u then some (undoOf r.1 x.2 u) else none }])

/-- UnitCommands at the front of their unit's queue act; they are answered by the commit that retires them. -/
def queuedCommandsAct (s : State) : State :=
  let mine (q : QWrite) : Bool := cellOf s q.w.unit != 0
  let r := s.writes.foldl (fun r q => if mine q then frontAct r q else (r.1, r.2 ++ [q])) (s, [])
  { r.1 with writes := r.2 }

/-- The keeper applies the queued writes of units with no serving cell (12 R290). -/
def keeperApplies (s : State) : State :=
  let mine := s.writes.filter fun q => cellOf s q.w.unit == 0
  mine.foldl applyQueued { s with writes := s.writes.filter fun q => cellOf s q.w.unit != 0 }

/-! ### The veil and the sleeves at a beat start (13 R300, R305; 08 R208) -/

/-- An axis leaves ACTIVE for READY; one that stops in FAULT with its loops closed stops no more. -/
def axisReady (s : State) (a : Nat) : State :=
  if s.st a = usActive then sleeveFollows true (axisTo true s a usReady) a usReady
  else if s.st a = usFault ∧ (s.axis a).traj.stop.isSome then
    let x := s.axis a
    sleeveFollows true (s.setAxis a { x with traj := { x.traj with stop := none } }) a usReady
  else s

/-- An ACTIVE axis acts on the request of SS1 (13 R305). -/
def ss1Stops (s : State) (a : Nat) : State :=
  if s.st a ≠ usActive then s
  else
    let s1 := if s.n a 0x060000 = 2 then s.setN a 0x060000 1 else s
    let s2 := askStopAxis s1 a
    let x := s2.axis a
    s2.setAxis a { x with follow := { x.follow with released := true } }

/-- What the veil asks of the axes of a group. -/
def groupBeat (s : State) (g : Nat) : State :=
  let x := s.group g
  let axes := ((groupSleeves s g).map (axisOf s)).filter (· != 0)
  let s1 := if x.askStop || x.askReady then s.setGroup g { x with askStop := false, askReady := false } else s
  let s2 := if x.askStop then axes.foldl ss1Stops s1 else s1
  if x.askReady then axes.foldl axisReady s2 else s2

/-- An ACTIVE axis whose sleeve has gone to FAULT becomes READY (08 R208). -/
def tripReady (s : State) (p : SleevePlan) : State :=
  if p.axis ≠ 0 ∧ s.st p.axis = usActive ∧ s.st p.sleeve = usFault then axisReady s p.axis else s

/-! ### Kernel runs (10 R237, R245, R247) -/

/-- The 32-bit word that a port or parameter holds for a value (10 R245). -/
def portWord (v : Val) : W32 := BitVec.ofInt 32 (valInt v)

/-- The words of the r exports, at their addresses. -/
def exportWords (s : State) (x : KernelS) : NMap W32 :=
  ((x.image.objs.filter fun o => !o.rw).map fun o => portWord (s.val x.home (o.obj * 256))).zipIdx.map fun p => (0x10200 + 4 * p.2, p.1)

/-- The value that a rw export has in the beat: what the last write of the beat's intake gives it (R247), but a mapped value holds (02 R64). -/
def paramValue (s : State) (u : Nat) (o : KObject) : Val :=
  if mappedOver s u o.obj 0 then s.val u (o.obj * 256)
  else match (s.writes.filter fun q => q.intake && q.w.unit == u && q.obj == o.obj && q.w.elem == 0).getLast? with
  | some q => .num (decodeNum (kernelTy o.type) q.w.data)
  | none => s.val u (o.obj * 256)

/-- The words of the rw exports. -/
def paramWords (s : State) (x : KernelS) : List W32 := (x.image.objs.filter KObject.rw).map fun o => portWord (paramValue s x.home o)

/-- A kernel runs from instruction 0 in the beat in progress. -/
def kernelStart (s : State) (k : Nat) : State :=
  let x := s.kernel k
  let r : KRun := {
    mem := exportWords s x
    inputs := x.image.ins.map fun p => portWord (readAt s p.unit p.obj p.elem)
    inStale := BitVec.ofNat 32 (bitsToNat (x.image.ins.map fun p => staleValue s p.unit p.obj))
    params := paramWords s x
    flags := if x.resumed then 1 else 0
    beat := s.beat.n
    time := s.beatNs
    serial := s.kernelSerial }
  { s.setKernel k { x with run := some r, resumed := false } with kernelSerial := s.kernelSerial + 1 }

/-- A beat start of a kernel: a restart is honoured, and a kernel that runs on a cell with an open gate starts. -/
def kernelBeat (s : State) (k : Nat) : State :=
  let x := s.kernel k
  let s1 := if x.restart then (s.setKernel k { x with restart := false }).setN 0 (0x110400 + k) 1 else s
  let c := kernelCell s1 k
  if s1.n 0 (0x110400 + k) = 1 ∧ c ≠ 0 ∧ (s1.cell c).shut.isNone then kernelStart s1 k
  else s1.setKernel k { s1.kernel k with run := none }

/-! ### Events of units with no cell -/

/-- Events that wait for a commit are published, for the units that p selects. -/
def flushEvents (s : State) (p : Nat → Bool) : State :=
  (s.outbox.filter fun e => p e.unit).foldl (fun t e => publish t e.unit e.code e.data)
    { s with outbox := s.outbox.filter fun e => !p e.unit }

/-! ### BEAT_START -/

/-- Number of the beat that starts: the next one, or after a restart of the generator that of the next aligned instant, not before the deadline of
the beat in progress (03 R78, R80). -/
def nextBeat (s : State) : Nat :=
  if s.beat.running ∧ !s.beat.restart then s.beat.n + 1
  else
    let from' := if s.beat.running then max s.q (beatDeadline s) else s.q
    (from' - s.phaseQ + s.tb - 1) / max 1 s.tb

/-- The beat generator starts a beat. -/
def beatBegins (s : State) : State :=
  let n := nextBeat s
  let s1 := advanceTo s (s.beatStart n)
  let s2 : State := { s1 with beat := { s1.beat with running := true, restart := false, n := n, start := s1.beatStart n, base := s1.beatStart n, period := s1.tb, margin := marginQ s1 } }
  (servingCells s2).foldl (fun t c => t.setCell c { t.cell c with ticks := 0, committed := false, late := false, closed := false }) s2

/-- Steps 1 to 3 of R14. Before them the coordinators take the members' commits of the beat before (R24). -/
def beatFlips (s : State) : State :=
  let s1 := pdApply (jobFlip (facesHear s))
  ((planSleeves s1).filter fun p => p.axis != 0).foldl (fun t p => bankSwap t p.axis) s1

/-- A sleeve samples at the beat start (step 4 of R14). -/
def beatSample (s : State) (x : SleeveSample) : State :=
  let s1 := returnRecord (fbSample (modFb s x.sleeve fun f => { f with tick := 0 }) x s.beat.base true) x.sleeve
  let a := axisOf s1 x.sleeve
  if a ≠ 0 ∧ s1.n a 0x093000 = 1 ∧ (s1.st a = usReady ∨ s1.st a = usActive) then compareCross s1 a else s1

/-- Latch entries whose later sample has come with the beat start join its intake (06 R148, Table 6-1). -/
def beatLatches (s : State) : State := (liveAxes s).foldl latchSettle s

/-- The intake of the beat (step 5 of R14): of every axis, also one that has left READY, whose acknowledgements are still to be reported. -/
def beatIntake (s : State) : State :=
  (s.axes.map Prod.fst).foldl latchIntake { s with writes := s.writes.map fun q => { q with intake := true } }

/-- What acts at a beat start once the intake is formed: the weave, commands, the veil's requests, trips, splits. -/
def beatActs (s : State) : State :=
  let s1 := keeperApplies (queuedCommandsAct (commandsAct (weaveBeat s)))
  let s2 := (planClusters s1).foldl (fun t c => applySplit t c.cluster) s1
  let s3 := allGroups.foldl groupBeat s2
  (planSleeves s3).foldl tripReady s3

/-- A recorder at a beat start: it takes its sample, or its stream session has gone (11 R259, R261). -/
def recorderBeat (s : State) (r : Nat) : State :=
  if (s.rec' r).sessionGone ∧ s.st r = usActive then
    setUnit true (s.setRec r { s.rec' r with sessionGone := false, firstBeat := none, ring := [], record := none, hits := [], was := [] }) r usReady
  else capture s readAt r

/-- BEAT_START (01 R14; 03 R80). -/
def beatStart (s : State) (samples : List SleeveSample) : State :=
  if s.rst.phase ≠ .keeperBoot ∧ s.rst.phase ≠ .replay ∧ s.rst.phase ≠ .running then s
  else
    let s1 := beatFlips (beatBegins (closeBeat s))
    let s2 := fieldBeat (beatActs (beatIntake (beatLatches (samples.foldl beatSample s1))))
    let s3 := recorderUnits.foldl recorderBeat s2
    let s3 : State := { s3 with beat := { s3.beat with captured := s3.beat.n + 1 } }
    let s4 := (s3.kernels.map Prod.fst).foldl kernelBeat s3
    flushEvents (pinsNewBeat s4) fun u => cellOf s4 u == 0

/-! ### TICK_START -/

/-- TICK_START after the first of a beat: the sleeve samples (09 R214). -/
def tickStart (s : State) (x : SleeveSample) : State :=
  let k := (s.sleeve x.sleeve).fb.tick + 1
  if !s.beat.running ∨ (sleevePlan s x.sleeve).isNone ∨ ticksPerBeat s x.sleeve ≤ k then s
  else
    let t := s.beat.base + k * tickQ s x.sleeve
    returnRecord (fbSample (modFb (advanceTo s t) x.sleeve fun f => { f with tick := k }) x t false) x.sleeve

end Sys2Proof.Machine
end

