-- ==== Sys2Proof/Machine/Commit.lean ====
section
/-! DEFINITION. The work of a cell and the commit gate (01 R15 to R17; 04 R103; 07 R165; 10 R244, R246; 12 R284 to R286, R292). A cell's work
is formed when the gate accepts its commit: what a cell has not committed no other part of the device sees. -/

namespace Sys2Proof.Machine

/-! ### The intake (01 R14, R15) -/

/-- One entry of the write queues at a commit of cell c: an entry of the intake takes effect, is answered and retired. A UnitCommand that stands
behind another write of its unit acts here, in arrival order (01 R30; 04 R103 step 1). -/
def retireOne (c : Nat) (r : State × List QWrite) (q : QWrite) : State × List QWrite :=
  if cellOf r.1 q.w.unit ≠ c ∨ !q.intake then (r.1, r.2 ++ [q]) else (applyQueued r.1 q, r.2)

/-- The intake writes of a cell's units, in order. -/
def retireWrites (s : State) (c : Nat) : State :=
  let r := s.writes.foldl (retireOne c) ({ s with writes := [] }, [])
  { r.1 with writes := r.2 ++ r.1.writes }

/-! ### Work -/

/-- Trajectory stage and beat part of the engine of a local axis. -/
def axisWork (s : State) (a : Nat) : State := engineBeat (axisBeat (enterPosition s a) a) a

/-- The commit of an axis for a beat: stage, engine, latch and compare entries, duties of the next beat's first tick. -/
def axisCommit (s : State) (first : Bool) (a : Nat) : State :=
  let s1 := if isLocal a then engineCommit (engineTick (axisWork s a) a first (s.beat.base + s.beat.period)) a else axisBeat s a
  let s2 := compareCommit (latchCommit s1 a) a
  let s3 := if s2.n a 0x093000 = 1 ∨ s2.beat.n % dividerOf s2 a ≠ 0 then s2 else compareCross s2 a
  if isLocal a then handDuties s3 a (s3.beat.base + s3.beat.period) else s3

/-- The commit of one unit of a cell. -/
def unitCommit (first : Bool) (s : State) (u : Nat) : State :=
  if isRecorder u then recorderCommit s u
  else if isCluster u then coordinatorBeat (axisBeat s u) readAt u
  else axisCommit s first u

/-- Outputs of the beat are published: the face is not stale, unless something it rests on was (01 R19, R25). -/
def clearStale (s : State) (u : Nat) : State :=
  if !(isAxis u || isCluster u) || (s.axis u).traj.staleBeat == s.beat.n + 1 then s else s.setB u 0x035100 false

/-! ### Kernels (10 R244, R246, R247) -/

/-- A word of the run: as written, or as it stood. -/
def runWord (x : KernelS) (r : KRun) (a : Nat) : W32 := (mapFind r.mem a).getD (KCtx.fresh { kernel := x, r := r } a)

/-- One output port writes its object (R246): refused writes are counted. -/
def portWrite (k : Nat) (s : State) (p : PortS × W32) : State :=
  let e : MapEntry := { unit := p.1.unit, obj := p.1.obj, elem := p.1.elem, type := p.1.type, offset := 0 }
  let v : Nat := if p.1.type = 0x01 then (if p.2 = 0 then 0 else 1) else p.2.toNat
  match mapRow s e with
  | none => bump s 0 (0x110900 + k)
  | some (u, row) =>
    let w : Write := { unit := u, elem := e.elem, data := leBytes row.ty.size v }
    if !rangeOk s u row e.obj w.data then bump s 0 (0x110900 + k)
    else match takeWrite s u e.obj row w (some k) with
      | (some r, t) => if r.status = stOk then t else bump t 0 (0x110900 + k)
      | (none, t) => t

/-- The words that a run has left for the committed state area. -/
def runState (x : KernelS) (r : KRun) : List W32 :=
  x.state.zipIdx.map fun p => (mapFind r.mem (0x10300 + 4 * p.2)).getD p.1

/-- The value of an exported word: a BOOL is 1 for any word but 0 (R245, R247). -/
def exportValue (type : Nat) (v : W32) : Int :=
  if type = 0x01 then (if v = 0 then 0 else 1) else decodeNum (kernelTy type) (leBytes (kernelTy type).size v.toNat)

/-- The r exports as a run has left them. -/
def publishExports (s : State) (x : KernelS) (r : KRun) : State :=
  (x.image.objs.filter fun o => !o.rw).zipIdx.foldl (fun t p =>
    match mapFind r.mem (0x10200 + 4 * p.2) with
    | some v => t.setI x.home (p.1.obj * 256) (exportValue p.1.type v)
    | none => t) s

/-- The output ports that OUT_VALID selects, with their words. -/
def validPorts (x : KernelS) (r : KRun) : List (PortS × W32) :=
  let valid := ((mapFind r.mem 0x2011C).getD 0).toNat
  (x.image.outs.zipIdx.filter fun p => bitOf valid p.2).map fun p => (p.1, runWord x r (0x10080 + 4 * p.2))

/-- The commit of a kernel's run. -/
def kernelCommit (s : State) (k : Nat) : State :=
  let x := s.kernel k
  match x.run with
  | none => setStale s k false
  | some r =>
    let s1 := (dropRun s k).setKernel k { x with run := none, state := runState x r, stale := false }
    (validPorts x r).foldl (portWrite k) (publishExports s1 x r)

/-- A kernel that runs has executed its end, or has been stopped. -/
def kernelEnded (s : State) (w : RoleS) : Bool :=
  match w.kernel.bind fun k => (s.kernel k).run with
  | some r => r.done
  | none => true

/-! ### Checkpoints and reports (12 R284 to R286, R292) -/

/-- The full checkpoint of a cell becomes current. -/
def fullCheckpoint (s : State) (c : Nat) : State :=
  let w := (s.cell c).work
  let s1 := w.units.foldl (fun t u =>
    if isLocal u then engineFull t u
    else if isCluster u then t.setCluster u { t.cluster u with fullGains := (t.cluster u).gains } else t) s
  let s2 := match w.kernel with
    | some k => s1.setKernel k { s1.kernel k with fullState := (s1.kernel k).state }
    | none => s1
  s2.setCell c { s2.cell c with fullBeat := s2.beat.n, fullDue := false }

/-- A full checkpoint is written with the commit of the beat in progress. -/
def fullWanted (s : State) (c : Nat) : Bool :=
  s.beat.n % 64 == 0 || (s.cell c).fullDue
    || s.rehousings.any fun r => r.failed == c && (r.kind == .replacement || r.kind == .drain) && r.readied && r.journaled && decide (r.notBefore ≤ s.beat.n + 1)

/-- REHOUSED on every face of the role, at the new cell's first commit (12 R286 step 6). -/
def reportRehoused (s : State) (c : Nat) : State :=
  match (s.cell c).rehoused with
  | none => s
  | some (failed, f) =>
    let n := min 255 (s.beat.n - f)
    let s1 := (s.cell c).work.units.foldl (fun t u =>
      publish (bump (t.setN u 0x0B5100 n) u 0x0B5000) u 0x0B04 (leBytes 2 failed ++ leBytes 2 c ++ leBytes 1 n)) s
    closeShadow (s1.setCell c { s1.cell c with rehoused := none }) failed (16 * s1.tb)

/-- KERNEL_REPLACED at the new kernel's first commit (10 R252). -/
def reportReplaced (s : State) (c : Nat) : State :=
  match (s.cell c).replaced with
  | none => s
  | some k =>
    let x := s.kernel k
    publish (s.setCell c { s.cell c with replaced := none }) x.home 0x1103 (leBytes 1 k ++ leBytes 4 x.image.signature)

/-- A commit that stands although the gate has been shut moves the first stale beat (12 R285). -/
def commitStands (s : State) (c : Nat) : State :=
  if (s.cell c).shut.isNone then s
  else { s with rehousings := s.rehousings.map fun r => if r.failed == c && r.kind == .fault then { r with stale := s.beat.n + 1 } else r }

/-! ### The gate (R15 to R17) -/

/-- The commit of a tick before the last: it publishes the duties of the next tick. The beat's work runs on a copy. -/
def tickCommit (s : State) (c : Nat) : State :=
  let x := s.cell c
  let s1 := s.setCell c { x with ticks := x.ticks + 1 }
  match x.work.units.find? isLocal with
  | none => s1
  | some a =>
    let next := s.beat.base + (x.ticks + 1) * tickQ s (sleeveOf s a)
    let g := ((engineTick (axisWork (retireWrites s c) a) a (x.ticks == 0) next).axis a).engine
    let refs := if x.ticks = 0 then (s.beat.n + 1, g.idRef, g.iqRef) else g.refs
    handDuties (modEngine s1 a fun e => { e with refs := refs, wD := g.wD, wQ := g.wQ, duties := g.duties, request := g.request, clamps := g.clamps }) a next

/-- The commit of the last tick: the beat's outputs, events and retirements, as one step. -/
def beatCommit (s : State) (c : Nat) : State :=
  let x := s.cell c
  let s1 := x.work.units.foldl (unitCommit (x.ticks == 0)) (retireWrites s c)
  let s2 := x.work.units.foldl clearStale (match x.work.kernel with
    | some k => kernelCommit s1 k
    | none => s1)
  let s3 := (commitStands s2 c).setCell c { s2.cell c with committed := true, ticks := x.ticks + 1, hotBeat := s.beat.n }
  let s4 := if fullWanted s3 c then fullCheckpoint s3 c else s3
  let s5 := reportReplaced (reportRehoused (s4.setN c 0x032300 0) c) c
  flushEvents s5 fun u => cellOf s5 u == c

/-- CELL_COMMIT: a request registered at an instant, in quanta. The gate cycle is one of 2 ns; completion wins within it (R16, 12 R285). -/
def cellCommit (s : State) (c registered : Nat) : State :=
  let x := s.cell c
  if !s.beat.running ∨ x.work.role = .none ∨ x.committed ∨ x.closed ∨ x.late then s
  else if tickDeadline s c x.ticks / 32 < registered / 32 then s.setCell c { x with late := true }
  else if ((x.shut.map fun t => decide (t / 32 < registered / 32)).getD false) then s
  else if x.ticks + 1 < cellTicks s c then tickCommit s c
  else if !kernelEnded s x.work then s
  else keepMore (commitDone (beatCommit s c))

end Sys2Proof.Machine
end

