-- ==== Sys2Proof/WellFormed.lean ====
section
/-! DEFINITION. Which commands are well formed: every unit, slot, pin, kernel and element number in the range the spec gives it. -/

namespace Sys2Proof

/-- A sleeve's unit number (02 Table 2-12). -/
def wfSleeve (u : Nat) : Bool := decide (0x101 ≤ u ∧ u ≤ 0x120)
/-- A cell's unit number. -/
def wfCell (u : Nat) : Bool := decide (1 ≤ u ∧ u ≤ 0x80)
/-- An axis's unit number (04 Table 4-1). -/
def wfAxis (u : Nat) : Bool := decide (0x200 ≤ u ∧ u ≤ 0x39F)
/-- A recorder's unit number. -/
def wfRecorder (u : Nat) : Bool := decide (0x400 ≤ u ∧ u ≤ 0x40F)
/-- A CAN controller's unit number. -/
def wfCan (u : Nat) : Bool := decide (0x500 ≤ u ∧ u ≤ 0x501)
/-- A device-level unit number (02 Table 2-12). -/
def wfUnit (u : Nat) : Bool :=
  decide (u ≤ 0x80) || wfSleeve u || wfAxis u || wfRecorder u || wfCan u || u == 0x600 || u == 0x700 || decide (0x1000 ≤ u ∧ u ≤ 0x1FFF)
/-- A write: its unit, a 16-bit offset and at most 4,096 data bytes. -/
def wfWrite (w : Write) : Bool := wfUnit w.unit && decide (w.elem < 256 ∧ w.offset < 65536 ∧ w.data.length ≤ 4096)
/-- A datagram's source. -/
def wfDgram (d : Dgram) : Bool := decide (d.src.addr < 2 ^ 32 ∧ d.src.port < 65536)
/-- A PTP message's port. -/
def wfPtp (m : PtpMsg) : Bool := decide (m.port < 2)
/-- A user kernel's number (10 R248). -/
def wfKernel (k : Nat) : Bool := decide (k < 128)
/-- A PTR instruction's mode: 3 is no instruction (10 R241). -/
def wfMode (m : Fin 4) : Bool := m != 3
/-- A switch of the field die (14 Table 14-1). -/
def wfSwitch : FieldSwitch → Bool
  | .output o => decide (o < 16)
  | .supply k => decide (k < 4)

/-- The well-formed commands. -/
def Instr.wf : Instr → Bool
  | .beatStart samples => samples.all fun x => wfSleeve x.sleeve
  | .tickStart x => wfSleeve x.sleeve
  | .cellCommit c _ => wfCell c
  | .deadline c => wfCell c
  | .carrierUpdate u => wfSleeve u
  | .pulseDecision u p _ => wfSleeve u && decide (p < 3)
  | .delayCal b _ => decide (b < 4)
  | .trip u _ => wfSleeve u
  | .tripSourceDeassert u _ => wfSleeve u
  | .tripClear w => wfWrite w
  | .tripCleared u => wfSleeve u
  | .readback u p _ => wfSleeve u && decide (p < 6)
  | .unitStop u _ => wfUnit u
  | .unitDisable u _ => wfUnit u
  | .unitEnable u _ => wfUnit u
  | .unitStart u _ => wfUnit u
  | .selfTestDone c _ => wfCell c
  | .combPlanApply _ _ => true
  | .roleReassign c => wfCell c
  | .openSession d draw => wfDgram d && decide (draw.sid ≠ 0 ∧ draw.sid < 2 ^ 64 ∧ draw.challenge.length = 32)
  | .proof d => wfDgram d
  | .challengeTimeout i => decide (i < 16)
  | .close d => wfDgram d
  | .keepalive d => wfDgram d
  | .sessionTimeout i => decide (i < 16)
  | .read d => wfDgram d
  | .write d => wfDgram d
  | .stage d => wfDgram d
  | .commit d => wfDgram d
  | .revoke d => wfDgram d
  | .waggleAck d => wfDgram d
  | .pdOut d _ => wfDgram d
  | .arpRequest r => decide (r.senderMac < 2 ^ 48 ∧ r.senderIp < 2 ^ 32 ∧ r.targetIp < 2 ^ 32)
  | .icmpEchoRequest r => decide (r.src < 2 ^ 32 ∧ r.dst < 2 ^ 32)
  | .commissioningProbe _ => true
  | .netApply w => wfWrite w
  | .levelKey w => wfWrite w && decide (w.elem < 5)
  | .waggleSend i => decide (i < 16)
  | .waggleRepeat i => decide (i < 16)
  | .gapAppend => true
  | .pdMapApply w => wfWrite w
  | .pdInLaunch => true
  | .counterClear o w => decide (o < 65536) && wfWrite w
  | .objectWrite o w => decide (o < 65536) && wfWrite w
  | .sync m => wfPtp m
  | .followUp m => wfPtp m
  | .announce a => decide (a.port < 2)
  | .pdelayReq m => wfPtp m
  | .pdelayResp m _ _ _ => wfPtp m
  | .delayReq m => wfPtp m
  | .delayResp m _ _ _ => wfPtp m
  | .eventMessageForward m _ => wfPtp m
  | .syncTimeout => true
  | .timeOfDaySet w => wfWrite w
  | .timingObjectWrite o w => decide (o < 65536) && wfWrite w
  | .ppsOutEdge => true
  | .ppsInEdge _ => true
  | .segmentAppend w => wfWrite w
  | .queueFlush u _ => wfUnit u
  | .queueAbort u _ => wfUnit u
  | .jobDiscard w => wfWrite w
  | .commitLoaded => true
  | .commitLoadCheck => true
  | .phaseTrimAdd w => wfWrite w
  | .camOpen t _ => decide (t < 1024)
  | .camSeal t _ => decide (t < 1024)
  | .camErase t _ => decide (t < 1024)
  | .latchEdge i _ _ => decide (i < 16)
  | .latchEntryInsert u => wfAxis u
  | .compareAppend w => wfWrite w
  | .compareTargetInsert u => wfAxis u
  | .compareFire u => wfAxis u
  | .pulseEnd p => decide (p < 16)
  | .compareFlush u _ => wfAxis u
  | .compareStatusClear w => wfWrite w
  | .torqueOffsetClear u _ => wfAxis u
  | .bankSwapRequest w => wfWrite w
  | .countEdge u _ _ _ => wfSleeve u
  | .hallStep u _ _ _ _ => wfSleeve u
  | .indexEdge u _ => wfSleeve u
  | .serialTransactionStart u => wfSleeve u
  | .ssiFrame u _ _ => wfSleeve u
  | .fspReply u _ _ => wfSleeve u
  | .fspTimeout u => wfSleeve u
  | .fspRegisterRequest w => wfWrite w
  | .ocDetect u _ _ => wfSleeve u
  | .sdStreamStuck u bits => wfSleeve u && decide (bits.length = 64)
  | .nop k => wfKernel k
  | .add k _ _ _ => wfKernel k
  | .sub k _ _ _ => wfKernel k
  | .and k _ _ _ => wfKernel k
  | .or k _ _ _ => wfKernel k
  | .xor k _ _ _ => wfKernel k
  | .shl k _ _ _ => wfKernel k
  | .shr k _ _ _ => wfKernel k
  | .sar k _ _ _ => wfKernel k
  | .mul k _ _ _ => wfKernel k
  | .mulh k _ _ _ => wfKernel k
  | .slt k _ _ _ => wfKernel k
  | .sltu k _ _ _ => wfKernel k
  | .addi k _ _ => wfKernel k
  | .andi k _ _ => wfKernel k
  | .ori k _ _ => wfKernel k
  | .lui k _ _ => wfKernel k
  | .fadd k _ _ _ => wfKernel k
  | .fsub k _ _ _ => wfKernel k
  | .fmul k _ _ _ => wfKernel k
  | .ffma k _ _ _ _ => wfKernel k
  | .fdiv k _ _ _ => wfKernel k
  | .fsqrt k _ _ => wfKernel k
  | .itof k _ _ => wfKernel k
  | .ftoi k _ _ => wfKernel k
  | .flt k _ _ _ => wfKernel k
  | .fneg k _ _ => wfKernel k
  | .fabs k _ _ => wfKernel k
  | .vld k _ _ m _ => wfKernel k && wfMode m
  | .vst k _ _ m _ => wfKernel k && wfMode m
  | .vbc k _ _ => wfKernel k
  | .vfma k _ _ _ => wfKernel k
  | .vmul k _ _ _ => wfKernel k
  | .vadd k _ _ _ => wfKernel k
  | .aclr k _ => wfKernel k
  | .amov k _ _ => wfKernel k
  | .vsum k _ _ => wfKernel k
  | .vget k _ _ _ => wfKernel k
  | .vput k _ _ _ => wfKernel k
  | .ld k _ _ m _ => wfKernel k && wfMode m
  | .st k _ _ m _ => wfKernel k && wfMode m
  | .pset k _ _ => wfKernel k
  | .bset k _ _ => wfKernel k
  | .lset k _ _ => wfKernel k
  | .pget k _ _ => wfKernel k
  | .srch k d _ _ f => wfKernel k && decide (d.val ≤ 30 ∧ f.toNat < 4)
  | .bz k _ _ => wfKernel k
  | .bnz k _ _ => wfKernel k
  | .br k _ => wfKernel k
  | .loop k _ _ => wfKernel k
  | .jal k _ _ => wfKernel k
  | .jr k _ => wfKernel k
  | .endK k => wfKernel k
  | .illegalInstruction k _ => wfKernel k
  | .kernelOverrun k => wfKernel k
  | .crcPoly k _ => wfKernel k
  | .crcCfg k _ => wfKernel k
  | .crcInit k _ => wfKernel k
  | .crcValue k _ => wfKernel k
  | .crcIn8 k _ => wfKernel k
  | .crcIn16 k _ => wfKernel k
  | .crcIn32 k _ => wfKernel k
  | .kernelRestart w => wfWrite w && decide (w.elem < 128)
  | .kernelUpdateApply w => wfWrite w
  | .triggerCondition w => wfWrite w && decide (w.elem < 8)
  | .streamDatagramSend u => wfRecorder u
  | .streamFlushTimeout u => wfRecorder u
  | .faultHit u b => wfUnit u && decide (b < 256)
  | .faultStickyClear _ w => wfWrite w && decide (w.elem < 8)
  | .readyingDone c => wfCell c
  | .rehousingQueuedStart => true
  | .roleGrant c => wfCell c
  | .quietPeriodEnd u c => wfUnit u && (match c with | none => true | some c => u == 0x700 && decide (c < 52))
  | .retireRelease w => wfWrite w
  | .operatingTimeSave => true
  | .veilCycle inp => decide (inp.chanA.length = 8 ∧ inp.chanB.length = 8)
  | .veilFrame u _ _ _ => wfSleeve u
  | .stoDarkTest g _ _ => decide (g < 8)
  | .testPulse o _ => decide (o < 4)
  | .groupLatchClear w => wfWrite w && decide (w.elem < 8)
  | .safetyKeyEnrol w => wfWrite w
  | .enrolTimeout => true
  | .safetyReset w => wfWrite w
  | .veilSelfTestDone _ => true
  | .seamFrameSend => true
  | .seamFrameReceive _ _ => true
  | .fieldSeamLoss => true
  | .seamLoss => true
  | .fieldInputSample _ _ => true
  | .outputSet w => wfWrite w
  | .outputClear w => wfWrite w
  | .currentLimitTimeout ch => wfSwitch ch
  | .outputRetry ch => wfSwitch ch
  | .outOvertemp ch => wfSwitch ch
  | .outOpenLoad o => decide (o < 16)
  | .tpOverload o => decide (o < 4)
  | .vfieldLow _ => true
  | .dieOvertemp => true
  | .txSlot w => wfWrite w && decide (w.elem < 32)
  | .txAbort w => wfWrite w
  | .rxRead u _ _ => wfCan u
  | .arbitration u _ _ => wfCan u
  | .txDone u => wfCan u
  | .txError u _ => wfCan u
  | .busRecovered u => wfCan u
  | .canFrameReceive u _ _ => wfCan u
  | .refMessageDue u => wfCan u
  | .journalCommit => true
  | .renderNow w => wfWrite w
  | .renderDone => true
  | .retirementsAccept w => wfWrite w
  | .pfail => true
  | .firmwareApply w _ => wfWrite w
  | .firmwareConfirmed => true
  | .por _ => true
  | .borCore _ => true
  | .borIo _ => true
  | .pin => true
  | .keeperWdg => true
  | .debug => true
  | .thermal _ => true
  | .resetRequestFull _ => true
  | .resetRequestDevice _ => true
  | .resetRequestKeeper _ => true
  | .resetRequestComb _ => true
  | .resetStretchEnd => true
  | .fuseLoadDone rows => decide (rows.length = 32)
  | .keeperBootDone _ => true
  | .journalReplayDone => true
  | .keeperResetDone _ => true
  | .combReset => true
  | .drainRequest u _ => wfUnit u
  | .drainCancel u _ => wfUnit u
  | .drainIdle u => wfUnit u
  | .unitReset u _ => wfUnit u
  | .jtagUnlock w => wfWrite w
  | .thermalHigh _ => true
  | .vfieldAbsent => true
  | .fieldDiePowerUp => true
  | .faultSourceInactive u b => wfUnit u && decide (b < 256)
  | .resetSourceDeassert _ => true
  | .thermalRearm _ => true
  | .busError u => wfCan u

end Sys2Proof
end

