-- ==== Sys2Proof/Machine/Direct.lean ====
section
/-! DEFINITION. The effect rows of the command table: one write, one UnitCommand or one event given by itself, with the checks of 02 Table 2-5 that
concern the write and not its session. -/

namespace Sys2Proof.Machine

/-- A command whose numbers lie outside what the spec gives the device names nothing, and nothing happens (log entry 4). -/
def whenWf (i : Instr) (s t : State) : State := if i.wf then t else s

/-- The checks of a write that concern the object and the unit (02 R46): a status, or the object's row. -/
def directCheck (s : State) (u o : Nat) (w : Write) : Except Nat ObjRow :=
  match (kindOf u).bind (objAt s u · o) with
  | none => .error stNoObject
  | some row =>
    if w.elem < row.elLo ∨ row.elHi < w.elem then .error stNoElement
    else if row.acc = .r then .error stReadOnly
    else if row.acc = .st then .error stStagedOnly
    else if row.acc = .dx ∧ s.st u ≠ usDisabled then .error stWrongState
    else if !typeOk row o w.offset w.data.length then .error stWrongType
    else if !rangeOk s u row o w.data then .error stRange
    else if !sizeOk row o w.offset w.data.length then .error stTooLong
    else .ok row

/-- A write given by itself: checked, it takes effect at once on a unit that a cell serves, as at the commit that retires it, and by its own way
on every other unit (01 OP1; 00 R7, R8). -/
def directWrite (s : State) (o : Nat) (w0 : Write) : State :=
  if !keeperUp s then s
  else
    let u := storeOf s w0.unit o
    let w : Write := { w0 with unit := u }
    match directCheck s u o w with
    | .error e => answerSt s w.origin e
    | .ok row =>
      if cellServed u && !row.jour && o != 0x301 then
        match ownRefusal s u o row w with
        | some e => answerSt s w.origin e
        | none => replyWith w.origin (writeEffect s u o row w)
      else writeServe s u o row w

/-- A command object written with a number of so many bytes. -/
def directCommand (s : State) (u o size v : Nat) (origin : Option Origin) : State :=
  directWrite s o { unit := u, data := leBytes size v, origin := origin }

/-- A UnitCommand acts and is answered, as at the beat start that it waits for (01 R30). -/
def unitActs (s : State) (u c : Nat) (o : Option Origin) : State :=
  if !keeperUp s then s
  else
    let r := unitCommand true s u c o
    match r.1 with
    | some st => answerSt r.2 o st
    | none => r.2

/-- COUNTER_CLEAR: a write to a stick counter (02 R70). -/
def counterClear (s : State) (o : Nat) (w : Write) : State :=
  if (((kindOf w.unit).bind fun k => objAt s w.unit k o).map ObjRow.stick).getD false then directWrite s o w else s

/-- TIMING_OBJECT_WRITE: a write to one of the objects that 03 R82 ties together. -/
def timingWrite (s : State) (o : Nat) (w : Write) : State := if timingObjs.contains o || o == 0x320 then directWrite s o w else s

/-- COMB_PLAN_APPLY with the plan that the image states (01 R31, R33): applied at once, answered when the record of its signature has committed. -/
def planServe (s : State) (p : CombPlan) (o : Option Origin) : State :=
  if !keeperUp s then s
  else
    let rs := [itemRecord 7 (leBytes 4 p.signature)]
    let r := combPlanApply s p
    if r.1 ≠ stOk then answerSt s o r.1
    else if journalFull s rs then answerSt s o stJournalFull
    else journal r.2 rs (.reply o)

/-- FIRMWARE_APPLY with the outcome of the signature check: refused, or the anchor written, the reply sent and the keeper restarted (16 R368). -/
def firmwareServe (s : State) (w : Write) (ok : Bool) : State :=
  if !keeperUp s then s
  else
    let s1 := modJournal s fun j => { j with verifying := false }
    match directCheck s1 0 0xF30 { w with unit := 0 } with
    | .error e => answerSt s1 w.origin e
    | .ok _ =>
      let r := firmwareApply s1 ok
      if r.1 = stOk then firmwareRestart (answerSt r.2 w.origin stOk) else answerSt s1 w.origin r.1

/-- RX_READ (15 R349): the oldest frames, removed, as the reply of a read. -/
def rxServe (s : State) (u n : Nat) (o : Option Origin) : State :=
  if !keeperUp s then s
  else
    let r := rxTake s u n
    answer r.2 o { status := stOk, type := Ty.blob.code, data := r.1 }

/-- The COMB domains run: out of reset and powered. -/
def combRuns (s : State) : Bool :=
  s.rst.phase == .keeperBoot || s.rst.phase == .replay || s.rst.phase == .running

/-- An event of a part that is in reset or off does not come about. -/
def whenRuns (s t : State) : State := if combRuns s then t else s

/-- An event that needs the dictionary. -/
def whenReady (s t : State) : State := if s.rst.phase = .running then t else s

/-- Work of the keeper, which a KEEPER reset holds up (17 R382). -/
def whenKeeper (s t : State) : State := if keeperUp s then t else s

/-- SESSION_TIMEOUT (02 R51). -/
def sessionExpires (s : State) (i : Nat) : State :=
  match s.slot i with
  | .opened _ => endSession s i
  | .free | .challenge .. => s

/-- The field die's supply has risen (14 R325): its unit follows where the comb die runs. -/
def fieldUp (s : State) : State := if combRuns s then fieldPowerUp s else modField s fun f => { f with powered := true }

/-- VFIELD is absent (01 R27). -/
def fieldGone (s : State) : State :=
  if combRuns s then vfieldAbsent s else modField s fun f => { f with powered := false, inputs := [], outputs := [], supplies := [] }

end Sys2Proof.Machine
end

