-- ==== Sys2Proof/Machine/CommandsBeat.lean ====
section
/-! DEFINITION. The commands of the beat, the commit gate and unit commands (01). -/

namespace Sys2Proof.Machine

/-- BEAT_START (R14). -/
def execBeatStart (samples : List SleeveSample) (s : State) : Host.Outcome State Fault Refusal := done s (whenWf (.beatStart samples) s (beatStart s samples))
/-- TICK_START (R214). -/
def execTickStart (sample : SleeveSample) (s : State) : Host.Outcome State Fault Refusal := done s (whenWf (.tickStart sample) s (whenRuns s (tickStart s sample)))
/-- CELL_COMMIT (R15). -/
def execCellCommit (cell : Nat) (registered : Nat) (s : State) : Host.Outcome State Fault Refusal := done s (whenWf (.cellCommit cell registered) s (whenRuns s (cellCommit s cell registered)))
/-- DEADLINE (R18). -/
def execDeadline (cell : Nat) (s : State) : Host.Outcome State Fault Refusal := done s (whenWf (.deadline cell) s (whenRuns s (deadline s cell)))
/-- UNIT_STOP (R30). -/
def execUnitStop (unit : Nat) (origin : Option Origin) (s : State) : Host.Outcome State Fault Refusal := done s (whenWf (.unitStop unit origin) s (unitActs s unit 1 origin))
/-- UNIT_DISABLE (R30). -/
def execUnitDisable (unit : Nat) (origin : Option Origin) (s : State) : Host.Outcome State Fault Refusal := done s (whenWf (.unitDisable unit origin) s (unitActs s unit 2 origin))
/-- UNIT_ENABLE (R30). -/
def execUnitEnable (unit : Nat) (origin : Option Origin) (s : State) : Host.Outcome State Fault Refusal := done s (whenWf (.unitEnable unit origin) s (unitActs s unit 3 origin))
/-- UNIT_START (R30). -/
def execUnitStart (unit : Nat) (origin : Option Origin) (s : State) : Host.Outcome State Fault Refusal := done s (whenWf (.unitStart unit origin) s (unitActs s unit 4 origin))
/-- SELF_TEST_DONE (R409). -/
def execSelfTestDone (cell : Nat) (pass : Bool) (s : State) : Host.Outcome State Fault Refusal := done s (whenWf (.selfTestDone cell pass) s (whenRuns s (selfTestDone s cell pass)))
/-- COMB_PLAN_APPLY (R33). -/
def execCombPlanApply (plan : CombPlan) (origin : Option Origin) (s : State) : Host.Outcome State Fault Refusal := done s (whenWf (.combPlanApply plan origin) s (planServe s plan origin))
/-- ROLE_REASSIGN (R408). -/
def execRoleReassign (failed : Nat) (s : State) : Host.Outcome State Fault Refusal := done s (whenWf (.roleReassign failed) s (whenRuns s (roleReassign s failed)))

end Sys2Proof.Machine
end

