-- ==== Sys2Proof/Machine/CommandsCan.lean ====
section
/-! DEFINITION. The commands of the CAN controllers (15). -/

namespace Sys2Proof.Machine

/-- TX_SLOT (R342). -/
def execTxSlot (w : Write) (s : State) : Host.Outcome State Fault Refusal := done s (whenWf (.txSlot w) s (directWrite s 0xE10 w))
/-- TX_ABORT (R347). -/
def execTxAbort (w : Write) (s : State) : Host.Outcome State Fault Refusal := done s (whenWf (.txAbort w) s (directWrite s 0xE13 w))
/-- RX_READ (R349). -/
def execRxRead (unit : Nat) (dataLength : Nat) (origin : Option Origin) (s : State) : Host.Outcome State Fault Refusal := done s (whenWf (.rxRead unit dataLength origin) s (rxServe s unit dataLength origin))
/-- ARBITRATION (R343). -/
def execArbitration (unit : Nat) (won : Bool) (sof : Nat) (s : State) : Host.Outcome State Fault Refusal := quiet s (whenWf (.arbitration unit won sof) s (whenRuns s (arbitration s unit won sof)))
/-- TX_DONE (R344). -/
def execTxDone (unit : Nat) (s : State) : Host.Outcome State Fault Refusal := done s (whenWf (.txDone unit) s (whenRuns s (txDone s unit)))
/-- TX_ERROR (R344). -/
def execTxError (unit : Nat) (e : CanTxErr) (s : State) : Host.Outcome State Fault Refusal := done s (whenWf (.txError unit e) s (whenRuns s (txError s unit e)))
/-- BUS_RECOVERED (R346). -/
def execBusRecovered (unit : Nat) (s : State) : Host.Outcome State Fault Refusal := done s (whenWf (.busRecovered unit) s (whenRuns s (busRecovered s unit)))
/-- CAN_FRAME_RECEIVE (R348). -/
def execCanFrameReceive (unit : Nat) (f : CanFrame) (sof : Nat) (s : State) : Host.Outcome State Fault Refusal := done s (whenWf (.canFrameReceive unit f sof) s (whenRuns s (canReceive s unit f sof)))
/-- REF_MESSAGE_DUE (R351). -/
def execRefMessageDue (unit : Nat) (s : State) : Host.Outcome State Fault Refusal := quiet s (whenWf (.refMessageDue unit) s (whenRuns s (refDue s unit)))
/-- BUS_ERROR (R345). -/
def execBusError (unit : Nat) (s : State) : Host.Outcome State Fault Refusal := done s (whenWf (.busError unit) s (whenRuns s (busError s unit)))

end Sys2Proof.Machine
end

