-- ==== Sys2Proof/Machine/CommandsFault.lean ====
section
/-! DEFINITION. The commands of kernels in service, recorders and the fault collector (10 to 12). -/

namespace Sys2Proof.Machine

/-- KERNEL_RESTART (R251). -/
def execKernelRestart (w : Write) (s : State) : Host.Outcome State Fault Refusal := done s (whenWf (.kernelRestart w) s (directWrite s 0x110A w))
/-- KERNEL_UPDATE_APPLY (R252). -/
def execKernelUpdateApply (w : Write) (s : State) : Host.Outcome State Fault Refusal := done s (whenWf (.kernelUpdateApply w) s (directWrite s 0x1111 w))
/-- TRIGGER_CONDITION (R262). -/
def execTriggerCondition (w : Write) (s : State) : Host.Outcome State Fault Refusal := done s (whenWf (.triggerCondition w) s (directWrite s 0xA10 w))
/-- STREAM_DATAGRAM_SEND (R270). -/
def execStreamDatagramSend (recorder : Nat) (s : State) : Host.Outcome State Fault Refusal := quiet s (whenWf (.streamDatagramSend recorder) s (whenReady s (streamSend s recorder)))
/-- STREAM_FLUSH_TIMEOUT (R270). -/
def execStreamFlushTimeout (recorder : Nat) (s : State) : Host.Outcome State Fault Refusal := quiet s (whenWf (.streamFlushTimeout recorder) s (whenReady s (streamFlush s recorder)))
/-- FAULT_HIT (R274). -/
def execFaultHit (unit : Nat) (bit : Nat) (s : State) : Host.Outcome State Fault Refusal := done s (whenWf (.faultHit unit bit) s (whenRuns s (detectorHit s unit bit)))
/-- FAULT_STICKY_CLEAR (R275). -/
def execFaultStickyClear (shadowed : Bool) (w : Write) (s : State) : Host.Outcome State Fault Refusal := done s (whenWf (.faultStickyClear shadowed w) s (directWrite s (if shadowed then 0xB02 else 0xB00) w))
/-- READYING_DONE (R286). -/
def execReadyingDone (cell : Nat) (s : State) : Host.Outcome State Fault Refusal := done s (whenWf (.readyingDone cell) s (whenRuns s (readyingDone s cell)))
/-- REHOUSING_QUEUED_START (R289). -/
def execRehousingQueuedStart (s : State) : Host.Outcome State Fault Refusal := done s (whenWf (.rehousingQueuedStart) s (whenRuns s (queuedStart s)))
/-- ROLE_GRANT (R290). -/
def execRoleGrant (cell : Nat) (s : State) : Host.Outcome State Fault Refusal := done s (whenWf (.roleGrant cell) s (whenRuns s (roleGrant s cell)))
/-- QUIET_PERIOD_END (R280). -/
def execQuietPeriodEnd (unit : Nat) (channel : Option Nat) (s : State) : Host.Outcome State Fault Refusal := done s (whenWf (.quietPeriodEnd unit channel) s (whenRuns s (match channel with | some c => channelQuietEnd s c | none => quietPeriodEnd s unit)))
/-- RETIRE_RELEASE (R283). -/
def execRetireRelease (w : Write) (s : State) : Host.Outcome State Fault Refusal := done s (whenWf (.retireRelease w) s (directWrite s 0xB40 w))
/-- OPERATING_TIME_SAVE (R282). -/
def execOperatingTimeSave (s : State) : Host.Outcome State Fault Refusal := done s (whenWf (.operatingTimeSave) s (whenKeeper s (operatingTimeSave s)))
/-- FAULT_SOURCE_INACTIVE (R280). -/
def execFaultSourceInactive (unit : Nat) (bit : Nat) (s : State) : Host.Outcome State Fault Refusal := done s (whenWf (.faultSourceInactive unit bit) s (whenRuns s (sourceInactive s unit bit)))

end Sys2Proof.Machine
end

