-- ==== Sys2Proof/Machine/CommandsField.lean ====
section
/-! DEFINITION. The commands of the field die and the seam (14). -/

namespace Sys2Proof.Machine

/-- SEAM_FRAME_SEND (R323). -/
def execSeamFrameSend (s : State) : Host.Outcome State Fault Refusal := quiet s (whenWf (.seamFrameSend) s (whenRuns s (seamSend s)))
/-- SEAM_FRAME_RECEIVE (R323). -/
def execSeamFrameReceive (toField : Bool) (valid : Bool) (s : State) : Host.Outcome State Fault Refusal := done s (whenWf (.seamFrameReceive toField valid) s (whenRuns s (seamReceive s toField valid)))
/-- FIELD_SEAM_LOSS (R324). -/
def execFieldSeamLoss (s : State) : Host.Outcome State Fault Refusal := quiet s (whenWf (.fieldSeamLoss) s (fieldLoss s))
/-- SEAM_LOSS (R324). -/
def execSeamLoss (s : State) : Host.Outcome State Fault Refusal := done s (whenWf (.seamLoss) s (whenRuns s (seamLoss s)))
/-- FIELD_INPUT_SAMPLE (R326). -/
def execFieldInputSample (levels : Nat) (low : Nat) (s : State) : Host.Outcome State Fault Refusal := done s (whenWf (.fieldInputSample levels low) s (whenRuns s (fieldSample s levels low)))
/-- OUTPUT_SET (R328). -/
def execOutputSet (w : Write) (s : State) : Host.Outcome State Fault Refusal := done s (whenWf (.outputSet w) s (directWrite s 0xD21 w))
/-- OUTPUT_CLEAR (R328). -/
def execOutputClear (w : Write) (s : State) : Host.Outcome State Fault Refusal := done s (whenWf (.outputClear w) s (directWrite s 0xD22 w))
/-- CURRENT_LIMIT_TIMEOUT (R330). -/
def execCurrentLimitTimeout (ch : FieldSwitch) (s : State) : Host.Outcome State Fault Refusal := done s (whenWf (.currentLimitTimeout ch) s (whenRuns s (limitEvent s ch)))
/-- OUTPUT_RETRY (R330). -/
def execOutputRetry (ch : FieldSwitch) (s : State) : Host.Outcome State Fault Refusal := done s (whenWf (.outputRetry ch) s (outputRetry s ch))
/-- OUT_OVERTEMP (R329). -/
def execOutOvertemp (ch : FieldSwitch) (s : State) : Host.Outcome State Fault Refusal := done s (whenWf (.outOvertemp ch) s (whenRuns s (switchHot s ch)))
/-- OUT_OPEN_LOAD (R329). -/
def execOutOpenLoad (output : Nat) (s : State) : Host.Outcome State Fault Refusal := done s (whenWf (.outOpenLoad output) s (whenRuns s (openLoad s output)))
/-- TP_OVERLOAD (R332). -/
def execTpOverload (output : Nat) (s : State) : Host.Outcome State Fault Refusal := done s (whenWf (.tpOverload output) s (whenRuns s (tpOverload s output)))
/-- VFIELD_LOW (R325). -/
def execVfieldLow (microvolts : Nat) (s : State) : Host.Outcome State Fault Refusal := done s (whenWf (.vfieldLow microvolts) s (whenRuns s (vfieldLow s microvolts)))
/-- DIE_OVERTEMP (R325). -/
def execDieOvertemp (s : State) : Host.Outcome State Fault Refusal := done s (whenWf (.dieOvertemp) s (whenRuns s (dieHot s)))
/-- VFIELD_ABSENT (R27). -/
def execVfieldAbsent (s : State) : Host.Outcome State Fault Refusal := done s (whenWf (.vfieldAbsent) s (fieldGone s))
/-- FIELD_DIE_POWER_UP (R325). -/
def execFieldDiePowerUp (s : State) : Host.Outcome State Fault Refusal := done s (whenWf (.fieldDiePowerUp) s (fieldUp s))

end Sys2Proof.Machine
end

