-- ==== Sys2Proof/Machine/CommandsKernel.lean ====
section
/-! DEFINITION. The commands of the cell datapath (10): one instruction of a user kernel each. -/

namespace Sys2Proof.Machine

/-- NOP (R240). -/
def execNop (k : Nat) (s : State) : Host.Outcome State Fault Refusal := quiet s (doNop k s)
/-- ADD (R240). -/
def execAdd (k : Nat) (d : Fin 32) (a : Fin 32) (b : Fin 32) (s : State) : Host.Outcome State Fault Refusal := quiet s (doAdd k d a b s)
/-- SUB (R240). -/
def execSub (k : Nat) (d : Fin 32) (a : Fin 32) (b : Fin 32) (s : State) : Host.Outcome State Fault Refusal := quiet s (doSub k d a b s)
/-- AND (R240). -/
def execAnd (k : Nat) (d : Fin 32) (a : Fin 32) (b : Fin 32) (s : State) : Host.Outcome State Fault Refusal := quiet s (doAnd k d a b s)
/-- OR (R240). -/
def execOr (k : Nat) (d : Fin 32) (a : Fin 32) (b : Fin 32) (s : State) : Host.Outcome State Fault Refusal := quiet s (doOr k d a b s)
/-- XOR (R240). -/
def execXor (k : Nat) (d : Fin 32) (a : Fin 32) (b : Fin 32) (s : State) : Host.Outcome State Fault Refusal := quiet s (doXor k d a b s)
/-- SHL (R240). -/
def execShl (k : Nat) (d : Fin 32) (a : Fin 32) (b : Fin 32) (s : State) : Host.Outcome State Fault Refusal := quiet s (doShl k d a b s)
/-- SHR (R240). -/
def execShr (k : Nat) (d : Fin 32) (a : Fin 32) (b : Fin 32) (s : State) : Host.Outcome State Fault Refusal := quiet s (doShr k d a b s)
/-- SAR (R240). -/
def execSar (k : Nat) (d : Fin 32) (a : Fin 32) (b : Fin 32) (s : State) : Host.Outcome State Fault Refusal := quiet s (doSar k d a b s)
/-- MUL (R240). -/
def execMul (k : Nat) (d : Fin 32) (a : Fin 32) (b : Fin 32) (s : State) : Host.Outcome State Fault Refusal := quiet s (doMul k d a b s)
/-- MULH (R240). -/
def execMulh (k : Nat) (d : Fin 32) (a : Fin 32) (b : Fin 32) (s : State) : Host.Outcome State Fault Refusal := quiet s (doMulh k d a b s)
/-- SLT (R240). -/
def execSlt (k : Nat) (d : Fin 32) (a : Fin 32) (b : Fin 32) (s : State) : Host.Outcome State Fault Refusal := quiet s (doSlt k d a b s)
/-- SLTU (R240). -/
def execSltu (k : Nat) (d : Fin 32) (a : Fin 32) (b : Fin 32) (s : State) : Host.Outcome State Fault Refusal := quiet s (doSltu k d a b s)
/-- ADDI (R240). -/
def execAddi (k : Nat) (d : Fin 32) (imm : BitVec 19) (s : State) : Host.Outcome State Fault Refusal := quiet s (doAddi k d imm s)
/-- ANDI (R240). -/
def execAndi (k : Nat) (d : Fin 32) (imm : BitVec 19) (s : State) : Host.Outcome State Fault Refusal := quiet s (doAndi k d imm s)
/-- ORI (R240). -/
def execOri (k : Nat) (d : Fin 32) (imm : BitVec 19) (s : State) : Host.Outcome State Fault Refusal := quiet s (doOri k d imm s)
/-- LUI (R240). -/
def execLui (k : Nat) (d : Fin 32) (imm : BitVec 19) (s : State) : Host.Outcome State Fault Refusal := quiet s (doLui k d imm s)
/-- FADD (R240). -/
def execFadd (k : Nat) (d : Fin 32) (a : Fin 32) (b : Fin 32) (s : State) : Host.Outcome State Fault Refusal := quiet s (doFadd k d a b s)
/-- FSUB (R240). -/
def execFsub (k : Nat) (d : Fin 32) (a : Fin 32) (b : Fin 32) (s : State) : Host.Outcome State Fault Refusal := quiet s (doFsub k d a b s)
/-- FMUL (R240). -/
def execFmul (k : Nat) (d : Fin 32) (a : Fin 32) (b : Fin 32) (s : State) : Host.Outcome State Fault Refusal := quiet s (doFmul k d a b s)
/-- FFMA (R240). -/
def execFfma (k : Nat) (d : Fin 32) (a : Fin 32) (b : Fin 32) (c : Fin 32) (s : State) : Host.Outcome State Fault Refusal := quiet s (doFfma k d a b c s)
/-- FDIV (R240). -/
def execFdiv (k : Nat) (d : Fin 32) (a : Fin 32) (b : Fin 32) (s : State) : Host.Outcome State Fault Refusal := quiet s (doFdiv k d a b s)
/-- FSQRT (R240). -/
def execFsqrt (k : Nat) (d : Fin 32) (a : Fin 32) (s : State) : Host.Outcome State Fault Refusal := quiet s (doFsqrt k d a s)
/-- ITOF (R240). -/
def execItof (k : Nat) (d : Fin 32) (a : Fin 32) (s : State) : Host.Outcome State Fault Refusal := quiet s (doItof k d a s)
/-- FTOI (R240). -/
def execFtoi (k : Nat) (d : Fin 32) (a : Fin 32) (s : State) : Host.Outcome State Fault Refusal := quiet s (doFtoi k d a s)
/-- FLT (R240). -/
def execFlt (k : Nat) (d : Fin 32) (a : Fin 32) (b : Fin 32) (s : State) : Host.Outcome State Fault Refusal := quiet s (doFlt k d a b s)
/-- FNEG (R240). -/
def execFneg (k : Nat) (d : Fin 32) (a : Fin 32) (s : State) : Host.Outcome State Fault Refusal := quiet s (doFneg k d a s)
/-- FABS (R240). -/
def execFabs (k : Nat) (d : Fin 32) (a : Fin 32) (s : State) : Host.Outcome State Fault Refusal := quiet s (doFabs k d a s)
/-- VLD (R241). -/
def execVld (k : Nat) (d : Fin 8) (p : Fin 8) (mode : Fin 4) (off : BitVec 14) (s : State) : Host.Outcome State Fault Refusal := quiet s (doVld k d p mode off s)
/-- VST (R241). -/
def execVst (k : Nat) (d : Fin 8) (p : Fin 8) (mode : Fin 4) (off : BitVec 14) (s : State) : Host.Outcome State Fault Refusal := quiet s (doVst k d p mode off s)
/-- VBC (R240). -/
def execVbc (k : Nat) (d : Fin 8) (a : Fin 32) (s : State) : Host.Outcome State Fault Refusal := quiet s (doVbc k d a s)
/-- VFMA (R240). -/
def execVfma (k : Nat) (d : Fin 4) (a : Fin 32) (b : Fin 8) (s : State) : Host.Outcome State Fault Refusal := quiet s (doVfma k d a b s)
/-- VMUL (R240). -/
def execVmul (k : Nat) (d : Fin 8) (a : Fin 32) (b : Fin 8) (s : State) : Host.Outcome State Fault Refusal := quiet s (doVmul k d a b s)
/-- VADD (R240). -/
def execVadd (k : Nat) (d : Fin 8) (a : Fin 8) (b : Fin 8) (s : State) : Host.Outcome State Fault Refusal := quiet s (doVadd k d a b s)
/-- ACLR (R240). -/
def execAclr (k : Nat) (d : Fin 4) (s : State) : Host.Outcome State Fault Refusal := quiet s (doAclr k d s)
/-- AMOV (R240). -/
def execAmov (k : Nat) (d : Fin 8) (a : Fin 4) (s : State) : Host.Outcome State Fault Refusal := quiet s (doAmov k d a s)
/-- VSUM (R240). -/
def execVsum (k : Nat) (d : Fin 32) (a : Fin 8) (s : State) : Host.Outcome State Fault Refusal := quiet s (doVsum k d a s)
/-- VGET (R240). -/
def execVget (k : Nat) (d : Fin 32) (a : Fin 8) (func : BitVec 4) (s : State) : Host.Outcome State Fault Refusal := quiet s (doVget k d a func s)
/-- VPUT (R240). -/
def execVput (k : Nat) (d : Fin 8) (a : Fin 32) (func : BitVec 4) (s : State) : Host.Outcome State Fault Refusal := quiet s (doVput k d a func s)
/-- LD (R241). -/
def execLd (k : Nat) (d : Fin 32) (p : Fin 8) (mode : Fin 4) (off : BitVec 14) (s : State) : Host.Outcome State Fault Refusal := quiet s (doLd k d p mode off s)
/-- ST (R241). -/
def execSt (k : Nat) (d : Fin 32) (p : Fin 8) (mode : Fin 4) (off : BitVec 14) (s : State) : Host.Outcome State Fault Refusal := quiet s (doSt k d p mode off s)
/-- PSET (R240). -/
def execPset (k : Nat) (d : Fin 8) (a : Fin 32) (s : State) : Host.Outcome State Fault Refusal := quiet s (doPset k d a s)
/-- BSET (R240). -/
def execBset (k : Nat) (d : Fin 8) (a : Fin 32) (s : State) : Host.Outcome State Fault Refusal := quiet s (doBset k d a s)
/-- LSET (R240). -/
def execLset (k : Nat) (d : Fin 8) (a : Fin 32) (s : State) : Host.Outcome State Fault Refusal := quiet s (doLset k d a s)
/-- PGET (R240). -/
def execPget (k : Nat) (d : Fin 32) (a : Fin 8) (s : State) : Host.Outcome State Fault Refusal := quiet s (doPget k d a s)
/-- SRCH (R242). -/
def execSrch (k : Nat) (d : Fin 32) (a : Fin 8) (b : Fin 32) (func : BitVec 4) (s : State) : Host.Outcome State Fault Refusal := quiet s (doSrch k d a b func s)
/-- BZ (R240). -/
def execBz (k : Nat) (d : Fin 32) (imm : BitVec 19) (s : State) : Host.Outcome State Fault Refusal := quiet s (doBz k d imm s)
/-- BNZ (R240). -/
def execBnz (k : Nat) (d : Fin 32) (imm : BitVec 19) (s : State) : Host.Outcome State Fault Refusal := quiet s (doBnz k d imm s)
/-- BR (R240). -/
def execBr (k : Nat) (imm : BitVec 19) (s : State) : Host.Outcome State Fault Refusal := quiet s (doBr k imm s)
/-- LOOP (R240). -/
def execLoop (k : Nat) (d : Fin 32) (imm : BitVec 19) (s : State) : Host.Outcome State Fault Refusal := quiet s (doLoop k d imm s)
/-- JAL (R240). -/
def execJal (k : Nat) (d : Fin 32) (imm : BitVec 19) (s : State) : Host.Outcome State Fault Refusal := quiet s (doJal k d imm s)
/-- JR (R240). -/
def execJr (k : Nat) (a : Fin 32) (s : State) : Host.Outcome State Fault Refusal := quiet s (doJr k a s)
/-- END (R240). -/
def execEndK (k : Nat) (s : State) : Host.Outcome State Fault Refusal := quiet s (doEnd k s)
/-- ILLEGAL_INSTRUCTION (R239). -/
def execIllegalInstruction (k : Nat) (word : W32) (s : State) : Host.Outcome State Fault Refusal := quiet s (doIllegal k word s)
/-- KERNEL_OVERRUN (R250). -/
def execKernelOverrun (k : Nat) (s : State) : Host.Outcome State Fault Refusal := quiet s (kOverrun s k)
/-- CRC_POLY (R254). -/
def execCrcPoly (k : Nat) (v : W32) (s : State) : Host.Outcome State Fault Refusal := quiet s (doCrcPoly k v s)
/-- CRC_CFG (R254). -/
def execCrcCfg (k : Nat) (v : W32) (s : State) : Host.Outcome State Fault Refusal := quiet s (doCrcCfg k v s)
/-- CRC_INIT (R254). -/
def execCrcInit (k : Nat) (v : W32) (s : State) : Host.Outcome State Fault Refusal := quiet s (doCrcInit k v s)
/-- CRC_VALUE (R254). -/
def execCrcValue (k : Nat) (v : W32) (s : State) : Host.Outcome State Fault Refusal := quiet s (doCrcValue k v s)
/-- CRC_IN8 (R254). -/
def execCrcIn8 (k : Nat) (v : W32) (s : State) : Host.Outcome State Fault Refusal := quiet s (doCrcIn8 k v s)
/-- CRC_IN16 (R254). -/
def execCrcIn16 (k : Nat) (v : W32) (s : State) : Host.Outcome State Fault Refusal := quiet s (doCrcIn16 k v s)
/-- CRC_IN32 (R254). -/
def execCrcIn32 (k : Nat) (v : W32) (s : State) : Host.Outcome State Fault Refusal := quiet s (doCrcIn32 k v s)

end Sys2Proof.Machine
end

