-- ==== Sys2Proof/Machine/CommandsMotion.lean ====
section
/-! DEFINITION. The commands of trajectories, jobs, gearing, latch and compare, and the control engine (04 to 07). -/

namespace Sys2Proof.Machine

/-- SEGMENT_APPEND (R96). -/
def execSegmentAppend (w : Write) (s : State) : Host.Outcome State Fault Refusal := done s (whenWf (.segmentAppend w) s (directWrite s 0x710 w))
/-- QUEUE_FLUSH (R105). -/
def execQueueFlush (unit : Nat) (origin : Option Origin) (s : State) : Host.Outcome State Fault Refusal := done s (whenWf (.queueFlush unit origin) s (directCommand s unit 0x712 1 1 origin))
/-- QUEUE_ABORT (R105). -/
def execQueueAbort (unit : Nat) (origin : Option Origin) (s : State) : Host.Outcome State Fault Refusal := done s (whenWf (.queueAbort unit origin) s (directCommand s unit 0x712 1 2 origin))
/-- JOB_DISCARD (R110). -/
def execJobDiscard (w : Write) (s : State) : Host.Outcome State Fault Refusal := done s (whenWf (.jobDiscard w) s (directWrite s 0x787 w))
/-- COMMIT_LOADED (R112). -/
def execCommitLoaded (s : State) : Host.Outcome State Fault Refusal := done s (whenWf (.commitLoaded) s (whenReady s (commitLoaded s)))
/-- COMMIT_LOAD_CHECK (R116). -/
def execCommitLoadCheck (s : State) : Host.Outcome State Fault Refusal := done s (whenWf (.commitLoadCheck) s (whenReady s (commitLoadCheck s)))
/-- PHASE_TRIM_ADD (R130). -/
def execPhaseTrimAdd (w : Write) (s : State) : Host.Outcome State Fault Refusal := done s (whenWf (.phaseTrimAdd w) s (directWrite s 0x811 w))
/-- CAM_OPEN (R133). -/
def execCamOpen (table : Nat) (origin : Option Origin) (s : State) : Host.Outcome State Fault Refusal := done s (whenWf (.camOpen table origin) s (directCommand s 0 (0x2C00 + table) 1 1 origin))
/-- CAM_SEAL (R133). -/
def execCamSeal (table : Nat) (origin : Option Origin) (s : State) : Host.Outcome State Fault Refusal := done s (whenWf (.camSeal table origin) s (directCommand s 0 (0x2C00 + table) 1 2 origin))
/-- CAM_ERASE (R133). -/
def execCamErase (table : Nat) (origin : Option Origin) (s : State) : Host.Outcome State Fault Refusal := done s (whenWf (.camErase table origin) s (directCommand s 0 (0x2C00 + table) 1 3 origin))
/-- LATCH_EDGE (R145). -/
def execLatchEdge (input : Nat) (level : Bool) (stamp : Nat) (s : State) : Host.Outcome State Fault Refusal := quiet s (whenWf (.latchEdge input level stamp) s (whenRuns s (latchEdge s input level stamp)))
/-- LATCH_ENTRY_INSERT (R148). -/
def execLatchEntryInsert (unit : Nat) (s : State) : Host.Outcome State Fault Refusal := quiet s (whenWf (.latchEntryInsert unit) s (whenRuns s (latchInsert s unit)))
/-- COMPARE_APPEND (R153). -/
def execCompareAppend (w : Write) (s : State) : Host.Outcome State Fault Refusal := done s (whenWf (.compareAppend w) s (directWrite s 0x933 w))
/-- COMPARE_TARGET_INSERT (R155). -/
def execCompareTargetInsert (unit : Nat) (s : State) : Host.Outcome State Fault Refusal := quiet s (whenWf (.compareTargetInsert unit) s (whenRuns s (compareInsert s unit)))
/-- COMPARE_FIRE (R156). -/
def execCompareFire (unit : Nat) (s : State) : Host.Outcome State Fault Refusal := quiet s (whenWf (.compareFire unit) s (whenRuns s (compareFire s unit)))
/-- PULSE_END (R157). -/
def execPulseEnd (pin : Nat) (s : State) : Host.Outcome State Fault Refusal := quiet s (whenWf (.pulseEnd pin) s (whenRuns s (pulseEnd s pin)))
/-- COMPARE_FLUSH (R158). -/
def execCompareFlush (unit : Nat) (origin : Option Origin) (s : State) : Host.Outcome State Fault Refusal := done s (whenWf (.compareFlush unit origin) s (directCommand s unit 0x935 1 1 origin))
/-- COMPARE_STATUS_CLEAR (R161). -/
def execCompareStatusClear (w : Write) (s : State) : Host.Outcome State Fault Refusal := done s (whenWf (.compareStatusClear w) s (directWrite s 0x936 w))
/-- TORQUE_OFFSET_CLEAR (R186). -/
def execTorqueOffsetClear (unit : Nat) (origin : Option Origin) (s : State) : Host.Outcome State Fault Refusal := done s (whenWf (.torqueOffsetClear unit origin) s (directCommand s unit 0x606 1 1 origin))
/-- BANK_SWAP_REQUEST (R177). -/
def execBankSwapRequest (w : Write) (s : State) : Host.Outcome State Fault Refusal := done s (whenWf (.bankSwapRequest w) s (directWrite s 0x641 w))

end Sys2Proof.Machine
end

