-- ==== Sys2Proof/Machine/CommandsReset.lean ====
section
/-! DEFINITION. The commands of the journal, firmware, reset and power (16, 17). -/

namespace Sys2Proof.Machine

/-- JOURNAL_COMMIT (R356). -/
def execJournalCommit (s : State) : Host.Outcome State Fault Refusal := done s (whenWf (.journalCommit) s (journalCommits s))
/-- RENDER_NOW (R361). -/
def execRenderNow (w : Write) (s : State) : Host.Outcome State Fault Refusal := done s (whenWf (.renderNow w) s (directWrite s 0xF10 w))
/-- RENDER_DONE (R363). -/
def execRenderDone (s : State) : Host.Outcome State Fault Refusal := done s (whenWf (.renderDone) s (whenKeeper s (renderDone s)))
/-- RETIREMENTS_ACCEPT (R358). -/
def execRetirementsAccept (w : Write) (s : State) : Host.Outcome State Fault Refusal := done s (whenWf (.retirementsAccept w) s (directWrite s 0xF11 w))
/-- PFAIL (R365). -/
def execPfail (s : State) : Host.Outcome State Fault Refusal := quiet s (whenWf (.pfail) s (pfail s))
/-- FIRMWARE_APPLY (R368). -/
def execFirmwareApply (w : Write) (signatureOk : Bool) (s : State) : Host.Outcome State Fault Refusal := done s (whenWf (.firmwareApply w signatureOk) s (firmwareServe s w signatureOk))
/-- FIRMWARE_CONFIRMED (R369). -/
def execFirmwareConfirmed (s : State) : Host.Outcome State Fault Refusal := done s (whenWf (.firmwareConfirmed) s (whenKeeper s (firmwareConfirmed s)))
/-- POR (R373). -/
def execPor (v : Supplies) (s : State) : Host.Outcome State Fault Refusal := done s (whenWf (.por v) s (porAsserts s v))
/-- BOR_CORE (R373). -/
def execBorCore (v : Supplies) (s : State) : Host.Outcome State Fault Refusal := done s (whenWf (.borCore v) s (borCoreAsserts s v))
/-- BOR_IO (R373). -/
def execBorIo (v : Supplies) (s : State) : Host.Outcome State Fault Refusal := done s (whenWf (.borIo v) s (borIoAsserts s v))
/-- PIN (R373). -/
def execPin (s : State) : Host.Outcome State Fault Refusal := done s (whenWf (.pin) s (pinAsserts s))
/-- KEEPER_WDG (R373). -/
def execKeeperWdg (s : State) : Host.Outcome State Fault Refusal := done s (whenWf (.keeperWdg) s (keeperWdgAsserts s))
/-- DEBUG (R373). -/
def execDebug (s : State) : Host.Outcome State Fault Refusal := done s (whenWf (.debug) s (debugAsserts s))
/-- THERMAL (R373). -/
def execThermal (milliCelsius : Int) (s : State) : Host.Outcome State Fault Refusal := done s (whenWf (.thermal milliCelsius) s (thermalAsserts s milliCelsius))
/-- RESET_REQUEST_FULL (R376). -/
def execResetRequestFull (origin : Option Origin) (s : State) : Host.Outcome State Fault Refusal := done s (whenWf (.resetRequestFull origin) s (directCommand s 0 0x1010 1 1 origin))
/-- RESET_REQUEST_DEVICE (R376). -/
def execResetRequestDevice (origin : Option Origin) (s : State) : Host.Outcome State Fault Refusal := done s (whenWf (.resetRequestDevice origin) s (directCommand s 0 0x1010 1 2 origin))
/-- RESET_REQUEST_KEEPER (R376). -/
def execResetRequestKeeper (origin : Option Origin) (s : State) : Host.Outcome State Fault Refusal := done s (whenWf (.resetRequestKeeper origin) s (directCommand s 0 0x1010 1 3 origin))
/-- RESET_REQUEST_COMB (R376). -/
def execResetRequestComb (origin : Option Origin) (s : State) : Host.Outcome State Fault Refusal := done s (whenWf (.resetRequestComb origin) s (directCommand s 0 0x1010 1 4 origin))
/-- RESET_STRETCH_END (R380). -/
def execResetStretchEnd (s : State) : Host.Outcome State Fault Refusal := done s (whenWf (.resetStretchEnd) s (stretchEnd s))
/-- FUSE_LOAD_DONE (R378). -/
def execFuseLoadDone (rows : List FuseRow) (s : State) : Host.Outcome State Fault Refusal := done s (whenWf (.fuseLoadDone rows) s (fuseLoadDone s rows))
/-- KEEPER_BOOT_DONE (R388). -/
def execKeeperBootDone (signatureOk : Bool) (s : State) : Host.Outcome State Fault Refusal := done s (whenWf (.keeperBootDone signatureOk) s (keeperBootDone s signatureOk))
/-- JOURNAL_REPLAY_DONE (R357). -/
def execJournalReplayDone (s : State) : Host.Outcome State Fault Refusal := done s (whenWf (.journalReplayDone) s (journalReplayDone s))
/-- KEEPER_RESET_DONE (R382). -/
def execKeeperResetDone (signatureOk : Bool) (s : State) : Host.Outcome State Fault Refusal := done s (whenWf (.keeperResetDone signatureOk) s (servePaused (keeperResetDone s signatureOk)))
/-- COMB_RESET (R383). -/
def execCombReset (s : State) : Host.Outcome State Fault Refusal := done s (whenWf (.combReset) s (whenReady s (combBegin s)))
/-- DRAIN_REQUEST (R384). -/
def execDrainRequest (unit : Nat) (origin : Option Origin) (s : State) : Host.Outcome State Fault Refusal := done s (whenWf (.drainRequest unit origin) s (directCommand s unit 0x1011 1 1 origin))
/-- DRAIN_CANCEL (R384). -/
def execDrainCancel (unit : Nat) (origin : Option Origin) (s : State) : Host.Outcome State Fault Refusal := done s (whenWf (.drainCancel unit origin) s (directCommand s unit 0x1011 1 2 origin))
/-- DRAIN_IDLE (R384). -/
def execDrainIdle (unit : Nat) (s : State) : Host.Outcome State Fault Refusal := done s (whenWf (.drainIdle unit) s (whenRuns s (drainIdle s unit)))
/-- UNIT_RESET (R385). -/
def execUnitReset (unit : Nat) (origin : Option Origin) (s : State) : Host.Outcome State Fault Refusal := done s (whenWf (.unitReset unit origin) s (directCommand s unit 0x1013 1 1 origin))
/-- JTAG_UNLOCK (R389). -/
def execJtagUnlock (w : Write) (s : State) : Host.Outcome State Fault Refusal := done s (whenWf (.jtagUnlock w) s (directWrite s 0x1030 w))
/-- THERMAL_HIGH (R390). -/
def execThermalHigh (milliCelsius : Int) (s : State) : Host.Outcome State Fault Refusal := done s (whenWf (.thermalHigh milliCelsius) s (whenReady s (thermalHigh s milliCelsius)))
/-- RESET_SOURCE_DEASSERT (R380). -/
def execResetSourceDeassert (source : ResetSource) (s : State) : Host.Outcome State Fault Refusal := done s (whenWf (.resetSourceDeassert source) s (sourceDeassert s source))
/-- THERMAL_REARM (R390). -/
def execThermalRearm (milliCelsius : Int) (s : State) : Host.Outcome State Fault Refusal := quiet s (whenWf (.thermalRearm milliCelsius) s (thermalRearm s milliCelsius))

end Sys2Proof.Machine
end

