-- ==== Sys2Proof/Machine/CommandsSession.lean ====
section
/-! DEFINITION. The commands of LFP, sessions, waggles and process data (02). -/

namespace Sys2Proof.Machine

/-- OPEN (R49). -/
def execOpenSession (d : Dgram) (draw : OpenDraw) (s : State) : Host.Outcome State Fault Refusal := done s (whenWf (.openSession d draw) s (lfpCommand mkOpen s d draw))
/-- PROOF (R49). -/
def execProof (d : Dgram) (s : State) : Host.Outcome State Fault Refusal := done s (whenWf (.proof d) s (lfpCommand mkProof s d default))
/-- CHALLENGE_TIMEOUT (R49). -/
def execChallengeTimeout (slot : Nat) (s : State) : Host.Outcome State Fault Refusal := done s (whenWf (.challengeTimeout slot) s (whenKeeper s (challengeExpires s slot)))
/-- CLOSE (R51). -/
def execClose (d : Dgram) (s : State) : Host.Outcome State Fault Refusal := done s (whenWf (.close d) s (lfpCommand mkClose s d default))
/-- KEEPALIVE (R51). -/
def execKeepalive (d : Dgram) (s : State) : Host.Outcome State Fault Refusal := done s (whenWf (.keepalive d) s (lfpCommand mkKeepalive s d default))
/-- SESSION_TIMEOUT (R51). -/
def execSessionTimeout (slot : Nat) (s : State) : Host.Outcome State Fault Refusal := done s (whenWf (.sessionTimeout slot) s (whenKeeper s (sessionExpires s slot)))
/-- READ (R46). -/
def execRead (d : Dgram) (s : State) : Host.Outcome State Fault Refusal := done s (whenWf (.read d) s (lfpCommand mkRead s d default))
/-- WRITE (R42). -/
def execWrite (d : Dgram) (s : State) : Host.Outcome State Fault Refusal := done s (whenWf (.write d) s (lfpCommand mkWrite s d default))
/-- STAGE (R109). -/
def execStage (d : Dgram) (s : State) : Host.Outcome State Fault Refusal := done s (whenWf (.stage d) s (lfpCommand mkStage s d default))
/-- COMMIT (R112). -/
def execCommit (d : Dgram) (s : State) : Host.Outcome State Fault Refusal := done s (whenWf (.commit d) s (lfpCommand mkCommit s d default))
/-- REVOKE (R117). -/
def execRevoke (d : Dgram) (s : State) : Host.Outcome State Fault Refusal := done s (whenWf (.revoke d) s (lfpCommand mkRevoke s d default))
/-- WAGGLE_ACK (R56). -/
def execWaggleAck (d : Dgram) (s : State) : Host.Outcome State Fault Refusal := done s (whenWf (.waggleAck d) s (lfpCommand mkWaggleAck s d default))
/-- PD_OUT (R63). -/
def execPdOut (d : Dgram) (arrival : Nat) (s : State) : Host.Outcome State Fault Refusal := quiet s (whenWf (.pdOut d arrival) s (pdArrives s d arrival))
/-- ARP_REQUEST (R36). -/
def execArpRequest (r : ArpRequest) (s : State) : Host.Outcome State Fault Refusal := quiet s (whenWf (.arpRequest r) s (whenKeeper s (arpServe s r)))
/-- ICMP_ECHO_REQUEST (R36). -/
def execIcmpEchoRequest (r : IcmpEcho) (s : State) : Host.Outcome State Fault Refusal := quiet s (whenWf (.icmpEchoRequest r) s (whenKeeper s (icmpServe s r)))
/-- COMMISSIONING_PROBE (R37). -/
def execCommissioningProbe (answered : Bool) (s : State) : Host.Outcome State Fault Refusal := quiet s (whenWf (.commissioningProbe answered) s (whenKeeper s (commissionProbe s answered)))
/-- NET_APPLY (R36). -/
def execNetApply (w : Write) (s : State) : Host.Outcome State Fault Refusal := done s (whenWf (.netApply w) s (directWrite s 0x104 w))
/-- LEVEL_KEY (R52). -/
def execLevelKey (w : Write) (s : State) : Host.Outcome State Fault Refusal := done s (whenWf (.levelKey w) s (directWrite s 0x010 w))
/-- WAGGLE_SEND (R56). -/
def execWaggleSend (slot : Nat) (s : State) : Host.Outcome State Fault Refusal := quiet s (whenWf (.waggleSend slot) s (whenReady s (waggleSendNext s slot)))
/-- WAGGLE_REPEAT (R56). -/
def execWaggleRepeat (slot : Nat) (s : State) : Host.Outcome State Fault Refusal := quiet s (whenWf (.waggleRepeat slot) s (whenReady s (waggleResend s slot)))
/-- GAP_APPEND (R59). -/
def execGapAppend (s : State) : Host.Outcome State Fault Refusal := quiet s (whenWf (.gapAppend) s (whenReady s (appendGaps s)))
/-- PD_MAP_APPLY (R62). -/
def execPdMapApply (w : Write) (s : State) : Host.Outcome State Fault Refusal := done s (whenWf (.pdMapApply w) s (directWrite s 0x144 w))
/-- PD_IN_LAUNCH (R85). -/
def execPdInLaunch (s : State) : Host.Outcome State Fault Refusal := quiet s (whenWf (.pdInLaunch) s (pdLaunch s))
/-- COUNTER_CLEAR (R70). -/
def execCounterClear (obj : Nat) (w : Write) (s : State) : Host.Outcome State Fault Refusal := done s (whenWf (.counterClear obj w) s (counterClear s obj w))
/-- OBJECT_WRITE (R7). -/
def execObjectWrite (obj : Nat) (w : Write) (s : State) : Host.Outcome State Fault Refusal := done s (whenWf (.objectWrite obj w) s (directWrite s obj w))

end Sys2Proof.Machine
end

