-- ==== Sys2Proof/Machine/CommandsSleeve.lean ====
section
/-! DEFINITION. The commands of the sleeves: PWM, trips and feedback (08, 09). -/

namespace Sys2Proof.Machine

/-- CARRIER_UPDATE (R194). -/
def execCarrierUpdate (sleeve : Nat) (s : State) : Host.Outcome State Fault Refusal := quiet s (whenWf (.carrierUpdate sleeve) s (whenRuns s (carrierUpdate s sleeve)))
/-- PULSE_DECISION (R201). -/
def execPulseDecision (sleeve : Nat) (phase : Nat) (high : Bool) (s : State) : Host.Outcome State Fault Refusal := quiet s (whenWf (.pulseDecision sleeve phase high) s (whenRuns s (pulseDecide s sleeve phase high)))
/-- DELAY_CAL (R197). -/
def execDelayCal (bank : Nat) (ok : Bool) (s : State) : Host.Outcome State Fault Refusal := done s (whenWf (.delayCal bank ok) s (whenRuns s (delayCal s bank ok)))
/-- TRIP (R206). -/
def execTrip (sleeve : Nat) (source : TripInput) (s : State) : Host.Outcome State Fault Refusal := done s (whenWf (.trip sleeve source) s (whenRuns s (tripArrives s sleeve source)))
/-- TRIP_SOURCE_DEASSERT (R208). -/
def execTripSourceDeassert (sleeve : Nat) (source : TripSource) (s : State) : Host.Outcome State Fault Refusal := done s (whenWf (.tripSourceDeassert sleeve source) s (whenRuns s (tripOut s sleeve (tripBit source))))
/-- TRIP_CLEAR (R209). -/
def execTripClear (w : Write) (s : State) : Host.Outcome State Fault Refusal := done s (whenWf (.tripClear w) s (directWrite s 0x442 w))
/-- TRIP_CLEARED (R209). -/
def execTripCleared (sleeve : Nat) (s : State) : Host.Outcome State Fault Refusal := done s (whenWf (.tripCleared sleeve) s (whenRuns s (tripCleared s sleeve)))
/-- READBACK (R210). -/
def execReadback (sleeve : Nat) (pin : Nat) (level : Bool) (s : State) : Host.Outcome State Fault Refusal := done s (whenWf (.readback sleeve pin level) s (whenRuns s (readback s sleeve pin level)))
/-- COUNT_EDGE (R215). -/
def execCountEdge (sleeve : Nat) (a : Bool) (b : Bool) (stamp : Nat) (s : State) : Host.Outcome State Fault Refusal := done s (whenWf (.countEdge sleeve a b stamp) s (whenRuns s (countEdge s sleeve a b stamp)))
/-- HALL_STEP (R218). -/
def execHallStep (sleeve : Nat) (a : Bool) (b : Bool) (c : Bool) (stamp : Nat) (s : State) : Host.Outcome State Fault Refusal := done s (whenWf (.hallStep sleeve a b c stamp) s (whenRuns s (hallStep s sleeve a b c stamp)))
/-- INDEX_EDGE (R217). -/
def execIndexEdge (sleeve : Nat) (stamp : Nat) (s : State) : Host.Outcome State Fault Refusal := quiet s (whenWf (.indexEdge sleeve stamp) s (whenRuns s (indexEdge s sleeve stamp)))
/-- SERIAL_TRANSACTION_START (R224). -/
def execSerialTransactionStart (sleeve : Nat) (s : State) : Host.Outcome State Fault Refusal := quiet s (whenWf (.serialTransactionStart sleeve) s (whenRuns s (serialStart s sleeve)))
/-- SSI_FRAME (R219). -/
def execSsiFrame (sleeve : Nat) (idleHigh : Bool) (bits : List Bool) (s : State) : Host.Outcome State Fault Refusal := done s (whenWf (.ssiFrame sleeve idleHigh bits) s (whenRuns s (ssiFrame s sleeve idleHigh bits)))
/-- FSP_REPLY (R222). -/
def execFspReply (sleeve : Nat) (bytes : Bytes) (framingOk : Bool) (s : State) : Host.Outcome State Fault Refusal := done s (whenWf (.fspReply sleeve bytes framingOk) s (whenRuns s (fspReply s sleeve bytes framingOk)))
/-- FSP_TIMEOUT (R220). -/
def execFspTimeout (sleeve : Nat) (s : State) : Host.Outcome State Fault Refusal := done s (whenWf (.fspTimeout sleeve) s (whenRuns s (fspTimeout s sleeve)))
/-- FSP_REGISTER_REQUEST (R223). -/
def execFspRegisterRequest (w : Write) (s : State) : Host.Outcome State Fault Refusal := done s (whenWf (.fspRegisterRequest w) s (directWrite s 0x514 w))
/-- OC_DETECT (R232). -/
def execOcDetect (sleeve : Nat) (i1 : List Bool) (i2 : List Bool) (s : State) : Host.Outcome State Fault Refusal := done s (whenWf (.ocDetect sleeve i1 i2) s (whenRuns s (ocDetect s sleeve i1 i2)))
/-- SD_STREAM_STUCK (R233). -/
def execSdStreamStuck (sleeve : Nat) (bits : List Bool) (s : State) : Host.Outcome State Fault Refusal := done s (whenWf (.sdStreamStuck sleeve bits) s (whenRuns s (streamStuck s sleeve bits)))

end Sys2Proof.Machine
end

