-- ==== Sys2Proof/Machine/CommandsTime.lean ====
section
/-! DEFINITION. The commands of network time (03). -/

namespace Sys2Proof.Machine

/-- SYNC (R77). -/
def execSync (m : PtpMsg) (s : State) : Host.Outcome State Fault Refusal := done s (whenWf (.sync m) s (whenReady s (syncMsg s m)))
/-- FOLLOW_UP (R73). -/
def execFollowUp (m : PtpMsg) (s : State) : Host.Outcome State Fault Refusal := done s (whenWf (.followUp m) s (whenReady s (followUpMsg s m)))
/-- ANNOUNCE (R73). -/
def execAnnounce (a : Announce) (s : State) : Host.Outcome State Fault Refusal := done s (whenWf (.announce a) s (whenReady s (announceMsg s a)))
/-- PDELAY_REQ (R73). -/
def execPdelayReq (m : PtpMsg) (s : State) : Host.Outcome State Fault Refusal := quiet s (whenWf (.pdelayReq m) s (whenReady s (pdelayReqMsg s m)))
/-- PDELAY_RESP (R73). -/
def execPdelayResp (m : PtpMsg) (t1 : Int) (t2 : Int) (t3 : Int) (s : State) : Host.Outcome State Fault Refusal := quiet s (whenWf (.pdelayResp m t1 t2 t3) s (whenReady s (pdelayRespMsg s m t1 t2 t3)))
/-- DELAY_REQ (R73). -/
def execDelayReq (m : PtpMsg) (s : State) : Host.Outcome State Fault Refusal := quiet s (whenWf (.delayReq m) s (whenReady s (delayReqMsg s m)))
/-- DELAY_RESP (R73). -/
def execDelayResp (m : PtpMsg) (t1 : Int) (t2 : Int) (t3 : Int) (s : State) : Host.Outcome State Fault Refusal := quiet s (whenWf (.delayResp m t1 t2 t3) s (whenReady s (delayRespMsg s m t1 t2 t3)))
/-- EVENT_MESSAGE_FORWARD (R74). -/
def execEventMessageForward (m : PtpMsg) (residence : Nat) (s : State) : Host.Outcome State Fault Refusal := quiet s (whenWf (.eventMessageForward m residence) s (whenReady s (forwardMsg s m residence)))
/-- SYNC_TIMEOUT (R79). -/
def execSyncTimeout (s : State) : Host.Outcome State Fault Refusal := quiet s (whenWf .syncTimeout s (whenReady s (syncLost s)))
/-- TIME_OF_DAY_SET (R78). -/
def execTimeOfDaySet (w : Write) (s : State) : Host.Outcome State Fault Refusal := done s (whenWf (.timeOfDaySet w) s (directWrite s 0x245 w))
/-- TIMING_OBJECT_WRITE (R82). -/
def execTimingObjectWrite (obj : Nat) (w : Write) (s : State) : Host.Outcome State Fault Refusal := done s (whenWf (.timingObjectWrite obj w) s (timingWrite s obj w))
/-- PPS_OUT_EDGE (R89). -/
def execPpsOutEdge (s : State) : Host.Outcome State Fault Refusal := quiet s (whenWf (.ppsOutEdge) s (whenReady s (ppsOut s)))
/-- PPS_IN_EDGE (R89). -/
def execPpsInEdge (stamp : Nat) (s : State) : Host.Outcome State Fault Refusal := done s (whenWf (.ppsInEdge stamp) s (whenReady s (ppsIn s stamp)))

end Sys2Proof.Machine
end

