-- ==== Sys2Proof/Machine/CommandsVeil.lean ====
section
/-! DEFINITION. The commands of the veil (13). -/

namespace Sys2Proof.Machine

/-- VEIL_CYCLE (R294). -/
def execVeilCycle (inp : VeilInputs) (s : State) : Host.Outcome State Fault Refusal := done s (whenWf (.veilCycle inp) s (veilCycle s inp))
/-- VEIL_FRAME (R295). -/
def execVeilFrame (sleeve : Nat) (good : Bool) (frame : SnoopedFrame) (received : Nat) (s : State) : Host.Outcome State Fault Refusal := quiet s (whenWf (.veilFrame sleeve good frame received) s (veilFrame s sleeve good frame received))
/-- STO_DARK_TEST (R313). -/
def execStoDarkTest (group : Nat) (lowSeen : Bool) (highSeen : Bool) (s : State) : Host.Outcome State Fault Refusal := done s (whenWf (.stoDarkTest group lowSeen highSeen) s (darkTest s group lowSeen highSeen))
/-- TEST_PULSE (R310). -/
def execTestPulse (output : Nat) (readsZero : List (Nat × Bool)) (s : State) : Host.Outcome State Fault Refusal := done s (whenWf (.testPulse output readsZero) s (testPulse s output readsZero))
/-- GROUP_LATCH_CLEAR (R304). -/
def execGroupLatchClear (w : Write) (s : State) : Host.Outcome State Fault Refusal := done s (whenWf (.groupLatchClear w) s (directWrite s 0xC05 w))
/-- SAFETY_KEY_ENROL (R317). -/
def execSafetyKeyEnrol (w : Write) (s : State) : Host.Outcome State Fault Refusal := done s (whenWf (.safetyKeyEnrol w) s (directWrite s 0xC0A w))
/-- ENROL_TIMEOUT (R317). -/
def execEnrolTimeout (s : State) : Host.Outcome State Fault Refusal := done s (whenWf (.enrolTimeout) s (whenKeeper s (enrolTimeout s)))
/-- SAFETY_RESET (R317). -/
def execSafetyReset (w : Write) (s : State) : Host.Outcome State Fault Refusal := done s (whenWf (.safetyReset w) s (directWrite s 0xC0B w))
/-- VEIL_SELF_TEST_DONE (R297). -/
def execVeilSelfTestDone (pass : Bool) (s : State) : Host.Outcome State Fault Refusal := done s (whenWf (.veilSelfTestDone pass) s (whenRuns s (veilTestDone s pass)))

end Sys2Proof.Machine
end

