-- ==== Sys2Proof/Machine/Dispatch.lean ====
section
/-! DEFINITION. The effect of each command: one arm per constructor of Instr, one call per arm. -/

namespace Sys2Proof.Machine

def exec (i : Instr) (s : State) : Host.Outcome State Fault Refusal :=
  match i with
  | .beatStart samples => Sys2Proof.Machine.execBeatStart samples s
  | .tickStart sample => Sys2Proof.Machine.execTickStart sample s
  | .cellCommit cell registered => Sys2Proof.Machine.execCellCommit cell registered s
  | .deadline cell => Sys2Proof.Machine.execDeadline cell s
  | .carrierUpdate sleeve => Sys2Proof.Machine.execCarrierUpdate sleeve s
  | .pulseDecision sleeve phase high => Sys2Proof.Machine.execPulseDecision sleeve phase high s
  | .delayCal bank ok => Sys2Proof.Machine.execDelayCal bank ok s
  | .trip sleeve source => Sys2Proof.Machine.execTrip sleeve source s
  | .tripSourceDeassert sleeve source => Sys2Proof.Machine.execTripSourceDeassert sleeve source s
  | .tripClear w => Sys2Proof.Machine.execTripClear w s
  | .tripCleared sleeve => Sys2Proof.Machine.execTripCleared sleeve s
  | .readback sleeve pin level => Sys2Proof.Machine.execReadback sleeve pin level s
  | .unitStop unit origin => Sys2Proof.Machine.execUnitStop unit origin s
  | .unitDisable unit origin => Sys2Proof.Machine.execUnitDisable unit origin s
  | .unitEnable unit origin => Sys2Proof.Machine.execUnitEnable unit origin s
  | .unitStart unit origin => Sys2Proof.Machine.execUnitStart unit origin s
  | .selfTestDone cell pass => Sys2Proof.Machine.execSelfTestDone cell pass s
  | .combPlanApply plan origin => Sys2Proof.Machine.execCombPlanApply plan origin s
  | .roleReassign failed => Sys2Proof.Machine.execRoleReassign failed s
  | .openSession d draw => Sys2Proof.Machine.execOpenSession d draw s
  | .proof d => Sys2Proof.Machine.execProof d s
  | .challengeTimeout slot => Sys2Proof.Machine.execChallengeTimeout slot s
  | .close d => Sys2Proof.Machine.execClose d s
  | .keepalive d => Sys2Proof.Machine.execKeepalive d s
  | .sessionTimeout slot => Sys2Proof.Machine.execSessionTimeout slot s
  | .read d => Sys2Proof.Machine.execRead d s
  | .write d => Sys2Proof.Machine.execWrite d s
  | .stage d => Sys2Proof.Machine.execStage d s
  | .commit d => Sys2Proof.Machine.execCommit d s
  | .revoke d => Sys2Proof.Machine.execRevoke d s
  | .waggleAck d => Sys2Proof.Machine.execWaggleAck d s
  | .pdOut d arrival => Sys2Proof.Machine.execPdOut d arrival s
  | .arpRequest r => Sys2Proof.Machine.execArpRequest r s
  | .icmpEchoRequest r => Sys2Proof.Machine.execIcmpEchoRequest r s
  | .commissioningProbe answered => Sys2Proof.Machine.execCommissioningProbe answered s
  | .netApply w => Sys2Proof.Machine.execNetApply w s
  | .levelKey w => Sys2Proof.Machine.execLevelKey w s
  | .waggleSend slot => Sys2Proof.Machine.execWaggleSend slot s
  | .waggleRepeat slot => Sys2Proof.Machine.execWaggleRepeat slot s
  | .gapAppend => Sys2Proof.Machine.execGapAppend s
  | .pdMapApply w => Sys2Proof.Machine.execPdMapApply w s
  | .pdInLaunch => Sys2Proof.Machine.execPdInLaunch s
  | .counterClear obj w => Sys2Proof.Machine.execCounterClear obj w s
  | .objectWrite obj w => Sys2Proof.Machine.execObjectWrite obj w s
  | .sync m => Sys2Proof.Machine.execSync m s
  | .followUp m => Sys2Proof.Machine.execFollowUp m s
  | .announce a => Sys2Proof.Machine.execAnnounce a s
  | .pdelayReq m => Sys2Proof.Machine.execPdelayReq m s
  | .pdelayResp m t1 t2 t3 => Sys2Proof.Machine.execPdelayResp m t1 t2 t3 s
  | .delayReq m => Sys2Proof.Machine.execDelayReq m s
  | .delayResp m t1 t2 t3 => Sys2Proof.Machine.execDelayResp m t1 t2 t3 s
  | .eventMessageForward m residence => Sys2Proof.Machine.execEventMessageForward m residence s
  | .syncTimeout => Sys2Proof.Machine.execSyncTimeout s
  | .timeOfDaySet w => Sys2Proof.Machine.execTimeOfDaySet w s
  | .timingObjectWrite obj w => Sys2Proof.Machine.execTimingObjectWrite obj w s
  | .ppsOutEdge => Sys2Proof.Machine.execPpsOutEdge s
  | .ppsInEdge stamp => Sys2Proof.Machine.execPpsInEdge stamp s
  | .segmentAppend w => Sys2Proof.Machine.execSegmentAppend w s
  | .queueFlush unit origin => Sys2Proof.Machine.execQueueFlush unit origin s
  | .queueAbort unit origin => Sys2Proof.Machine.execQueueAbort unit origin s
  | .jobDiscard w => Sys2Proof.Machine.execJobDiscard w s
  | .commitLoaded => Sys2Proof.Machine.execCommitLoaded s
  | .commitLoadCheck => Sys2Proof.Machine.execCommitLoadCheck s
  | .phaseTrimAdd w => Sys2Proof.Machine.execPhaseTrimAdd w s
  | .camOpen table origin => Sys2Proof.Machine.execCamOpen table origin s
  | .camSeal table origin => Sys2Proof.Machine.execCamSeal table origin s
  | .camErase table origin => Sys2Proof.Machine.execCamErase table origin s
  | .latchEdge input level stamp => Sys2Proof.Machine.execLatchEdge input level stamp s
  | .latchEntryInsert unit => Sys2Proof.Machine.execLatchEntryInsert unit s
  | .compareAppend w => Sys2Proof.Machine.execCompareAppend w s
  | .compareTargetInsert unit => Sys2Proof.Machine.execCompareTargetInsert unit s
  | .compareFire unit => Sys2Proof.Machine.execCompareFire unit s
  | .pulseEnd pin => Sys2Proof.Machine.execPulseEnd pin s
  | .compareFlush unit origin => Sys2Proof.Machine.execCompareFlush unit origin s
  | .compareStatusClear w => Sys2Proof.Machine.execCompareStatusClear w s
  | .torqueOffsetClear unit origin => Sys2Proof.Machine.execTorqueOffsetClear unit origin s
  | .bankSwapRequest w => Sys2Proof.Machine.execBankSwapRequest w s
  | .countEdge sleeve a b stamp => Sys2Proof.Machine.execCountEdge sleeve a b stamp s
  | .hallStep sleeve a b c stamp => Sys2Proof.Machine.execHallStep sleeve a b c stamp s
  | .indexEdge sleeve stamp => Sys2Proof.Machine.execIndexEdge sleeve stamp s
  | .serialTransactionStart sleeve => Sys2Proof.Machine.execSerialTransactionStart sleeve s
  | .ssiFrame sleeve idleHigh bits => Sys2Proof.Machine.execSsiFrame sleeve idleHigh bits s
  | .fspReply sleeve bytes framingOk => Sys2Proof.Machine.execFspReply sleeve bytes framingOk s
  | .fspTimeout sleeve => Sys2Proof.Machine.execFspTimeout sleeve s
  | .fspRegisterRequest w => Sys2Proof.Machine.execFspRegisterRequest w s
  | .ocDetect sleeve i1 i2 => Sys2Proof.Machine.execOcDetect sleeve i1 i2 s
  | .sdStreamStuck sleeve bits => Sys2Proof.Machine.execSdStreamStuck sleeve bits s
  | .nop k => Sys2Proof.Machine.execNop k s
  | .add k d a b => Sys2Proof.Machine.execAdd k d a b s
  | .sub k d a b => Sys2Proof.Machine.execSub k d a b s
  | .and k d a b => Sys2Proof.Machine.execAnd k d a b s
  | .or k d a b => Sys2Proof.Machine.execOr k d a b s
  | .xor k d a b => Sys2Proof.Machine.execXor k d a b s
  | .shl k d a b => Sys2Proof.Machine.execShl k d a b s
  | .shr k d a b => Sys2Proof.Machine.execShr k d a b s
  | .sar k d a b => Sys2Proof.Machine.execSar k d a b s
  | .mul k d a b => Sys2Proof.Machine.execMul k d a b s
  | .mulh k d a b => Sys2Proof.Machine.execMulh k d a b s
  | .slt k d a b => Sys2Proof.Machine.execSlt k d a b s
  | .sltu k d a b => Sys2Proof.Machine.execSltu k d a b s
  | .addi k d imm => Sys2Proof.Machine.execAddi k d imm s
  | .andi k d imm => Sys2Proof.Machine.execAndi k d imm s
  | .ori k d imm => Sys2Proof.Machine.execOri k d imm s
  | .lui k d imm => Sys2Proof.Machine.execLui k d imm s
  | .fadd k d a b => Sys2Proof.Machine.execFadd k d a b s
  | .fsub k d a b => Sys2Proof.Machine.execFsub k d a b s
  | .fmul k d a b => Sys2Proof.Machine.execFmul k d a b s
  | .ffma k d a b c => Sys2Proof.Machine.execFfma k d a b c s
  | .fdiv k d a b => Sys2Proof.Machine.execFdiv k d a b s
  | .fsqrt k d a => Sys2Proof.Machine.execFsqrt k d a s
  | .itof k d a => Sys2Proof.Machine.execItof k d a s
  | .ftoi k d a => Sys2Proof.Machine.execFtoi k d a s
  | .flt k d a b => Sys2Proof.Machine.execFlt k d a b s
  | .fneg k d a => Sys2Proof.Machine.execFneg k d a s
  | .fabs k d a => Sys2Proof.Machine.execFabs k d a s
  | .vld k d p mode off => Sys2Proof.Machine.execVld k d p mode off s
  | .vst k d p mode off => Sys2Proof.Machine.execVst k d p mode off s
  | .vbc k d a => Sys2Proof.Machine.execVbc k d a s
  | .vfma k d a b => Sys2Proof.Machine.execVfma k d a b s
  | .vmul k d a b => Sys2Proof.Machine.execVmul k d a b s
  | .vadd k d a b => Sys2Proof.Machine.execVadd k d a b s
  | .aclr k d => Sys2Proof.Machine.execAclr k d s
  | .amov k d a => Sys2Proof.Machine.execAmov k d a s
  | .vsum k d a => Sys2Proof.Machine.execVsum k d a s
  | .vget k d a func => Sys2Proof.Machine.execVget k d a func s
  | .vput k d a func => Sys2Proof.Machine.execVput k d a func s
  | .ld k d p mode off => Sys2Proof.Machine.execLd k d p mode off s
  | .st k d p mode off => Sys2Proof.Machine.execSt k d p mode off s
  | .pset k d a => Sys2Proof.Machine.execPset k d a s
  | .bset k d a => Sys2Proof.Machine.execBset k d a s
  | .lset k d a => Sys2Proof.Machine.execLset k d a s
  | .pget k d a => Sys2Proof.Machine.execPget k d a s
  | .srch k d a b func => Sys2Proof.Machine.execSrch k d a b func s
  | .bz k d imm => Sys2Proof.Machine.execBz k d imm s
  | .bnz k d imm => Sys2Proof.Machine.execBnz k d imm s
  | .br k imm => Sys2Proof.Machine.execBr k imm s
  | .loop k d imm => Sys2Proof.Machine.execLoop k d imm s
  | .jal k d imm => Sys2Proof.Machine.execJal k d imm s
  | .jr k a => Sys2Proof.Machine.execJr k a s
  | .endK k => Sys2Proof.Machine.execEndK k s
  | .illegalInstruction k word => Sys2Proof.Machine.execIllegalInstruction k word s
  | .kernelOverrun k => Sys2Proof.Machine.execKernelOverrun k s
  | .crcPoly k v => Sys2Proof.Machine.execCrcPoly k v s
  | .crcCfg k v => Sys2Proof.Machine.execCrcCfg k v s
  | .crcInit k v => Sys2Proof.Machine.execCrcInit k v s
  | .crcValue k v => Sys2Proof.Machine.execCrcValue k v s
  | .crcIn8 k v => Sys2Proof.Machine.execCrcIn8 k v s
  | .crcIn16 k v => Sys2Proof.Machine.execCrcIn16 k v s
  | .crcIn32 k v => Sys2Proof.Machine.execCrcIn32 k v s
  | .kernelRestart w => Sys2Proof.Machine.execKernelRestart w s
  | .kernelUpdateApply w => Sys2Proof.Machine.execKernelUpdateApply w s
  | .triggerCondition w => Sys2Proof.Machine.execTriggerCondition w s
  | .streamDatagramSend recorder => Sys2Proof.Machine.execStreamDatagramSend recorder s
  | .streamFlushTimeout recorder => Sys2Proof.Machine.execStreamFlushTimeout recorder s
  | .faultHit unit bit => Sys2Proof.Machine.execFaultHit unit bit s
  | .faultStickyClear shadowed w => Sys2Proof.Machine.execFaultStickyClear shadowed w s
  | .readyingDone cell => Sys2Proof.Machine.execReadyingDone cell s
  | .rehousingQueuedStart => Sys2Proof.Machine.execRehousingQueuedStart s
  | .roleGrant cell => Sys2Proof.Machine.execRoleGrant cell s
  | .quietPeriodEnd unit channel => Sys2Proof.Machine.execQuietPeriodEnd unit channel s
  | .retireRelease w => Sys2Proof.Machine.execRetireRelease w s
  | .operatingTimeSave => Sys2Proof.Machine.execOperatingTimeSave s
  | .veilCycle inp => Sys2Proof.Machine.execVeilCycle inp s
  | .veilFrame sleeve good frame received => Sys2Proof.Machine.execVeilFrame sleeve good frame received s
  | .stoDarkTest group lowSeen highSeen => Sys2Proof.Machine.execStoDarkTest group lowSeen highSeen s
  | .testPulse output readsZero => Sys2Proof.Machine.execTestPulse output readsZero s
  | .groupLatchClear w => Sys2Proof.Machine.execGroupLatchClear w s
  | .safetyKeyEnrol w => Sys2Proof.Machine.execSafetyKeyEnrol w s
  | .enrolTimeout => Sys2Proof.Machine.execEnrolTimeout s
  | .safetyReset w => Sys2Proof.Machine.execSafetyReset w s
  | .veilSelfTestDone pass => Sys2Proof.Machine.execVeilSelfTestDone pass s
  | .seamFrameSend => Sys2Proof.Machine.execSeamFrameSend s
  | .seamFrameReceive toField valid => Sys2Proof.Machine.execSeamFrameReceive toField valid s
  | .fieldSeamLoss => Sys2Proof.Machine.execFieldSeamLoss s
  | .seamLoss => Sys2Proof.Machine.execSeamLoss s
  | .fieldInputSample levels low => Sys2Proof.Machine.execFieldInputSample levels low s
  | .outputSet w => Sys2Proof.Machine.execOutputSet w s
  | .outputClear w => Sys2Proof.Machine.execOutputClear w s
  | .currentLimitTimeout ch => Sys2Proof.Machine.execCurrentLimitTimeout ch s
  | .outputRetry ch => Sys2Proof.Machine.execOutputRetry ch s
  | .outOvertemp ch => Sys2Proof.Machine.execOutOvertemp ch s
  | .outOpenLoad output => Sys2Proof.Machine.execOutOpenLoad output s
  | .tpOverload output => Sys2Proof.Machine.execTpOverload output s
  | .vfieldLow microvolts => Sys2Proof.Machine.execVfieldLow microvolts s
  | .dieOvertemp => Sys2Proof.Machine.execDieOvertemp s
  | .txSlot w => Sys2Proof.Machine.execTxSlot w s
  | .txAbort w => Sys2Proof.Machine.execTxAbort w s
  | .rxRead unit dataLength origin => Sys2Proof.Machine.execRxRead unit dataLength origin s
  | .arbitration unit won sof => Sys2Proof.Machine.execArbitration unit won sof s
  | .txDone unit => Sys2Proof.Machine.execTxDone unit s
  | .txError unit e => Sys2Proof.Machine.execTxError unit e s
  | .busRecovered unit => Sys2Proof.Machine.execBusRecovered unit s
  | .canFrameReceive unit f sof => Sys2Proof.Machine.execCanFrameReceive unit f sof s
  | .refMessageDue unit => Sys2Proof.Machine.execRefMessageDue unit s
  | .journalCommit => Sys2Proof.Machine.execJournalCommit s
  | .renderNow w => Sys2Proof.Machine.execRenderNow w s
  | .renderDone => Sys2Proof.Machine.execRenderDone s
  | .retirementsAccept w => Sys2Proof.Machine.execRetirementsAccept w s
  | .pfail => Sys2Proof.Machine.execPfail s
  | .firmwareApply w signatureOk => Sys2Proof.Machine.execFirmwareApply w signatureOk s
  | .firmwareConfirmed => Sys2Proof.Machine.execFirmwareConfirmed s
  | .por v => Sys2Proof.Machine.execPor v s
  | .borCore v => Sys2Proof.Machine.execBorCore v s
  | .borIo v => Sys2Proof.Machine.execBorIo v s
  | .pin => Sys2Proof.Machine.execPin s
  | .keeperWdg => Sys2Proof.Machine.execKeeperWdg s
  | .debug => Sys2Proof.Machine.execDebug s
  | .thermal milliCelsius => Sys2Proof.Machine.execThermal milliCelsius s
  | .resetRequestFull origin => Sys2Proof.Machine.execResetRequestFull origin s
  | .resetRequestDevice origin => Sys2Proof.Machine.execResetRequestDevice origin s
  | .resetRequestKeeper origin => Sys2Proof.Machine.execResetRequestKeeper origin s
  | .resetRequestComb origin => Sys2Proof.Machine.execResetRequestComb origin s
  | .resetStretchEnd => Sys2Proof.Machine.execResetStretchEnd s
  | .fuseLoadDone rows => Sys2Proof.Machine.execFuseLoadDone rows s
  | .keeperBootDone signatureOk => Sys2Proof.Machine.execKeeperBootDone signatureOk s
  | .journalReplayDone => Sys2Proof.Machine.execJournalReplayDone s
  | .keeperResetDone signatureOk => Sys2Proof.Machine.execKeeperResetDone signatureOk s
  | .combReset => Sys2Proof.Machine.execCombReset s
  | .drainRequest unit origin => Sys2Proof.Machine.execDrainRequest unit origin s
  | .drainCancel unit origin => Sys2Proof.Machine.execDrainCancel unit origin s
  | .drainIdle unit => Sys2Proof.Machine.execDrainIdle unit s
  | .unitReset unit origin => Sys2Proof.Machine.execUnitReset unit origin s
  | .jtagUnlock w => Sys2Proof.Machine.execJtagUnlock w s
  | .thermalHigh milliCelsius => Sys2Proof.Machine.execThermalHigh milliCelsius s
  | .vfieldAbsent => Sys2Proof.Machine.execVfieldAbsent s
  | .fieldDiePowerUp => Sys2Proof.Machine.execFieldDiePowerUp s
  | .faultSourceInactive unit bit => Sys2Proof.Machine.execFaultSourceInactive unit bit s
  | .resetSourceDeassert source => Sys2Proof.Machine.execResetSourceDeassert source s
  | .thermalRearm milliCelsius => Sys2Proof.Machine.execThermalRearm milliCelsius s
  | .busError unit => Sys2Proof.Machine.execBusError unit s

end Sys2Proof.Machine
end

