-- ==== Sys2Proof/Safety.lean ====
section
/-! DEFINITION. What counts as a safe run and the words the statements use: which states a command meets, and what an effect comes to. -/

namespace Sys2Proof.Machine

/-! ### Whole steps -/

/-- The step answers a next state. -/
def Steps (s : State) : Prop := ∃ t, step s = .next t

/-- Every command that waits is well formed. -/
def QueueWf (s : State) : Prop := s.pending.all Instr.wf = true

/-- A command completes in a next state of which P holds. -/
def Completes (i : Instr) (s : State) (P : State → Prop) : Prop := ∃ t, exec i s = .next t ∧ P t

/-- Acyclic service runs (17 R382): the dictionary is ready and no KEEPER reset is in progress. -/
def Serving (s : State) : Prop := s.rst.phase = .running ∧ s.rst.keeperDown = false

/-- A slot in which no request waits and no session is closing. -/
def calmSlot : Slot → Bool
  | .opened ss => ss.ready.isEmpty && !ss.closing
  | .free | .challenge .. => true

/-- Nothing waits for service: no request, no closing session, no raised reset (01 OP1, 02 R53, 12 R274, 17 R376). -/
def Calm (s : State) : Prop := (∀ i, calmSlot (s.slot i) = true) ∧ s.rst.raised = [] ∧ s.rst.swReach = none

/-- What a unit's change of state (01 R27 to R30) leaves alone: everything but the dictionary, events, replies, axes, sleeves, pins, recorders and
the bookkeeping of faults. -/
def Apart (s t : State) : Prop :=
  t.pending = s.pending ∧ t.time = s.time ∧ t.beat = s.beat ∧ t.keys = s.keys ∧ t.ipv4 = s.ipv4 ∧ t.lfpPort = s.lfpPort ∧ t.writes = s.writes
    ∧ t.commands = s.commands ∧ t.clusters = s.clusters ∧ t.jobs = s.jobs ∧ t.commit = s.commit ∧ t.standby = s.standby ∧ t.camRuns = s.camRuns
    ∧ t.latchIns = s.latchIns ∧ t.cells = s.cells ∧ t.rehousings = s.rehousings ∧ t.kernels = s.kernels ∧ t.plan = s.plan ∧ t.veil = s.veil
    ∧ t.field = s.field ∧ t.can = s.can ∧ t.nva = s.nva ∧ t.journal = s.journal ∧ t.rst = s.rst

/-- A unit stands in no cluster of the plan. -/
def NoCluster (s : State) (u : Nat) : Prop := ∀ c ∈ planClusters s, Member.device u ∉ c.members

/-- The 32-bit stick counter has counted one event, where it was not at its end (02 R69). -/
def Counts (s t : State) (u k : Nat) : Prop := s.n u k < 2 ^ 32 - 1 → t.n u k = s.n u k + 1

/-! ### Sessions and writes (02) -/

/-- The datagram is whole and undamaged, and carries this message (02 Table 2-1). -/
def Carries (d : Dgram) (kind sid seq : Nat) (payload : Bytes) : Prop :=
  wfDgram d = true ∧ readLfp d.bytes = .ok { kind := kind, sid := sid, seq := seq, payload := payload }

/-- Slot i holds the open session that the datagram's source and identifier name, with nothing held and nothing in service. -/
def AtRest (s : State) (d : Dgram) (i : Nat) (ss : Session) : Prop :=
  sessionOf s d.src ss.sid = some (i, ss) ∧ s.slot i = .opened ss ∧ i < 16 ∧ ss.held = [] ∧ ss.ready = [] ∧ ss.inflight = [] ∧ ss.next = 0
    ∧ ss.closing = false

/-- The session with one request taken. -/
def arrived (ss : Session) (h : Held) : Session := { ss with expect := (ss.expect + 1) % 2 ^ 32, ready := [h] }

/-- The session with one request of one item in service, of the type shown. -/
def inService (ss : Session) (req type : Nat) : Session :=
  { ss with expect := (ss.expect + 1) % 2 ^ 32, inflight := [{ req := req, items := [none], types := [type] }] }

/-- The session at rest s takes the expected request, of one item that passes every check of 02 Table 2-5. -/
def Accepted (s : State) (i : Nat) (ss : Session) (kind : Nat) (payload : Bytes) (it : Item) (c : Checked) : Prop :=
  parseItems (kind == mkRead) payload = some [it]
    ∧ checkItem (s.setSlot i (.opened (arrived ss ⟨ss.expect, kind, payload⟩))) i (arrived ss ⟨ss.expect, kind, payload⟩) (reqKind kind) it = .ok c

/-- The request has its REPLY p: sent, and stored for a repetition (02 R43, R44). -/
def Replied (s : State) (i : Nat) (ss : Session) (p : Bytes) (t : State) : Prop :=
  t.slot i = .opened { ss with expect := (ss.expect + 1) % 2 ^ 32, stored := keepReplies (arrived ss default) ((ss.expect, p) :: ss.stored) }
    ∧ t.sent = lfpSent ss.src mkReply 0 ss.sid ss.expect p :: s.sent

/-- The write that an item of a request makes. -/
def itemWrite (i : Nat) (ss : Session) (c : Checked) (it : Item) : Write :=
  { unit := c.store, elem := it.elem, data := it.data, offset := it.offset, last := it.flags == 1,
    origin := some { slot := i, sid := ss.sid, req := ss.expect, item := 0 } }

/-- The write, given by itself, passes the checks of the object and of the unit (02 Table 2-5). -/
def Passes (s : State) (o : Nat) (w : Write) (row : ObjRow) : Prop :=
  wfWrite w = true ∧ o < 65536 ∧ storeOf s w.unit o = w.unit ∧ directCheck s w.unit o w = .ok row ∧ ownRefusal s w.unit o row w = none

/-- The object has no way and no effect of its own when written: its write only stores (00 R7). -/
def PlainObject (s : State) (u o : Nat) (row : ObjRow) (w : Write) : Prop :=
  (u = 0 → journaledCommand s o w = none ∧ rootWrite s o w = none) ∧ (isAxis u = true ∨ isCluster u = true → axisWrite s u o row w = none)
    ∧ (isSleeve u = true → sleeveWrite s u o row w = none) ∧ (u ≠ 0 → otherWrite s u o row w = none) ∧ row.stick = false
    ∧ o ≠ 0xC0A ∧ o ≠ 0xC0B ∧ o ≠ 0x301 ∧ o ≠ 0xB00 ∧ o ≠ 0xB02 ∧ o ≠ 0x1011 ∧ o ≠ 0x1013

/-! ### Network time (03) -/

/-- One update of the servo with the offset θ, in 2^-16 ns (03 R77): above StepThreshold, unless a sleeve is ACTIVE, the counter is stepped and the
integrator is 0; else the frequency follows, bounded by FreqLimit, and the counter is not stepped. -/
def Disciplined (s t : State) (theta : Int) : Prop :=
  let th : Rat := (theta : Rat) / 65536
  let ts := syncIntervalNs s
  let fl : Rat := (s.n 0 0x022200 : Nat)
  let lim := fl * ts / 1000000000
  let integ := max (-lim) (min lim (s.time.integ + fRat b32s (s.n 0 0x022100) * th))
  let f := max (-fl) (min fl (-(fRat b32s (s.n 0 0x022000) * th + integ) / ts * 1000000000))
  t.i 0 0x022600 = theta
    ∧ ((s.n 0 0x022300 : Rat) < |th| → stepBarred s = false →
        t.time.counter = (((s.time.counter : Int) - theta * 65536) % 2 ^ 96).toNat ∧ t.time.integ = 0 ∧ t.beat.restart = true ∧ Counts s t 0 0x022A00)
    ∧ (|th| ≤ (s.n 0 0x022300 : Rat) ∨ stepBarred s = true →
        t.time.counter = s.time.counter ∧ t.time.integ = integ ∧ t.time.freq = f ∧ t.i 0 0x022800 = rhe f ∧ t.beat = s.beat)

/-! ### Trips (08) -/

/-- A trip source of a sleeve has become active (08 R206 to R208): it is active and latched, counted, every gate-on interval has ended, it is
reported where it was not latched before, and the sleeve is in FAULT. -/
def Tripped (s : State) (k bit : Nat) (t : State) : Prop :=
  t.n k 0x044000 = setBit (s.n k 0x044000) bit ∧ t.n k 0x044100 = setBit (s.n k 0x044100) bit ∧ Counts s t k 0x044400
    ∧ (∀ f ∈ (t.sleeve k).pwm.phases, ∀ i ∈ f.hi.on ++ f.lo.on, i.2 ≤ s.q)
    ∧ (bitOf (s.n k 0x044100) bit = false → t.outbox = s.outbox ++ [⟨k, 0x0401, [BitVec.ofNat 8 (2 ^ bit)]⟩])
    ∧ (shadowed s k bit = false → s.st k ≠ usRetired → t.st k = usFault)

/-! ### Feedback (09) -/

/-- The position of a sleeve has moved by one count: the count modulo CPR, the whole turns, the feedback position, and the stamped edge of one that is
later than the last sample (09 R213, R215). CountDirection 1 turns the direction. -/
def Moved (s t : State) (k : Nat) (dir : Int) (stamp : Nat) : Prop :=
  let d := if s.b k 0x050200 then -dir else dir
  t.i k 0x052100 = (fbCounts s k + d) % fbCpr s k ∧ t.i k 0x052200 = wrapI 64 ((fbCounts s k + d) / fbCpr s k)
    ∧ t.i k 0x052300 = posSat (fbCounts t k * 65536)
    ∧ ((s.sleeve k).fb.tickTime ≤ stamp / 8 * 8 → (t.sleeve k).fb.edges = (stamp / 8 * 8, d) :: (s.sleeve k).fb.edges)

/-! ### Kernels of the cell datapath (10) -/

/-- Kernel k is in a run of the beat in progress that has neither ended nor been stopped. -/
def KernelRuns (s : State) (k : Nat) (r : KRun) : Prop := (s.kernel k).run = some r ∧ r.done = false

/-- n more cycles fit in the kernel's budget (10 R250). -/
def Fits (s : State) (k : Nat) (r : KRun) (n : Nat) : Prop := r.used + n ≤ (s.kernel k).image.budget

/-- The state with another run of kernel k, and nothing else changed. -/
def withRun (s : State) (k : Nat) (r : KRun) : State := s.setKernel k { s.kernel k with run := some r }

/-- An instruction of n cycles leaves the run f r at the next instruction, and changes nothing else. -/
def Becomes (i : Instr) (k n : Nat) (f : KRun → KRun) : Prop :=
  ∀ s r, KernelRuns s k r → Fits s k r n → exec i s = .next (withRun s k { f r with pc := r.pc + 1, used := r.used + n })

/-- An instruction of n cycles writes a scalar register, s0 apart, and changes nothing else. -/
def WritesS (i : Instr) (k n : Nat) (d : Fin 32) (v : KRun → W32) : Prop :=
  Becomes i k n fun r => if d = 0 then r else { r with s := r.s.set d (v r) }

/-- A word of kernel memory that a run may read and write outside the check-value unit: output ports, output exports, state, scratch (10 Table 10-3). -/
def KernelWord (a : Nat) : Prop := a % 4 = 0 ∧ ((0x10080 ≤ a ∧ a < 0x10100) ∨ (0x10200 ≤ a ∧ a < 0x18000))

/-- What an exception of kernel k leaves (10 R251): the kernel's run is stopped with its copies discarded, KernelState is 2, and the exception is counted;
nothing else of the kernel changes, and no axis, cell or sleeve. -/
def Excepted (s : State) (k : Nat) (r : KRun) (t : State) : Prop :=
  t.kernel k = { s.kernel k with run := some { r with mem := [], done := true } }
    ∧ t.n 0 (0x110400 + k) = 2
    ∧ (s.n 0 (0x110800 + k) < 2 ^ 32 - 1 → t.n 0 (0x110800 + k) = s.n 0 (0x110800 + k) + 1)
    ∧ t.axes = s.axes ∧ t.cells = s.cells ∧ t.sleeves = s.sleeves ∧ ∀ j, j ≠ k → t.kernel j = s.kernel j

/-- What an overrun of kernel k leaves (10 R250): the kernel is stopped for the beat with its copies discarded, its cell is late, and the overrun is
counted; KernelState stays. -/
def Overran (s : State) (k : Nat) (r : KRun) (t : State) : Prop :=
  t.kernel k = { s.kernel k with run := some { r with mem := [], done := true } }
    ∧ (kernelCell s k ≠ 0 → (t.cell (kernelCell s k)).late = true)
    ∧ (s.n 0 (0x110700 + k) < 2 ^ 32 - 1 → t.n 0 (0x110700 + k) = s.n 0 (0x110700 + k) + 1)
    ∧ t.n 0 (0x110400 + k) = s.n 0 (0x110400 + k) ∧ t.axes = s.axes ∧ t.sleeves = s.sleeves

/-! ### Resets (17) -/

/-- A FULL or DEVICE reset has begun (17 R371, R374, R380, R381): what is volatile is gone, but for the levels that stand at feedback inputs, nRST is low, the cause and the reach are recorded, and the
fuse shadow stays; the stretch runs unless the source holds it up. -/
def Restarted (s t : State) (src : ResetSource) (r : Reach) : Prop :=
  t.rst.phase = .inReset ∧ t.rst.reach = r ∧ t.rst.nRstLow = true ∧ t.rst.stretch = !heldSource src ∧ t.n 0 0x100100 = sourceCode src
    ∧ t.n 0 0x100200 = reachCode r ∧ t.slots = [] ∧ t.events = [] ∧ t.axes = [] ∧ t.cells = [] ∧ t.plan = none
    ∧ (∀ k, (t.sleeve k).pwm = {} ∧ { (t.sleeve k).fb with a := false, b := false, z := false, c := false } = {})
    ∧ t.beat.running = false ∧ t.rst.fuses = s.rst.fuses

/-- A KEEPER reset has begun (17 R371, R380 to R382): acyclic service stands still; motion, cells, sleeves, time, the veil and the field die go on. -/
def KeeperDown (s t : State) (src : ResetSource) : Prop :=
  t.rst.keeperDown = true ∧ t.rst.stretch = true ∧ t.rst.phase = s.rst.phase ∧ t.n 0 0x100100 = sourceCode src ∧ t.n 0 0x100200 = reachCode .keeper
    ∧ t.axes = s.axes ∧ t.sleeves = s.sleeves ∧ t.cells = s.cells ∧ t.time = s.time ∧ t.beat = s.beat ∧ t.veil = s.veil ∧ t.field = s.field
    ∧ t.can = s.can ∧ t.nva = s.nva

/-- A COMB reset has begun (17 R383): the state of cells and every rehousing are gone, every axis of the plan is DISABLED with its queue empty; network time,
the beat, CAN, the field die, the journal and the sessions' keys go on. -/
def CombDown (s t : State) : Prop :=
  t.rst.combDown = true ∧ t.rst.stretch = true ∧ t.cells = [] ∧ t.rehousings = [] ∧ t.n 0 0x0B5300 = 0xFF
    ∧ (∀ a, isAxis a = true → s.st a ≠ usOff → s.st a ≠ usRetired → t.st a = usDisabled ∧ (t.axis a).traj.queue = [])
    ∧ t.time = s.time ∧ t.beat = s.beat ∧ t.can = s.can ∧ t.field = s.field ∧ t.nva = s.nva ∧ t.journal = s.journal ∧ t.jobs = s.jobs
    ∧ t.keys = s.keys ∧ t.plan = s.plan

end Sys2Proof.Machine
end

