-- ==== Sys2Proof/Certificates/Slice0/Obligations.lean ====
section
/-! DEFINITION. The statements for the provers, by the chapters of the spec. -/

open Sys2Proof Sys2Proof.Machine

/-- A step runs the command at the front of the queue: exec of that command on the state with the queue's rest. -/
def Obligations.StepRunsFront : Prop :=
  ∀ (s : State) (c : Instr) (rest : List Instr), step { s with pending := c :: rest } = exec c { s with pending := rest }

/-- Every step answers a next state; on an empty queue (log entry 2) it is one cycle of the comb timing clock: network time moves on by 2 ns and the
frequency adjustment A, modulo its 2^64 ns, and powered time by 2 ns (03 R76; 02 R68). Where the device is not running and no beat is in progress nothing
else changes. -/
def Obligations.EveryStepAnswers : Prop :=
  ∀ s : State, Steps s ∧ (s.pending = [] → ∃ t, step s = .next t
    ∧ t.time.counter = (((s.time.counter : Int) + 2 * 2 ^ 32 + s.time.adjust) % 2 ^ 96).toNat ∧ t.time.uptime = s.time.uptime + 32
    ∧ (s.rst.phase ≠ .running → s.beat.running = false → t = { s with time := t.time }))

/-- The queue is first in, first out, and stays well formed: a step takes the command at its front, leaves the rest as it is and adds none. -/
def Obligations.QueueInvariant : Prop :=
  ∀ s t : State, QueueWf s → step s = .next t → QueueWf t ∧ t.pending = s.pending.tail

/-- The state after the first power-up (17 R373, R380, R381; 00 R7, R8; log entry 1): POR counted and recorded in a backup domain that held nothing, nRST low,
fuse load next, every other object at its default, no session, no key, no plan, no job, and a queue that is empty and so well formed. -/
def Obligations.ResetState : Prop :=
  State.reset.pending = [] ∧ QueueWf State.reset
    ∧ (State.reset.n 0 0x100000 = 1 ∧ State.reset.n 0 0x100100 = 1 ∧ State.reset.n 0 0x100200 = 0 ∧ State.reset.n 0 0x0B0500 = 0xFFFF
      ∧ State.reset.b 0 0x100300 = false)
    ∧ (State.reset.rst.phase = .fuseLoad ∧ State.reset.rst.nRstLow = true)
    ∧ (State.reset.slots = [] ∧ State.reset.keys = [] ∧ State.reset.plan = none ∧ State.reset.jobs = [])
    ∧ ∀ u k, keyOf u k ≠ 0x100000 → keyOf u k ≠ 0x100100 → State.reset.val u k = defaultAt (keyOf u k)

/-- The beat (01 R13 to R20; 03 R78, R80; 09 R214): a beat start of a device with no role and nothing waiting runs the next beat from its start; a tick
samples its sleeve at its instant; a cell's last tick commits the beat where the request is registered in time and makes the cell late where it is not; a
deadline without a commit makes the cell late and counts LateRun. -/
def Obligations.Beats : Prop :=
  ∀ s : State, Serving s → Calm s →
    (s.plan = none → s.cells = [] → s.rehousings = [] → s.kernels = [] → s.writes = [] → s.commands = [] → s.commit = none → s.flipped = none →
        s.recorders = [] → s.veil.groups = [] → s.beat.rxMap = [] → Completes (.beatStart []) s fun t =>
      t.beat.running = true ∧ t.beat.n = nextBeat s ∧ t.beat.start = s.beatStart (nextBeat s) ∧ t.beat.period = s.tb ∧ t.beat.restart = false
        ∧ t.beat.base = s.beatStart (nextBeat s)
        ∧ (s.beatStart (nextBeat s) < 2 ^ 68 → s.beatStart (nextBeat s) ≤ t.q) ∧ t.n fieldUnit 0x0D1200 = s.field.rxLevels ∧ t.outbox = [])
    ∧ (∀ x : SleeveSample, isSleeve x.sleeve = true →
      (s.beat.running = false → exec (.tickStart x) s = .next s)
      ∧ (s.beat.running = true → (sleevePlan s x.sleeve).isSome = true → (s.sleeve x.sleeve).fb.tick + 1 < ticksPerBeat s x.sleeve →
          (s.sleeve x.sleeve).fb.lostDue = false → Completes (.tickStart x) s fun t =>
            (t.sleeve x.sleeve).fb.tick = (s.sleeve x.sleeve).fb.tick + 1 ∧ t.beat = s.beat
            ∧ (s.beat.base + ((s.sleeve x.sleeve).fb.tick + 1) * tickQ s x.sleeve < 2 ^ 68 →
              s.beat.base + ((s.sleeve x.sleeve).fb.tick + 1) * tickQ s x.sleeve ≤ t.q)))
    ∧ (∀ c r registered, isCell c = true → (s.cell c).work = { role := r } → r ≠ .none → s.beat.running = true → (s.cell c).committed = false →
        (s.cell c).closed = false → (s.cell c).late = false → (s.cell c).ticks = 0 → (s.cell c).shut = none →
      (s.writes = [] → s.flipped = none → (s.cell c).rehoused = none → (s.cell c).replaced = none → registered / 32 ≤ tickDeadline s c 0 / 32 →
        Completes (.cellCommit c registered) s fun t => (t.cell c).committed = true ∧ (t.cell c).ticks = 1 ∧ (t.cell c).hotBeat = s.beat.n
          ∧ t.n c 0x032300 = 0 ∧ t.axes = s.axes)
      ∧ (tickDeadline s c 0 / 32 < registered / 32 → exec (.cellCommit c registered) s = .next (s.setCell c { s.cell c with late := true }))
      ∧ (s.flipped = none → s.n c 0x032300 + 1 < s.n c 0x032100 → s.n c 0x032300 < 16 → shadowed s c 2 = false → Completes (.deadline c) s fun t =>
          (t.cell c).late = true ∧ (t.cell c).closed = true ∧ t.n c 0x032300 = s.n c 0x032300 + 1 ∧ Counts s t c 0x032200 ∧ (tickDeadline s c 0 < 2 ^ 68 → tickDeadline s c 0 ≤ t.q)))

/-- UnitCommand on an axis in no cluster (01 R30, Table 1-4; 04 R105, R107; 06 R160): STOP of an ACTIVE axis empties its queue and asks the
stage to stop; DISABLE leaves the axis DISABLED with its queue, running segment, latch FIFO and compare queue gone; ENABLE takes it from DISABLED to
READY and START from READY to ACTIVE unless the axis refuses; a command that names no transition is answered WRONG_STATE. -/
def Obligations.AxisCommands : Prop :=
  ∀ (s : State) (a : Nat) (o : Option Origin), Serving s → Calm s → isAxis a = true → NoCluster s a →
    (sleeveOf s a = 0 ∨ isSleeve (sleeveOf s a) = true) →
    (s.st a = usActive → exec (.unitStop a o) s = .next (answerSt (askStopAxis s a) o stOk))
    ∧ (s.st a ≠ usActive → exec (.unitStop a o) s = .next (answerSt s o stWrongState))
    ∧ (s.st a = usReady ∨ s.st a = usActive → Completes (.unitDisable a o) s fun t => t.st a = usDisabled ∧ (t.axis a).traj.queue = []
        ∧ (s.st a = usActive → (t.axis a).traj.run = none) ∧ (t.axis a).latch.fifo = [] ∧ (t.axis a).compare.queue = [] ∧ Apart s t)
    ∧ (s.st a = usDisabled → enableRefusal s a = none → Completes (.unitEnable a o) s fun t => t.st a = usReady ∧ t.axes = s.axes)
    ∧ (s.st a = usReady → startRefusal s a = none → isLocal a = false → Completes (.unitStart a o) s fun t => t.st a = usActive
        ∧ (t.axis a).traj.vel = 0 ∧ (t.axis a).traj.acc = 0 ∧ (t.axis a).follow.engaged = false)
    ∧ (s.st a ≠ usDisabled → exec (.unitEnable a o) s = .next (answerSt s o stWrongState))
    ∧ (s.st a ≠ usReady → exec (.unitStart a o) s = .next (answerSt s o stWrongState))

/-- The end of a cell's self-test (01 R33, R406; 12 R286): with a pass the cell is READY, and takes the role the plan gives it and is ACTIVE;
with a fail of a cell that holds no role the cell is in FAULT; where no self-test runs nothing happens. -/
def Obligations.SelfTests : Prop :=
  ∀ (s : State) (c : Nat), Serving s → Calm s → isCell c = true → NoCluster s c → s.faults = [] →
    ((s.cell c).selfTest = false → ∀ pass, exec (.selfTestDone c pass) s = .next s)
    ∧ ((s.cell c).selfTest = true → s.st c ≠ usFault →
        ((s.cell c).planned.role = .none → Completes (.selfTestDone c true) s fun t => t.st c = usReady ∧ t.cell c = {})
        ∧ ((s.cell c).planned.role ≠ .none → Completes (.selfTestDone c true) s fun t => t.st c = usActive ∧ (t.cell c).work = (s.cell c).planned)
        ∧ (s.st c ≠ usOff → s.st c ≠ usRetired → (s.cell c).work.role = .none → s.rehousings = [] →
            Completes (.selfTestDone c false) s fun t => t.st c = usFault ∧ (t.cell c).selfTest = false))

/-- COMB_PLAN_APPLY (01 R31, R33): refused with WRONG_STATE while the root is not DISABLED and with PLAN_INVALID where the plan breaks a rule;
else the plan is in force, every rehousing before it has ended, and its signature is on its way to the journal, whose commit answers. -/
def Obligations.PlanApplies : Prop :=
  ∀ (s : State) (p : CombPlan) (o : Option Origin), Serving s → Calm s →
    (s.st 0 ≠ usDisabled → exec (.combPlanApply p o) s = .next (answerSt s o stWrongState))
    ∧ (s.st 0 = usDisabled → planOk s p = false → exec (.combPlanApply p o) s = .next (answerSt s o stPlanInvalid))
    ∧ (s.st 0 = usDisabled → planOk s p = true → journalFull s [itemRecord 7 (leBytes 4 p.signature)] = false →
        Completes (.combPlanApply p o) s fun t => t.plan = some p ∧ t.rehousings = [] ∧ t.clusters = []
          ∧ t.journal.queue = s.journal.queue ++ [⟨[itemRecord 7 (leBytes 4 p.signature)], .reply o⟩])

/-- The weave's commands: ROLE_REASSIGN gives the role of a cell that failed its self-test to the nearest reserve cell (01 R408), ROLE_GRANT
a waiting role to a READY cell (12 R290), REHOUSING_QUEUED_START the oldest waiting rehousing to the nearest reserve cell (12 R289); READYING_DONE
lets the switch happen from the beat after (12 R286, R292). -/
def Obligations.WeaveCommands : Prop :=
  ∀ (s : State) (c t : Nat), Serving s → Calm s → isCell c = true → (∀ u, NoCluster s u) → activeRehousings s < 4 →
    (s.st c = usFault → (s.cell c).planned.role ≠ .none → chooseCell s c = some t → isCell t = true →
      Completes (.roleReassign c) s fun u => u.st t = usActive ∧ (u.cell c).planned = {}
        ∧ u.rehousings = s.rehousings ++ [{ kind := .reassign, failed := c, work := (s.cell c).planned, target := some t }])
    ∧ (∀ r, waitingRole s = some r → s.st c = usReady → draining s c = false →
      Completes (.roleGrant c) s fun u => u.st c = usActive
        ∧ u.rehousings = s.rehousings.map fun q => if q == r then { r with kind := if r.kind = .reassign then .reassign else .grant, target := some c } else q)
    ∧ (∀ r, s.rehousings.find? (fun r => r.target.isNone && !r.noCell) = some r → chooseCell s r.failed = some t → isCell t = true →
      Completes .rehousingQueuedStart s fun u => u.st t = usActive ∧ u.rehousings = s.rehousings.erase r ++ [{ r with target := some t }])
    ∧ exec (.readyingDone c) s = .next { s with rehousings := s.rehousings.map (fun r =>
        if r.target = some c ∧ r.readied = false then
          { r with readied := true, notBefore := if r.kind = .replacement ∨ r.kind = .drain then beatAfterNext s else s.beat.n + 1 }
        else r) }

/-- Opening a session (02 R49, R53, R54): OPEN with a key installed leaves a pending challenge in the lowest free slot and sends it; without a key
it opens a keyless session; PROOF with the right code opens the session, with a wrong one it frees the slot and counts; so does a challenge left
unanswered. -/
def Obligations.SessionsOpen : Prop :=
  ∀ (s : State) (d : Dgram) (i sid seq level : Nat) (draw : OpenDraw), Serving s → Calm s → level ≤ 4 →
    (reaches s d = true → Carries d mkOpen sid seq (leBytes 1 level ++ [0, 0, 0]) → mapGet 0 s.authBars d.src.addr ≤ s.time.uptime → freeSlot s = some i → drawOk s draw = true →
      (mapGet [] s.keys level ≠ [] → Completes (.openSession d draw) s fun t => t.slot i = .challenge level d.src draw.sid draw.challenge
          ∧ t.sent = lfpSent d.src mkChallenge 0 draw.sid 0 draw.challenge :: s.sent)
      ∧ (mapGet [] s.keys level = [] → level ≠ 3 → Completes (.openSession d draw) s fun t =>
          t.slot i = .opened { level := level, keyless := true, src := d.src, sid := draw.sid } ∧ t.n 0 (0x002500 + i) = 0xFFFFFFFF
          ∧ t.sent = lfpSent d.src mkOpenOk 2 draw.sid 0 (leBytes 1 i ++ leBytes 1 level ++ leBytes 1 32 ++ leBytes 1 8) :: s.sent))
    ∧ (∀ ch payload, reaches s d = true → Carries d mkProof sid seq payload → sessionOf s d.src sid = none → challengeBySid s sid = some (i, level, d.src, ch) → i < 16 →
      (payload = hmac (mapGet [] s.keys level) ch → Completes (.proof d) s fun t =>
          t.slot i = .opened { level := level, keyless := false, src := d.src, sid := sid } ∧ t.n 0 (0x002500 + i) = 0xFFFFFFFF)
      ∧ (payload ≠ hmac (mapGet [] s.keys level) ch → Completes (.proof d) s fun t =>
          t.slot i = .free ∧ Counts s t 0 0x002100))
    ∧ (∀ src ch, s.slot i = .challenge level src sid ch → i < 16 → Completes (.challengeTimeout i) s fun t =>
        t.slot i = .free ∧ Counts s t 0 0x002100)

/-- How a session goes on and ends (02 R36, R51): KEEPALIVE changes nothing; CLOSE is replied to and frees the slot, as does the session's timeout,
with the slot's subscription at its default; NetApply, given by no session, puts the stored settings in force and ends every session. -/
def Obligations.SessionsEnd : Prop :=
  ∀ (s : State) (d : Dgram) (i : Nat) (ss : Session), Serving s → Calm s →
    (reaches s d = true → AtRest s d i ss → (∀ seq payload, Carries d mkKeepalive ss.sid seq payload → exec (.keepalive d) s = .next s)
      ∧ (Carries d mkClose ss.sid ss.expect [] → Completes (.close d) s fun t => t.slot i = .free ∧ t.n 0 (0x002500 + i) = 0xFFFFFFFF
          ∧ t.sent = lfpSent ss.src mkReply 0 ss.sid ss.expect [] :: s.sent))
    ∧ (s.slot i = .opened ss → i < 16 → Completes (.sessionTimeout i) s fun t => t.slot i = .free ∧ t.n 0 (0x002500 + i) = 0xFFFFFFFF
        ∧ ∀ e ∈ t.events, i ∉ e.holders)
    ∧ (∀ w row, Passes s 0x104 w row → w.unit = 0 → w.origin = none → Completes (.netApply w) s fun t =>
        t.ipv4 = s.n 0 0x010100 ∧ (s.n 0 0x010100 ≠ 0 → t.netMask = s.n 0 0x010200 ∧ t.gateway = s.n 0 0x010300)
        ∧ (s.n 0 0x010100 = 0 → t.netMask = 0xFFFF0000 ∧ t.gateway = 0) ∧ t.lfpPort = s.n 0 0x010000 ∧ ∀ j < 16, ∀ x, t.slot j ≠ .opened x)

/-- The service of a request of one item (02 R42 to R46; 00 R7, R8; 01 OP1; 04 R109): READ replies with the type and the bytes of the object;
WRITE of a scalar with no behaviour of its own on a unit that no cell serves stores it and replies, a journaled one goes to the journal first, and one
on a unit that a cell serves waits for its cell; STAGE goes to the journal. A malformed request of any kind is answered BAD_REQUEST. -/
def Obligations.RequestsServed : Prop :=
  ∀ (s : State) (d : Dgram) (i : Nat) (ss : Session) (payload : Bytes) (it : Item) (c : Checked), Serving s → Calm s → reaches s d = true → AtRest s d i ss →
    (Carries d mkRead ss.sid ss.expect payload → Accepted s i ss mkRead payload it c → it.obj ≠ 0xE21 →
      let b := readData (s.setSlot i (.opened (inService ss ss.expect c.row.ty.code))) i c it
      b.length ≤ 1444 → Completes (.read d) s (Replied s i ss (itemBytes { status := stOk, type := c.row.ty.code, data := b })))
    ∧ (Carries d mkWrite ss.sid ss.expect payload → Accepted s i ss mkWrite payload it c →
      let s1 := s.setSlot i (.opened (inService ss ss.expect c.row.ty.code))
      let w := itemWrite i ss c it
      ownRefusal s1 c.store it.obj c.row w = none → PlainObject s1 c.store it.obj c.row w →
      (c.row.jour = false → cellServed c.store = false → c.row.ty.scalar = true → Completes (.write d) s fun t =>
          Replied s i ss (itemBytes { status := stOk, type := c.row.ty.code }) t ∧ t.i c.store (it.obj * 256 + it.elem) = decodeNum c.row.ty it.data)
      ∧ (c.row.jour = true → journalFull s1 [writeRecord c.store it.obj c.row w] = false → Completes (.write d) s fun t =>
          t.slot i = .opened (inService ss ss.expect c.row.ty.code)
          ∧ t.journal.queue = s.journal.queue ++ [⟨[writeRecord c.store it.obj c.row w], .write it.obj w none⟩] ∧ t.dict = s.dict)
      ∧ (c.row.jour = false → cellServed c.store = true → Completes (.write d) s fun t =>
          t.slot i = .opened (inService ss ss.expect c.row.ty.code) ∧ t.writes = s.writes ++ [{ obj := it.obj, w := w }] ∧ t.dict = s.dict))
    ∧ (Carries d mkStage ss.sid ss.expect payload → Accepted s i ss mkStage payload it c →
      let s1 := s.setSlot i (.opened (inService ss ss.expect c.row.ty.code))
      let w := itemWrite i ss c it
      let r : JRecord := { writeRecord c.store it.obj c.row w with space := 1, job := it.job, path := it.path }
      c.remote = false → stageOwn s1 c.store it.obj it.data = none → stageRefusal s1 it.job it.path it.obj it.elem it.data = none → journalFull s1 [r] = false →
      Completes (.stage d) s fun t => t.slot i = .opened (inService ss ss.expect c.row.ty.code) ∧ t.jobs = s.jobs
        ∧ t.journal.queue = s.journal.queue ++ [⟨[r], .stage it.job it.path c.store it.obj { w with unit := c.unit }⟩])
    ∧ (parseItems true payload = none → Carries d mkRead ss.sid ss.expect payload → Completes (.read d) s (Replied s i ss (itemBytes { status := stBadRequest })))
    ∧ (parseItems false payload = none → Carries d mkWrite ss.sid ss.expect payload → Completes (.write d) s (Replied s i ss (itemBytes { status := stBadRequest })))

/-- Waggles (02 R56, R58, R59): WAGGLE_ACK lets go what it acknowledges; the next waggle of a session leaves with the next delivery number while the
window lets it; a repetition sends every unacknowledged waggle again, in order; a GAP tells the events a face has lost. -/
def Obligations.Waggles : Prop :=
  ∀ (s : State) (i : Nat) (ss : Session), Serving s → s.slot i = .opened ss → i < 16 →
    (∀ (d : Dgram) (a : Nat) (payload : Bytes), Calm s → reaches s d = true → Carries d mkWaggleAck ss.sid a payload → sessionOf s d.src ss.sid = some (i, ss) →
      precedes32 ss.acked a = true → Completes (.waggleAck d) s fun t =>
        t.slot i = .opened { ss with acked := a, outstanding := ss.outstanding.filter fun o => precedes32 a o.1 }
        ∧ ∀ e ∈ t.events, (∃ n, (n, e.serial) ∈ ss.outstanding ∧ precedes32 a n = false) → i ∉ e.holders)
    ∧ (∀ x rest e, ss.unsent = x :: rest → s.events.find? (fun e => e.serial == x) = some e →
        1 ≤ ((ss.delivered + 1) % 2 ^ 32 + 2 ^ 32 - ss.acked) % 2 ^ 32 → ((ss.delivered + 1) % 2 ^ 32 + 2 ^ 32 - ss.acked) % 2 ^ 32 ≤ 32 →
      exec (.waggleSend i) s = .next ((s.setSlot i (.opened { ss with
          unsent := rest, delivered := (ss.delivered + 1) % 2 ^ 32, outstanding := ss.outstanding ++ [((ss.delivered + 1) % 2 ^ 32, x)] })).emit
        (lfpSent ss.src mkWaggle 0 ss.sid ((ss.delivered + 1) % 2 ^ 32) (wagglePayload e))))
    ∧ exec (.waggleRepeat i) s = .next { s with sent := (ss.outstanding.filterMap fun o =>
        (s.events.find? fun e => e.serial == o.2).map fun e => lfpSent ss.src mkWaggle 1 ss.sid o.1 (wagglePayload e)).reverse ++ s.sent }
    ∧ (∀ u l, s.lost = [(u, l)] → 1 ≤ l.count → l.count ≤ 65535 → queueUse s + gapBytes ≤ Config.eventQueueBytes → selectors s 0x0001 ≠ [] →
      Completes .gapAppend s fun t => t.lost = [] ∧ ∃ e, t.events = s.events ++ [e] ∧ e.unit = u ∧ e.code = 0x0001
        ∧ e.data = leBytes 2 l.first ++ leBytes 2 l.count ∧ e.fseq = mapGet 0 s.faceSeq u ∧ e.holders = selectors s 0x0001)

/-- Process data (02 R61 to R63; 03 R84, R85): a part of the cycle that comes before its cut-off joins the parts of the cycle, and one that comes
late is counted; PdMapApply takes valid maps for the cycle after the present one and refuses others; PD_IN carries the image of the cycle to the owner,
in parts. -/
def Obligations.ProcessData : Prop :=
  ∀ (s : State), Serving s →
    (∀ (d : Dgram) (m : Lfp) (k arrival : Nat) (p : PdPart), reaches s d = true → wfDgram d = true → readLfp d.bytes = .ok m → m.kind = mkPdOut ∨ m.kind = mkPdIn →
      pdSource s d.src m = some k → readPart k m.payload = some p →
      (m.seq = cycleNow s → arrival * Config.quantaPerNs < pdCutoff s → exec (.pdOut d arrival) s = .next { s with beat := { s.beat with
          pdParts := s.beat.pdParts ++ [p], pdCycle := cycleNow s } })
      ∧ (m.seq ≠ cycleNow s ∨ pdCutoff s ≤ arrival * Config.quantaPerNs → Completes (.pdOut d arrival) s fun t => t.beat = s.beat ∧ Counts s t 0 0x014800))
    ∧ (∀ w row, Calm s → Passes s 0x144 w row → w.unit = 0 →
      (mapOk s true (mapEntries s 0x140 0x142) = true → mapOk s false (mapEntries s 0x141 0x143) = true → Completes (.pdMapApply w) s fun t =>
          t.beat = { s.beat with mapNext := some (cycleNow s, mapEntries s 0x140 0x142, mapEntries s 0x141 0x143), txNext := t.beat.txNext })
      ∧ (mapOk s true (mapEntries s 0x140 0x142) = false ∨ mapOk s false (mapEntries s 0x141 0x143) = false →
          exec (.pdMapApply w) s = .next (answerSt s w.origin stMapInvalid)))
    ∧ (∀ ss, s.slot (s.n 0 0x014500) = .opened ss → (∀ e < 8, s.n 0 (0x014600 + e) = 0) → exec .pdInLaunch s = .next { s with
        sent := ((pdParts (launchImage s)).map fun p => lfpSent ss.src mkPdIn 0 ss.sid (cycleNow s) p).reverse ++ s.sent })

/-- The device answers ARP and ICMP echo requests for its own address (02 R36), and holds its commissioning address while no probe is answered
(02 R37). -/
def Obligations.NetworkAnswers : Prop :=
  ∀ (s : State), Serving s →
    (∀ r : ArpRequest, r.senderMac < 2 ^ 48 → r.senderIp < 2 ^ 32 → r.targetIp < 2 ^ 32 → exec (.arpRequest r) s = .next
      (if ownAddr s = some r.targetIp then s.emit (.arpReply r.senderMac r.senderIp r.targetIp) else s))
    ∧ (∀ e : IcmpEcho, e.src < 2 ^ 32 → e.dst < 2 ^ 32 → exec (.icmpEchoRequest e) s = .next
      (if ownAddr s = some e.dst ∧ e.fragment = false then s.emit (.icmpReply e.src e.ident e.seq e.data) else s))
    ∧ (s.ipv4 = 0 → exec (.commissioningProbe false) s = .next { s with linkLocal := true }
      ∧ exec (.commissioningProbe true) s = .next ({ s with linkLocal := false }.emit (.arpProbes (commissionAddr s))))
    ∧ (s.ipv4 ≠ 0 → ∀ a, exec (.commissioningProbe a) s = .next s)
    ∧ ownAddr s = if s.ipv4 ≠ 0 then some s.ipv4 else if s.linkLocal then some (commissionAddr s) else none

/-- A write given by itself (00 R7, R8; 02 R46, R52): refused with the status of the first check that fails, and nothing changes; a write with
no behaviour of its own stores a scalar; a journaled one goes to the journal first; a key goes to the journal. -/
def Obligations.Writes : Prop :=
  ∀ (s : State) (o : Nat) (w : Write) (row : ObjRow), Serving s → Calm s →
    (∀ e, wfWrite w = true → o < 65536 → storeOf s w.unit o = w.unit → directCheck s w.unit o w = .error e →
      exec (.objectWrite o w) s = .next (answerSt s w.origin e))
    ∧ (Passes s o w row → PlainObject s w.unit o row w → row.jour = false → row.ty.scalar = true → Completes (.objectWrite o w) s fun t =>
        t.i w.unit (o * 256 + w.elem) = decodeNum row.ty w.data
        ∧ (∀ u k, k < 2 ^ 24 → w.elem < 256 → (u ≠ w.unit ∨ k ≠ o * 256 + w.elem) → t.val u k = s.val u k) ∧ t.journal = s.journal)
    ∧ (Passes s o w row → PlainObject s w.unit o row w → row.jour = true → journalFull s [writeRecord w.unit o row w] = false →
      exec (.objectWrite o w) s = .next (journal s [writeRecord w.unit o row w] (.write o w none)))
    ∧ (Passes s 0x010 w row → w.unit = 0 → w.elem < 5 → journalFull s [itemRecord 1 (leBytes 1 w.elem ++ w.data)] = false →
      exec (.levelKey w) s = .next (journal s [itemRecord 1 (leBytes 1 w.elem ++ w.data)] (.key w.elem w.data w.origin)))

/-- Stick counters (02 R70): a write is taken only of the value 0 and only from a session at ENGINEER or SERVICE, restarts the counter from 0 and clears
its CounterSaturation bit; any other value is refused with RANGE. -/
def Obligations.StickCounters : Prop :=
  ∀ (s : State) (o : Nat) (w : Write) (row : ObjRow) (kd : UKind), kindOf w.unit = some kd → objAt s w.unit kd o = some row → row.stick = true →
    row.elLo ≤ w.elem → w.elem ≤ row.elHi → wfWrite w = true → o < 0xC000 → storeOf s w.unit o = w.unit →
    (∀ slot level, o ≠ 0x025 → levelCheck slot level false .write row o w.elem = (level == 2 || level == 4))
    ∧ (Serving s → Calm s → w.offset = 0 → w.data.length = row.ty.size → decodeNum row.ty w.data ≠ 0 →
        exec (.counterClear o w) s = .next (answerSt s w.origin stRange))
    ∧ (Serving s → Calm s → w.offset = 0 → w.data.length = row.ty.size → decodeNum row.ty w.data = 0 →
        let i := stickIndex kd o w.elem
        let cleared (t : State) : Prop := t.n w.unit (o * 256 + w.elem) = 0 ∧ bitOf (t.n w.unit (0x0B1000 + i / 32)) (i % 32) = false
        (row.jour = false → Completes (.counterClear o w) s cleared)
        ∧ (row.jour = true → journalFull s [writeRecord w.unit o row w] = false →
            exec (.counterClear o w) s = .next (journal s [writeRecord w.unit o row w] (.write o w none)) ∧ cleared (writeNow s w.unit o w)))

/-- The servo (03 R77): a Sync of the selected master that carries its own time, or the Follow_Up of the one that waits, gives OffsetFromMaster;
within StepThreshold it steers the frequency by KP and KI inside FreqLimit and the counter is not stepped; above it, with no sleeve ACTIVE, the counter is
stepped by the offset and the integrator starts again from 0. A two-step Sync waits. -/
def Obligations.NetworkTimeServo : Prop :=
  ∀ (s : State) (m : PtpMsg), Serving s → Calm s → m.port < 2 → fromMaster s m = true → timeState s ≠ 3 →
    (m.twoStep = true → exec (.sync m) s = .next (modTime s fun t => { t with syncWait := some m }))
    ∧ (m.twoStep = false → Completes (.sync m) s fun t =>
        Disciplined s t (m.stamp + phyRx s m.port - m.origin - m.correction - pathDelay s m.port) ∧ t.time.syncWait = s.time.syncWait)
    ∧ (∀ y, s.time.syncWait = some y → y.seq = m.seq → y.port = m.port → Completes (.followUp m) s fun t =>
        Disciplined s t (y.stamp + phyRx s y.port - m.origin - (y.correction + m.correction) - pathDelay s y.port) ∧ t.time.syncWait = none)

/-- The messages that the device answers and forwards (03 R73 to R75): with turnaround or follow-up to a Pdelay_Req; a Delay_Req of a boundary clock
with its receipt time; a Pdelay_Resp gives the link delay, a Delay_Resp the mean path delay; a forwarded event message carries its residence between the two
ports and the link delay of its ingress in its correction. -/
def Obligations.PtpMessages : Prop :=
  ∀ (s : State) (m : PtpMsg) (t1 t2 t3 : Int) (residence : Nat), Serving s → m.port < 2 → heard s m = true →
    (peerDelay s = true → s.b 0 0x020700 = false → exec (.pdelayReq m) s = .next
        (s.emit (.ptp m.udp .pdelayResp m.port m.seq 0 (m.correction + ((now16 s + phyTx s m.port) - (m.stamp + phyRx s m.port))))))
    ∧ (peerDelay s = true → s.b 0 0x020700 = true → exec (.pdelayReq m) s = .next
        ((s.emit (.ptp m.udp .pdelayResp m.port m.seq (m.stamp + phyRx s m.port) 0)).emit (.ptp m.udp .pdelayRespFollowUp m.port m.seq (now16 s + phyTx s m.port) m.correction)))
    ∧ (peerDelay s = true → s.time.linkDelay.length = 2 → Completes (.pdelayResp m t1 t2 t3) s fun t =>
        linkDelay t m.port = ((m.stamp + phyRx s m.port - (t1 + phyTx s m.port)) - (t3 - t2) - m.correction) / 2
        ∧ t.i 0 0x022700 = linkDelay t m.port ∧ t.time.counter = s.time.counter)
    ∧ (s.n 0 0x020200 = 2 → s.n 0 0x020600 = 1 → exec (.delayReq m) s = .next (s.emit (.ptp m.udp .delayResp m.port m.seq (m.stamp + phyRx s m.port) m.correction)))
    ∧ (s.n 0 0x020200 = 2 → s.n 0 0x020600 = 1 → fromMaster s m = true → exec (.delayResp m t1 t2 t3) s = .next
        (s.setI 0 0x022700 (((t2 + phyRx s m.port - t1) + (m.origin - (t3 + phyTx s m.port)) - m.correction) / 2)))
    ∧ (s.n 0 0x020200 ≠ 2 → exec (.eventMessageForward m residence) s = .next
        (s.emit (.ptp m.udp .forwarded (1 - m.port) m.seq m.origin
          (m.correction + (residence + phyTx s (1 - m.port) - phyRx s m.port) + linkDelay s m.port))))

/-- Time states and the second (03 R73, R78, R79, R82, R89): the first Announce of the domain selects its master and ends FREE_RUN; lost Syncs
end LOCKED in HOLDOVER, and the announce timeout ends the selection of the master; TimeOfDaySet steps the counter unless a sleeve is ACTIVE; a timing object is journaled; the pulse leaves at the whole second while
it is enabled, and an edge on PPS_IN is stamped and counted. -/
def Obligations.TimeStates : Prop :=
  ∀ (s : State), Serving s → Calm s →
    (∀ a : Announce, a.port < 2 → a.domain = s.n 0 0x020400 → a.udp = overUdp s → s.time.master = none → s.n 0 0x020200 ≠ 1 → Completes (.announce a) s fun t =>
        t.time.master = some a ∧ t.bs 0 0x022900 = (leBytes 8 a.identity).reverse ∧ (timeState s = 0 → timeState t = 1) ∧ (timeState s ≠ 0 → timeState t = timeState s)
        ∧ t.time.counter = s.time.counter)
    ∧ (timeState s = 2 → Completes .syncTimeout s fun t => timeState t = 3 ∧ Counts s t 0 0x022B00 ∧ t.time.counter = s.time.counter
        ∧ (s.time.freqHistory ≠ [] → t.time.freq = s.time.freqHistory.sum / (s.time.freqHistory.length : Nat))
        ∧ t.time.master = if announceLost s then none else s.time.master)
    ∧ (timeState s ≠ 2 → announceLost s = false → exec .syncTimeout s = .next s)
    ∧ (timeState s ≠ 2 → announceLost s = true → exec .syncTimeout s = .next (modTime s fun t => { t with master := none, syncWait := none }))
    ∧ (∀ w row, Passes s 0x245 w row → w.unit = 0 →
        (stepBarred s = false → Completes (.timeOfDaySet w) s fun t => t.time.counter = leNat w.data * Config.counterPerNs % 2 ^ 96 ∧ t.time.todSet = true
          ∧ t.beat.restart = true ∧ Counts s t 0 0x022A00)
        ∧ (stepBarred s = true → exec (.timeOfDaySet w) s = .next (answerSt s w.origin stWrongState)))
    ∧ (∀ o ∈ timingObjs, ∀ w row, Passes s o w row → w.unit = 0 → journalFull s [writeRecord 0 o row w] = false →
        exec (.timingObjectWrite o w) s = .next (journal s [writeRecord 0 o row w] (.write o w none)))
    ∧ exec .ppsOutEdge s = .next (if s.b 0 0x024000 then s.emit (.pps (s.q / 16000000000 * 16000000000) (s.n 0 0x024100)) else s)
    ∧ (∀ stamp, s.n 0 0x020200 ≠ 1 → Completes (.ppsInEdge stamp) s fun t => t.n 0 0x024200 = stamp / Config.quantaPerNs ∧ Counts s t 0 0x024300 ∧ t.time = s.time)

/-- Writes that act on an axis (04 R103 to R105; 05 R130; 07 R181, R186): SegmentAppend puts a valid segment at the end of a queue with room; FLUSH
empties the queue and ABORT of an ACTIVE axis also asks the stage to stop; PhaseTrimAdd adds and saturates; TorqueOffsetClear and GainBankRequest are taken
by the engine. Each is answered OK and changes nothing else. -/
def Obligations.AxisWrites : Prop :=
  ∀ (s : State) (w : Write) (row : ObjRow) (a : Nat), Serving s → Calm s → isAxis a = true → w.unit = a →
    (Passes s 0x710 w row → s.st a = usReady ∨ s.st a = usActive → queueCount s a < 64 → w.data.length = 64 → segmentOk s a w.data = true →
      exec (.segmentAppend w) s = .next (answerSt (s.setAxis a { s.axis a with traj := { (s.axis a).traj with
        queue := (s.axis a).traj.queue ++ [readSegment w.data], held := true, dry := false } }) w.origin stOk))
    ∧ (Passes s 0x710 w row → s.st a ≠ usReady → s.st a ≠ usActive → exec (.segmentAppend w) s = .next (answerSt s w.origin stWrongState))
    ∧ (∀ o, Passes s 0x712 { unit := a, data := leBytes 1 1, origin := o } row → exec (.queueFlush a o) s = .next
        (answerSt (s.setAxis a { s.axis a with traj := { (s.axis a).traj with queue := [] } }) o stOk))
    ∧ (∀ o, Passes s 0x712 { unit := a, data := leBytes 1 2, origin := o } row → s.st a = usActive → exec (.queueAbort a o) s = .next
        (answerSt (s.setAxis a { s.axis a with traj := { (s.axis a).traj with queue := [], abortAsked := true } }) o stOk))
    ∧ (Passes s 0x811 w row → exec (.phaseTrimAdd w) s = .next (answerSt (s.setI a 0x081000 (posSat (s.i a 0x081000 + decodeNum .i64 w.data))) w.origin stOk))
    ∧ (∀ o, Passes s 0x606 { unit := a, data := leBytes 1 1, origin := o } row → exec (.torqueOffsetClear a o) s = .next
        (answerSt (s.setAxis a { s.axis a with engine := { (s.axis a).engine with clearAsked := true } }) o stOk))
    ∧ (Passes s 0x641 w row → leNat w.data = 1 ∨ leNat w.data = 2 → Completes (.bankSwapRequest w) s fun t =>
        t.n a 0x064100 = leNat w.data ∧ (t.axis a).engine = { (s.axis a).engine with bankRequest := some (leNat w.data - 1) })

/-- Latch (06 R145 to R151): an edge that changes an input's level waits, stamped to 0.5 ns, at every live axis that selects the input and the edge,
and at no other; once it is decided and its later sample has come it becomes the next entry of the FIFO, unless its position lies outside the window,
where it is counted. -/
def Obligations.Latches : Prop :=
  ∀ (s : State) (i stamp : Nat) (level : Bool), Serving s → i < 16 →
    ((mapGet {} s.latchIns i).cand = none → latchLevel s i ≠ level → Completes (.latchEdge i level stamp) s fun t =>
        mapGet {} t.latchIns i = { mapGet {} s.latchIns i with cand := some (stamp / 8 * 8) } ∧ latchLevel t i = level
        ∧ (∀ a ∈ liveAxes s, takesEdge s a i level = true → t.axis a = { s.axis a with latch := { (s.axis a).latch with
            edges := insertEdge ⟨stamp / 8 * 8, i, !level⟩ (s.axis a).latch.edges } })
        ∧ ∀ a, a ∉ liveAxes s ∨ takesEdge s a i level = false → t.axis a = s.axis a)
    ∧ (latchLevel s i = level → exec (.latchEdge i level stamp) s = .next s)
    ∧ (∀ a e rest lp p, isAxis a = true → (s.axis a).latch.edges = e :: rest → inputsDecided s a e.stamp = true → latchPos s a e.stamp = some lp → lp.pos = some p →
        (inWindow s a (wrapPos (m16 s a) p) = true → (s.axis a).latch.fifo.length < 64 → Completes (.latchEntryInsert a) s fun t =>
          t.n a 0x090900 = (s.n a 0x090900 + 1) % 2 ^ 32
          ∧ (t.axis a).latch = { (s.axis a).latch with edges := rest, fifo := (s.axis a).latch.fifo ++ [{
              stamp := e.stamp / 8, position := wrapPos (m16 s a) p, turns := wrapTurns (m16 s a) p, seq := (s.n a 0x090900 + 1) % 2 ^ 32, input := e.input,
              falling := e.falling, flags := if lp.long then 2 else 0 }] })
        ∧ (inWindow s a (wrapPos (m16 s a) p) = false → Completes (.latchEntryInsert a) s fun t =>
          (t.axis a).latch = { (s.axis a).latch with edges := rest } ∧ Counts s t a 0x090C00))

/-- Compare targets (06 R153 to R155, R158): CompareAppend publishes a valid target; it is inserted in travel order against its reference sample, or
missed when a linear axis has passed it; FLUSH empties the queue; writing 1 clears sticky bits. -/
def Obligations.CompareTargets : Prop :=
  ∀ (s : State) (a : Nat), Serving s → isAxis a = true →
    (∀ w row, Calm s → w.unit = a → Passes s 0x933 w row → s.st a = usReady ∨ s.st a = usActive → targetsHeld s a < 256 → (readTarget w.data).pin < 16 →
        s.n 0 (0x092000 + (readTarget w.data).pin) = a → m16 s a = 0 → (readTarget w.data).action < 3 →
        exec (.compareAppend w) s = .next (answerSt (s.setAxis a { s.axis a with compare := { (s.axis a).compare with
          published := (s.axis a).compare.published ++ [(readTarget w.data, s.beat.n)] } }) w.origin stOk))
    ∧ (∀ g n rest x, (s.axis a).compare.published = (g, n) :: rest → (compareSamples s a).find? (fun x => decide (x.beat ≤ n)) = some x → m16 s a = 0 →
        (0 < aheadOf s a x.pos g → Completes (.compareTargetInsert a) s fun t => (t.axis a).compare = { (s.axis a).compare with
            published := rest, queue := insertTarget (aheadOf s a x.pos) g (s.axis a).compare.queue } ∧ t.dict = s.dict)
        ∧ (aheadOf s a x.pos g ≤ 0 → Completes (.compareTargetInsert a) s fun t => (t.axis a).compare = { (s.axis a).compare with published := rest }
            ∧ t.n a 0x093600 = setBit (s.n a 0x093600) 0 ∧ Counts s t a 0x093800))
    ∧ (∀ o row, Calm s → Passes s 0x935 { unit := a, data := leBytes 1 1, origin := o } row → Completes (.compareFlush a o) s fun t =>
        (t.axis a).compare = { (s.axis a).compare with queue := [], published := [] })
    ∧ (∀ w row, Calm s → w.unit = a → w.elem = 0 → Passes s 0x936 w row → Completes (.compareStatusClear w) s fun t =>
        t.n a 0x093600 = bitsToNat ((List.range 32).map fun i => bitOf (s.n a 0x093600) i && !bitOf (leNat w.data) i))

/-- The edges of the timing outputs (06 R152, R156, R157): a firing whose instant has come sets the pin that its axis owns and drives, and is
acknowledged; a pulse's end takes the pin low again. Both leave the device at their instant, on the 2 ns grid where the delay line of the pin's bank is not
calibrated, and 20 ns after the edge before at the earliest; an edge that this moves is counted. -/
def Obligations.TimingOutputs : Prop :=
  ∀ (s : State) (a p : Nat) (x : PinS), Serving s → isAxis a = true → s.pin p = x → p < 16 →
    (∀ f rest, (s.axis a).compare.firing = f :: rest → f.time ≤ s.q → f.target.pin = p → s.n 0 (0x092000 + p) = a → pinDriven s p = true → x.edges + x.pulseEnds.length < 64 →
        (∀ e ∈ x.scheduled, f.time < e.1) → (∀ e ∈ x.pulseEnds, f.time < e) → x.level = false → f.target.action = 0 →
        Completes (.compareFire a) s fun t => t.pin p = { x with level := true, lastEdge := some (pinInstant s p f.time), edges := x.edges + 1 }
          ∧ t.sent = .gtp p true (pinInstant s p f.time) :: s.sent ∧ (pinGrid s p f.time < pinInstant s p f.time → Counts s t 0 (0x092300 + p))
          ∧ (t.axis a).compare = { (s.axis a).compare with
              firing := rest, acks := (s.axis a).compare.acks ++ [{ tag := f.target.tag, time := pinInstant s p f.time, late := f.late, report := f.target.report }] })
    ∧ (∀ f rest, (s.axis a).compare.firing = f :: rest → s.q < f.time → exec (.compareFire a) s = .next s)
    ∧ (∀ e rest, x.pulseEnds = e :: rest → e ≤ s.q → x.level = true →
        Completes (.pulseEnd p) s fun t => t.pin p = { x with level := false, lastEdge := some (pinInstant s p e), pulseEnds := rest, edges := x.edges + 1 }
          ∧ t.sent = .gtp p false (pinInstant s p e) :: s.sent ∧ t.axes = s.axes ∧ (pinGrid s p e < pinInstant s p e → Counts s t 0 (0x092300 + p)))
    ∧ (∀ t l, x.lastEdge = some l → l + 320 ≤ pinInstant s p t)
    ∧ (∀ t, s.n (0x101 + 8 * (p / 4)) 0x045000 = 0 → (x.lastEdge = none ∨ ∃ l, x.lastEdge = some l ∧ l + 320 ≤ t) → pinInstant s p t = t)

/-- Jobs (04 R109 to R117): COMMIT of a job with entries, in time, becomes the pending commit, with its record on the way to the journal; once loaded
it is armed with its values in standby; a load that is late fails and is counted; REVOKE takes a pending commit away in time and is counted; JobDiscard
goes to the journal. -/
def Obligations.JobCommits : Prop :=
  ∀ (s : State) (d : Dgram) (i : Nat) (ss : Session) (payload : Bytes), Serving s → Calm s →
    (∀ job kind dir t p path m, AtRest s d i ss → ss.keyless = false → levelOk ss.level 1 false = true → Carries d mkCommit ss.sid ss.expect payload →
      readCommit payload = some (job, kind, dir, t, p, path) → (if kind = 0 then some 0 else masterFace s path) = some m →
      s.q + guardQ s job ≤ t * Config.quantaPerNs → jobOf s job ≠ [] → s.commit = none →
      journalFull s [itemRecord 6 (payload ++ leBytes 8 (triggerBeat s t))] = false →
      Completes (.commit d) s fun u =>
        u.commit = some { job := job, trigger := kind, dir := dir, master := m, timeT := t, posP := p, beat := triggerBeat s t, guard := guardQ s job }
        ∧ u.journal.queue = s.journal.queue ++ [⟨[itemRecord 6 (payload ++ leBytes 8 (triggerBeat s t))],
            .reply (some { slot := i, sid := ss.sid, req := ss.expect, item := 0 })⟩])
    ∧ (∀ c, AtRest s d i ss → ss.keyless = false → levelOk ss.level 1 false = true → s.commit = some c → c.job < 256 →
      Carries d mkRevoke ss.sid ss.expect (leBytes 1 c.job ++ [0, 0, 0]) → s.q + c.guard < s.beatStart (triggerBeat s c.timeT) →
      Completes (.revoke d) s fun u => u.commit = none ∧ u.standby = [] ∧ Counts s u 0 0x078900
        ∧ u.journal.queue = s.journal.queue ++ [⟨[itemRecord 6 (leBytes 1 c.job)], .reply (some { slot := i, sid := ss.sid, req := ss.expect, item := 0 })⟩])
    ∧ (∀ c, s.commit = some c → c.armed = false →
      exec .commitLoaded s = .next { s with
        commit := some { c with armed := true }
        standby := (jobOf s c.job).map fun e => (keyOf (storeOf s e.unit (e.key / 256)) e.key, e.value) }
      ∧ (triggerBeat s c.timeT ≤ s.beat.n + s.n 0 0x023300 → Completes .commitLoadCheck s fun u => u.commit = none ∧ u.standby = [] ∧ Counts s u 0 0x078A00)
      ∧ (s.beat.n + s.n 0 0x023300 < triggerBeat s c.timeT → exec .commitLoadCheck s = .next s))
    ∧ (∀ w row, Passes s 0x787 w row → w.unit = 0 → journalFull s [{ erase := true, space := 1, job := w.elem }] = false →
      exec (.jobDiscard w) s = .next (journal s [{ erase := true, space := 1, job := w.elem }] (.discard w.elem w.origin)))

/-- CamCommand (05 R134 to R136): OPEN, SEAL and ERASE of a table that may take them go to the journal with their records, and act when these have
committed; a table in use is not opened or erased, and only an OPEN table is sealed. -/
def Obligations.CamCommands : Prop :=
  ∀ (s : State) (n : Nat) (o : Option Origin) (row : ObjRow), Serving s → Calm s → n < 1024 →
    let w (c : Nat) : Write := { unit := 0, data := leBytes 1 c, origin := o }
    (Passes s (0x2C00 + n) (w 1) row → journalFull s (camRecords s n 1) = false →
      exec (.camOpen n o) s = .next (journal s (camRecords s n 1) (.write (0x2C00 + n) (w 1) none)))
    ∧ (Passes s (0x2C00 + n) (w 2) row → journalFull s (camRecords s n 2) = false →
      exec (.camSeal n o) s = .next (journal s (camRecords s n 2) (.write (0x2C00 + n) (w 2) none)))
    ∧ (Passes s (0x2C00 + n) (w 3) row → journalFull s (camRecords s n 3) = false →
      exec (.camErase n o) s = .next (journal s (camRecords s n 3) (.write (0x2C00 + n) (w 3) none)))
    ∧ (directCheck s 0 (0x2C00 + n) (w 2) = .ok row → camState s n ≠ 1 → exec (.camSeal n o) s = .next (answerSt s o 0x21))
    ∧ (directCheck s 0 (0x2C00 + n) (w 3) = .ok row → tableInUse s n = true → exec (.camErase n o) s = .next (answerSt s o 0x23))

/-- Trips (08 R205 to R209; 09 R232): a source that reaches a powered sleeve is active and latched, is counted, ends every gate-on interval at
once, is reported and puts the sleeve in FAULT; a pin's level that its filter has not accepted does nothing; a source is inactive when it deasserts;
TripClear is refused while a source is active, else the latch is cleared at the next valley. The decision of the over-current comparator is such a trip,
and samples on which it does not decide change nothing. -/
def Obligations.Trips : Prop :=
  ∀ (s : State) (k : Nat) (src : TripSource), Serving s → Calm s → isSleeve k = true → NoCluster s k →
    (∀ stamp, s.st k ≠ usOff → bitOf (s.n k 0x044000) (tripBit src) = false → (src = .pin → stamp + s.n k 0x044300 * 1000 ≤ s.q) →
        Completes (.trip k ⟨src, stamp⟩) s (Tripped s k (tripBit src)))
    ∧ (∀ stamp, s.q < stamp + s.n k 0x044300 * 1000 → exec (.trip k ⟨.pin, stamp⟩) s = .next s)
    ∧ (∀ stamp, s.st k = usOff ∨ bitOf (s.n k 0x044000) (tripBit src) = true → exec (.trip k ⟨src, stamp⟩) s = .next s)
    ∧ (bitOf (s.n k 0x044000) (tripBit src) = true → exec (.tripSourceDeassert k src) s = .next
        (putFaultBit (s.setN k 0x044000 (clrBit (s.n k 0x044000) (tripBit src))) k 0xB01 (tripBit src) false))
    ∧ (∀ w row, w.unit = k → Passes s 0x442 w row →
        (s.n k 0x044000 = 0 → exec (.tripClear w) s = .next (answerSt (modPwm s k fun p => { p with clearing := true }) w.origin stOk))
        ∧ (s.n k 0x044000 ≠ 0 → exec (.tripClear w) s = .next (answerSt s w.origin stTripActive)))
    ∧ ((s.sleeve k).pwm.clearing = true → exec (.tripCleared k) s = .next
        (((modPwm s k fun p => { p with clearing := false }).setN k 0x044100 0).later k 0x0402 []))
    ∧ (∀ b1 b2, (ocDecides s k b1 b2 = true → s.st k ≠ usOff → bitOf (s.n k 0x044000) 1 = false →
          Completes (.ocDetect k b1 b2) s (Tripped s k 1))
        ∧ (ocDecides s k b1 b2 = false ∨ s.st k = usOff ∨ bitOf (s.n k 0x044000) 1 = true → exec (.ocDetect k b1 b2) s = .next s))

/-- Modulation (08 R194 to R202, R210): at an update instant an ACTIVE sleeve takes the last duties that are due, and its stale count starts again;
a pulse long enough passes with its dead time, and one too short is dropped or stretched, and counted; the loss of a delay line moves its bank to the 2 ns
grid, and once it is calibrated again a valley moves it back; a pad that reads back wrong is marked and counted, and one that does so in the carrier
period after another is a fault. -/
def Obligations.Modulation : Prop :=
  ∀ (s : State) (k : Nat), Serving s → isSleeve k = true →
    (∀ p t, s.st k ≠ usOff → sleevePlan s k = some p → lastInstant s k = t → t ≤ s.q → (s.sleeve k).pwm.lastUpdate ≠ some t →
      Completes (.carrierUpdate k) s fun u => (u.sleeve k).pwm.lastUpdate = some t
        ∧ (u.sleeve k).pwm.held = (s.sleeve k).pwm.held.filter fun h => decide (t < h.1)
        ∧ ∀ h, ((s.sleeve k).pwm.held.filter fun h => decide (h.1 ≤ t)).getLast? = some h → s.st k = usActive →
            (u.sleeve k).pwm.duty = h.2 ∧ (u.sleeve k).pwm.stale = 0 ∧ (u.sleeve k).pwm.loaded = true ∧ (u.sleeve k).pwm.freewheel = false)
    ∧ (∀ p t, s.st k = usReady → sleevePlan s k = some p → lastInstant s k = t → t ≤ s.q → (s.sleeve k).pwm.lastUpdate ≠ some t → isValley s k t = true →
      (s.sleeve (bankFirst k)).pwm.calDue = true → Completes (.carrierUpdate k) s fun u => ∀ i < 8, u.n (bankFirst k + i) 0x045000 = 0)
    ∧ (∀ x high ron roff f, x < 3 → modulates s k = true → (s.sleeve k).pwm.phases[x]? = some f → pulseOn f high s.q = some ron → refOff s k x high ron = roff →
        (if high then f.hi else f.lo).ron ≠ some ron → (if high then f.hi else f.lo).through = false → ron < roff → (if high then f.lo else f.hi).on = [] →
        ((minPulse s k : Int) ≤ (roff : Int) - ron - deadTime s k → 0 < (roff : Int) - ron - deadTime s k → exec (.pulseDecision k x high) s = .next
          (modPwm s k fun p => { p with phases := p.phases.set x (putGate f high {
            on := ((onGrid s k (ron + deadTime s k), onGrid s k roff) :: (if high then f.hi else f.lo).on).take 6
            ron := some ron
            pass := true
            from' := ron }) }))
        ∧ ((roff : Int) - ron - deadTime s k < minPulse s k → stretches s k = false → Completes (.pulseDecision k x high) s fun t => Counts s t k 0x043200
            ∧ (t.sleeve k).pwm.phases.map (fun f => if high then f.hi.on else f.lo.on) = (s.sleeve k).pwm.phases.map fun f => if high then f.hi.on else f.lo.on)
        ∧ ((roff : Int) - ron - deadTime s k < minPulse s k → stretches s k = true → 0 < minPulse s k → Completes (.pulseDecision k x high) s fun t => Counts s t k 0x043300
            ∧ (t.sleeve k).pwm.phases = (s.sleeve k).pwm.phases.set x (putGate f high {
                on := ((onGrid s k (ron + deadTime s k), onGrid s k (ron + deadTime s k + minPulse s k)) :: (if high then f.hi else f.lo).on).take 6
                ron := some ron
                from' := ron
                counted := true })))
    ∧ (∀ bank, bank < 4 → Calm s → s.st (0x101 + 8 * bank) ≠ usOff →
        (s.n (0x101 + 8 * bank) 0x045000 ≠ 0 → exec (.delayCal bank true) s = .next (modPwm s (0x101 + 8 * bank) fun p => { p with calDue := true }))
        ∧ (s.n (0x101 + 8 * bank) 0x045000 = 0 → Completes (.delayCal bank false) s fun t => (∀ i < 8, t.n (0x101 + 8 * bank + i) 0x045000 = 1)
          ∧ t.outbox = s.outbox ++ [⟨0x101 + 8 * bank, 0x0403, [BitVec.ofNat 8 bank, 0]⟩]))
    ∧ (∀ pin level, pin < 6 → Calm s → s.st k ≠ usOff → padStable s k pin s.q = true →
        (padLevel s k pin s.q = level → exec (.readback k pin level) s = .next s)
        ∧ (padLevel s k pin s.q ≠ level → (∀ v, (s.sleeve k).pwm.mismatch.getD pin none = some v → v + carrierQ s k ≠ periodStart s k) → shadowed s k 3 = false → Completes (.readback k pin level) s fun t =>
            (t.sleeve k).pwm = { (s.sleeve k).pwm with mismatch := (s.sleeve k).pwm.mismatch.set pin (some (periodStart s k)) } ∧ Counts s t k 0x045200)
        ∧ (∀ v, padLevel s k pin s.q ≠ level → (s.sleeve k).pwm.mismatch.getD pin none = some v → v + carrierQ s k = periodStart s k → shadowed s k 4 = false →
            NoCluster s k → s.st k ≠ usRetired → Completes (.readback k pin level) s fun t => t.st k = usFault))

/-- Counted feedback (09 R213, R215 to R218): a quadrature edge or a Hall step moves the position by one count in its direction, with its stamp;
an illegal transition within the limit is counted and moves nothing; an index edge captures the position at its stamp and is counted. An edge that the
filter has not accepted does nothing. -/
def Obligations.CountedFeedback : Prop :=
  ∀ (s : State) (k : Nat) (a b c : Bool) (stamp : Nat), Serving s → Calm s → isSleeve k = true → s.st k ≠ usOff →
    (filterPassed s k stamp = true → fbKind s k = 1 → (quadPhase a b + 4 - quadPhase (s.sleeve k).fb.a (s.sleeve k).fb.b) % 4 = 1 → Completes (.countEdge k a b stamp) s fun t =>
        Moved s t k 1 stamp ∧ (t.sleeve k).fb.a = a ∧ (t.sleeve k).fb.b = b)
    ∧ (filterPassed s k stamp = true → fbKind s k = 1 → (quadPhase a b + 4 - quadPhase (s.sleeve k).fb.a (s.sleeve k).fb.b) % 4 = 3 → Completes (.countEdge k a b stamp) s fun t =>
        Moved s t k (-1) stamp ∧ (t.sleeve k).fb.a = a ∧ (t.sleeve k).fb.b = b)
    ∧ (filterPassed s k stamp = true → fbKind s k = 1 → (quadPhase a b + 4 - quadPhase (s.sleeve k).fb.a (s.sleeve k).fb.b) % 4 = 2 → (s.sleeve k).fb.illegal + 1 ≤ s.n k 0x050400 →
        shadowed s k 5 = false → Completes (.countEdge k a b stamp) s fun t =>
          t.i k 0x052300 = s.i k 0x052300 ∧ (t.sleeve k).fb.illegal = (s.sleeve k).fb.illegal + 1 ∧ Counts s t k 0x052A00 ∧ t.st k = s.st k)
    ∧ (∀ m n, filterPassed s k stamp = true → fbKind s k = 2 → (s.sleeve k).fb.hallSeen = true → hallPhase (s.sleeve k).fb.a (s.sleeve k).fb.b (s.sleeve k).fb.c = some m → hallPhase a b c = some n →
        ((n + 6 - m) % 6 = 1 → Completes (.hallStep k a b c stamp) s fun t => Moved s t k 1 stamp)
        ∧ ((n + 6 - m) % 6 = 5 → Completes (.hallStep k a b c stamp) s fun t => Moved s t k (-1) stamp))
    ∧ (∀ n, filterPassed s k stamp = true → fbKind s k = 2 → (s.sleeve k).fb.hallSeen = false → hallPhase a b c = some n → s.n k 0x052000 = 1 → Completes (.hallStep k a b c stamp) s fun t =>
        t.n k 0x052000 = 2 ∧ t.i k 0x052300 = s.i k 0x052300)
    ∧ (filterPassed s k stamp = false → exec (.countEdge k a b stamp) s = .next s ∧ exec (.hallStep k a b c stamp) s = .next s ∧ exec (.indexEdge k stamp) s = .next s)
    ∧ (filterPassed s k stamp = true → fbKind s k = 1 → s.n k 0x050500 = 1 → Completes (.indexEdge k stamp) s fun t => t.i k 0x052600 = fbAt s k stamp ∧ Counts s t k 0x052700
        ∧ t.i k 0x052300 = s.i k 0x052300)
    ∧ (∀ bits, bits.length = 64 → bits.all (fun x => x) = true ∨ bits.all (fun x => !x) = true → NoCluster s k → axisOf s k = 0 →
        shadowed s k 9 = false → Completes (.sdStreamStuck k bits) s fun t =>
        Counts s t k 0x054A00 ∧ t.n k 0x052000 = 4 ∧ (s.st k ≠ usRetired → t.st k = usFault))

/-- Serial encoders (09 R219 to R225): a transaction starts when none runs and its sample is near, with the request of its kind, a register request before a position; a
good SSI frame becomes the latest accepted frame at the transaction's start, a bad one is counted and extends the run of bad frames; a register reply or a
timeout ends the register transaction with its outcome and the reply to the write. -/
def Obligations.SerialEncoders : Prop :=
  ∀ (s : State) (k : Nat), Serving s → Calm s → isSleeve k = true → s.st k ≠ usOff →
    (serialDue s k = true → (s.sleeve k).fb.started = none → fbKind s k = 3 → exec (.serialTransactionStart k) s = .next
        ((modFb s k fun f => { f with started := some s.q }).emit (.serial k [])))
    ∧ (serialDue s k = false → exec (.serialTransactionStart k) s = .next s)
    ∧ (serialDue s k = true → (s.sleeve k).fb.started = none → fbKind s k = 4 → (s.sleeve k).fb.register = none → exec (.serialTransactionStart k) s = .next
        ((modFb s k fun f => { f with started := some s.q }).emit (.serial k [0x1E])))
    ∧ (∀ c a d o, serialDue s k = true → (s.sleeve k).fb.started = none → fbKind s k = 4 → (s.sleeve k).fb.register = some (c, a, d, o) → exec (.serialTransactionStart k) s = .next
        ((modFb s k fun f => { f with
          started := some s.q
          registerRuns := true
          crc := fspCrc ((registerRequest c a d).take ((registerRequest c a d).length - 2)) }).emit (.serial k (registerRequest c a d))))
    ∧ (∀ ts bits, (s.sleeve k).fb.started = some ts → fbKind s k = 3 → s.n k 0x050900 = 0 → s.n k 0x050A00 = 0 → s.b k 0x050B00 = false →
        bits.length = s.n k 0x050700 + s.n k 0x050800 → s.b k 0x050200 = false →
        (bitsMsb (bits.drop (s.n k 0x050700)) < fbCpr s k → (s.sleeve k).fb.lastField = none → Completes (.ssiFrame k true bits) s fun t =>
          let p := (if s.n k 0x050700 ≠ 0 then (bitsMsb (bits.take (s.n k 0x050700)) : Int) else 0) * fbCpr s k + bitsMsb (bits.drop (s.n k 0x050700))
          (t.sleeve k).fb.frames.head? = some { pos := p * 65536, time := ts } ∧ (t.sleeve k).fb.started = none ∧ t.n k 0x052800 = 0
          ∧ (s.n k 0x052000 = 1 ∨ s.n k 0x052000 = 3 → t.n k 0x052000 = 2))
        ∧ (shadowed s k 7 = false → Completes (.ssiFrame k false bits) s fun t => (t.sleeve k).fb.frames = (s.sleeve k).fb.frames
          ∧ (t.sleeve k).fb.started = none ∧ t.n k 0x052800 = min 255 (s.n k 0x052800 + 1) ∧ Counts s t k 0x052B00 ∧ (s.n k 0x052000 = 2 → t.n k 0x052000 = 3)))
    ∧ (∀ ts c a d o b, (s.sleeve k).fb.started = some ts → fbKind s k = 4 → (s.sleeve k).fb.registerRuns = true → (s.sleeve k).fb.register = some (c, a, d, o) →
        (c = 3 → b.length = 7 → fieldLE b 5 2 = fspCrc (b.take 5) → Completes (.fspReply k b true) s fun t =>
          t.bs k 0x051500 = leBytes 1 0 ++ leBytes 1 (fieldLE b 0 1) ++ leBytes 4 (fieldLE b 1 4) ∧ (t.sleeve k).fb.register = none ∧ (t.sleeve k).fb.started = none)
        ∧ Completes (.fspTimeout k) s fun t => t.bs k 0x051500 = [1, 0, 0, 0, 0, 0] ∧ (t.sleeve k).fb.register = none ∧ (t.sleeve k).fb.started = none)
    ∧ (∀ w row, w.unit = k → Passes s 0x514 w row → s.st k ≠ usActive → fbKind s k = 4 → (s.sleeve k).fb.register = none →
        fieldLE w.data 0 1 = 3 ∨ fieldLE w.data 0 1 = 4 → exec (.fspRegisterRequest w) s = .next
          (modFb s k fun f => { f with register := some (fieldLE w.data 0 1, fieldLE w.data 1 1, fieldLE w.data 2 4, w.origin) }))

/-! ### The cell datapath (10) -/

/-- Integer instructions write the stated result, s0 apart, in the stated cycles, and nothing else changes (10 R240, Table 10-2). -/
def Obligations.IntegerInstructions : Prop :=
  ∀ (k : Nat) (d a b : Fin 32),
    WritesS (.add k d a b) k 1 d (fun r => r.getS a + r.getS b)
    ∧ WritesS (.sub k d a b) k 1 d (fun r => r.getS a - r.getS b)
    ∧ WritesS (.and k d a b) k 1 d (fun r => r.getS a &&& r.getS b)
    ∧ WritesS (.or k d a b) k 1 d (fun r => r.getS a ||| r.getS b)
    ∧ WritesS (.xor k d a b) k 1 d (fun r => r.getS a ^^^ r.getS b)
    ∧ WritesS (.shl k d a b) k 1 d (fun r => BitVec.ofNat 32 ((r.getS a).toNat * 2 ^ ((r.getS b).toNat % 32)))
    ∧ WritesS (.shr k d a b) k 1 d (fun r => BitVec.ofNat 32 ((r.getS a).toNat / 2 ^ ((r.getS b).toNat % 32)))
    ∧ WritesS (.sar k d a b) k 1 d (fun r => BitVec.ofInt 32 ((r.getS a).toInt / 2 ^ ((r.getS b).toNat % 32)))
    ∧ WritesS (.mul k d a b) k 2 d (fun r => BitVec.ofNat 32 ((r.getS a).toNat * (r.getS b).toNat))
    ∧ WritesS (.mulh k d a b) k 2 d (fun r => BitVec.ofInt 32 ((r.getS a).toInt * (r.getS b).toInt / 2 ^ 32))
    ∧ WritesS (.slt k d a b) k 1 d (fun r => if (r.getS a).toInt < (r.getS b).toInt then 1 else 0)
    ∧ WritesS (.sltu k d a b) k 1 d (fun r => if (r.getS a).toNat < (r.getS b).toNat then 1 else 0)

/-- The immediate instructions: addi sign-extends, andi and ori zero-extend, lui multiplies by 2^13 (10 Table 10-1, Table 10-2). -/
def Obligations.ImmediateInstructions : Prop :=
  ∀ (k : Nat) (d : Fin 32) (imm : BitVec 19),
    WritesS (.addi k d imm) k 1 d (fun r => BitVec.ofInt 32 ((r.getS d).toInt + imm.toInt))
    ∧ WritesS (.andi k d imm) k 1 d (fun r => BitVec.ofNat 32 ((r.getS d).toNat &&& imm.toNat))
    ∧ WritesS (.ori k d imm) k 1 d (fun r => BitVec.ofNat 32 ((r.getS d).toNat ||| imm.toNat))
    ∧ WritesS (.lui k d imm) k 1 d (fun _ => BitVec.ofInt 32 (imm.toInt * 2 ^ 13))

/-- The floating-point instructions write the rounded result of their operation, in the stated cycles, and nothing else changes
(10 R238, Table 10-2). -/
def Obligations.FloatInstructions : Prop :=
  ∀ (k : Nat) (d a b c : Fin 32),
    WritesS (.fadd k d a b) k 2 d (fun r => BitVec.ofNat 32 (fAdd b32 (r.getS a).toNat (r.getS b).toNat))
    ∧ WritesS (.fsub k d a b) k 2 d (fun r => BitVec.ofNat 32 (fSub b32 (r.getS a).toNat (r.getS b).toNat))
    ∧ WritesS (.fmul k d a b) k 2 d (fun r => BitVec.ofNat 32 (fMul b32 (r.getS a).toNat (r.getS b).toNat))
    ∧ WritesS (.ffma k d a b c) k 3 d (fun r => BitVec.ofNat 32 (fFma b32 (r.getS a).toNat (r.getS b).toNat (r.getS c).toNat))
    ∧ WritesS (.fdiv k d a b) k 12 d (fun r => BitVec.ofNat 32 (fDiv b32 (r.getS a).toNat (r.getS b).toNat))
    ∧ WritesS (.fsqrt k d a) k 10 d (fun r => BitVec.ofNat 32 (fSqrt b32 (r.getS a).toNat))
    ∧ WritesS (.itof k d a) k 2 d (fun r => BitVec.ofNat 32 (fOfInt b32 (r.getS a).toInt))
    ∧ WritesS (.ftoi k d a) k 2 d (fun r => ftoi32 (r.getS a))
    ∧ WritesS (.flt k d a b) k 1 d (fun r => if fLt b32 (r.getS a).toNat (r.getS b).toNat then 1 else 0)
    ∧ WritesS (.fneg k d a) k 1 d (fun r => BitVec.ofNat 32 ((r.getS a).toNat ^^^ 2 ^ 31))
    ∧ WritesS (.fabs k d a) k 1 d (fun r => BitVec.ofNat 32 ((r.getS a).toNat % 2 ^ 31))

/-- The vector instructions act lane by lane, a multiply-add rounding once, and change nothing else (10 Table 10-2). -/
def Obligations.VectorInstructions : Prop :=
  ∀ (k : Nat) (v w x : Fin 8) (acc : Fin 4) (a d : Fin 32) (f : BitVec 4),
    Becomes (.vbc k v a) k 1 (fun r => { r with v := r.v.set v (Vector.replicate 4 (r.getS a)) })
    ∧ Becomes (.vfma k acc a w) k 3 (fun r => { r with acc := r.acc.set acc (Vector.ofFn fun i : Fin 4 =>
        BitVec.ofNat 32 (fFma b32 (r.getS a).toNat r.v[w][i].toNat r.acc[acc][i].toNat)) })
    ∧ Becomes (.vmul k v a w) k 3 (fun r => { r with v := r.v.set v (Vector.ofFn fun i : Fin 4 =>
        BitVec.ofNat 32 (fMul b32 (r.getS a).toNat r.v[w][i].toNat)) })
    ∧ Becomes (.vadd k v w x) k 2 (fun r => { r with v := r.v.set v (Vector.ofFn fun i : Fin 4 =>
        BitVec.ofNat 32 (fAdd b32 r.v[w][i].toNat r.v[x][i].toNat)) })
    ∧ Becomes (.aclr k acc) k 1 (fun r => { r with acc := r.acc.set acc (Vector.replicate 4 0) })
    ∧ Becomes (.amov k v acc) k 1 (fun r => { r with v := r.v.set v r.acc[acc] })
    ∧ WritesS (.vsum k d w) k 4 d (fun r => BitVec.ofNat 32 (fAdd b32 (BitVec.ofNat 32 (fAdd b32 r.v[w][0].toNat r.v[w][1].toNat)).toNat
        (BitVec.ofNat 32 (fAdd b32 r.v[w][2].toNat r.v[w][3].toNat)).toNat))
    ∧ WritesS (.vget k d w f) k 1 d (fun r => r.v[w][f.toNat % 4]'(Nat.mod_lt _ (by decide)))
    ∧ Becomes (.vput k v a f) k 1 (fun r => { r with v := r.v.set v (r.v[v].set (f.toNat % 4) (r.getS a) (Nat.mod_lt _ (by decide))) })

/-- The pointer-register instructions, nop and end (10 Table 10-2). -/
def Obligations.PointerInstructions : Prop :=
  ∀ (k : Nat) (p : Fin 8) (a d : Fin 32),
    Becomes (.pset k p a) k 1 (fun r => { r with p := r.p.set p (r.getS a) })
    ∧ Becomes (.bset k p a) k 1 (fun r => { r with b := r.b.set p (r.getS a) })
    ∧ Becomes (.lset k p a) k 1 (fun r => { r with l := r.l.set p (r.getS a) })
    ∧ WritesS (.pget k d p) k 1 d (fun r => r.p[p])
    ∧ Becomes (.nop k) k 1 (fun r => r)
    ∧ Becomes (.endK k) k 1 (fun r => { r with done := true })

/-- Where a branch goes (10 Table 10-2): by imm from the next instruction when taken, in 2 cycles; to the next instruction otherwise, in 1. -/
def Obligations.Branches : Prop :=
  ∀ (k : Nat) (d : Fin 32) (imm : BitVec 19) (s : State) (r : KRun) (n : Nat), KernelRuns s k r →
    (r.pc : Int) + 1 + imm.toInt = n → n < (s.kernel k).image.code.length → Fits s k r 2 →
    exec (.bz k d imm) s = .next (withRun s k (if r.getS d = 0 then { r with pc := n, used := r.used + 2 } else { r with pc := r.pc + 1, used := r.used + 1 }))
    ∧ exec (.bnz k d imm) s = .next (withRun s k (if r.getS d ≠ 0 then { r with pc := n, used := r.used + 2 } else { r with pc := r.pc + 1, used := r.used + 1 }))
    ∧ exec (.br k imm) s = .next (withRun s k { r with pc := n, used := r.used + 2 })
    ∧ exec (.loop k d imm) s = .next (withRun s k
        (if d = 0 then { r with pc := r.pc + 1, used := r.used + 1 }
         else if r.getS d = 1 then { r with s := r.s.set d 0, pc := r.pc + 1, used := r.used + 1 }
         else { r with s := r.s.set d (r.getS d - 1), pc := n, used := r.used + 2 }))
    ∧ exec (.jal k d imm) s = .next (withRun s k
        { r with s := if d = 0 then r.s else r.s.set d (BitVec.ofNat 32 (4 * (r.pc + 1))), pc := n, used := r.used + 2 })
    ∧ ((r.getS d).toNat = 4 * n → exec (.jr k d) s = .next (withRun s k { r with pc := n, used := r.used + 2 }))

/-- Loads and stores of one word at the address of 10 R241; a store changes that word of memory and the pointer, a load its register and the
pointer. -/
def Obligations.LoadsAndStores : Prop :=
  ∀ (k : Nat) (d : Fin 32) (p : Fin 8) (m : Fin 4) (off : BitVec 14) (s : State) (r : KRun) (a q : W32), KernelRuns s k r → Fits s k r 2 →
    kAddr r p m off = .ok (a, q) → KernelWord a.toNat →
    (∃ r', exec (.st k d p m off) s = .next (withRun s k r')
      ∧ r' = { r with mem := r'.mem, p := r.p.set p q, pc := r.pc + 1, used := r.used + 2 }
      ∧ mapFind r'.mem a.toNat = some (r.getS d)
      ∧ ∀ x, x ≠ a.toNat → mapFind r'.mem x = mapFind r.mem x)
    ∧ (∀ v, mapFind r.mem a.toNat = some v → exec (.ld k d p m off) s = .next (withRun s k
        { r with s := if d = 0 then r.s else r.s.set d v, p := r.p.set p q, pc := r.pc + 1, used := r.used + 2 }))

/-- A vector load and store use the four words of 10 R241; a store changes no other word of memory. -/
def Obligations.VectorLoadsAndStores : Prop :=
  ∀ (k : Nat) (v p : Fin 8) (m : Fin 4) (off : BitVec 14) (s : State) (r : KRun) (a q : W32), KernelRuns s k r → Fits s k r 2 →
    kAddr r p m off = .ok (a, q) → (∀ x ∈ kFour r p a, KernelWord x) →
    (∃ r', exec (.vst k v p m off) s = .next (withRun s k r')
      ∧ r' = { r with mem := r'.mem, p := r.p.set p q, pc := r.pc + 1, used := r.used + 2 }
      ∧ ((kFour r p a).Nodup → ∀ i : Fin 4, ∃ x, (kFour r p a)[i.val]? = some x ∧ mapFind r'.mem x = some r.v[v][i])
      ∧ ∀ x, x ∉ kFour r p a → mapFind r'.mem x = mapFind r.mem x)
    ∧ (∀ x : Vector W32 4, (∀ i : Fin 4, ∃ y, (kFour r p a)[i.val]? = some y ∧ mapFind r.mem y = some x[i]) →
        exec (.vld k v p m off) s = .next (withRun s k { r with v := r.v.set v x, p := r.p.set p q, pc := r.pc + 1, used := r.used + 2 }))

/-- The addresses of PTR instructions (10 R241): the three modes with the pointer after them, the illegal fourth, wrap of a circular buffer, the four
word addresses of a vector, and a misaligned address, base or length, which is an exception. -/
def Obligations.AddressModes : Prop :=
  ∀ (r : KRun) (p : Fin 8) (off : BitVec 14),
    let o : W32 := off.signExtend 32
    let l : Nat := r.l[p].toNat
    let aligned : Prop := r.b[p].toNat % 4 = 0 ∧ l % 4 = 0
    (aligned → kAddr r p 0 off = .ok (kWrap r p (r.p[p] + o), r.p[p])
      ∧ kAddr r p 1 off = .ok (r.p[p], kWrap r p (r.p[p] + o))
      ∧ kAddr r p 2 off = .ok (kWrap r p (r.p[p] + o), kWrap r p (r.p[p] + o)))
    ∧ (∀ (k : Nat) (w : W32), w.toNat / 2 ^ 14 % 4 = 3 → [0x30, 0x31, 0x40, 0x41].contains (w.toNat / 2 ^ 24) = true → kernelDecode k w = none)
    ∧ (∀ x : W32, (l = 0 → kWrap r p x = x)
      ∧ (l ≠ 0 → kWrap r p x = BitVec.ofInt 32 (r.b[p].toInt + (x.toInt - r.b[p].toInt) % l))
      ∧ (l ≠ 0 → r.b[p].toNat + l ≤ 2 ^ 32 → r.b[p].toNat ≤ (kWrap r p x).toNat ∧ (kWrap r p x).toNat < r.b[p].toNat + l))
    ∧ (∀ a : W32, kFour r p a = [a.toNat, (kWrap r p (a + 4)).toNat, (kWrap r p (a + 8)).toNat, (kWrap r p (a + 12)).toNat])
    ∧ ∀ (k : Nat) (s : State) (m : Fin 4) (d : Fin 32) (v : Fin 8), k < 128 → KernelRuns s k r → Fits s k r 2 → m ≠ 3 →
        (¬ aligned ∨ (∃ a q, kAddr r p m off = .ok (a, q) ∧ a.toNat % 4 ≠ 0)) →
        Completes (.ld k d p m off) s (Excepted s k r) ∧ Completes (.st k d p m off) s (Excepted s k r)
        ∧ Completes (.vld k v p m off) s (Excepted s k r) ∧ Completes (.vst k v p m off) s (Excepted s k r)

/-- A search (10 R242) puts the extreme of n integer words and its lowest index into s_d and s_(d+1), in 4 + ceil(n / 4) cycles. -/
def Obligations.IntegerSearch : Prop :=
  ∀ (k : Nat) (d b : Fin 32) (p : Fin 8) (mx : Bool) (s : State) (r : KRun) (vs : List W32), KernelRuns s k r → d.val ≤ 30 →
    kAligned r p = true → (r.getS b).toNat = vs.length → 1 ≤ vs.length → vs.length ≤ 4096 → Fits s k r (4 + (vs.length + 3) / 4) →
    (∀ (i : Nat) (v : W32), vs[i]? = some v → ∃ x : Nat, (r.p[p].toNat :: (srchAddrs r p vs.length).drop 1)[i]? = some x ∧ KernelWord x ∧ mapFind r.mem x = some v) →
    ∃ (i : Nat) (v : W32), vs[i]? = some v
      ∧ exec (.srch k d p b (if mx then 3 else 2)) s = .next (withRun s k { r with
          s := (if d = 0 then r.s else r.s.set d v).set (d + 1 : Fin 32) (BitVec.ofNat 32 i), pc := r.pc + 1, used := r.used + (4 + (vs.length + 3) / 4) })
      ∧ ∀ (j : Nat) (w : W32), vs[j]? = some w → (if mx then w.toInt ≤ v.toInt else v.toInt ≤ w.toInt) ∧ (w = v → i ≤ j)

/-- The stores to the check-value unit (10 R254): CRC_POLY, CRC_CFG, CRC_INIT and CRC_VALUE, and the feeds of 1, 2 and 4 bytes, which keep the
unit busy for as many cycles; each store takes 2 cycles, and the cycles until a busy unit is free. -/
def Obligations.CheckValueStores : Prop :=
  ∀ (k : Nat) (v : W32) (s : State) (r : KRun) (n : Nat), KernelRuns s k r → n = r.used + (r.crc.busyUntil - r.used) →
    Fits s k r (r.crc.busyUntil - r.used + 2) →
    (∃ u, exec (.crcPoly k v) s = .next (withRun s k { r with crc := u, pc := r.pc + 1, used := n + 2 })
      ∧ u = { r.crc with poly := v, value := u.value } ∧ u.value.toNat = r.crc.value.toNat % 2 ^ (r.crc.cfg.toNat % 32 + 1))
    ∧ (2 ≤ v.toNat % 32 → ∃ u, exec (.crcCfg k v) s = .next (withRun s k { r with crc := u, pc := r.pc + 1, used := n + 2 })
      ∧ u = { r.crc with cfg := v &&& 0x71F, value := u.value } ∧ u.value.toNat = r.crc.value.toNat % 2 ^ (v.toNat % 32 + 1))
    ∧ exec (.crcInit k v) s = .next (withRun s k { r with crc := { r.crc with init := v, value := BitVec.ofNat 32 (v.toNat % 2 ^ (r.crc.cfg.toNat % 32 + 1)) }, pc := r.pc + 1, used := n + 2 })
    ∧ exec (.crcValue k v) s = .next (withRun s k { r with crc := { r.crc with value := BitVec.ofNat 32 (v.toNat % 2 ^ (r.crc.cfg.toNat % 32 + 1)) }, pc := r.pc + 1, used := n + 2 })
    ∧ exec (.crcIn8 k v) s = .next (withRun s k { r with crc := { crcFeed r.crc 1 v with busyUntil := n + 1 }, pc := r.pc + 1, used := n + 2 })
    ∧ exec (.crcIn16 k v) s = .next (withRun s k { r with crc := { crcFeed r.crc 2 v with busyUntil := n + 2 }, pc := r.pc + 1, used := n + 2 })
    ∧ exec (.crcIn32 k v) s = .next (withRun s k { r with crc := { crcFeed r.crc 4 v with busyUntil := n + 4 }, pc := r.pc + 1, used := n + 2 })

/-- The causes of a kernel exception stop the kernel before the instruction has an effect (10 R251): an illegal word, a misaligned access, an
access outside the map, a branch outside the code, and an invalid configuration of the check-value unit. -/
def Obligations.KernelExceptions : Prop :=
  ∀ (k : Nat) (s : State) (r : KRun), k < 128 → KernelRuns s k r →
    (∀ w, kernelDecode k w = none → Completes (.illegalInstruction k w) s (Excepted s k r))
    ∧ (Fits s k r 2 → ∀ (d : Fin 32) (p : Fin 8) (m : Fin 4) (off : BitVec 14) (a q : W32), kAddr r p m off = .ok (a, q) →
        (a.toNat % 4 ≠ 0 ∨ a.toNat < 0x10000 ∨ (0x18000 ≤ a.toNat ∧ a.toNat < 0x20000) ∨ 0x20120 ≤ a.toNat →
          Completes (.ld k d p m off) s (Excepted s k r) ∧ Completes (.st k d p m off) s (Excepted s k r))
        ∧ (0x10000 ≤ a.toNat ∧ a.toNat < 0x10080 ∨ 0x10100 ≤ a.toNat ∧ a.toNat < 0x10200 → Completes (.st k d p m off) s (Excepted s k r)))
    ∧ (Fits s k r 2 → ∀ imm : BitVec 19, ((r.pc : Int) + 1 + imm.toInt < 0 ∨ ((s.kernel k).image.code.length : Int) ≤ (r.pc : Int) + 1 + imm.toInt) →
        Completes (.br k imm) s (Excepted s k r))
    ∧ (Fits s k r 2 → ∀ d, ((r.getS d).toNat % 4 ≠ 0 ∨ 4 * (s.kernel k).image.code.length ≤ (r.getS d).toNat) →
        Completes (.jr k d) s (Excepted s k r))
    ∧ (Fits s k r (r.crc.busyUntil - r.used + 2) → ∀ v : W32, v.toNat % 32 < 2 → Completes (.crcCfg k v) s (Excepted s k r))

/-- Where the budget is exhausted before end, the kernel is stopped, its cell is late and the overrun is counted (10 R250). -/
def Obligations.KernelOverrun : Prop :=
  ∀ (k : Nat) (s : State) (r : KRun), k < 128 → KernelRuns s k r →
    Completes (.kernelOverrun k) s (Overran s k r)
    ∧ (∀ d a b, ¬ Fits s k r 1 → Completes (.add k d a b) s (Overran s k r))
    ∧ (∀ d p m off, m ≠ 3 → ¬ Fits s k r 2 → r.crc.busyUntil ≤ r.used → Completes (.ld k d p m off) s (Overran s k r))

/-- Every well-formed instruction of a kernel is what its word decodes to (10 R239, Table 10-1, Table 10-2). -/
def Obligations.KernelEncoding : Prop :=
  ∀ (i : Instr) (w : Nat), i.wf = true → kernelEncode i = some w → w < 2 ^ 32 ∧ ∃ k, kernelDecode k (BitVec.ofNat 32 w) = some i

/-- The two words that 10 R242 spells out decode to vfma acc0, s8, v1 and st s6, [p1], +4; a word with a bit in an unused field, a vector number
above 7 or mode 3 is an illegal instruction. -/
def Obligations.KernelWords : Prop :=
  kernelDecode 3 0x33020200 = some (.vfma 3 0 8 1) ∧ kernelDecode 3 0x41314004 = some (.st 3 6 1 1 4)
    ∧ kernelDecode 0 0x00000001 = none ∧ kernelDecode 0 0x32400000 = none ∧ kernelDecode 0 0x4000C000 = none ∧ kernelDecode 0 0x52080000 = none

/-- The check values that 10 R253 states: "123456789" gives 0xE306_9283 and, with g 0x1021, 16 bits and no flags, 0x29B1. -/
def Obligations.CheckValues : Prop :=
  let text : List Nat := [0x31, 0x32, 0x33, 0x34, 0x35, 0x36, 0x37, 0x38, 0x39]
  let fed (c : CrcUnit) : CrcUnit := text.foldl (fun c b => crcFeed c 1 (BitVec.ofNat 32 b)) c
  crcResult (fed { poly := 0x1EDC6F41, cfg := 0x71F, init := 0xFFFFFFFF, value := 0xFFFFFFFF }) = 0xE3069283
    ∧ crcResult (fed { poly := 0x1021, cfg := 0x00F, init := 0xFFFF, value := 0xFFFF }) = 0x29B1
    ∧ crc32c (text.map (BitVec.ofNat 8)) = 0xE3069283

/-- Hits of fault sources (12 R274 to R277, R279): a corrected source is noted in the sticky bits and counted, and the unit's state stays; a shadowed
one is noted in the shadowed bits only; a contained one of a cell with no role, or of an axis without a sleeve, puts the unit in FAULT; one of a sleeve's trip
sources is a trip (08 R206 to R208). -/
def Obligations.FaultHits : Prop :=
  ∀ (s : State) (u b : Nat) (k : UKind), Serving s → Calm s → wfUnit u = true → b < 256 → kindOf u = some k →
    (∀ n, classOf k b = some (.corrected n) → n ≠ 0 → shadowed s u b = false → Completes (.faultHit u b) s fun t =>
        faultBit t u 0xB00 b = true ∧ Counts s t u n ∧ (∀ x, t.st x = s.st x) ∧ t.axes = s.axes ∧ t.cells = s.cells ∧ t.sleeves = s.sleeves)
    ∧ (∀ c, classOf k b = some c → c ≠ .fatal → shadowed s u b = true → (isSleeve u = true → 3 ≤ b) → Completes (.faultHit u b) s fun t =>
        faultBit t u 0xB02 b = true ∧ (∀ x, t.st x = s.st x) ∧ t.axes = s.axes ∧ t.cells = s.cells ∧ t.sleeves = s.sleeves)
    ∧ (k = .cell → classOf .cell b = some .contained → shadowed s u b = false → s.st u ≠ usOff → s.st u ≠ usRetired → (s.cell u).work.role = .none →
        s.rehousings = [] → NoCluster s u → Completes (.faultHit u b) s fun t => t.st u = usFault ∧ faultBit t u 0xB00 b = true ∧ (t.cell u).selfTest = false)
    ∧ (k = .netAxis ∨ k = .virtAxis → b ≤ 2 → shadowed s u b = false → s.st u = usReady ∨ s.st u = usDisabled → NoCluster s u → sleeveOf s u = 0 →
        Completes (.faultHit u b) s fun t => t.st u = usFault ∧ faultBit t u 0xB00 b = true ∧ (t.axis u).traj.queue = [] ∧ (t.axis u).compare.queue = [])
    ∧ (k = .sleeve → b ≤ 2 → s.st u ≠ usOff → bitOf (s.n u 0x044000) b = false → NoCluster s u → Completes (.faultHit u b) s (Tripped s u b))

/-- The books of the fault collector (12 R275, R280 to R283): a source that ends is not active; writing 1 clears sticky bits; the end of a quiet period
starts a cell's self-test, clears a channel of the field die and takes a CAN controller back to READY with its recovery on the way to the journal; RetireRelease
and the operating time go to the journal. -/
def Obligations.FaultBooks : Prop :=
  ∀ (s : State) (u b : Nat), Serving s → Calm s → wfUnit u = true → b < 256 →
    exec (.faultSourceInactive u b) s = .next (putFaultBit s u 0xB01 b false)
    ∧ faultBit (putFaultBit s u 0xB01 b false) u 0xB01 b = false
    ∧ (∀ sh w row, w.unit = u → Passes s (if sh then 0xB02 else 0xB00) w row → w.elem < 8 → Completes (.faultStickyClear sh w) s fun t =>
        t.n u ((if sh then 0xB02 else 0xB00) * 256 + w.elem) = bitsToNat ((List.range 32).map fun i =>
          bitOf (s.n u ((if sh then 0xB02 else 0xB00) * 256 + w.elem)) i && !bitOf (leNat w.data) i))
    ∧ (isCell u = true → s.st u = usFault → containedActive s u .cell = false → (s.cell u).selfTest = false →
        exec (.quietPeriodEnd u none) s = .next (s.setCell u { s.cell u with selfTest := true }))
    ∧ (∀ c, u = fieldUnit → c < 32 → s.n fieldUnit (0x0D4000 + c) = 2 → (channelSources c).any (faultBit s fieldUnit 0xB01) = false →
        Completes (.quietPeriodEnd u (some c)) s fun t => t.n fieldUnit (0x0D4000 + c) = 0
          ∧ (s.n fieldUnit (0x0D4100 + c) < 65535 → t.n fieldUnit (0x0D4100 + c) = s.n fieldUnit (0x0D4100 + c) + 1))
    ∧ (kindOf u = some .can → s.st u = usFault → containedActive s u .can = false → retireThreshold s u = 0 → NoCluster s u →
        Completes (.quietPeriodEnd u none) s fun t => t.st u = usReady ∧ (s.n u 0x0B0300 < 65535 → t.n u 0x0B0300 = s.n u 0x0B0300 + 1)
          ∧ ∃ r, t.journal.queue = s.journal.queue ++ [⟨r, .none⟩])
    ∧ (∀ w row, w.unit = 0 → Passes s 0xB40 w row → journalFull s [itemRecord 3 (leBytes 2 (leNat w.data) ++ [0])] = false →
        exec (.retireRelease w) s = .next (journal s [itemRecord 3 (leBytes 2 (leNat w.data) ++ [0])] (.release (leNat w.data) w.origin)))
    ∧ exec .operatingTimeSave s = .next (journal s [itemRecord 5 (leBytes 8 (operatingMs s))] .none)

/-- Kernels in service and recorders (10 R251, R252; 11 R262, R270): a restart of a stopped kernel waits for the beat; an accepted update is journaled and
readied on the nearest reserve cell; a trigger condition goes to the journal, and is stored once it has its turn, what it replaces still holding for the samples before; a full or flushed stream buffer leaves in a datagram of the next number of its run
within its rate. -/
def Obligations.KernelsAndRecorders : Prop :=
  ∀ (s : State) (w : Write) (row : ObjRow), Serving s →
    (Calm s → w.unit = 0 → w.elem < 128 → Passes s 0x110A w row → s.n 0 (0x110400 + w.elem) = 2 → exec (.kernelRestart w) s = .next
        (answerSt (s.setKernel w.elem { s.kernel w.elem with restart := true }) w.origin stOk))
    ∧ (∀ k i c, Calm s → w.unit = 0 → Passes s 0x1111 w row → leNat w.data = k → parseImage (updateImage s) = some i → s.n 0 (0x110400 + k) ≠ 0 →
        (s.rehousings.any fun r => r.replaces.isSome) = false → updateOk s k i = true → activeRehousings s < 4 → chooseCell s (kernelCell s k) = some c →
        isCell c = true → NoCluster s c → Completes (.kernelUpdateApply w) s fun t => t.st c = usActive ∧ t.n 0 0x0B5300 = k
          ∧ t.journal.queue = s.journal.queue ++ [⟨imageRecords s k i, .kernelImage k⟩]
          ∧ ∃ r, t.rehousings = s.rehousings ++ [r] ∧ r.kind = .replacement ∧ r.target = some c ∧ r.replaces = some k ∧ r.failed = kernelCell s k
          ∧ r.image = some (i, bitOf (fieldLE (updateImage s) 11 1) 0))
    ∧ (Calm s → isRecorder w.unit = true → w.elem < 8 → Passes s 0xA10 w row → journalFull s [writeRecord w.unit 0xA10 row w] = false →
        exec (.triggerCondition w) s = .next (journal s [writeRecord w.unit 0xA10 row w] (.write 0xA10 w none))
        ∧ (writeNow s w.unit 0xA10 w).bs w.unit (0x0A1000 + w.elem) = w.data
        ∧ (s.st w.unit = usActive → ((writeNow s w.unit 0xA10 w).rec' w.unit).was =
            (s.rec' w.unit).was ++ [(w.elem, s.bs w.unit (0x0A1000 + w.elem), s.beatNs)]))
    ∧ (∀ r ss, isRecorder r = true → s.slot (s.n r 0x0A0400) = .opened ss → (s.rec' r).cycle ≠ s.beat.n / max 1 (s.n 0 0x023300) → 0 < s.n r 0x0A0500 →
        takeBlocks 1440 (oldestRun (s.rec' r)) ≠ [] → (s.rec' r).flush = true → Completes (.streamDatagramSend r) s fun t =>
          let run := ((oldestRun (s.rec' r)).headD default).run
          let num := (mapGet 0 (s.rec' r).numbers run + 1) % 2 ^ 32
          let bs := takeBlocks 1440 (oldestRun (s.rec' r))
          t.n r 0x0A3100 = num ∧ (t.rec' r).buffer = (s.rec' r).buffer.drop bs.length
          ∧ t.sent = lfpSent ss.src 0x40 0 ss.sid num (leBytes 2 r ++ leBytes 2 bs.length ++ leBytes 4 run
              ++ bs.flatMap fun b => leBytes 1 b.kind ++ leBytes 1 0 ++ leBytes 2 b.body.length ++ b.body) :: s.sent)
    ∧ (∀ r, isRecorder r = true → exec (.streamFlushTimeout r) s = .next (if (s.rec' r).buffer = [] then s else s.setRec r { s.rec' r with flush := true }))

/-- The veil's cycle and what it hears (13 R294, R295, R299, R300, R310, R313): a cycle drives what the cycle before decided, STO with its cause or
the release; a good snooped frame is the newest position of its sleeve, any other is not heard; a dark test that sees the output low and high again passes, another is remembered
as failed; a channel that stays high through the dark pulse of its test output puts its input in fault. -/
def Obligations.VeilCycle : Prop :=
  ∀ s : State, Calm s →
    (∀ inp : VeilInputs, inp.chanA.length = 8 → inp.chanB.length = 8 →
      (veilRuns s = false → exec (.veilCycle inp) s = .next s)
      ∧ (veilRuns s = true → s.st veilUnit ≠ usFault → s.veil.enrol = none → NoCluster s veilUnit → inp.diagFail = none →
          Completes (.veilCycle inp) s fun t => t.veil.cycle = s.veil.cycle + 1 ∧ t.veil.stofb = inp.stofb
          ∧ ∀ g < 8, (∀ c, (s.group g).decided = some c → (t.group g).high = false ∧ t.n veilUnit (0x0C0400 + g) = c)
              ∧ ((s.group g).decided = none → (s.group g).releasing = true → (t.group g).high = true)
              ∧ ((s.group g).decided = none → (s.group g).releasing = false → (t.group g).high = (s.group g).high)))
    ∧ (∀ k good frame received, isSleeve k = true →
      (veilFrameRead s k good frame = none → exec (.veilFrame k good frame received) s = .next s)
      ∧ (∀ p c, veilFrameRead s k good frame = some (p, c) → veilRuns s = true → (∀ a ∈ (veilFb s k).frames, a.2 ≠ received) →
          Completes (.veilFrame k good frame received) s fun t => (veilFb t k).frames = ((p : Int), received) :: (veilFb s k).frames
            ∧ (veilFb t k).sinceGood = 0 ∧ (veilFb t k).counter = c ∧ t.dict = s.dict)
      ∧ veilFrameRead s k false frame = none
      ∧ (∀ bits, veilKind s k ≠ 3 → veilFrameRead s k good (.ssi bits) = none) ∧ (∀ bytes, veilKind s k ≠ 4 → veilFrameRead s k good (.fsp bytes) = none))
    ∧ (∀ g < 8, veilRuns s = true → (s.group g).high = true → (s.group g).changed + 1 < s.veil.cycle →
      exec (.stoDarkTest g true true) s = .next s
      ∧ exec (.stoDarkTest g false true) s = .next (s.setGroup g { s.group g with darkFailed := true })
      ∧ ((s.group g).decided = none → exec (.stoDarkTest g true false) s = .next (s.setGroup g { s.group g with darkFailed := true })))
    ∧ (∀ o reads, o < 4 → s.field.powered = false ∨ s.field.seamLost = true → exec (.testPulse o reads) s = .next s)
    ∧ (∀ o reads, o < 4 → veilRuns s = true → s.field.powered = true → s.field.seamLost = false →
      ((∀ r ∈ reads, r.2 = true) → exec (.testPulse o reads) s = .next s)
      ∧ (∀ i < 8, s.n veilUnit (0x0C2600 + i) % 16 = o → reads = [(2 * i, false)] → (safeIn s i).fault = 0 →
          Completes (.testPulse o reads) s fun t => (safeIn t i).fault = 3 ∧ ∀ j, j ≠ i → safeIn t j = safeIn s j))

/-- The veil's commands (13 R297, R304, R317): a latch clear waits for the group's next cycle; SafetyKeyEnrol waits for its confirmation where the root
and the veil are DISABLED, every group is in STO and no safety key is there, and is else refused; an enrolment that runs out is answered; SafetyReset erases
through the journal; self-test passes, with the signature computed, or fails, once. -/
def Obligations.VeilCommands : Prop :=
  ∀ s : State, Serving s → Calm s →
    (∀ w row, Passes s 0xC05 w row → w.unit = veilUnit → w.elem < 8 →
      exec (.groupLatchClear w) s = .next (s.setGroup w.elem { s.group w.elem with clears := (s.group w.elem).clears ++ [w.origin] }))
    ∧ (∀ w row, Passes s 0xC0A w row → w.unit = veilUnit →
      (enrolReady s = true → mapGet [] s.keys 3 = [] → s.veil.enrol = none →
        exec (.safetyKeyEnrol w) s = .next { s with veil := { s.veil with enrol := some (w.data, 0, false, w.origin) } })
      ∧ (enrolReady s = false ∨ mapGet [] s.keys 3 ≠ [] ∨ s.veil.enrol.isSome = true → exec (.safetyKeyEnrol w) s = .next (answerSt s w.origin stWrongState)))
    ∧ (s.veil.enrol = none → exec .enrolTimeout s = .next s)
    ∧ (∀ key n safe o, s.veil.enrol = some (key, n, safe, o) → exec .enrolTimeout s = .next (answerSt { s with veil := { s.veil with enrol := none } } o 0x23))
    ∧ (∀ w row, Passes s 0xC0B w row → w.unit = veilUnit →
      (enrolReady s = true → exec (.safetyReset w) s = .next (journal s (safetyErasure s) (.safetyErase w.origin)))
      ∧ (enrolReady s = false → exec (.safetyReset w) s = .next (answerSt s w.origin stWrongState)))
    ∧ (s.n veilUnit 0x0C0200 ≠ 0 → ∀ pass, exec (.veilSelfTestDone pass) s = .next s)
    ∧ (s.n veilUnit 0x0C0200 = 0 → s.st veilUnit ≠ usOff →
      exec (.veilSelfTestDone false) s = .next (s.setN veilUnit 0x0C0200 2)
      ∧ (s.veil.enabled = false → exec (.veilSelfTestDone true) s = .next
          (State.setB { (s.setN veilUnit 0x0C0200 1) with rst := { s.rst with veilTested := true } } veilUnit 0x0C0100 (veilSigned (s.setN veilUnit 0x0C0200 1))))
      ∧ (s.veil.enabled = true → s.st veilUnit = usDisabled → limp s = false → veilSigned (s.setN veilUnit 0x0C0200 1) = true → NoCluster s veilUnit →
          Completes (.veilSelfTestDone true) s fun t => t.st veilUnit = usReady ∧ t.n veilUnit 0x0C0200 = 1 ∧ t.b veilUnit 0x0C0100 = true))

/-- The seam and the field die (14 R323 to R328; 01 R27): frames leave and arrive in both directions; an invalid one is counted; a valid one
commands the switches or brings the levels; one of a unit in FAULT keeps the die in its seam-loss state (R325); seam loss turns off the outputs without hold on the far side and faults the unit on the near side; inputs follow
their filters; OutputSet and OutputClear change the named bits; VFIELD's absence switches the die off. -/
def Obligations.FieldDie : Prop :=
  ∀ s : State, Serving s → Calm s → NoCluster s fieldUnit →
    (s.field.powered = true →
      exec .seamFrameSend s = .next { s with
        field := { s.field with flyDown := downFrame s, flyUp := upFrame s, frame := (s.field.frame + 1) % 65536 }
        sent := .seam false s.field.frame :: .seam true s.field.frame :: s.sent }
      ∧ (∀ dir, shadowed s fieldUnit 1 = false → Completes (.seamFrameReceive dir false) s fun t => Counts s t fieldUnit 0x0D0300 ∧ t.field = s.field)
      ∧ (s.field.flyDown.2.2 = false → Completes (.seamFrameReceive true true) s fun t => t.field.command = s.field.flyDown.1 ∧ t.field.supplyCmd = s.field.flyDown.2.1
          ∧ ∀ o < 16, (bitOf s.field.flyDown.1 o = false → (switchOf t (32 + o)).on = false ∧ (switchOf t (32 + o)).retry = false)
            ∧ (bitOf s.field.flyDown.1 o = true → s.n fieldUnit (0x0D4020 + o) = 0 → (switchOf s (32 + o)).retry = false → (switchOf t (32 + o)).on = true))
      ∧ (s.field.flyDown.2.2 = true → Completes (.seamFrameReceive true true) s fun t => t.field.seamLost = true ∧ t.field.command = s.field.command
          ∧ t.field.supplyCmd = s.field.flyDown.2.1 ∧ (s.field.seamLost = false → ∀ o < 16,
            (bitOf (s.n fieldUnit 0x0D2300) o = false → (switchOf t (32 + o)).on = false)
            ∧ (bitOf (s.n fieldUnit 0x0D2300) o = true → switchOf t (32 + o) = switchOf s (32 + o))))
      ∧ (Completes (.seamFrameReceive false true) s fun t => t.field = { s.field with rxLevels := s.field.flyUp.1, rxOpen := s.field.flyUp.2.1 }
          ∧ t.n fieldUnit 0x0D2500 = s.field.flyUp.2.2 ∧ t.b fieldUnit 0x0D0200 = true)
      ∧ (Completes .fieldSeamLoss s fun t => t.field.seamLost = true ∧ t.dict = s.dict
          ∧ ∀ o < 16, (bitOf (s.n fieldUnit 0x0D2300) o = false → (switchOf t (32 + o)).on = false)
            ∧ (bitOf (s.n fieldUnit 0x0D2300) o = true → switchOf t (32 + o) = switchOf s (32 + o)))
      ∧ (∀ levels low, Completes (.fieldInputSample levels low) s fun t =>
          ∀ i < 32, bitOf (s.n fieldUnit 0x0D1300) i = false → (mapGet {} s.field.inputs i).wireOpen = false →
            let x := mapGet {} s.field.inputs i
            let count := if bitOf levels i = x.level then 0 else x.count + 1
            (mapGet {} t.field.inputs i).level = if s.n fieldUnit (0x0D1100 + i) < count then bitOf levels i else x.level)
      ∧ (s.st fieldUnit ≠ usRetired → Completes .vfieldAbsent s fun t => t.st fieldUnit = usOff ∧ t.field.powered = false ∧ t.field.outputs = [] ∧ t.field.supplies = []
          ∧ t.field.inputs = []))
    ∧ (s.field.powered = false → exec .seamFrameSend s = .next s ∧ (∀ dir valid, exec (.seamFrameReceive dir valid) s = .next s) ∧ exec .fieldSeamLoss s = .next s
        ∧ (s.st fieldUnit = usOff → Completes .fieldDiePowerUp s fun t => t.st fieldUnit = usDisabled ∧ t.field = { s.field with powered := true }))
    ∧ (s.st fieldUnit ≠ usOff → s.st fieldUnit ≠ usRetired → shadowed s fieldUnit 0 = false →
        Completes .seamLoss s fun t => t.st fieldUnit = usFault ∧ t.b fieldUnit 0x0D0200 = false ∧ t.field = { s.field with restoreDue := true })
    ∧ (∀ w row, Passes s 0xD21 w row → w.unit = fieldUnit → Completes (.outputSet w) s fun t => ∀ o < 16,
        bitOf (t.n fieldUnit 0x0D2000) o = (bitOf (s.n fieldUnit 0x0D2000) o || bitOf (leNat w.data) o))
    ∧ (∀ w row, Passes s 0xD22 w row → w.unit = fieldUnit → Completes (.outputClear w) s fun t => ∀ o < 16,
        bitOf (t.n fieldUnit 0x0D2000) o = (bitOf (s.n fieldUnit 0x0D2000) o && !bitOf (leNat w.data) o))

/-- The channels of the field die (14 R325, R329 to R333): the current limit turns a switch off and counts, with a retry or, at RetryLimit, the overload of
its channel; the retry turns it on again if it is still commanded; overheating and an open load fault the channel and clear its command bit; a low VFIELD and
an overheated die fault the unit and turn everything off. -/
def Obligations.FieldChannels : Prop :=
  ∀ s : State, Serving s → Calm s → NoCluster s fieldUnit → s.field.powered = true →
    (∀ o < 16, (switchOf s (32 + o)).on = true → (switchOf s (32 + o)).lastRetry = none → shadowed s fieldUnit (36 + o) = false →
      (1 < s.n fieldUnit 0x0D2900 → Completes (.currentLimitTimeout (.output o)) s fun t =>
        switchOf t (32 + o) = { switchOf s (32 + o) with on := false, retry := true, events := 1 } ∧ t.n fieldUnit (0x0D4020 + o) = 1
        ∧ Counts s t fieldUnit (0x0D2700 + o))
      ∧ (s.n fieldUnit 0x0D2900 ≤ 1 → shadowed s fieldUnit (52 + o) = false → Completes (.currentLimitTimeout (.output o)) s fun t =>
        switchOf t (32 + o) = {} ∧ t.n fieldUnit (0x0D4020 + o) = 2 ∧ bitOf (t.n fieldUnit 0x0D2000) o = false))
    ∧ (∀ k < 4, (switchOf s (48 + k)).on = true → (switchOf s (48 + k)).lastRetry = none → 1 < s.n fieldUnit 0x0D2900 →
      Completes (.currentLimitTimeout (.supply k)) s fun t => (switchOf t (48 + k)).on = false ∧ (switchOf t (48 + k)).retry = true
        ∧ t.n fieldUnit (0x0D4030 + k) = 1 ∧ Counts s t fieldUnit (0x0D2710 + k))
    ∧ (∀ o < 16, (switchOf s (32 + o)).on = false → exec (.currentLimitTimeout (.output o)) s = .next s)
    ∧ (∀ o < 16, (switchOf s (32 + o)).retry = true → Completes (.outputRetry (.output o)) s fun t =>
        t.n fieldUnit (0x0D4020 + o) = 0 ∧ (switchOf t (32 + o)).retry = false
        ∧ (commanded s (32 + o) = true → (switchOf t (32 + o)).on = true ∧ (switchOf t (32 + o)).lastRetry = some s.time.uptime)
        ∧ (commanded s (32 + o) = false → (switchOf t (32 + o)).on = (switchOf s (32 + o)).on))
    ∧ (∀ o < 16, shadowed s fieldUnit (68 + o) = false → Completes (.outOvertemp (.output o)) s fun t =>
        t.n fieldUnit (0x0D4020 + o) = 2 ∧ switchOf t (32 + o) = {} ∧ bitOf (t.n fieldUnit 0x0D2000) o = false ∧ t.st fieldUnit = s.st fieldUnit)
    ∧ (∀ k < 4, shadowed s fieldUnit (104 + k) = false → Completes (.outOvertemp (.supply k)) s fun t =>
        t.n fieldUnit (0x0D4030 + k) = 2 ∧ switchOf t (48 + k) = {} ∧ bitOf (t.n fieldUnit 0x0D3000) k = false)
    ∧ (∀ o < 16, (switchOf s (32 + o)).on = false → bitOf (s.n fieldUnit 0x0D2600) o = true → shadowed s fieldUnit (84 + o) = false →
      Completes (.outOpenLoad o) s fun t => t.n fieldUnit (0x0D4020 + o) = 2 ∧ bitOf (t.n fieldUnit 0x0D2000) o = false)
    ∧ (∀ o < 16, (switchOf s (32 + o)).on = true ∨ bitOf (s.n fieldUnit 0x0D2600) o = false → exec (.outOpenLoad o) s = .next s)
    ∧ (∀ o < 4, shadowed s fieldUnit (108 + o) = false → Completes (.tpOverload o) s fun t => faultBit t fieldUnit 0xB00 (108 + o) = true ∧ t.field = s.field
        ∧ t.st fieldUnit = s.st fieldUnit)
    ∧ (s.st fieldUnit ≠ usOff → s.st fieldUnit ≠ usRetired → shadowed s fieldUnit 2 = false → ∀ uv < 18000000, Completes (.vfieldLow uv) s fun t =>
        t.st fieldUnit = usFault ∧ t.field = { s.field with outputs := [], supplies := [] })
    ∧ (∀ uv, 18000000 ≤ uv → exec (.vfieldLow uv) s = .next s)
    ∧ (s.st fieldUnit ≠ usOff → s.st fieldUnit ≠ usRetired → shadowed s fieldUnit 3 = false → Completes .dieOvertemp s fun t =>
        t.st fieldUnit = usFault ∧ t.field = { s.field with outputs := [], supplies := [] })

/-- Transmission by a CAN controller (15 R342 to R347, R351): TxSlot queues a valid record in a slot that is not busy; TxAbort ends a pending slot, marks
a sending one and empties an ended one; the offer that wins goes on the bus; a frame sent ends its slot DONE and lowers the transmit error counter; one that
fails goes back to its slot and raises it by 8; a reference message that falls due waits for the bus. -/
def Obligations.CanTransmits : Prop :=
  ∀ (s : State) (u : Nat), Serving s → Calm s → wfCan u = true → NoCluster s u →
    (∀ w row, Passes s 0xE10 w row → w.unit = u → w.elem < 32 →
      ((slotOf s u w.elem).state = slPending ∨ (slotOf s u w.elem).state = slSending → exec (.txSlot w) s = .next (answerSt s w.origin 0x20))
      ∧ ((slotOf s u w.elem).state ≠ slPending → (slotOf s u w.elem).state ≠ slSending →
        (recordOk (s.n u 0x0E0000) w.data = false → exec (.txSlot w) s = .next (answerSt s w.origin 0x21))
        ∧ (recordOk (s.n u 0x0E0000) w.data = true → Completes (.txSlot w) s fun t =>
            slotOf t u w.elem = { state := slPending, frame := readFrame w.data, report := bitOf (fieldLE w.data 4 1) 4, limit := fieldLE w.data 6 1,
                                  order := (s.canOf u).order }
            ∧ t.n u (0x0E1100 + w.elem) = slPending ∧ t.n u (0x0E1200 + w.elem) = 0 ∧ ∀ j, j ≠ w.elem → slotOf t u j = slotOf s u j)))
    ∧ (∀ w row, Passes s 0xE13 w row → w.unit = u → Completes (.txAbort w) s fun t => ∀ i < 32,
        (bitOf (leNat w.data) i = false → slotOf t u i = slotOf s u i)
        ∧ (bitOf (leNat w.data) i = true →
          ((slotOf s u i).state = slPending → (slotOf t u i).state = slAborted)
          ∧ ((slotOf s u i).state = slSending → slotOf t u i = { slotOf s u i with abort := true })
          ∧ ((slotOf s u i).state ≠ slPending → (slotOf s u i).state ≠ slSending → (slotOf t u i).state = slEmpty)))
    ∧ (∀ sof, exec (.arbitration u false sof) s = .next s)
    ∧ (∀ sof i key order f, s.st u = usActive → (s.canOf u).err ≠ 2 → onBus s u = false → (s.canOf u).stopping = none →
        bestOffer (offers s u) = some (i, key, order, f) → i < 32 → Completes (.arbitration u true sof) s fun t =>
          slotOf t u i = { slotOf s u i with state := slSending, sof := sof / Config.quantaPerNs } ∧ t.sent = .can u f :: s.sent)
    ∧ (∀ i, s.st u = usActive → (s.canOf u).refSending = false → (s.canOf u).stopping = none → slotsIn s u slSending = [i] →
        (Completes (.txDone u) s fun t => (slotOf t u i).state = slDone ∧ t.n u (0x0E1100 + i) = slDone ∧ (t.canOf u).tec = (s.canOf u).tec - 1
          ∧ (t.canOf u).ackRun = 0 ∧ Counts s t u 0x0E1400)
        ∧ ((s.canOf u).err ≠ 2 → (s.canOf u).tec + 8 ≤ 255 → (slotOf s u i).abort = false → (slotOf s u i).limit = 0 → (s.canOf u).ackRun < 16 →
          Completes (.txError u .other) s fun t => (slotOf t u i).state = slPending ∧ (slotOf t u i).attempts = min ((slotOf s u i).attempts + 1) 255
            ∧ (t.canOf u).tec = (s.canOf u).tec + 8 ∧ t.n u 0x0E0800 = (s.canOf u).tec + 8))
    ∧ (s.st u = usActive → onBus s u = false → exec (.txDone u) s = .next s)
    ∧ (s.b u 0x0E4000 = true → s.st u = usActive → (s.canOf u).refSending = false → (s.canOf u).refData = none →
        exec (.refMessageDue u) s = .next (s.setCan u { s.canOf u with
          refData := some (((s.canOf u).refLast.map (leBytes 8)).getD (List.replicate 8 0xFF)), refOrder := (s.canOf u).order, order := (s.canOf u).order + 1 }))
    ∧ (s.b u 0x0E4000 = false → exec (.refMessageDue u) s = .next s)

/-- Reception by a CAN controller (15 R345, R346, R348 to R350): a frame that the first matching filter sends to the FIFO joins it, counted as lost where
it is full; a bus error raises the receive error counter; recovery from bus-off clears both; RxRead removes the oldest records. -/
def Obligations.CanReceives : Prop :=
  ∀ (s : State) (u : Nat), Serving s → Calm s → wfCan u = true → NoCluster s u →
    (∀ f sof i, s.st u = usReady → (s.canOf u).err ≠ 2 → s.b u 0x0E4000 = false →
        (List.range 64).find? (fun i => filterMatches (filterOf s u i) f) = some i → filterAction (filterOf s u i) = 1 →
        ((s.canOf u).fifo.length < 128 → Completes (.canFrameReceive u f sof) s fun t =>
          (t.canOf u).fifo = (s.canOf u).fifo ++ [rxRecord f i (sof / Config.quantaPerNs)] ∧ t.n u 0x0E2200 = (s.canOf u).fifo.length + 1
          ∧ (t.canOf u).ackRun = 0 ∧ t.b u 0x0E0D00 = false)
        ∧ (128 ≤ (s.canOf u).fifo.length → Completes (.canFrameReceive u f sof) s fun t => (t.canOf u).fifo = (s.canOf u).fifo ∧ Counts s t u 0x0E2300))
    ∧ (∀ f sof, s.st u = usReady → (s.canOf u).err ≠ 2 → s.b u 0x0E4000 = false → (∀ i < 64, filterMatches (filterOf s u i) f = false) →
        Completes (.canFrameReceive u f sof) s fun t => (t.canOf u).fifo = (s.canOf u).fifo ∧ t.n u 0x0E2200 = s.n u 0x0E2200)
    ∧ (∀ f sof, s.st u ≠ usReady → s.st u ≠ usActive → exec (.canFrameReceive u f sof) s = .next s)
    ∧ (s.st u = usActive → (s.canOf u).err = 0 → (s.canOf u).tec < 128 → (s.canOf u).rxErr < 127 → exec (.busError u) s = .next
        (showErrors (s.setCan u { s.canOf u with rxErr := (s.canOf u).rxErr + 1, err := 0 }) u))
    ∧ (s.st u ≠ usActive → exec (.busError u) s = .next s)
    ∧ ((s.canOf u).err ≠ 2 → exec (.busRecovered u) s = .next s)
    ∧ ((s.canOf u).err = 2 → Completes (.busRecovered u) s fun t => (t.canOf u).err = 0 ∧ (t.canOf u).tec = 0 ∧ (t.canOf u).rxErr = 0
        ∧ t.n u 0x0E0700 = 0 ∧ t.n u 0x0E0800 = 0 ∧ t.n u 0x0E0900 = 0)
    ∧ (∀ q o, let n := min (s.canOf u).fifo.length (if q / 80 = 0 then 18 else min (q / 80) 18)
        Completes (.rxRead u q o) s fun t => (t.canOf u).fifo = (s.canOf u).fifo.drop n ∧ t.n u 0x0E2200 = (s.canOf u).fifo.length - n
          ∧ t = answer { s with can := t.can, dict := t.dict } o { status := stOk, type := Ty.blob.code, data := ((s.canOf u).fifo.take n).flatten })

/-- Reset sources (17 R373, R375, R379 to R381, R389, R390): of a running device, a source whose condition holds begins a reset of its reach, records
its cause and is counted; one whose condition does not hold changes nothing. A source during fuse load begins a FULL reset and sets LoadInterrupted. The last
source to go away starts the stretch. -/
def Obligations.ResetSources : Prop :=
  ∀ s : State, Calm s →
    (Serving s → s.rst.combDown = false → s.rst.sources = [] →
      (∀ v : Supplies, 690000 ≤ v.vcore → 3000000 ≤ v.vddio → 1650000 ≤ v.vdd18 → Completes (.por v) s fun t => Restarted s t .por .full
          ∧ (2000000 ≤ v.vbat → v.vbat ≤ 3600000 → Counts s t 0 0x100000) ∧ (v.vbat < 2000000 → t.n 0 0x100000 = 1))
      ∧ (∀ v : Supplies, v.vcore < 690000 → exec (.por v) s = .next s)
      ∧ (∀ v : Supplies, v.vcore < 680000 → Completes (.borCore v) s fun t => Restarted s t .borCore .full ∧ Counts s t 0 0x100000)
      ∧ (∀ v : Supplies, 680000 ≤ v.vcore → exec (.borCore v) s = .next s)
      ∧ (∀ v : Supplies, v.vddio < 2950000 ∨ v.vdd18 < 1620000 → Completes (.borIo v) s fun t => Restarted s t .borIo .full ∧ Counts s t 0 0x100000)
      ∧ (s.rst.nRstIgnored ≤ s.time.uptime → s.rst.fuses.pin = .full ∨ s.rst.fuses.pin = .device →
          Completes .pin s fun t => Restarted s t .pin s.rst.fuses.pin ∧ Counts s t 0 0x100000)
      ∧ (s.time.uptime < s.rst.nRstIgnored → exec .pin s = .next s)
      ∧ (s.rst.fuses.keeperWdg = .keeper → s.rst.since ≠ s.time.uptime → Completes .keeperWdg s fun t => KeeperDown s t .keeperWdg ∧ Counts s t 0 0x100000)
      ∧ (s.rst.jtag.isSome = true → s.rst.fuses.debug = .device → Completes .debug s fun t => Restarted s t .debug .device ∧ Counts s t 0 0x100000)
      ∧ (s.rst.jtag = none → exec .debug s = .next s)
      ∧ (∀ mc : Int, 125000 < mc → s.rst.fuses.thermal = .full ∨ s.rst.fuses.thermal = .device →
          Completes (.thermal mc) s fun t => Restarted s t .thermal s.rst.fuses.thermal ∧ Counts s t 0 0x100000)
      ∧ (∀ mc : Int, 115000 < mc → s.rst.thermalArmed = true → Completes (.thermalHigh mc) s fun t =>
          t.rst = { s.rst with junction := mc, thermalArmed := false } ∧ Counts s t 0 0x102200))
    ∧ (s.rst.phase = .fuseLoad → s.rst.sources = [] → Completes .keeperWdg s fun t => Restarted s t .keeperWdg .full ∧ t.b 0 0x100300 = true)
    ∧ (∀ src, exec (.resetSourceDeassert src) s = .next { s with rst := { s.rst with
        sources := s.rst.sources.filter (· != src)
        stretch := s.rst.stretch || (s.rst.phase == .inReset && (s.rst.sources.filter (· != src)).isEmpty) } })
    ∧ (∀ mc : Int, exec (.thermalRearm mc) s = .next { s with rst := { s.rst with
        junction := mc, thermalArmed := s.rst.thermalArmed || decide (mc < 110000) } })

/-- ResetRequest, the COMB reset and JtagUnlock (17 R376, R382, R383, R389): a reach that the fuse mask does not permit is refused with RANGE; a
permitted one is answered OK, and once that reply has left the reset begins and LastResetCause is SW_REQ; JtagUnlock opens the port where the fuses permit it. -/
def Obligations.ResetRequests : Prop :=
  ∀ (s : State) (o : Option Origin) (row : ObjRow), Serving s → Calm s → s.rst.combDown = false → s.rst.sources = [] → s.rst.since ≠ s.time.uptime →
    let w (v : Nat) : Write := { unit := 0, data := leBytes 1 v, origin := o }
    let asked (r : Reach) : State := answerSt { s with rst := { s.rst with swReach := some (r, o) } } o stOk
    (Passes s 0x1010 (w 1) row →
      (bitOf s.rst.fuses.swMask 0 = false → exec (.resetRequestFull o) s = .next (answerSt s o stRange))
      ∧ (bitOf s.rst.fuses.swMask 0 = true → replyLeft (asked .full) o = true →
          Completes (.resetRequestFull o) s fun t => Restarted s t .swReq .full ∧ Counts s t 0 0x100000)
      ∧ (bitOf s.rst.fuses.swMask 0 = true → replyLeft (asked .full) o = false → exec (.resetRequestFull o) s = .next (asked .full)))
    ∧ (Passes s 0x1010 (w 2) row →
      (bitOf s.rst.fuses.swMask 1 = false → exec (.resetRequestDevice o) s = .next (answerSt s o stRange))
      ∧ (bitOf s.rst.fuses.swMask 1 = true → replyLeft (asked .device) o = true →
          Completes (.resetRequestDevice o) s fun t => Restarted s t .swReq .device ∧ Counts s t 0 0x100000))
    ∧ (Passes s 0x1010 (w 3) row →
      (bitOf s.rst.fuses.swMask 2 = false → exec (.resetRequestKeeper o) s = .next (answerSt s o stRange))
      ∧ (bitOf s.rst.fuses.swMask 2 = true → replyLeft (asked .keeper) o = true →
          Completes (.resetRequestKeeper o) s fun t => KeeperDown s t .swReq ∧ Counts s t 0 0x100000))
    ∧ ((∀ u, NoCluster s u) → (∀ a, sleeveOf s a = 0 ∨ isSleeve (sleeveOf s a) = true) → (∀ g < 8, (s.group g).high = false) →
      (Passes s 0x1010 (w 4) row → bitOf s.rst.fuses.swMask 3 = false → exec (.resetRequestComb o) s = .next (answerSt s o stRange))
      ∧ (Passes s 0x1010 (w 4) row → bitOf s.rst.fuses.swMask 3 = true → replyLeft (asked .comb) o = true →
          Completes (.resetRequestComb o) s fun t => CombDown s t ∧ t.n 0 0x100100 = sourceCode .swReq ∧ t.n 0 0x100200 = reachCode .comb ∧ Counts s t 0 0x100000)
      ∧ Completes .combReset s (CombDown s))
    ∧ (∀ x : Write, Passes s 0x1030 x row → x.unit = 0 →
      (s.rst.fuses.jtag = true → exec (.jtagUnlock x) s = .next (answerSt { s with rst := { s.rst with jtag := some ((x.origin.map Origin.slot).getD 16) } } x.origin stOk))
      ∧ (s.rst.fuses.jtag = false → exec (.jtagUnlock x) s = .next (answerSt s x.origin stRange)))

/-- Start-up (17 R378, R380, R382, R388; 16 R357, R358): the end of the stretch of a FULL reset begins fuse load, of a DEVICE reset the keeper's boot with
nRST released; fuse load takes the rows, is in the limp state where a trim row fails, and releases nRST; the keeper boots a slot whose signature holds, and
replays the journal; the dictionary is then ready. After a KEEPER reset service goes on. Each of these events in any other phase changes nothing. -/
def Obligations.StartUp : Prop :=
  ∀ s : State, Calm s →
    (s.rst.stretch = false → exec .resetStretchEnd s = .next s)
    ∧ (s.rst.stretch = true → s.rst.phase = .inReset → s.rst.reach = .full →
        exec .resetStretchEnd s = .next { s with rst := { s.rst with stretch := false, phase := .fuseLoad } })
    ∧ (s.rst.stretch = true → s.rst.phase = .inReset → s.rst.reach = .device → Completes .resetStretchEnd s fun t =>
        t.rst.phase = .keeperBoot ∧ t.rst.nRstLow = false ∧ t.rst.nRstIgnored = s.time.uptime + 80000
        ∧ ∀ k, isSleeve k = true → s.st k = usOff → t.st k = usDisabled)
    ∧ (∀ rows : List FuseRow, rows.length = 32 →
        (s.rst.phase = .fuseLoad → Completes (.fuseLoadDone rows) s fun t => t.rst.fuses = loadFuses rows
          ∧ t.rst.limp = ((loadFuses rows).trimFailed != 0) ∧ t.rst.phase = .keeperBoot ∧ t.rst.nRstLow = false
          ∧ ∀ k, isSleeve k = true → s.st k = usOff → t.st k = usDisabled)
        ∧ (s.rst.phase ≠ .fuseLoad → exec (.fuseLoadDone rows) s = .next s))
    ∧ (s.rst.phase = .keeperBoot → onTrial s = false →
        exec (.keeperBootDone true) s = .next { s with rst := { s.rst with revert := false, phase := .replay, replayStart := s.time.uptime } }
        ∧ exec (.keeperBootDone false) s = .next s)
    ∧ (s.rst.phase ≠ .replay → exec .journalReplayDone s = .next s)
    ∧ (s.rst.phase = .replay → s.slots = [] → s.nva.plan = none → s.rst.veilTested = false → Completes .journalReplayDone s fun t => t.rst.phase = .running
        ∧ (s.nva.anchor0 = none → s.nva.anchor1 = none → t.nva.region0 = [] ∧ t.nva.region1 = [] ∧ (liveAnchor t.nva).epoch = 0
            ∧ t.journal.retirementsLost = (retiredList s.nva).isNone ∧ t.jobs = s.jobs ∧ t.keys = s.keys))
    ∧ (s.rst.keeperDown = true → s.rst.phase = .running → s.rst.stretch = false → s.rst.paused = [] → onTrial s = false →
        exec (.keeperResetDone false) s = .next s
        ∧ Completes (.keeperResetDone true) s fun t => Serving t ∧ t.axes = s.axes ∧ t.sleeves = s.sleeves ∧ t.cells = s.cells ∧ t.time = s.time)

/-- Drain and unit reset (17 R384, R385): DrainRequest 1 starts a drain of a unit that serves nothing, 2 cancels it, and DrainState reads 2 once the
unit is idle; UnitReset is refused for a RETIRED unit and, with REFUSED_BUSY, for one that is not idle, and else leaves the unit DISABLED and is counted. -/
def Obligations.Drains : Prop :=
  ∀ (s : State) (u : Nat) (o : Option Origin) (row : ObjRow), Serving s → Calm s →
    let w (v : Nat) : Write := { unit := u, data := leBytes 1 v, origin := o }
    (Passes s 0x1011 (w 1) row →
      (s.st u = usRetired → exec (.drainRequest u o) s = .next (answerSt s o stWrongState))
      ∧ (s.st u ≠ usRetired → s.rehousings.any (fun r => r.failed == u && r.replaces.isSome) = false → draining s u = false →
          isCell u = false ∨ (s.cell u).work.role = .none →
          Completes (.drainRequest u o) s fun t => t.n u 0x101200 = 1 ∧ t.st u = s.st u ∧ Apart s t))
    ∧ (Passes s 0x1011 (w 2) row →
      (s.st u = usRetired → exec (.drainCancel u o) s = .next (answerSt s o stWrongState))
      ∧ (s.st u ≠ usRetired → (∀ r ∈ s.rehousings, r.failed ≠ u) →
          Completes (.drainCancel u o) s fun t => t.n u 0x101200 = 0 ∧ t.st u = s.st u ∧ Apart s t))
    ∧ (wfUnit u = true → draining s u = true → idleForDrain s u = true → exec (.drainIdle u) s = .next (s.setN u 0x101200 2))
    ∧ (wfUnit u = true → draining s u = false ∨ idleForDrain s u = false → exec (.drainIdle u) s = .next s)
    ∧ (Passes s 0x1013 (w 1) row →
      (s.st u = usRetired → exec (.unitReset u o) s = .next (answerSt s o stWrongState))
      ∧ (s.st u ≠ usRetired → draining s u = false ∨ idleForDrain s u = false → exec (.unitReset u o) s = .next (answerSt s o stRefusedBusy))
      ∧ (s.st u ≠ usRetired → draining s u = true → idleForDrain s u = true → isRecorder u = true ∨ wfCan u = true → NoCluster s u →
          Completes (.unitReset u o) s fun t => t.st u = usDisabled ∧ draining t u = false ∧ Counts s t 0 0x101500
            ∧ (isRecorder u = true → t.rec' u = {}) ∧ (wfCan u = true → (t.canOf u).slots = [] ∧ (t.canOf u).fifo = [])
            ∧ t.axes = s.axes ∧ t.sleeves = s.sleeves))

/-- The journal and the firmware (16 R355, R356, R358, R361, R363, R365, R368, R369): the transaction at the front commits with its records and its
reply; three quarters of a region, and RenderNow, begin a rendering, which ends with the anchor of the other region; PFAIL switches the domains off; an image
with a valid signature is put on trial and the keeper restarts; a trial is confirmed, and one whose image fails at boot is reverted. -/
def Obligations.JournalAndFirmware : Prop :=
  ∀ s : State, Serving s → Calm s →
    (s.journal.queue = [] → exec .journalCommit s = .next s)
    ∧ (∀ rs o rest, s.journal.queue = ⟨rs, .reply o⟩ :: rest → (∀ r ∈ rs, ¬ (r.space = 2 ∧ r.obj = 7)) →
        let c := appendRecords { s with journal := { s.journal with queue := rest } } rs
        (4 * regionUsed c.nva < 3 * Config.regionBytes → exec .journalCommit s = .next (answerSt c o stOk))
        ∧ (3 * Config.regionBytes ≤ 4 * regionUsed c.nva → Completes .journalCommit s fun t => t.journal.rendering = true ∧ t.journal.queue = rest))
    ∧ (∀ w row, Passes s 0xF10 w row → w.unit = 0 →
        (s.journal.rendering = true → exec (.renderNow w) s = .next (answerSt s w.origin stOk))
        ∧ (s.journal.rendering = false → Completes (.renderNow w) s fun t => t.journal.rendering = true
            ∧ regionOf t.nva (liveIdx s.nva) = regionOf s.nva (liveIdx s.nva) ∧ t.nva.anchor0 = s.nva.anchor0 ∧ t.nva.anchor1 = s.nva.anchor1
            ∧ ∀ r ∈ regionOf t.nva (1 - liveIdx s.nva), r.epoch = ((liveAnchor s.nva).epoch + 1) % 2 ^ 32))
    ∧ (s.journal.rendering = false → exec .renderDone s = .next s)
    ∧ (s.journal.rendering = true → Completes .renderDone s fun t => t.journal.rendering = false ∧ liveIdx t.nva = 1 - liveIdx s.nva
        ∧ (liveAnchor t.nva).epoch = ((liveAnchor s.nva).epoch + 1) % 2 ^ 32 ∧ Counts s t 0 0x0F0600)
    ∧ (∀ w row, directCheck s 0 0xF11 w = .ok row → wfWrite w = true → w.unit = 0 →
        (s.journal.retirementsLost = true → exec (.retirementsAccept w) s = .next (answerSt { s with journal := { s.journal with retirementsLost := false } } w.origin stOk))
        ∧ (s.journal.retirementsLost = false → exec (.retirementsAccept w) s = .next (answerSt s w.origin stWrongState)))
    ∧ (Completes .pfail s fun t => t.rst.phase = .powerFail ∧ t.rst.domainsOff = true ∧ t.slots = [] ∧ t.axes = [] ∧ t.cells = [] ∧ t.journal.queue = []
        ∧ t.field = s.field ∧ t.n 0 0x100000 = s.n 0 0x100000 ∧ (s.journal.queue = [] → t.nva = s.nva))
    ∧ (∀ w row, directCheck s 0 0xF30 w = .ok row → wfWrite w = true → w.unit = 0 →
        (onTrial s = true → ∀ ok, exec (.firmwareApply w ok) s = .next (answerSt { s with journal := { s.journal with verifying := false } } w.origin 0x21))
        ∧ (onTrial s = false → exec (.firmwareApply w false) s = .next (answerSt { s with journal := { s.journal with verifying := false } } w.origin 0x20))
        ∧ (onTrial s = false → Completes (.firmwareApply w true) s fun t => (liveAnchor t.nva).trialSlot = otherSlot s ∧ t.rst.keeperDown = true
            ∧ t.axes = s.axes ∧ t.cells = s.cells))
    ∧ (s.journal.trial = none → exec .firmwareConfirmed s = .next s)
    ∧ (∀ k, s.journal.trial = some k → Completes .firmwareConfirmed s fun t => (liveAnchor t.nva).bootSlot = k ∧ (liveAnchor t.nva).trialSlot = 0xFF
        ∧ t.journal.trial = none)
end

