-- ==== Sys2Proof/Laws/Map.lean ====
section
/-! SUPPORT. The laws of the sparse maps: what is read after a write, and that every operation keeps the canonical form. -/

namespace Sys2Proof.Machine

variable {α : Type}

theorem mapFind_mapDel (m : NMap α) (k j : Nat) : mapFind (mapDel m k) j = if k = j then none else mapFind m j := by
  induction m with
  | nil => simp [mapDel, mapFind]
  | cons e r ih =>
    obtain ⟨a, v⟩ := e
    by_cases h : a = k <;> by_cases h2 : a = j <;> simp_all [mapDel, mapFind]
    · intro h3; exact absurd (h3.symm.trans rfl) (by omega)

theorem mapFind_mapIns (m : NMap α) (k : Nat) (v : α) (j : Nat) :
    mapFind (mapIns m k v) j = if k = j then some v else mapFind m j := by
  induction m with
  | nil => simp [mapIns, mapFind]
  | cons e r ih =>
    obtain ⟨a, w⟩ := e
    simp only [mapIns]
    split
    · simp [mapFind]
    · split
      · subst_vars; by_cases h : a = j <;> simp [mapFind, h]
      · by_cases h : a = j
        · have : k ≠ j := by omega
          simp [mapFind, h, this]
        · simp [mapFind, h, ih]

/-- A map reads what was put, and every other key reads as before. -/
theorem mapGet_mapPut [DecidableEq α] (d : α) (m : NMap α) (k : Nat) (v : α) (j : Nat) :
    mapGet d (mapPut d m k v) j = if k = j then v else mapGet d m j := by
  unfold mapPut mapGet
  split
  · rw [mapFind_mapDel]; split <;> simp_all
  · rw [mapFind_mapIns]; split <;> simp_all

@[simp] theorem mapGet_mapPut_self [DecidableEq α] (d : α) (m : NMap α) (k : Nat) (v : α) : mapGet d (mapPut d m k v) k = v := by
  simp [mapGet_mapPut]

theorem mapGet_mapPut_ne [DecidableEq α] (d : α) (m : NMap α) {k j : Nat} (v : α) (h : k ≠ j) :
    mapGet d (mapPut d m k v) j = mapGet d m j := by
  simp [mapGet_mapPut, h]

/-- With defaults that depend on the key. -/
theorem mapGet_mapPut_key [DecidableEq α] (d : Nat → α) (m : NMap α) (k : Nat) (v : α) (j : Nat) :
    mapGet (d j) (mapPut (d k) m k v) j = if k = j then v else mapGet (d j) m j := by
  by_cases h : k = j
  · subst h; simp
  · simp only [h, if_false]
    unfold mapPut mapGet
    split
    · rw [mapFind_mapDel]; simp [h]
    · rw [mapFind_mapIns]; simp [h]

/-! ### The canonical form -/

theorem mapSorted_mono (b c : Option Nat) (m : NMap α) (h : mapSorted b m = true) (hbc : ∀ x, c = some x → ∃ y, b = some y ∧ x ≤ y) :
    mapSorted c m = true := by
  cases m with
  | nil => simp [mapSorted]
  | cons e r =>
    obtain ⟨k, v⟩ := e
    simp only [mapSorted, Bool.and_eq_true] at h ⊢
    refine ⟨?_, h.2⟩
    cases c with
    | none => simp
    | some x =>
      obtain ⟨y, rfl, hy⟩ := hbc x rfl
      have := h.1
      simp at this ⊢; omega

theorem mapSorted_tail {b : Option Nat} {k : Nat} {v : α} {r : NMap α} (h : mapSorted b ((k, v) :: r) = true) : mapSorted b r = true := by
  simp only [mapSorted, Bool.and_eq_true] at h
  refine mapSorted_mono (some k) b r h.2 ?_
  intro x hx; subst hx
  have := h.1
  exact ⟨k, rfl, by simp at this; omega⟩

theorem mapSorted_mapDel (b : Option Nat) (m : NMap α) (k : Nat) (h : mapSorted b m = true) : mapSorted b (mapDel m k) = true := by
  induction m generalizing b with
  | nil => simp [mapDel, mapSorted]
  | cons e r ih =>
    obtain ⟨a, v⟩ := e
    simp only [mapDel]
    split
    · exact ih b (mapSorted_tail h)
    · simp only [mapSorted, Bool.and_eq_true] at h ⊢
      exact ⟨h.1, ih _ h.2⟩

theorem mapSorted_mapIns (b : Option Nat) (m : NMap α) (k : Nat) (v : α) (h : mapSorted b m = true) (hk : ∀ x, b = some x → x < k) :
    mapSorted b (mapIns m k v) = true := by
  induction m generalizing b with
  | nil =>
    simp only [mapIns, mapSorted]
    cases b <;> simp_all
  | cons e r ih =>
    obtain ⟨a, w⟩ := e
    simp only [mapIns]
    split
    · cases b with
      | none => simp_all [mapSorted]
      | some x => simp_all [mapSorted]
    · split
      · subst_vars
        simp only [mapSorted, Bool.and_eq_true] at h ⊢
        exact ⟨h.1, h.2⟩
      · simp only [mapSorted, Bool.and_eq_true] at h ⊢
        exact ⟨h.1, ih _ h.2 (by intro x hx; cases hx; omega)⟩

theorem mem_mapDel {m : NMap α} {k : Nat} {e : Nat × α} (h : e ∈ mapDel m k) : e ∈ m := by
  induction m with
  | nil => simp [mapDel] at h
  | cons a r ih =>
    obtain ⟨x, v⟩ := a
    simp only [mapDel] at h
    split at h
    · exact List.mem_cons_of_mem _ (ih h)
    · rcases List.mem_cons.mp h with h | h
      · exact h ▸ List.mem_cons_self
      · exact List.mem_cons_of_mem _ (ih h)

theorem mem_mapIns {m : NMap α} {k : Nat} {v : α} {e : Nat × α} (h : e ∈ mapIns m k v) : e = (k, v) ∨ e ∈ m := by
  induction m with
  | nil => simp [mapIns] at h; exact .inl h
  | cons a r ih =>
    obtain ⟨x, w⟩ := a
    simp only [mapIns] at h
    split at h
    · rcases List.mem_cons.mp h with h | h
      · exact .inl h
      · exact .inr h
    · split at h
      · rcases List.mem_cons.mp h with h | h
        · exact .inl h
        · exact .inr (List.mem_cons_of_mem _ h)
      · rcases List.mem_cons.mp h with h | h
        · exact .inr (h ▸ List.mem_cons_self)
        · rcases ih h with h | h
          · exact .inl h
          · exact .inr (List.mem_cons_of_mem _ h)

/-- Putting a value keeps the canonical form. -/
theorem mapWf_mapPut [DecidableEq α] (d : Nat → α) (m : NMap α) (k : Nat) (v : α) (h : mapWf d m = true) :
    mapWf d (mapPut (d k) m k v) = true := by
  simp only [mapWf, Bool.and_eq_true, List.all_eq_true, decide_eq_true_eq] at h ⊢
  unfold mapPut
  split
  · exact ⟨mapSorted_mapDel _ _ _ h.1, fun e he => h.2 e (mem_mapDel he)⟩
  · refine ⟨mapSorted_mapIns _ _ _ _ h.1 (by simp), fun e he => ?_⟩
    rcases mem_mapIns he with rfl | he
    · assumption
    · exact h.2 e he

/-- Changing a value keeps the canonical form. -/
theorem mapWf_mapMod [DecidableEq α] (d : α) (m : NMap α) (k : Nat) (f : α → α) (h : mapWf (fun _ => d) m = true) :
    mapWf (fun _ => d) (mapMod d m k f) = true :=
  mapWf_mapPut (fun _ => d) m k _ h

/-- Taking entries away keeps the canonical form. -/
theorem mapWf_filter [DecidableEq α] (d : Nat → α) (m : NMap α) (p : Nat × α → Bool) (h : mapWf d m = true) :
    mapWf d (m.filter p) = true := by
  simp only [mapWf, Bool.and_eq_true, List.all_eq_true, decide_eq_true_eq] at h ⊢
  refine ⟨?_, fun e he => h.2 e (List.mem_of_mem_filter he)⟩
  have : ∀ b, mapSorted b m = true → mapSorted b (m.filter p) = true := by
    clear h
    induction m with
    | nil => simp [mapSorted]
    | cons e r ih =>
      obtain ⟨k, v⟩ := e
      intro b hb
      rw [List.filter_cons]
      split
      · simp only [mapSorted, Bool.and_eq_true] at hb ⊢
        exact ⟨hb.1, ih _ hb.2⟩
      · exact ih b (mapSorted_tail hb)
  exact this none h.1

end Sys2Proof.Machine
end

