-- ==== Sys2Proof/Laws/State.lean ====
section
/-! SUPPORT. What each update of State leaves as it was and what it writes: one lemma for each field and each update. -/

namespace Sys2Proof.Machine

@[simp] theorem setI_eq (s : State) (u k : Nat) (i : Int) : s.setI u k i = s.setV u k (.num i) := rfl
@[simp] theorem setN_eq (s : State) (u k n : Nat) : s.setN u k n = s.setV u k (.num n) := rfl
@[simp] theorem setB_eq (s : State) (u k : Nat) (b : Bool) : s.setB u k b = s.setV u k (.num (if b then 1 else 0)) := rfl
@[simp] theorem setBs_eq (s : State) (u k : Nat) (b : Bytes) : s.setBs u k b = s.setV u k (.bytes b) := rfl

/-! ### setV -/

@[simp] theorem setV_pending (s : State) (u k : Nat) (v : Val) : (s.setV u k v).pending = s.pending := rfl
@[simp] theorem setV_sent (s : State) (u k : Nat) (v : Val) : (s.setV u k v).sent = s.sent := rfl
@[simp] theorem setV_time (s : State) (u k : Nat) (v : Val) : (s.setV u k v).time = s.time := rfl
@[simp] theorem setV_beat (s : State) (u k : Nat) (v : Val) : (s.setV u k v).beat = s.beat := rfl
@[simp] theorem setV_slots (s : State) (u k : Nat) (v : Val) : (s.setV u k v).slots = s.slots := rfl
@[simp] theorem setV_authFails (s : State) (u k : Nat) (v : Val) : (s.setV u k v).authFails = s.authFails := rfl
@[simp] theorem setV_authBars (s : State) (u k : Nat) (v : Val) : (s.setV u k v).authBars = s.authBars := rfl
@[simp] theorem setV_keys (s : State) (u k : Nat) (v : Val) : (s.setV u k v).keys = s.keys := rfl
@[simp] theorem setV_ipv4 (s : State) (u k : Nat) (v : Val) : (s.setV u k v).ipv4 = s.ipv4 := rfl
@[simp] theorem setV_lfpPort (s : State) (u k : Nat) (v : Val) : (s.setV u k v).lfpPort = s.lfpPort := rfl
@[simp] theorem setV_netMask (s : State) (u k : Nat) (v : Val) : (s.setV u k v).netMask = s.netMask := rfl
@[simp] theorem setV_gateway (s : State) (u k : Nat) (v : Val) : (s.setV u k v).gateway = s.gateway := rfl
@[simp] theorem setV_linkLocal (s : State) (u k : Nat) (v : Val) : (s.setV u k v).linkLocal = s.linkLocal := rfl
@[simp] theorem setV_events (s : State) (u k : Nat) (v : Val) : (s.setV u k v).events = s.events := rfl
@[simp] theorem setV_eventSerial (s : State) (u k : Nat) (v : Val) : (s.setV u k v).eventSerial = s.eventSerial := rfl
@[simp] theorem setV_faceSeq (s : State) (u k : Nat) (v : Val) : (s.setV u k v).faceSeq = s.faceSeq := rfl
@[simp] theorem setV_lost (s : State) (u k : Nat) (v : Val) : (s.setV u k v).lost = s.lost := rfl
@[simp] theorem setV_outbox (s : State) (u k : Nat) (v : Val) : (s.setV u k v).outbox = s.outbox := rfl
@[simp] theorem setV_writes (s : State) (u k : Nat) (v : Val) : (s.setV u k v).writes = s.writes := rfl
@[simp] theorem setV_commands (s : State) (u k : Nat) (v : Val) : (s.setV u k v).commands = s.commands := rfl
@[simp] theorem setV_axes (s : State) (u k : Nat) (v : Val) : (s.setV u k v).axes = s.axes := rfl
@[simp] theorem setV_clusters (s : State) (u k : Nat) (v : Val) : (s.setV u k v).clusters = s.clusters := rfl
@[simp] theorem setV_jobs (s : State) (u k : Nat) (v : Val) : (s.setV u k v).jobs = s.jobs := rfl
@[simp] theorem setV_commit (s : State) (u k : Nat) (v : Val) : (s.setV u k v).commit = s.commit := rfl
@[simp] theorem setV_standby (s : State) (u k : Nat) (v : Val) : (s.setV u k v).standby = s.standby := rfl
@[simp] theorem setV_flipped (s : State) (u k : Nat) (v : Val) : (s.setV u k v).flipped = s.flipped := rfl
@[simp] theorem setV_camRuns (s : State) (u k : Nat) (v : Val) : (s.setV u k v).camRuns = s.camRuns := rfl
@[simp] theorem setV_latchIns (s : State) (u k : Nat) (v : Val) : (s.setV u k v).latchIns = s.latchIns := rfl
@[simp] theorem setV_pins (s : State) (u k : Nat) (v : Val) : (s.setV u k v).pins = s.pins := rfl
@[simp] theorem setV_sleeves (s : State) (u k : Nat) (v : Val) : (s.setV u k v).sleeves = s.sleeves := rfl
@[simp] theorem setV_cells (s : State) (u k : Nat) (v : Val) : (s.setV u k v).cells = s.cells := rfl
@[simp] theorem setV_rehousings (s : State) (u k : Nat) (v : Val) : (s.setV u k v).rehousings = s.rehousings := rfl
@[simp] theorem setV_kernels (s : State) (u k : Nat) (v : Val) : (s.setV u k v).kernels = s.kernels := rfl
@[simp] theorem setV_kernelSerial (s : State) (u k : Nat) (v : Val) : (s.setV u k v).kernelSerial = s.kernelSerial := rfl
@[simp] theorem setV_plan (s : State) (u k : Nat) (v : Val) : (s.setV u k v).plan = s.plan := rfl
@[simp] theorem setV_recorders (s : State) (u k : Nat) (v : Val) : (s.setV u k v).recorders = s.recorders := rfl
@[simp] theorem setV_veil (s : State) (u k : Nat) (v : Val) : (s.setV u k v).veil = s.veil := rfl
@[simp] theorem setV_field (s : State) (u k : Nat) (v : Val) : (s.setV u k v).field = s.field := rfl
@[simp] theorem setV_can (s : State) (u k : Nat) (v : Val) : (s.setV u k v).can = s.can := rfl
@[simp] theorem setV_nva (s : State) (u k : Nat) (v : Val) : (s.setV u k v).nva = s.nva := rfl
@[simp] theorem setV_journal (s : State) (u k : Nat) (v : Val) : (s.setV u k v).journal = s.journal := rfl
@[simp] theorem setV_rst (s : State) (u k : Nat) (v : Val) : (s.setV u k v).rst = s.rst := rfl
@[simp] theorem setV_faults (s : State) (u k : Nat) (v : Val) : (s.setV u k v).faults = s.faults := rfl
@[simp] theorem setV_freeCount (s : State) (u k : Nat) (v : Val) : (s.setV u k v).freeCount = s.freeCount := rfl
@[simp] theorem setV_at_axis (s : State) (u k : Nat) (v : Val) (x : Nat) : (s.setV u k v).axis x = s.axis x := rfl
@[simp] theorem setV_at_sleeve (s : State) (u k : Nat) (v : Val) (x : Nat) : (s.setV u k v).sleeve x = s.sleeve x := rfl
@[simp] theorem setV_at_cell (s : State) (u k : Nat) (v : Val) (x : Nat) : (s.setV u k v).cell x = s.cell x := rfl
@[simp] theorem setV_at_rec (s : State) (u k : Nat) (v : Val) (x : Nat) : (s.setV u k v).rec' x = s.rec' x := rfl
@[simp] theorem setV_at_canOf (s : State) (u k : Nat) (v : Val) (x : Nat) : (s.setV u k v).canOf x = s.canOf x := rfl
@[simp] theorem setV_at_fault (s : State) (u k : Nat) (v : Val) (x : Nat) : (s.setV u k v).fault x = s.fault x := rfl
@[simp] theorem setV_at_cluster (s : State) (u k : Nat) (v : Val) (x : Nat) : (s.setV u k v).cluster x = s.cluster x := rfl
@[simp] theorem setV_at_kernel (s : State) (u k : Nat) (v : Val) (x : Nat) : (s.setV u k v).kernel x = s.kernel x := rfl
@[simp] theorem setV_at_slot (s : State) (u k : Nat) (v : Val) (x : Nat) : (s.setV u k v).slot x = s.slot x := rfl
@[simp] theorem setV_at_pin (s : State) (u k : Nat) (v : Val) (x : Nat) : (s.setV u k v).pin x = s.pin x := rfl
@[simp] theorem setV_at_group (s : State) (u k : Nat) (v : Val) (x : Nat) : (s.setV u k v).group x = s.group x := rfl

/-! ### setAxis -/

@[simp] theorem setAxis_pending (s : State) (u : Nat) (a : AxisS) : (s.setAxis u a).pending = s.pending := rfl
@[simp] theorem setAxis_dict (s : State) (u : Nat) (a : AxisS) : (s.setAxis u a).dict = s.dict := rfl
@[simp] theorem setAxis_sent (s : State) (u : Nat) (a : AxisS) : (s.setAxis u a).sent = s.sent := rfl
@[simp] theorem setAxis_time (s : State) (u : Nat) (a : AxisS) : (s.setAxis u a).time = s.time := rfl
@[simp] theorem setAxis_beat (s : State) (u : Nat) (a : AxisS) : (s.setAxis u a).beat = s.beat := rfl
@[simp] theorem setAxis_slots (s : State) (u : Nat) (a : AxisS) : (s.setAxis u a).slots = s.slots := rfl
@[simp] theorem setAxis_authFails (s : State) (u : Nat) (a : AxisS) : (s.setAxis u a).authFails = s.authFails := rfl
@[simp] theorem setAxis_authBars (s : State) (u : Nat) (a : AxisS) : (s.setAxis u a).authBars = s.authBars := rfl
@[simp] theorem setAxis_keys (s : State) (u : Nat) (a : AxisS) : (s.setAxis u a).keys = s.keys := rfl
@[simp] theorem setAxis_ipv4 (s : State) (u : Nat) (a : AxisS) : (s.setAxis u a).ipv4 = s.ipv4 := rfl
@[simp] theorem setAxis_lfpPort (s : State) (u : Nat) (a : AxisS) : (s.setAxis u a).lfpPort = s.lfpPort := rfl
@[simp] theorem setAxis_netMask (s : State) (u : Nat) (a : AxisS) : (s.setAxis u a).netMask = s.netMask := rfl
@[simp] theorem setAxis_gateway (s : State) (u : Nat) (a : AxisS) : (s.setAxis u a).gateway = s.gateway := rfl
@[simp] theorem setAxis_linkLocal (s : State) (u : Nat) (a : AxisS) : (s.setAxis u a).linkLocal = s.linkLocal := rfl
@[simp] theorem setAxis_events (s : State) (u : Nat) (a : AxisS) : (s.setAxis u a).events = s.events := rfl
@[simp] theorem setAxis_eventSerial (s : State) (u : Nat) (a : AxisS) : (s.setAxis u a).eventSerial = s.eventSerial := rfl
@[simp] theorem setAxis_faceSeq (s : State) (u : Nat) (a : AxisS) : (s.setAxis u a).faceSeq = s.faceSeq := rfl
@[simp] theorem setAxis_lost (s : State) (u : Nat) (a : AxisS) : (s.setAxis u a).lost = s.lost := rfl
@[simp] theorem setAxis_outbox (s : State) (u : Nat) (a : AxisS) : (s.setAxis u a).outbox = s.outbox := rfl
@[simp] theorem setAxis_writes (s : State) (u : Nat) (a : AxisS) : (s.setAxis u a).writes = s.writes := rfl
@[simp] theorem setAxis_commands (s : State) (u : Nat) (a : AxisS) : (s.setAxis u a).commands = s.commands := rfl
@[simp] theorem setAxis_clusters (s : State) (u : Nat) (a : AxisS) : (s.setAxis u a).clusters = s.clusters := rfl
@[simp] theorem setAxis_jobs (s : State) (u : Nat) (a : AxisS) : (s.setAxis u a).jobs = s.jobs := rfl
@[simp] theorem setAxis_commit (s : State) (u : Nat) (a : AxisS) : (s.setAxis u a).commit = s.commit := rfl
@[simp] theorem setAxis_standby (s : State) (u : Nat) (a : AxisS) : (s.setAxis u a).standby = s.standby := rfl
@[simp] theorem setAxis_flipped (s : State) (u : Nat) (a : AxisS) : (s.setAxis u a).flipped = s.flipped := rfl
@[simp] theorem setAxis_camRuns (s : State) (u : Nat) (a : AxisS) : (s.setAxis u a).camRuns = s.camRuns := rfl
@[simp] theorem setAxis_latchIns (s : State) (u : Nat) (a : AxisS) : (s.setAxis u a).latchIns = s.latchIns := rfl
@[simp] theorem setAxis_pins (s : State) (u : Nat) (a : AxisS) : (s.setAxis u a).pins = s.pins := rfl
@[simp] theorem setAxis_sleeves (s : State) (u : Nat) (a : AxisS) : (s.setAxis u a).sleeves = s.sleeves := rfl
@[simp] theorem setAxis_cells (s : State) (u : Nat) (a : AxisS) : (s.setAxis u a).cells = s.cells := rfl
@[simp] theorem setAxis_rehousings (s : State) (u : Nat) (a : AxisS) : (s.setAxis u a).rehousings = s.rehousings := rfl
@[simp] theorem setAxis_kernels (s : State) (u : Nat) (a : AxisS) : (s.setAxis u a).kernels = s.kernels := rfl
@[simp] theorem setAxis_kernelSerial (s : State) (u : Nat) (a : AxisS) : (s.setAxis u a).kernelSerial = s.kernelSerial := rfl
@[simp] theorem setAxis_plan (s : State) (u : Nat) (a : AxisS) : (s.setAxis u a).plan = s.plan := rfl
@[simp] theorem setAxis_recorders (s : State) (u : Nat) (a : AxisS) : (s.setAxis u a).recorders = s.recorders := rfl
@[simp] theorem setAxis_veil (s : State) (u : Nat) (a : AxisS) : (s.setAxis u a).veil = s.veil := rfl
@[simp] theorem setAxis_field (s : State) (u : Nat) (a : AxisS) : (s.setAxis u a).field = s.field := rfl
@[simp] theorem setAxis_can (s : State) (u : Nat) (a : AxisS) : (s.setAxis u a).can = s.can := rfl
@[simp] theorem setAxis_nva (s : State) (u : Nat) (a : AxisS) : (s.setAxis u a).nva = s.nva := rfl
@[simp] theorem setAxis_journal (s : State) (u : Nat) (a : AxisS) : (s.setAxis u a).journal = s.journal := rfl
@[simp] theorem setAxis_rst (s : State) (u : Nat) (a : AxisS) : (s.setAxis u a).rst = s.rst := rfl
@[simp] theorem setAxis_faults (s : State) (u : Nat) (a : AxisS) : (s.setAxis u a).faults = s.faults := rfl
@[simp] theorem setAxis_freeCount (s : State) (u : Nat) (a : AxisS) : (s.setAxis u a).freeCount = s.freeCount := rfl
@[simp] theorem setAxis_at_val (s : State) (u : Nat) (a : AxisS) (x y : Nat) : (s.setAxis u a).val x y = s.val x y := rfl
@[simp] theorem setAxis_at_sleeve (s : State) (u : Nat) (a : AxisS) (x : Nat) : (s.setAxis u a).sleeve x = s.sleeve x := rfl
@[simp] theorem setAxis_at_cell (s : State) (u : Nat) (a : AxisS) (x : Nat) : (s.setAxis u a).cell x = s.cell x := rfl
@[simp] theorem setAxis_at_rec (s : State) (u : Nat) (a : AxisS) (x : Nat) : (s.setAxis u a).rec' x = s.rec' x := rfl
@[simp] theorem setAxis_at_canOf (s : State) (u : Nat) (a : AxisS) (x : Nat) : (s.setAxis u a).canOf x = s.canOf x := rfl
@[simp] theorem setAxis_at_fault (s : State) (u : Nat) (a : AxisS) (x : Nat) : (s.setAxis u a).fault x = s.fault x := rfl
@[simp] theorem setAxis_at_cluster (s : State) (u : Nat) (a : AxisS) (x : Nat) : (s.setAxis u a).cluster x = s.cluster x := rfl
@[simp] theorem setAxis_at_kernel (s : State) (u : Nat) (a : AxisS) (x : Nat) : (s.setAxis u a).kernel x = s.kernel x := rfl
@[simp] theorem setAxis_at_slot (s : State) (u : Nat) (a : AxisS) (x : Nat) : (s.setAxis u a).slot x = s.slot x := rfl
@[simp] theorem setAxis_at_pin (s : State) (u : Nat) (a : AxisS) (x : Nat) : (s.setAxis u a).pin x = s.pin x := rfl
@[simp] theorem setAxis_at_group (s : State) (u : Nat) (a : AxisS) (x : Nat) : (s.setAxis u a).group x = s.group x := rfl

/-! ### setSleeve -/

@[simp] theorem setSleeve_pending (s : State) (u : Nat) (a : SleeveS) : (s.setSleeve u a).pending = s.pending := rfl
@[simp] theorem setSleeve_dict (s : State) (u : Nat) (a : SleeveS) : (s.setSleeve u a).dict = s.dict := rfl
@[simp] theorem setSleeve_sent (s : State) (u : Nat) (a : SleeveS) : (s.setSleeve u a).sent = s.sent := rfl
@[simp] theorem setSleeve_time (s : State) (u : Nat) (a : SleeveS) : (s.setSleeve u a).time = s.time := rfl
@[simp] theorem setSleeve_beat (s : State) (u : Nat) (a : SleeveS) : (s.setSleeve u a).beat = s.beat := rfl
@[simp] theorem setSleeve_slots (s : State) (u : Nat) (a : SleeveS) : (s.setSleeve u a).slots = s.slots := rfl
@[simp] theorem setSleeve_authFails (s : State) (u : Nat) (a : SleeveS) : (s.setSleeve u a).authFails = s.authFails := rfl
@[simp] theorem setSleeve_authBars (s : State) (u : Nat) (a : SleeveS) : (s.setSleeve u a).authBars = s.authBars := rfl
@[simp] theorem setSleeve_keys (s : State) (u : Nat) (a : SleeveS) : (s.setSleeve u a).keys = s.keys := rfl
@[simp] theorem setSleeve_ipv4 (s : State) (u : Nat) (a : SleeveS) : (s.setSleeve u a).ipv4 = s.ipv4 := rfl
@[simp] theorem setSleeve_lfpPort (s : State) (u : Nat) (a : SleeveS) : (s.setSleeve u a).lfpPort = s.lfpPort := rfl
@[simp] theorem setSleeve_netMask (s : State) (u : Nat) (a : SleeveS) : (s.setSleeve u a).netMask = s.netMask := rfl
@[simp] theorem setSleeve_gateway (s : State) (u : Nat) (a : SleeveS) : (s.setSleeve u a).gateway = s.gateway := rfl
@[simp] theorem setSleeve_linkLocal (s : State) (u : Nat) (a : SleeveS) : (s.setSleeve u a).linkLocal = s.linkLocal := rfl
@[simp] theorem setSleeve_events (s : State) (u : Nat) (a : SleeveS) : (s.setSleeve u a).events = s.events := rfl
@[simp] theorem setSleeve_eventSerial (s : State) (u : Nat) (a : SleeveS) : (s.setSleeve u a).eventSerial = s.eventSerial := rfl
@[simp] theorem setSleeve_faceSeq (s : State) (u : Nat) (a : SleeveS) : (s.setSleeve u a).faceSeq = s.faceSeq := rfl
@[simp] theorem setSleeve_lost (s : State) (u : Nat) (a : SleeveS) : (s.setSleeve u a).lost = s.lost := rfl
@[simp] theorem setSleeve_outbox (s : State) (u : Nat) (a : SleeveS) : (s.setSleeve u a).outbox = s.outbox := rfl
@[simp] theorem setSleeve_writes (s : State) (u : Nat) (a : SleeveS) : (s.setSleeve u a).writes = s.writes := rfl
@[simp] theorem setSleeve_commands (s : State) (u : Nat) (a : SleeveS) : (s.setSleeve u a).commands = s.commands := rfl
@[simp] theorem setSleeve_axes (s : State) (u : Nat) (a : SleeveS) : (s.setSleeve u a).axes = s.axes := rfl
@[simp] theorem setSleeve_clusters (s : State) (u : Nat) (a : SleeveS) : (s.setSleeve u a).clusters = s.clusters := rfl
@[simp] theorem setSleeve_jobs (s : State) (u : Nat) (a : SleeveS) : (s.setSleeve u a).jobs = s.jobs := rfl
@[simp] theorem setSleeve_commit (s : State) (u : Nat) (a : SleeveS) : (s.setSleeve u a).commit = s.commit := rfl
@[simp] theorem setSleeve_standby (s : State) (u : Nat) (a : SleeveS) : (s.setSleeve u a).standby = s.standby := rfl
@[simp] theorem setSleeve_flipped (s : State) (u : Nat) (a : SleeveS) : (s.setSleeve u a).flipped = s.flipped := rfl
@[simp] theorem setSleeve_camRuns (s : State) (u : Nat) (a : SleeveS) : (s.setSleeve u a).camRuns = s.camRuns := rfl
@[simp] theorem setSleeve_latchIns (s : State) (u : Nat) (a : SleeveS) : (s.setSleeve u a).latchIns = s.latchIns := rfl
@[simp] theorem setSleeve_pins (s : State) (u : Nat) (a : SleeveS) : (s.setSleeve u a).pins = s.pins := rfl
@[simp] theorem setSleeve_cells (s : State) (u : Nat) (a : SleeveS) : (s.setSleeve u a).cells = s.cells := rfl
@[simp] theorem setSleeve_rehousings (s : State) (u : Nat) (a : SleeveS) : (s.setSleeve u a).rehousings = s.rehousings := rfl
@[simp] theorem setSleeve_kernels (s : State) (u : Nat) (a : SleeveS) : (s.setSleeve u a).kernels = s.kernels := rfl
@[simp] theorem setSleeve_kernelSerial (s : State) (u : Nat) (a : SleeveS) : (s.setSleeve u a).kernelSerial = s.kernelSerial := rfl
@[simp] theorem setSleeve_plan (s : State) (u : Nat) (a : SleeveS) : (s.setSleeve u a).plan = s.plan := rfl
@[simp] theorem setSleeve_recorders (s : State) (u : Nat) (a : SleeveS) : (s.setSleeve u a).recorders = s.recorders := rfl
@[simp] theorem setSleeve_veil (s : State) (u : Nat) (a : SleeveS) : (s.setSleeve u a).veil = s.veil := rfl
@[simp] theorem setSleeve_field (s : State) (u : Nat) (a : SleeveS) : (s.setSleeve u a).field = s.field := rfl
@[simp] theorem setSleeve_can (s : State) (u : Nat) (a : SleeveS) : (s.setSleeve u a).can = s.can := rfl
@[simp] theorem setSleeve_nva (s : State) (u : Nat) (a : SleeveS) : (s.setSleeve u a).nva = s.nva := rfl
@[simp] theorem setSleeve_journal (s : State) (u : Nat) (a : SleeveS) : (s.setSleeve u a).journal = s.journal := rfl
@[simp] theorem setSleeve_rst (s : State) (u : Nat) (a : SleeveS) : (s.setSleeve u a).rst = s.rst := rfl
@[simp] theorem setSleeve_faults (s : State) (u : Nat) (a : SleeveS) : (s.setSleeve u a).faults = s.faults := rfl
@[simp] theorem setSleeve_freeCount (s : State) (u : Nat) (a : SleeveS) : (s.setSleeve u a).freeCount = s.freeCount := rfl
@[simp] theorem setSleeve_at_val (s : State) (u : Nat) (a : SleeveS) (x y : Nat) : (s.setSleeve u a).val x y = s.val x y := rfl
@[simp] theorem setSleeve_at_axis (s : State) (u : Nat) (a : SleeveS) (x : Nat) : (s.setSleeve u a).axis x = s.axis x := rfl
@[simp] theorem setSleeve_at_cell (s : State) (u : Nat) (a : SleeveS) (x : Nat) : (s.setSleeve u a).cell x = s.cell x := rfl
@[simp] theorem setSleeve_at_rec (s : State) (u : Nat) (a : SleeveS) (x : Nat) : (s.setSleeve u a).rec' x = s.rec' x := rfl
@[simp] theorem setSleeve_at_canOf (s : State) (u : Nat) (a : SleeveS) (x : Nat) : (s.setSleeve u a).canOf x = s.canOf x := rfl
@[simp] theorem setSleeve_at_fault (s : State) (u : Nat) (a : SleeveS) (x : Nat) : (s.setSleeve u a).fault x = s.fault x := rfl
@[simp] theorem setSleeve_at_cluster (s : State) (u : Nat) (a : SleeveS) (x : Nat) : (s.setSleeve u a).cluster x = s.cluster x := rfl
@[simp] theorem setSleeve_at_kernel (s : State) (u : Nat) (a : SleeveS) (x : Nat) : (s.setSleeve u a).kernel x = s.kernel x := rfl
@[simp] theorem setSleeve_at_slot (s : State) (u : Nat) (a : SleeveS) (x : Nat) : (s.setSleeve u a).slot x = s.slot x := rfl
@[simp] theorem setSleeve_at_pin (s : State) (u : Nat) (a : SleeveS) (x : Nat) : (s.setSleeve u a).pin x = s.pin x := rfl
@[simp] theorem setSleeve_at_group (s : State) (u : Nat) (a : SleeveS) (x : Nat) : (s.setSleeve u a).group x = s.group x := rfl

/-! ### setCell -/

@[simp] theorem setCell_pending (s : State) (u : Nat) (a : CellS) : (s.setCell u a).pending = s.pending := rfl
@[simp] theorem setCell_dict (s : State) (u : Nat) (a : CellS) : (s.setCell u a).dict = s.dict := rfl
@[simp] theorem setCell_sent (s : State) (u : Nat) (a : CellS) : (s.setCell u a).sent = s.sent := rfl
@[simp] theorem setCell_time (s : State) (u : Nat) (a : CellS) : (s.setCell u a).time = s.time := rfl
@[simp] theorem setCell_beat (s : State) (u : Nat) (a : CellS) : (s.setCell u a).beat = s.beat := rfl
@[simp] theorem setCell_slots (s : State) (u : Nat) (a : CellS) : (s.setCell u a).slots = s.slots := rfl
@[simp] theorem setCell_authFails (s : State) (u : Nat) (a : CellS) : (s.setCell u a).authFails = s.authFails := rfl
@[simp] theorem setCell_authBars (s : State) (u : Nat) (a : CellS) : (s.setCell u a).authBars = s.authBars := rfl
@[simp] theorem setCell_keys (s : State) (u : Nat) (a : CellS) : (s.setCell u a).keys = s.keys := rfl
@[simp] theorem setCell_ipv4 (s : State) (u : Nat) (a : CellS) : (s.setCell u a).ipv4 = s.ipv4 := rfl
@[simp] theorem setCell_lfpPort (s : State) (u : Nat) (a : CellS) : (s.setCell u a).lfpPort = s.lfpPort := rfl
@[simp] theorem setCell_netMask (s : State) (u : Nat) (a : CellS) : (s.setCell u a).netMask = s.netMask := rfl
@[simp] theorem setCell_gateway (s : State) (u : Nat) (a : CellS) : (s.setCell u a).gateway = s.gateway := rfl
@[simp] theorem setCell_linkLocal (s : State) (u : Nat) (a : CellS) : (s.setCell u a).linkLocal = s.linkLocal := rfl
@[simp] theorem setCell_events (s : State) (u : Nat) (a : CellS) : (s.setCell u a).events = s.events := rfl
@[simp] theorem setCell_eventSerial (s : State) (u : Nat) (a : CellS) : (s.setCell u a).eventSerial = s.eventSerial := rfl
@[simp] theorem setCell_faceSeq (s : State) (u : Nat) (a : CellS) : (s.setCell u a).faceSeq = s.faceSeq := rfl
@[simp] theorem setCell_lost (s : State) (u : Nat) (a : CellS) : (s.setCell u a).lost = s.lost := rfl
@[simp] theorem setCell_outbox (s : State) (u : Nat) (a : CellS) : (s.setCell u a).outbox = s.outbox := rfl
@[simp] theorem setCell_writes (s : State) (u : Nat) (a : CellS) : (s.setCell u a).writes = s.writes := rfl
@[simp] theorem setCell_commands (s : State) (u : Nat) (a : CellS) : (s.setCell u a).commands = s.commands := rfl
@[simp] theorem setCell_axes (s : State) (u : Nat) (a : CellS) : (s.setCell u a).axes = s.axes := rfl
@[simp] theorem setCell_clusters (s : State) (u : Nat) (a : CellS) : (s.setCell u a).clusters = s.clusters := rfl
@[simp] theorem setCell_jobs (s : State) (u : Nat) (a : CellS) : (s.setCell u a).jobs = s.jobs := rfl
@[simp] theorem setCell_commit (s : State) (u : Nat) (a : CellS) : (s.setCell u a).commit = s.commit := rfl
@[simp] theorem setCell_standby (s : State) (u : Nat) (a : CellS) : (s.setCell u a).standby = s.standby := rfl
@[simp] theorem setCell_flipped (s : State) (u : Nat) (a : CellS) : (s.setCell u a).flipped = s.flipped := rfl
@[simp] theorem setCell_camRuns (s : State) (u : Nat) (a : CellS) : (s.setCell u a).camRuns = s.camRuns := rfl
@[simp] theorem setCell_latchIns (s : State) (u : Nat) (a : CellS) : (s.setCell u a).latchIns = s.latchIns := rfl
@[simp] theorem setCell_pins (s : State) (u : Nat) (a : CellS) : (s.setCell u a).pins = s.pins := rfl
@[simp] theorem setCell_sleeves (s : State) (u : Nat) (a : CellS) : (s.setCell u a).sleeves = s.sleeves := rfl
@[simp] theorem setCell_rehousings (s : State) (u : Nat) (a : CellS) : (s.setCell u a).rehousings = s.rehousings := rfl
@[simp] theorem setCell_kernels (s : State) (u : Nat) (a : CellS) : (s.setCell u a).kernels = s.kernels := rfl
@[simp] theorem setCell_kernelSerial (s : State) (u : Nat) (a : CellS) : (s.setCell u a).kernelSerial = s.kernelSerial := rfl
@[simp] theorem setCell_plan (s : State) (u : Nat) (a : CellS) : (s.setCell u a).plan = s.plan := rfl
@[simp] theorem setCell_recorders (s : State) (u : Nat) (a : CellS) : (s.setCell u a).recorders = s.recorders := rfl
@[simp] theorem setCell_veil (s : State) (u : Nat) (a : CellS) : (s.setCell u a).veil = s.veil := rfl
@[simp] theorem setCell_field (s : State) (u : Nat) (a : CellS) : (s.setCell u a).field = s.field := rfl
@[simp] theorem setCell_can (s : State) (u : Nat) (a : CellS) : (s.setCell u a).can = s.can := rfl
@[simp] theorem setCell_nva (s : State) (u : Nat) (a : CellS) : (s.setCell u a).nva = s.nva := rfl
@[simp] theorem setCell_journal (s : State) (u : Nat) (a : CellS) : (s.setCell u a).journal = s.journal := rfl
@[simp] theorem setCell_rst (s : State) (u : Nat) (a : CellS) : (s.setCell u a).rst = s.rst := rfl
@[simp] theorem setCell_faults (s : State) (u : Nat) (a : CellS) : (s.setCell u a).faults = s.faults := rfl
@[simp] theorem setCell_freeCount (s : State) (u : Nat) (a : CellS) : (s.setCell u a).freeCount = s.freeCount := rfl
@[simp] theorem setCell_at_val (s : State) (u : Nat) (a : CellS) (x y : Nat) : (s.setCell u a).val x y = s.val x y := rfl
@[simp] theorem setCell_at_axis (s : State) (u : Nat) (a : CellS) (x : Nat) : (s.setCell u a).axis x = s.axis x := rfl
@[simp] theorem setCell_at_sleeve (s : State) (u : Nat) (a : CellS) (x : Nat) : (s.setCell u a).sleeve x = s.sleeve x := rfl
@[simp] theorem setCell_at_rec (s : State) (u : Nat) (a : CellS) (x : Nat) : (s.setCell u a).rec' x = s.rec' x := rfl
@[simp] theorem setCell_at_canOf (s : State) (u : Nat) (a : CellS) (x : Nat) : (s.setCell u a).canOf x = s.canOf x := rfl
@[simp] theorem setCell_at_fault (s : State) (u : Nat) (a : CellS) (x : Nat) : (s.setCell u a).fault x = s.fault x := rfl
@[simp] theorem setCell_at_cluster (s : State) (u : Nat) (a : CellS) (x : Nat) : (s.setCell u a).cluster x = s.cluster x := rfl
@[simp] theorem setCell_at_kernel (s : State) (u : Nat) (a : CellS) (x : Nat) : (s.setCell u a).kernel x = s.kernel x := rfl
@[simp] theorem setCell_at_slot (s : State) (u : Nat) (a : CellS) (x : Nat) : (s.setCell u a).slot x = s.slot x := rfl
@[simp] theorem setCell_at_pin (s : State) (u : Nat) (a : CellS) (x : Nat) : (s.setCell u a).pin x = s.pin x := rfl
@[simp] theorem setCell_at_group (s : State) (u : Nat) (a : CellS) (x : Nat) : (s.setCell u a).group x = s.group x := rfl

/-! ### setRec -/

@[simp] theorem setRec_pending (s : State) (u : Nat) (a : RecS) : (s.setRec u a).pending = s.pending := rfl
@[simp] theorem setRec_dict (s : State) (u : Nat) (a : RecS) : (s.setRec u a).dict = s.dict := rfl
@[simp] theorem setRec_sent (s : State) (u : Nat) (a : RecS) : (s.setRec u a).sent = s.sent := rfl
@[simp] theorem setRec_time (s : State) (u : Nat) (a : RecS) : (s.setRec u a).time = s.time := rfl
@[simp] theorem setRec_beat (s : State) (u : Nat) (a : RecS) : (s.setRec u a).beat = s.beat := rfl
@[simp] theorem setRec_slots (s : State) (u : Nat) (a : RecS) : (s.setRec u a).slots = s.slots := rfl
@[simp] theorem setRec_authFails (s : State) (u : Nat) (a : RecS) : (s.setRec u a).authFails = s.authFails := rfl
@[simp] theorem setRec_authBars (s : State) (u : Nat) (a : RecS) : (s.setRec u a).authBars = s.authBars := rfl
@[simp] theorem setRec_keys (s : State) (u : Nat) (a : RecS) : (s.setRec u a).keys = s.keys := rfl
@[simp] theorem setRec_ipv4 (s : State) (u : Nat) (a : RecS) : (s.setRec u a).ipv4 = s.ipv4 := rfl
@[simp] theorem setRec_lfpPort (s : State) (u : Nat) (a : RecS) : (s.setRec u a).lfpPort = s.lfpPort := rfl
@[simp] theorem setRec_netMask (s : State) (u : Nat) (a : RecS) : (s.setRec u a).netMask = s.netMask := rfl
@[simp] theorem setRec_gateway (s : State) (u : Nat) (a : RecS) : (s.setRec u a).gateway = s.gateway := rfl
@[simp] theorem setRec_linkLocal (s : State) (u : Nat) (a : RecS) : (s.setRec u a).linkLocal = s.linkLocal := rfl
@[simp] theorem setRec_events (s : State) (u : Nat) (a : RecS) : (s.setRec u a).events = s.events := rfl
@[simp] theorem setRec_eventSerial (s : State) (u : Nat) (a : RecS) : (s.setRec u a).eventSerial = s.eventSerial := rfl
@[simp] theorem setRec_faceSeq (s : State) (u : Nat) (a : RecS) : (s.setRec u a).faceSeq = s.faceSeq := rfl
@[simp] theorem setRec_lost (s : State) (u : Nat) (a : RecS) : (s.setRec u a).lost = s.lost := rfl
@[simp] theorem setRec_outbox (s : State) (u : Nat) (a : RecS) : (s.setRec u a).outbox = s.outbox := rfl
@[simp] theorem setRec_writes (s : State) (u : Nat) (a : RecS) : (s.setRec u a).writes = s.writes := rfl
@[simp] theorem setRec_commands (s : State) (u : Nat) (a : RecS) : (s.setRec u a).commands = s.commands := rfl
@[simp] theorem setRec_axes (s : State) (u : Nat) (a : RecS) : (s.setRec u a).axes = s.axes := rfl
@[simp] theorem setRec_clusters (s : State) (u : Nat) (a : RecS) : (s.setRec u a).clusters = s.clusters := rfl
@[simp] theorem setRec_jobs (s : State) (u : Nat) (a : RecS) : (s.setRec u a).jobs = s.jobs := rfl
@[simp] theorem setRec_commit (s : State) (u : Nat) (a : RecS) : (s.setRec u a).commit = s.commit := rfl
@[simp] theorem setRec_standby (s : State) (u : Nat) (a : RecS) : (s.setRec u a).standby = s.standby := rfl
@[simp] theorem setRec_flipped (s : State) (u : Nat) (a : RecS) : (s.setRec u a).flipped = s.flipped := rfl
@[simp] theorem setRec_camRuns (s : State) (u : Nat) (a : RecS) : (s.setRec u a).camRuns = s.camRuns := rfl
@[simp] theorem setRec_latchIns (s : State) (u : Nat) (a : RecS) : (s.setRec u a).latchIns = s.latchIns := rfl
@[simp] theorem setRec_pins (s : State) (u : Nat) (a : RecS) : (s.setRec u a).pins = s.pins := rfl
@[simp] theorem setRec_sleeves (s : State) (u : Nat) (a : RecS) : (s.setRec u a).sleeves = s.sleeves := rfl
@[simp] theorem setRec_cells (s : State) (u : Nat) (a : RecS) : (s.setRec u a).cells = s.cells := rfl
@[simp] theorem setRec_rehousings (s : State) (u : Nat) (a : RecS) : (s.setRec u a).rehousings = s.rehousings := rfl
@[simp] theorem setRec_kernels (s : State) (u : Nat) (a : RecS) : (s.setRec u a).kernels = s.kernels := rfl
@[simp] theorem setRec_kernelSerial (s : State) (u : Nat) (a : RecS) : (s.setRec u a).kernelSerial = s.kernelSerial := rfl
@[simp] theorem setRec_plan (s : State) (u : Nat) (a : RecS) : (s.setRec u a).plan = s.plan := rfl
@[simp] theorem setRec_veil (s : State) (u : Nat) (a : RecS) : (s.setRec u a).veil = s.veil := rfl
@[simp] theorem setRec_field (s : State) (u : Nat) (a : RecS) : (s.setRec u a).field = s.field := rfl
@[simp] theorem setRec_can (s : State) (u : Nat) (a : RecS) : (s.setRec u a).can = s.can := rfl
@[simp] theorem setRec_nva (s : State) (u : Nat) (a : RecS) : (s.setRec u a).nva = s.nva := rfl
@[simp] theorem setRec_journal (s : State) (u : Nat) (a : RecS) : (s.setRec u a).journal = s.journal := rfl
@[simp] theorem setRec_rst (s : State) (u : Nat) (a : RecS) : (s.setRec u a).rst = s.rst := rfl
@[simp] theorem setRec_faults (s : State) (u : Nat) (a : RecS) : (s.setRec u a).faults = s.faults := rfl
@[simp] theorem setRec_freeCount (s : State) (u : Nat) (a : RecS) : (s.setRec u a).freeCount = s.freeCount := rfl
@[simp] theorem setRec_at_val (s : State) (u : Nat) (a : RecS) (x y : Nat) : (s.setRec u a).val x y = s.val x y := rfl
@[simp] theorem setRec_at_axis (s : State) (u : Nat) (a : RecS) (x : Nat) : (s.setRec u a).axis x = s.axis x := rfl
@[simp] theorem setRec_at_sleeve (s : State) (u : Nat) (a : RecS) (x : Nat) : (s.setRec u a).sleeve x = s.sleeve x := rfl
@[simp] theorem setRec_at_cell (s : State) (u : Nat) (a : RecS) (x : Nat) : (s.setRec u a).cell x = s.cell x := rfl
@[simp] theorem setRec_at_canOf (s : State) (u : Nat) (a : RecS) (x : Nat) : (s.setRec u a).canOf x = s.canOf x := rfl
@[simp] theorem setRec_at_fault (s : State) (u : Nat) (a : RecS) (x : Nat) : (s.setRec u a).fault x = s.fault x := rfl
@[simp] theorem setRec_at_cluster (s : State) (u : Nat) (a : RecS) (x : Nat) : (s.setRec u a).cluster x = s.cluster x := rfl
@[simp] theorem setRec_at_kernel (s : State) (u : Nat) (a : RecS) (x : Nat) : (s.setRec u a).kernel x = s.kernel x := rfl
@[simp] theorem setRec_at_slot (s : State) (u : Nat) (a : RecS) (x : Nat) : (s.setRec u a).slot x = s.slot x := rfl
@[simp] theorem setRec_at_pin (s : State) (u : Nat) (a : RecS) (x : Nat) : (s.setRec u a).pin x = s.pin x := rfl
@[simp] theorem setRec_at_group (s : State) (u : Nat) (a : RecS) (x : Nat) : (s.setRec u a).group x = s.group x := rfl

/-! ### setCan -/

@[simp] theorem setCan_pending (s : State) (u : Nat) (a : CanS) : (s.setCan u a).pending = s.pending := rfl
@[simp] theorem setCan_dict (s : State) (u : Nat) (a : CanS) : (s.setCan u a).dict = s.dict := rfl
@[simp] theorem setCan_sent (s : State) (u : Nat) (a : CanS) : (s.setCan u a).sent = s.sent := rfl
@[simp] theorem setCan_time (s : State) (u : Nat) (a : CanS) : (s.setCan u a).time = s.time := rfl
@[simp] theorem setCan_beat (s : State) (u : Nat) (a : CanS) : (s.setCan u a).beat = s.beat := rfl
@[simp] theorem setCan_slots (s : State) (u : Nat) (a : CanS) : (s.setCan u a).slots = s.slots := rfl
@[simp] theorem setCan_authFails (s : State) (u : Nat) (a : CanS) : (s.setCan u a).authFails = s.authFails := rfl
@[simp] theorem setCan_authBars (s : State) (u : Nat) (a : CanS) : (s.setCan u a).authBars = s.authBars := rfl
@[simp] theorem setCan_keys (s : State) (u : Nat) (a : CanS) : (s.setCan u a).keys = s.keys := rfl
@[simp] theorem setCan_ipv4 (s : State) (u : Nat) (a : CanS) : (s.setCan u a).ipv4 = s.ipv4 := rfl
@[simp] theorem setCan_lfpPort (s : State) (u : Nat) (a : CanS) : (s.setCan u a).lfpPort = s.lfpPort := rfl
@[simp] theorem setCan_netMask (s : State) (u : Nat) (a : CanS) : (s.setCan u a).netMask = s.netMask := rfl
@[simp] theorem setCan_gateway (s : State) (u : Nat) (a : CanS) : (s.setCan u a).gateway = s.gateway := rfl
@[simp] theorem setCan_linkLocal (s : State) (u : Nat) (a : CanS) : (s.setCan u a).linkLocal = s.linkLocal := rfl
@[simp] theorem setCan_events (s : State) (u : Nat) (a : CanS) : (s.setCan u a).events = s.events := rfl
@[simp] theorem setCan_eventSerial (s : State) (u : Nat) (a : CanS) : (s.setCan u a).eventSerial = s.eventSerial := rfl
@[simp] theorem setCan_faceSeq (s : State) (u : Nat) (a : CanS) : (s.setCan u a).faceSeq = s.faceSeq := rfl
@[simp] theorem setCan_lost (s : State) (u : Nat) (a : CanS) : (s.setCan u a).lost = s.lost := rfl
@[simp] theorem setCan_outbox (s : State) (u : Nat) (a : CanS) : (s.setCan u a).outbox = s.outbox := rfl
@[simp] theorem setCan_writes (s : State) (u : Nat) (a : CanS) : (s.setCan u a).writes = s.writes := rfl
@[simp] theorem setCan_commands (s : State) (u : Nat) (a : CanS) : (s.setCan u a).commands = s.commands := rfl
@[simp] theorem setCan_axes (s : State) (u : Nat) (a : CanS) : (s.setCan u a).axes = s.axes := rfl
@[simp] theorem setCan_clusters (s : State) (u : Nat) (a : CanS) : (s.setCan u a).clusters = s.clusters := rfl
@[simp] theorem setCan_jobs (s : State) (u : Nat) (a : CanS) : (s.setCan u a).jobs = s.jobs := rfl
@[simp] theorem setCan_commit (s : State) (u : Nat) (a : CanS) : (s.setCan u a).commit = s.commit := rfl
@[simp] theorem setCan_standby (s : State) (u : Nat) (a : CanS) : (s.setCan u a).standby = s.standby := rfl
@[simp] theorem setCan_flipped (s : State) (u : Nat) (a : CanS) : (s.setCan u a).flipped = s.flipped := rfl
@[simp] theorem setCan_camRuns (s : State) (u : Nat) (a : CanS) : (s.setCan u a).camRuns = s.camRuns := rfl
@[simp] theorem setCan_latchIns (s : State) (u : Nat) (a : CanS) : (s.setCan u a).latchIns = s.latchIns := rfl
@[simp] theorem setCan_pins (s : State) (u : Nat) (a : CanS) : (s.setCan u a).pins = s.pins := rfl
@[simp] theorem setCan_sleeves (s : State) (u : Nat) (a : CanS) : (s.setCan u a).sleeves = s.sleeves := rfl
@[simp] theorem setCan_cells (s : State) (u : Nat) (a : CanS) : (s.setCan u a).cells = s.cells := rfl
@[simp] theorem setCan_rehousings (s : State) (u : Nat) (a : CanS) : (s.setCan u a).rehousings = s.rehousings := rfl
@[simp] theorem setCan_kernels (s : State) (u : Nat) (a : CanS) : (s.setCan u a).kernels = s.kernels := rfl
@[simp] theorem setCan_kernelSerial (s : State) (u : Nat) (a : CanS) : (s.setCan u a).kernelSerial = s.kernelSerial := rfl
@[simp] theorem setCan_plan (s : State) (u : Nat) (a : CanS) : (s.setCan u a).plan = s.plan := rfl
@[simp] theorem setCan_recorders (s : State) (u : Nat) (a : CanS) : (s.setCan u a).recorders = s.recorders := rfl
@[simp] theorem setCan_veil (s : State) (u : Nat) (a : CanS) : (s.setCan u a).veil = s.veil := rfl
@[simp] theorem setCan_field (s : State) (u : Nat) (a : CanS) : (s.setCan u a).field = s.field := rfl
@[simp] theorem setCan_nva (s : State) (u : Nat) (a : CanS) : (s.setCan u a).nva = s.nva := rfl
@[simp] theorem setCan_journal (s : State) (u : Nat) (a : CanS) : (s.setCan u a).journal = s.journal := rfl
@[simp] theorem setCan_rst (s : State) (u : Nat) (a : CanS) : (s.setCan u a).rst = s.rst := rfl
@[simp] theorem setCan_faults (s : State) (u : Nat) (a : CanS) : (s.setCan u a).faults = s.faults := rfl
@[simp] theorem setCan_freeCount (s : State) (u : Nat) (a : CanS) : (s.setCan u a).freeCount = s.freeCount := rfl
@[simp] theorem setCan_at_val (s : State) (u : Nat) (a : CanS) (x y : Nat) : (s.setCan u a).val x y = s.val x y := rfl
@[simp] theorem setCan_at_axis (s : State) (u : Nat) (a : CanS) (x : Nat) : (s.setCan u a).axis x = s.axis x := rfl
@[simp] theorem setCan_at_sleeve (s : State) (u : Nat) (a : CanS) (x : Nat) : (s.setCan u a).sleeve x = s.sleeve x := rfl
@[simp] theorem setCan_at_cell (s : State) (u : Nat) (a : CanS) (x : Nat) : (s.setCan u a).cell x = s.cell x := rfl
@[simp] theorem setCan_at_rec (s : State) (u : Nat) (a : CanS) (x : Nat) : (s.setCan u a).rec' x = s.rec' x := rfl
@[simp] theorem setCan_at_fault (s : State) (u : Nat) (a : CanS) (x : Nat) : (s.setCan u a).fault x = s.fault x := rfl
@[simp] theorem setCan_at_cluster (s : State) (u : Nat) (a : CanS) (x : Nat) : (s.setCan u a).cluster x = s.cluster x := rfl
@[simp] theorem setCan_at_kernel (s : State) (u : Nat) (a : CanS) (x : Nat) : (s.setCan u a).kernel x = s.kernel x := rfl
@[simp] theorem setCan_at_slot (s : State) (u : Nat) (a : CanS) (x : Nat) : (s.setCan u a).slot x = s.slot x := rfl
@[simp] theorem setCan_at_pin (s : State) (u : Nat) (a : CanS) (x : Nat) : (s.setCan u a).pin x = s.pin x := rfl
@[simp] theorem setCan_at_group (s : State) (u : Nat) (a : CanS) (x : Nat) : (s.setCan u a).group x = s.group x := rfl

/-! ### setFault -/

@[simp] theorem setFault_pending (s : State) (u : Nat) (a : FaultS) : (s.setFault u a).pending = s.pending := rfl
@[simp] theorem setFault_dict (s : State) (u : Nat) (a : FaultS) : (s.setFault u a).dict = s.dict := rfl
@[simp] theorem setFault_sent (s : State) (u : Nat) (a : FaultS) : (s.setFault u a).sent = s.sent := rfl
@[simp] theorem setFault_time (s : State) (u : Nat) (a : FaultS) : (s.setFault u a).time = s.time := rfl
@[simp] theorem setFault_beat (s : State) (u : Nat) (a : FaultS) : (s.setFault u a).beat = s.beat := rfl
@[simp] theorem setFault_slots (s : State) (u : Nat) (a : FaultS) : (s.setFault u a).slots = s.slots := rfl
@[simp] theorem setFault_authFails (s : State) (u : Nat) (a : FaultS) : (s.setFault u a).authFails = s.authFails := rfl
@[simp] theorem setFault_authBars (s : State) (u : Nat) (a : FaultS) : (s.setFault u a).authBars = s.authBars := rfl
@[simp] theorem setFault_keys (s : State) (u : Nat) (a : FaultS) : (s.setFault u a).keys = s.keys := rfl
@[simp] theorem setFault_ipv4 (s : State) (u : Nat) (a : FaultS) : (s.setFault u a).ipv4 = s.ipv4 := rfl
@[simp] theorem setFault_lfpPort (s : State) (u : Nat) (a : FaultS) : (s.setFault u a).lfpPort = s.lfpPort := rfl
@[simp] theorem setFault_netMask (s : State) (u : Nat) (a : FaultS) : (s.setFault u a).netMask = s.netMask := rfl
@[simp] theorem setFault_gateway (s : State) (u : Nat) (a : FaultS) : (s.setFault u a).gateway = s.gateway := rfl
@[simp] theorem setFault_linkLocal (s : State) (u : Nat) (a : FaultS) : (s.setFault u a).linkLocal = s.linkLocal := rfl
@[simp] theorem setFault_events (s : State) (u : Nat) (a : FaultS) : (s.setFault u a).events = s.events := rfl
@[simp] theorem setFault_eventSerial (s : State) (u : Nat) (a : FaultS) : (s.setFault u a).eventSerial = s.eventSerial := rfl
@[simp] theorem setFault_faceSeq (s : State) (u : Nat) (a : FaultS) : (s.setFault u a).faceSeq = s.faceSeq := rfl
@[simp] theorem setFault_lost (s : State) (u : Nat) (a : FaultS) : (s.setFault u a).lost = s.lost := rfl
@[simp] theorem setFault_outbox (s : State) (u : Nat) (a : FaultS) : (s.setFault u a).outbox = s.outbox := rfl
@[simp] theorem setFault_writes (s : State) (u : Nat) (a : FaultS) : (s.setFault u a).writes = s.writes := rfl
@[simp] theorem setFault_commands (s : State) (u : Nat) (a : FaultS) : (s.setFault u a).commands = s.commands := rfl
@[simp] theorem setFault_axes (s : State) (u : Nat) (a : FaultS) : (s.setFault u a).axes = s.axes := rfl
@[simp] theorem setFault_clusters (s : State) (u : Nat) (a : FaultS) : (s.setFault u a).clusters = s.clusters := rfl
@[simp] theorem setFault_jobs (s : State) (u : Nat) (a : FaultS) : (s.setFault u a).jobs = s.jobs := rfl
@[simp] theorem setFault_commit (s : State) (u : Nat) (a : FaultS) : (s.setFault u a).commit = s.commit := rfl
@[simp] theorem setFault_standby (s : State) (u : Nat) (a : FaultS) : (s.setFault u a).standby = s.standby := rfl
@[simp] theorem setFault_flipped (s : State) (u : Nat) (a : FaultS) : (s.setFault u a).flipped = s.flipped := rfl
@[simp] theorem setFault_camRuns (s : State) (u : Nat) (a : FaultS) : (s.setFault u a).camRuns = s.camRuns := rfl
@[simp] theorem setFault_latchIns (s : State) (u : Nat) (a : FaultS) : (s.setFault u a).latchIns = s.latchIns := rfl
@[simp] theorem setFault_pins (s : State) (u : Nat) (a : FaultS) : (s.setFault u a).pins = s.pins := rfl
@[simp] theorem setFault_sleeves (s : State) (u : Nat) (a : FaultS) : (s.setFault u a).sleeves = s.sleeves := rfl
@[simp] theorem setFault_cells (s : State) (u : Nat) (a : FaultS) : (s.setFault u a).cells = s.cells := rfl
@[simp] theorem setFault_rehousings (s : State) (u : Nat) (a : FaultS) : (s.setFault u a).rehousings = s.rehousings := rfl
@[simp] theorem setFault_kernels (s : State) (u : Nat) (a : FaultS) : (s.setFault u a).kernels = s.kernels := rfl
@[simp] theorem setFault_kernelSerial (s : State) (u : Nat) (a : FaultS) : (s.setFault u a).kernelSerial = s.kernelSerial := rfl
@[simp] theorem setFault_plan (s : State) (u : Nat) (a : FaultS) : (s.setFault u a).plan = s.plan := rfl
@[simp] theorem setFault_recorders (s : State) (u : Nat) (a : FaultS) : (s.setFault u a).recorders = s.recorders := rfl
@[simp] theorem setFault_veil (s : State) (u : Nat) (a : FaultS) : (s.setFault u a).veil = s.veil := rfl
@[simp] theorem setFault_field (s : State) (u : Nat) (a : FaultS) : (s.setFault u a).field = s.field := rfl
@[simp] theorem setFault_can (s : State) (u : Nat) (a : FaultS) : (s.setFault u a).can = s.can := rfl
@[simp] theorem setFault_nva (s : State) (u : Nat) (a : FaultS) : (s.setFault u a).nva = s.nva := rfl
@[simp] theorem setFault_journal (s : State) (u : Nat) (a : FaultS) : (s.setFault u a).journal = s.journal := rfl
@[simp] theorem setFault_rst (s : State) (u : Nat) (a : FaultS) : (s.setFault u a).rst = s.rst := rfl
@[simp] theorem setFault_freeCount (s : State) (u : Nat) (a : FaultS) : (s.setFault u a).freeCount = s.freeCount := rfl
@[simp] theorem setFault_at_val (s : State) (u : Nat) (a : FaultS) (x y : Nat) : (s.setFault u a).val x y = s.val x y := rfl
@[simp] theorem setFault_at_axis (s : State) (u : Nat) (a : FaultS) (x : Nat) : (s.setFault u a).axis x = s.axis x := rfl
@[simp] theorem setFault_at_sleeve (s : State) (u : Nat) (a : FaultS) (x : Nat) : (s.setFault u a).sleeve x = s.sleeve x := rfl
@[simp] theorem setFault_at_cell (s : State) (u : Nat) (a : FaultS) (x : Nat) : (s.setFault u a).cell x = s.cell x := rfl
@[simp] theorem setFault_at_rec (s : State) (u : Nat) (a : FaultS) (x : Nat) : (s.setFault u a).rec' x = s.rec' x := rfl
@[simp] theorem setFault_at_canOf (s : State) (u : Nat) (a : FaultS) (x : Nat) : (s.setFault u a).canOf x = s.canOf x := rfl
@[simp] theorem setFault_at_cluster (s : State) (u : Nat) (a : FaultS) (x : Nat) : (s.setFault u a).cluster x = s.cluster x := rfl
@[simp] theorem setFault_at_kernel (s : State) (u : Nat) (a : FaultS) (x : Nat) : (s.setFault u a).kernel x = s.kernel x := rfl
@[simp] theorem setFault_at_slot (s : State) (u : Nat) (a : FaultS) (x : Nat) : (s.setFault u a).slot x = s.slot x := rfl
@[simp] theorem setFault_at_pin (s : State) (u : Nat) (a : FaultS) (x : Nat) : (s.setFault u a).pin x = s.pin x := rfl
@[simp] theorem setFault_at_group (s : State) (u : Nat) (a : FaultS) (x : Nat) : (s.setFault u a).group x = s.group x := rfl

/-! ### setCluster -/

@[simp] theorem setCluster_pending (s : State) (u : Nat) (a : ClusterS) : (s.setCluster u a).pending = s.pending := rfl
@[simp] theorem setCluster_dict (s : State) (u : Nat) (a : ClusterS) : (s.setCluster u a).dict = s.dict := rfl
@[simp] theorem setCluster_sent (s : State) (u : Nat) (a : ClusterS) : (s.setCluster u a).sent = s.sent := rfl
@[simp] theorem setCluster_time (s : State) (u : Nat) (a : ClusterS) : (s.setCluster u a).time = s.time := rfl
@[simp] theorem setCluster_beat (s : State) (u : Nat) (a : ClusterS) : (s.setCluster u a).beat = s.beat := rfl
@[simp] theorem setCluster_slots (s : State) (u : Nat) (a : ClusterS) : (s.setCluster u a).slots = s.slots := rfl
@[simp] theorem setCluster_authFails (s : State) (u : Nat) (a : ClusterS) : (s.setCluster u a).authFails = s.authFails := rfl
@[simp] theorem setCluster_authBars (s : State) (u : Nat) (a : ClusterS) : (s.setCluster u a).authBars = s.authBars := rfl
@[simp] theorem setCluster_keys (s : State) (u : Nat) (a : ClusterS) : (s.setCluster u a).keys = s.keys := rfl
@[simp] theorem setCluster_ipv4 (s : State) (u : Nat) (a : ClusterS) : (s.setCluster u a).ipv4 = s.ipv4 := rfl
@[simp] theorem setCluster_lfpPort (s : State) (u : Nat) (a : ClusterS) : (s.setCluster u a).lfpPort = s.lfpPort := rfl
@[simp] theorem setCluster_netMask (s : State) (u : Nat) (a : ClusterS) : (s.setCluster u a).netMask = s.netMask := rfl
@[simp] theorem setCluster_gateway (s : State) (u : Nat) (a : ClusterS) : (s.setCluster u a).gateway = s.gateway := rfl
@[simp] theorem setCluster_linkLocal (s : State) (u : Nat) (a : ClusterS) : (s.setCluster u a).linkLocal = s.linkLocal := rfl
@[simp] theorem setCluster_events (s : State) (u : Nat) (a : ClusterS) : (s.setCluster u a).events = s.events := rfl
@[simp] theorem setCluster_eventSerial (s : State) (u : Nat) (a : ClusterS) : (s.setCluster u a).eventSerial = s.eventSerial := rfl
@[simp] theorem setCluster_faceSeq (s : State) (u : Nat) (a : ClusterS) : (s.setCluster u a).faceSeq = s.faceSeq := rfl
@[simp] theorem setCluster_lost (s : State) (u : Nat) (a : ClusterS) : (s.setCluster u a).lost = s.lost := rfl
@[simp] theorem setCluster_outbox (s : State) (u : Nat) (a : ClusterS) : (s.setCluster u a).outbox = s.outbox := rfl
@[simp] theorem setCluster_writes (s : State) (u : Nat) (a : ClusterS) : (s.setCluster u a).writes = s.writes := rfl
@[simp] theorem setCluster_commands (s : State) (u : Nat) (a : ClusterS) : (s.setCluster u a).commands = s.commands := rfl
@[simp] theorem setCluster_axes (s : State) (u : Nat) (a : ClusterS) : (s.setCluster u a).axes = s.axes := rfl
@[simp] theorem setCluster_jobs (s : State) (u : Nat) (a : ClusterS) : (s.setCluster u a).jobs = s.jobs := rfl
@[simp] theorem setCluster_commit (s : State) (u : Nat) (a : ClusterS) : (s.setCluster u a).commit = s.commit := rfl
@[simp] theorem setCluster_standby (s : State) (u : Nat) (a : ClusterS) : (s.setCluster u a).standby = s.standby := rfl
@[simp] theorem setCluster_flipped (s : State) (u : Nat) (a : ClusterS) : (s.setCluster u a).flipped = s.flipped := rfl
@[simp] theorem setCluster_camRuns (s : State) (u : Nat) (a : ClusterS) : (s.setCluster u a).camRuns = s.camRuns := rfl
@[simp] theorem setCluster_latchIns (s : State) (u : Nat) (a : ClusterS) : (s.setCluster u a).latchIns = s.latchIns := rfl
@[simp] theorem setCluster_pins (s : State) (u : Nat) (a : ClusterS) : (s.setCluster u a).pins = s.pins := rfl
@[simp] theorem setCluster_sleeves (s : State) (u : Nat) (a : ClusterS) : (s.setCluster u a).sleeves = s.sleeves := rfl
@[simp] theorem setCluster_cells (s : State) (u : Nat) (a : ClusterS) : (s.setCluster u a).cells = s.cells := rfl
@[simp] theorem setCluster_rehousings (s : State) (u : Nat) (a : ClusterS) : (s.setCluster u a).rehousings = s.rehousings := rfl
@[simp] theorem setCluster_kernels (s : State) (u : Nat) (a : ClusterS) : (s.setCluster u a).kernels = s.kernels := rfl
@[simp] theorem setCluster_kernelSerial (s : State) (u : Nat) (a : ClusterS) : (s.setCluster u a).kernelSerial = s.kernelSerial := rfl
@[simp] theorem setCluster_plan (s : State) (u : Nat) (a : ClusterS) : (s.setCluster u a).plan = s.plan := rfl
@[simp] theorem setCluster_recorders (s : State) (u : Nat) (a : ClusterS) : (s.setCluster u a).recorders = s.recorders := rfl
@[simp] theorem setCluster_veil (s : State) (u : Nat) (a : ClusterS) : (s.setCluster u a).veil = s.veil := rfl
@[simp] theorem setCluster_field (s : State) (u : Nat) (a : ClusterS) : (s.setCluster u a).field = s.field := rfl
@[simp] theorem setCluster_can (s : State) (u : Nat) (a : ClusterS) : (s.setCluster u a).can = s.can := rfl
@[simp] theorem setCluster_nva (s : State) (u : Nat) (a : ClusterS) : (s.setCluster u a).nva = s.nva := rfl
@[simp] theorem setCluster_journal (s : State) (u : Nat) (a : ClusterS) : (s.setCluster u a).journal = s.journal := rfl
@[simp] theorem setCluster_rst (s : State) (u : Nat) (a : ClusterS) : (s.setCluster u a).rst = s.rst := rfl
@[simp] theorem setCluster_faults (s : State) (u : Nat) (a : ClusterS) : (s.setCluster u a).faults = s.faults := rfl
@[simp] theorem setCluster_freeCount (s : State) (u : Nat) (a : ClusterS) : (s.setCluster u a).freeCount = s.freeCount := rfl
@[simp] theorem setCluster_at_val (s : State) (u : Nat) (a : ClusterS) (x y : Nat) : (s.setCluster u a).val x y = s.val x y := rfl
@[simp] theorem setCluster_at_axis (s : State) (u : Nat) (a : ClusterS) (x : Nat) : (s.setCluster u a).axis x = s.axis x := rfl
@[simp] theorem setCluster_at_sleeve (s : State) (u : Nat) (a : ClusterS) (x : Nat) : (s.setCluster u a).sleeve x = s.sleeve x := rfl
@[simp] theorem setCluster_at_cell (s : State) (u : Nat) (a : ClusterS) (x : Nat) : (s.setCluster u a).cell x = s.cell x := rfl
@[simp] theorem setCluster_at_rec (s : State) (u : Nat) (a : ClusterS) (x : Nat) : (s.setCluster u a).rec' x = s.rec' x := rfl
@[simp] theorem setCluster_at_canOf (s : State) (u : Nat) (a : ClusterS) (x : Nat) : (s.setCluster u a).canOf x = s.canOf x := rfl
@[simp] theorem setCluster_at_fault (s : State) (u : Nat) (a : ClusterS) (x : Nat) : (s.setCluster u a).fault x = s.fault x := rfl
@[simp] theorem setCluster_at_kernel (s : State) (u : Nat) (a : ClusterS) (x : Nat) : (s.setCluster u a).kernel x = s.kernel x := rfl
@[simp] theorem setCluster_at_slot (s : State) (u : Nat) (a : ClusterS) (x : Nat) : (s.setCluster u a).slot x = s.slot x := rfl
@[simp] theorem setCluster_at_pin (s : State) (u : Nat) (a : ClusterS) (x : Nat) : (s.setCluster u a).pin x = s.pin x := rfl
@[simp] theorem setCluster_at_group (s : State) (u : Nat) (a : ClusterS) (x : Nat) : (s.setCluster u a).group x = s.group x := rfl

/-! ### setKernel -/

@[simp] theorem setKernel_pending (s : State) (u : Nat) (a : KernelS) : (s.setKernel u a).pending = s.pending := rfl
@[simp] theorem setKernel_dict (s : State) (u : Nat) (a : KernelS) : (s.setKernel u a).dict = s.dict := rfl
@[simp] theorem setKernel_sent (s : State) (u : Nat) (a : KernelS) : (s.setKernel u a).sent = s.sent := rfl
@[simp] theorem setKernel_time (s : State) (u : Nat) (a : KernelS) : (s.setKernel u a).time = s.time := rfl
@[simp] theorem setKernel_beat (s : State) (u : Nat) (a : KernelS) : (s.setKernel u a).beat = s.beat := rfl
@[simp] theorem setKernel_slots (s : State) (u : Nat) (a : KernelS) : (s.setKernel u a).slots = s.slots := rfl
@[simp] theorem setKernel_authFails (s : State) (u : Nat) (a : KernelS) : (s.setKernel u a).authFails = s.authFails := rfl
@[simp] theorem setKernel_authBars (s : State) (u : Nat) (a : KernelS) : (s.setKernel u a).authBars = s.authBars := rfl
@[simp] theorem setKernel_keys (s : State) (u : Nat) (a : KernelS) : (s.setKernel u a).keys = s.keys := rfl
@[simp] theorem setKernel_ipv4 (s : State) (u : Nat) (a : KernelS) : (s.setKernel u a).ipv4 = s.ipv4 := rfl
@[simp] theorem setKernel_lfpPort (s : State) (u : Nat) (a : KernelS) : (s.setKernel u a).lfpPort = s.lfpPort := rfl
@[simp] theorem setKernel_netMask (s : State) (u : Nat) (a : KernelS) : (s.setKernel u a).netMask = s.netMask := rfl
@[simp] theorem setKernel_gateway (s : State) (u : Nat) (a : KernelS) : (s.setKernel u a).gateway = s.gateway := rfl
@[simp] theorem setKernel_linkLocal (s : State) (u : Nat) (a : KernelS) : (s.setKernel u a).linkLocal = s.linkLocal := rfl
@[simp] theorem setKernel_events (s : State) (u : Nat) (a : KernelS) : (s.setKernel u a).events = s.events := rfl
@[simp] theorem setKernel_eventSerial (s : State) (u : Nat) (a : KernelS) : (s.setKernel u a).eventSerial = s.eventSerial := rfl
@[simp] theorem setKernel_faceSeq (s : State) (u : Nat) (a : KernelS) : (s.setKernel u a).faceSeq = s.faceSeq := rfl
@[simp] theorem setKernel_lost (s : State) (u : Nat) (a : KernelS) : (s.setKernel u a).lost = s.lost := rfl
@[simp] theorem setKernel_outbox (s : State) (u : Nat) (a : KernelS) : (s.setKernel u a).outbox = s.outbox := rfl
@[simp] theorem setKernel_writes (s : State) (u : Nat) (a : KernelS) : (s.setKernel u a).writes = s.writes := rfl
@[simp] theorem setKernel_commands (s : State) (u : Nat) (a : KernelS) : (s.setKernel u a).commands = s.commands := rfl
@[simp] theorem setKernel_axes (s : State) (u : Nat) (a : KernelS) : (s.setKernel u a).axes = s.axes := rfl
@[simp] theorem setKernel_clusters (s : State) (u : Nat) (a : KernelS) : (s.setKernel u a).clusters = s.clusters := rfl
@[simp] theorem setKernel_jobs (s : State) (u : Nat) (a : KernelS) : (s.setKernel u a).jobs = s.jobs := rfl
@[simp] theorem setKernel_commit (s : State) (u : Nat) (a : KernelS) : (s.setKernel u a).commit = s.commit := rfl
@[simp] theorem setKernel_standby (s : State) (u : Nat) (a : KernelS) : (s.setKernel u a).standby = s.standby := rfl
@[simp] theorem setKernel_flipped (s : State) (u : Nat) (a : KernelS) : (s.setKernel u a).flipped = s.flipped := rfl
@[simp] theorem setKernel_camRuns (s : State) (u : Nat) (a : KernelS) : (s.setKernel u a).camRuns = s.camRuns := rfl
@[simp] theorem setKernel_latchIns (s : State) (u : Nat) (a : KernelS) : (s.setKernel u a).latchIns = s.latchIns := rfl
@[simp] theorem setKernel_pins (s : State) (u : Nat) (a : KernelS) : (s.setKernel u a).pins = s.pins := rfl
@[simp] theorem setKernel_sleeves (s : State) (u : Nat) (a : KernelS) : (s.setKernel u a).sleeves = s.sleeves := rfl
@[simp] theorem setKernel_cells (s : State) (u : Nat) (a : KernelS) : (s.setKernel u a).cells = s.cells := rfl
@[simp] theorem setKernel_rehousings (s : State) (u : Nat) (a : KernelS) : (s.setKernel u a).rehousings = s.rehousings := rfl
@[simp] theorem setKernel_kernelSerial (s : State) (u : Nat) (a : KernelS) : (s.setKernel u a).kernelSerial = s.kernelSerial := rfl
@[simp] theorem setKernel_plan (s : State) (u : Nat) (a : KernelS) : (s.setKernel u a).plan = s.plan := rfl
@[simp] theorem setKernel_recorders (s : State) (u : Nat) (a : KernelS) : (s.setKernel u a).recorders = s.recorders := rfl
@[simp] theorem setKernel_veil (s : State) (u : Nat) (a : KernelS) : (s.setKernel u a).veil = s.veil := rfl
@[simp] theorem setKernel_field (s : State) (u : Nat) (a : KernelS) : (s.setKernel u a).field = s.field := rfl
@[simp] theorem setKernel_can (s : State) (u : Nat) (a : KernelS) : (s.setKernel u a).can = s.can := rfl
@[simp] theorem setKernel_nva (s : State) (u : Nat) (a : KernelS) : (s.setKernel u a).nva = s.nva := rfl
@[simp] theorem setKernel_journal (s : State) (u : Nat) (a : KernelS) : (s.setKernel u a).journal = s.journal := rfl
@[simp] theorem setKernel_rst (s : State) (u : Nat) (a : KernelS) : (s.setKernel u a).rst = s.rst := rfl
@[simp] theorem setKernel_faults (s : State) (u : Nat) (a : KernelS) : (s.setKernel u a).faults = s.faults := rfl
@[simp] theorem setKernel_freeCount (s : State) (u : Nat) (a : KernelS) : (s.setKernel u a).freeCount = s.freeCount := rfl
@[simp] theorem setKernel_at_val (s : State) (u : Nat) (a : KernelS) (x y : Nat) : (s.setKernel u a).val x y = s.val x y := rfl
@[simp] theorem setKernel_at_axis (s : State) (u : Nat) (a : KernelS) (x : Nat) : (s.setKernel u a).axis x = s.axis x := rfl
@[simp] theorem setKernel_at_sleeve (s : State) (u : Nat) (a : KernelS) (x : Nat) : (s.setKernel u a).sleeve x = s.sleeve x := rfl
@[simp] theorem setKernel_at_cell (s : State) (u : Nat) (a : KernelS) (x : Nat) : (s.setKernel u a).cell x = s.cell x := rfl
@[simp] theorem setKernel_at_rec (s : State) (u : Nat) (a : KernelS) (x : Nat) : (s.setKernel u a).rec' x = s.rec' x := rfl
@[simp] theorem setKernel_at_canOf (s : State) (u : Nat) (a : KernelS) (x : Nat) : (s.setKernel u a).canOf x = s.canOf x := rfl
@[simp] theorem setKernel_at_fault (s : State) (u : Nat) (a : KernelS) (x : Nat) : (s.setKernel u a).fault x = s.fault x := rfl
@[simp] theorem setKernel_at_cluster (s : State) (u : Nat) (a : KernelS) (x : Nat) : (s.setKernel u a).cluster x = s.cluster x := rfl
@[simp] theorem setKernel_at_slot (s : State) (u : Nat) (a : KernelS) (x : Nat) : (s.setKernel u a).slot x = s.slot x := rfl
@[simp] theorem setKernel_at_pin (s : State) (u : Nat) (a : KernelS) (x : Nat) : (s.setKernel u a).pin x = s.pin x := rfl
@[simp] theorem setKernel_at_group (s : State) (u : Nat) (a : KernelS) (x : Nat) : (s.setKernel u a).group x = s.group x := rfl

/-! ### setSlot -/

@[simp] theorem setSlot_pending (s : State) (u : Nat) (a : Slot) : (s.setSlot u a).pending = s.pending := rfl
@[simp] theorem setSlot_dict (s : State) (u : Nat) (a : Slot) : (s.setSlot u a).dict = s.dict := rfl
@[simp] theorem setSlot_sent (s : State) (u : Nat) (a : Slot) : (s.setSlot u a).sent = s.sent := rfl
@[simp] theorem setSlot_time (s : State) (u : Nat) (a : Slot) : (s.setSlot u a).time = s.time := rfl
@[simp] theorem setSlot_beat (s : State) (u : Nat) (a : Slot) : (s.setSlot u a).beat = s.beat := rfl
@[simp] theorem setSlot_authFails (s : State) (u : Nat) (a : Slot) : (s.setSlot u a).authFails = s.authFails := rfl
@[simp] theorem setSlot_authBars (s : State) (u : Nat) (a : Slot) : (s.setSlot u a).authBars = s.authBars := rfl
@[simp] theorem setSlot_keys (s : State) (u : Nat) (a : Slot) : (s.setSlot u a).keys = s.keys := rfl
@[simp] theorem setSlot_ipv4 (s : State) (u : Nat) (a : Slot) : (s.setSlot u a).ipv4 = s.ipv4 := rfl
@[simp] theorem setSlot_lfpPort (s : State) (u : Nat) (a : Slot) : (s.setSlot u a).lfpPort = s.lfpPort := rfl
@[simp] theorem setSlot_netMask (s : State) (u : Nat) (a : Slot) : (s.setSlot u a).netMask = s.netMask := rfl
@[simp] theorem setSlot_gateway (s : State) (u : Nat) (a : Slot) : (s.setSlot u a).gateway = s.gateway := rfl
@[simp] theorem setSlot_linkLocal (s : State) (u : Nat) (a : Slot) : (s.setSlot u a).linkLocal = s.linkLocal := rfl
@[simp] theorem setSlot_events (s : State) (u : Nat) (a : Slot) : (s.setSlot u a).events = s.events := rfl
@[simp] theorem setSlot_eventSerial (s : State) (u : Nat) (a : Slot) : (s.setSlot u a).eventSerial = s.eventSerial := rfl
@[simp] theorem setSlot_faceSeq (s : State) (u : Nat) (a : Slot) : (s.setSlot u a).faceSeq = s.faceSeq := rfl
@[simp] theorem setSlot_lost (s : State) (u : Nat) (a : Slot) : (s.setSlot u a).lost = s.lost := rfl
@[simp] theorem setSlot_outbox (s : State) (u : Nat) (a : Slot) : (s.setSlot u a).outbox = s.outbox := rfl
@[simp] theorem setSlot_writes (s : State) (u : Nat) (a : Slot) : (s.setSlot u a).writes = s.writes := rfl
@[simp] theorem setSlot_commands (s : State) (u : Nat) (a : Slot) : (s.setSlot u a).commands = s.commands := rfl
@[simp] theorem setSlot_axes (s : State) (u : Nat) (a : Slot) : (s.setSlot u a).axes = s.axes := rfl
@[simp] theorem setSlot_clusters (s : State) (u : Nat) (a : Slot) : (s.setSlot u a).clusters = s.clusters := rfl
@[simp] theorem setSlot_jobs (s : State) (u : Nat) (a : Slot) : (s.setSlot u a).jobs = s.jobs := rfl
@[simp] theorem setSlot_commit (s : State) (u : Nat) (a : Slot) : (s.setSlot u a).commit = s.commit := rfl
@[simp] theorem setSlot_standby (s : State) (u : Nat) (a : Slot) : (s.setSlot u a).standby = s.standby := rfl
@[simp] theorem setSlot_flipped (s : State) (u : Nat) (a : Slot) : (s.setSlot u a).flipped = s.flipped := rfl
@[simp] theorem setSlot_camRuns (s : State) (u : Nat) (a : Slot) : (s.setSlot u a).camRuns = s.camRuns := rfl
@[simp] theorem setSlot_latchIns (s : State) (u : Nat) (a : Slot) : (s.setSlot u a).latchIns = s.latchIns := rfl
@[simp] theorem setSlot_pins (s : State) (u : Nat) (a : Slot) : (s.setSlot u a).pins = s.pins := rfl
@[simp] theorem setSlot_sleeves (s : State) (u : Nat) (a : Slot) : (s.setSlot u a).sleeves = s.sleeves := rfl
@[simp] theorem setSlot_cells (s : State) (u : Nat) (a : Slot) : (s.setSlot u a).cells = s.cells := rfl
@[simp] theorem setSlot_rehousings (s : State) (u : Nat) (a : Slot) : (s.setSlot u a).rehousings = s.rehousings := rfl
@[simp] theorem setSlot_kernels (s : State) (u : Nat) (a : Slot) : (s.setSlot u a).kernels = s.kernels := rfl
@[simp] theorem setSlot_kernelSerial (s : State) (u : Nat) (a : Slot) : (s.setSlot u a).kernelSerial = s.kernelSerial := rfl
@[simp] theorem setSlot_plan (s : State) (u : Nat) (a : Slot) : (s.setSlot u a).plan = s.plan := rfl
@[simp] theorem setSlot_recorders (s : State) (u : Nat) (a : Slot) : (s.setSlot u a).recorders = s.recorders := rfl
@[simp] theorem setSlot_veil (s : State) (u : Nat) (a : Slot) : (s.setSlot u a).veil = s.veil := rfl
@[simp] theorem setSlot_field (s : State) (u : Nat) (a : Slot) : (s.setSlot u a).field = s.field := rfl
@[simp] theorem setSlot_can (s : State) (u : Nat) (a : Slot) : (s.setSlot u a).can = s.can := rfl
@[simp] theorem setSlot_nva (s : State) (u : Nat) (a : Slot) : (s.setSlot u a).nva = s.nva := rfl
@[simp] theorem setSlot_journal (s : State) (u : Nat) (a : Slot) : (s.setSlot u a).journal = s.journal := rfl
@[simp] theorem setSlot_rst (s : State) (u : Nat) (a : Slot) : (s.setSlot u a).rst = s.rst := rfl
@[simp] theorem setSlot_faults (s : State) (u : Nat) (a : Slot) : (s.setSlot u a).faults = s.faults := rfl
@[simp] theorem setSlot_freeCount (s : State) (u : Nat) (a : Slot) : (s.setSlot u a).freeCount = s.freeCount := rfl
@[simp] theorem setSlot_at_val (s : State) (u : Nat) (a : Slot) (x y : Nat) : (s.setSlot u a).val x y = s.val x y := rfl
@[simp] theorem setSlot_at_axis (s : State) (u : Nat) (a : Slot) (x : Nat) : (s.setSlot u a).axis x = s.axis x := rfl
@[simp] theorem setSlot_at_sleeve (s : State) (u : Nat) (a : Slot) (x : Nat) : (s.setSlot u a).sleeve x = s.sleeve x := rfl
@[simp] theorem setSlot_at_cell (s : State) (u : Nat) (a : Slot) (x : Nat) : (s.setSlot u a).cell x = s.cell x := rfl
@[simp] theorem setSlot_at_rec (s : State) (u : Nat) (a : Slot) (x : Nat) : (s.setSlot u a).rec' x = s.rec' x := rfl
@[simp] theorem setSlot_at_canOf (s : State) (u : Nat) (a : Slot) (x : Nat) : (s.setSlot u a).canOf x = s.canOf x := rfl
@[simp] theorem setSlot_at_fault (s : State) (u : Nat) (a : Slot) (x : Nat) : (s.setSlot u a).fault x = s.fault x := rfl
@[simp] theorem setSlot_at_cluster (s : State) (u : Nat) (a : Slot) (x : Nat) : (s.setSlot u a).cluster x = s.cluster x := rfl
@[simp] theorem setSlot_at_kernel (s : State) (u : Nat) (a : Slot) (x : Nat) : (s.setSlot u a).kernel x = s.kernel x := rfl
@[simp] theorem setSlot_at_pin (s : State) (u : Nat) (a : Slot) (x : Nat) : (s.setSlot u a).pin x = s.pin x := rfl
@[simp] theorem setSlot_at_group (s : State) (u : Nat) (a : Slot) (x : Nat) : (s.setSlot u a).group x = s.group x := rfl

/-! ### setPin -/

@[simp] theorem setPin_pending (s : State) (u : Nat) (a : PinS) : (s.setPin u a).pending = s.pending := rfl
@[simp] theorem setPin_dict (s : State) (u : Nat) (a : PinS) : (s.setPin u a).dict = s.dict := rfl
@[simp] theorem setPin_sent (s : State) (u : Nat) (a : PinS) : (s.setPin u a).sent = s.sent := rfl
@[simp] theorem setPin_time (s : State) (u : Nat) (a : PinS) : (s.setPin u a).time = s.time := rfl
@[simp] theorem setPin_beat (s : State) (u : Nat) (a : PinS) : (s.setPin u a).beat = s.beat := rfl
@[simp] theorem setPin_slots (s : State) (u : Nat) (a : PinS) : (s.setPin u a).slots = s.slots := rfl
@[simp] theorem setPin_authFails (s : State) (u : Nat) (a : PinS) : (s.setPin u a).authFails = s.authFails := rfl
@[simp] theorem setPin_authBars (s : State) (u : Nat) (a : PinS) : (s.setPin u a).authBars = s.authBars := rfl
@[simp] theorem setPin_keys (s : State) (u : Nat) (a : PinS) : (s.setPin u a).keys = s.keys := rfl
@[simp] theorem setPin_ipv4 (s : State) (u : Nat) (a : PinS) : (s.setPin u a).ipv4 = s.ipv4 := rfl
@[simp] theorem setPin_lfpPort (s : State) (u : Nat) (a : PinS) : (s.setPin u a).lfpPort = s.lfpPort := rfl
@[simp] theorem setPin_netMask (s : State) (u : Nat) (a : PinS) : (s.setPin u a).netMask = s.netMask := rfl
@[simp] theorem setPin_gateway (s : State) (u : Nat) (a : PinS) : (s.setPin u a).gateway = s.gateway := rfl
@[simp] theorem setPin_linkLocal (s : State) (u : Nat) (a : PinS) : (s.setPin u a).linkLocal = s.linkLocal := rfl
@[simp] theorem setPin_events (s : State) (u : Nat) (a : PinS) : (s.setPin u a).events = s.events := rfl
@[simp] theorem setPin_eventSerial (s : State) (u : Nat) (a : PinS) : (s.setPin u a).eventSerial = s.eventSerial := rfl
@[simp] theorem setPin_faceSeq (s : State) (u : Nat) (a : PinS) : (s.setPin u a).faceSeq = s.faceSeq := rfl
@[simp] theorem setPin_lost (s : State) (u : Nat) (a : PinS) : (s.setPin u a).lost = s.lost := rfl
@[simp] theorem setPin_outbox (s : State) (u : Nat) (a : PinS) : (s.setPin u a).outbox = s.outbox := rfl
@[simp] theorem setPin_writes (s : State) (u : Nat) (a : PinS) : (s.setPin u a).writes = s.writes := rfl
@[simp] theorem setPin_commands (s : State) (u : Nat) (a : PinS) : (s.setPin u a).commands = s.commands := rfl
@[simp] theorem setPin_axes (s : State) (u : Nat) (a : PinS) : (s.setPin u a).axes = s.axes := rfl
@[simp] theorem setPin_clusters (s : State) (u : Nat) (a : PinS) : (s.setPin u a).clusters = s.clusters := rfl
@[simp] theorem setPin_jobs (s : State) (u : Nat) (a : PinS) : (s.setPin u a).jobs = s.jobs := rfl
@[simp] theorem setPin_commit (s : State) (u : Nat) (a : PinS) : (s.setPin u a).commit = s.commit := rfl
@[simp] theorem setPin_standby (s : State) (u : Nat) (a : PinS) : (s.setPin u a).standby = s.standby := rfl
@[simp] theorem setPin_flipped (s : State) (u : Nat) (a : PinS) : (s.setPin u a).flipped = s.flipped := rfl
@[simp] theorem setPin_camRuns (s : State) (u : Nat) (a : PinS) : (s.setPin u a).camRuns = s.camRuns := rfl
@[simp] theorem setPin_latchIns (s : State) (u : Nat) (a : PinS) : (s.setPin u a).latchIns = s.latchIns := rfl
@[simp] theorem setPin_sleeves (s : State) (u : Nat) (a : PinS) : (s.setPin u a).sleeves = s.sleeves := rfl
@[simp] theorem setPin_cells (s : State) (u : Nat) (a : PinS) : (s.setPin u a).cells = s.cells := rfl
@[simp] theorem setPin_rehousings (s : State) (u : Nat) (a : PinS) : (s.setPin u a).rehousings = s.rehousings := rfl
@[simp] theorem setPin_kernels (s : State) (u : Nat) (a : PinS) : (s.setPin u a).kernels = s.kernels := rfl
@[simp] theorem setPin_kernelSerial (s : State) (u : Nat) (a : PinS) : (s.setPin u a).kernelSerial = s.kernelSerial := rfl
@[simp] theorem setPin_plan (s : State) (u : Nat) (a : PinS) : (s.setPin u a).plan = s.plan := rfl
@[simp] theorem setPin_recorders (s : State) (u : Nat) (a : PinS) : (s.setPin u a).recorders = s.recorders := rfl
@[simp] theorem setPin_veil (s : State) (u : Nat) (a : PinS) : (s.setPin u a).veil = s.veil := rfl
@[simp] theorem setPin_field (s : State) (u : Nat) (a : PinS) : (s.setPin u a).field = s.field := rfl
@[simp] theorem setPin_can (s : State) (u : Nat) (a : PinS) : (s.setPin u a).can = s.can := rfl
@[simp] theorem setPin_nva (s : State) (u : Nat) (a : PinS) : (s.setPin u a).nva = s.nva := rfl
@[simp] theorem setPin_journal (s : State) (u : Nat) (a : PinS) : (s.setPin u a).journal = s.journal := rfl
@[simp] theorem setPin_rst (s : State) (u : Nat) (a : PinS) : (s.setPin u a).rst = s.rst := rfl
@[simp] theorem setPin_faults (s : State) (u : Nat) (a : PinS) : (s.setPin u a).faults = s.faults := rfl
@[simp] theorem setPin_freeCount (s : State) (u : Nat) (a : PinS) : (s.setPin u a).freeCount = s.freeCount := rfl
@[simp] theorem setPin_at_val (s : State) (u : Nat) (a : PinS) (x y : Nat) : (s.setPin u a).val x y = s.val x y := rfl
@[simp] theorem setPin_at_axis (s : State) (u : Nat) (a : PinS) (x : Nat) : (s.setPin u a).axis x = s.axis x := rfl
@[simp] theorem setPin_at_sleeve (s : State) (u : Nat) (a : PinS) (x : Nat) : (s.setPin u a).sleeve x = s.sleeve x := rfl
@[simp] theorem setPin_at_cell (s : State) (u : Nat) (a : PinS) (x : Nat) : (s.setPin u a).cell x = s.cell x := rfl
@[simp] theorem setPin_at_rec (s : State) (u : Nat) (a : PinS) (x : Nat) : (s.setPin u a).rec' x = s.rec' x := rfl
@[simp] theorem setPin_at_canOf (s : State) (u : Nat) (a : PinS) (x : Nat) : (s.setPin u a).canOf x = s.canOf x := rfl
@[simp] theorem setPin_at_fault (s : State) (u : Nat) (a : PinS) (x : Nat) : (s.setPin u a).fault x = s.fault x := rfl
@[simp] theorem setPin_at_cluster (s : State) (u : Nat) (a : PinS) (x : Nat) : (s.setPin u a).cluster x = s.cluster x := rfl
@[simp] theorem setPin_at_kernel (s : State) (u : Nat) (a : PinS) (x : Nat) : (s.setPin u a).kernel x = s.kernel x := rfl
@[simp] theorem setPin_at_slot (s : State) (u : Nat) (a : PinS) (x : Nat) : (s.setPin u a).slot x = s.slot x := rfl
@[simp] theorem setPin_at_group (s : State) (u : Nat) (a : PinS) (x : Nat) : (s.setPin u a).group x = s.group x := rfl

/-! ### setGroup -/

@[simp] theorem setGroup_pending (s : State) (u : Nat) (a : GroupS) : (s.setGroup u a).pending = s.pending := rfl
@[simp] theorem setGroup_dict (s : State) (u : Nat) (a : GroupS) : (s.setGroup u a).dict = s.dict := rfl
@[simp] theorem setGroup_sent (s : State) (u : Nat) (a : GroupS) : (s.setGroup u a).sent = s.sent := rfl
@[simp] theorem setGroup_time (s : State) (u : Nat) (a : GroupS) : (s.setGroup u a).time = s.time := rfl
@[simp] theorem setGroup_beat (s : State) (u : Nat) (a : GroupS) : (s.setGroup u a).beat = s.beat := rfl
@[simp] theorem setGroup_slots (s : State) (u : Nat) (a : GroupS) : (s.setGroup u a).slots = s.slots := rfl
@[simp] theorem setGroup_authFails (s : State) (u : Nat) (a : GroupS) : (s.setGroup u a).authFails = s.authFails := rfl
@[simp] theorem setGroup_authBars (s : State) (u : Nat) (a : GroupS) : (s.setGroup u a).authBars = s.authBars := rfl
@[simp] theorem setGroup_keys (s : State) (u : Nat) (a : GroupS) : (s.setGroup u a).keys = s.keys := rfl
@[simp] theorem setGroup_ipv4 (s : State) (u : Nat) (a : GroupS) : (s.setGroup u a).ipv4 = s.ipv4 := rfl
@[simp] theorem setGroup_lfpPort (s : State) (u : Nat) (a : GroupS) : (s.setGroup u a).lfpPort = s.lfpPort := rfl
@[simp] theorem setGroup_netMask (s : State) (u : Nat) (a : GroupS) : (s.setGroup u a).netMask = s.netMask := rfl
@[simp] theorem setGroup_gateway (s : State) (u : Nat) (a : GroupS) : (s.setGroup u a).gateway = s.gateway := rfl
@[simp] theorem setGroup_linkLocal (s : State) (u : Nat) (a : GroupS) : (s.setGroup u a).linkLocal = s.linkLocal := rfl
@[simp] theorem setGroup_events (s : State) (u : Nat) (a : GroupS) : (s.setGroup u a).events = s.events := rfl
@[simp] theorem setGroup_eventSerial (s : State) (u : Nat) (a : GroupS) : (s.setGroup u a).eventSerial = s.eventSerial := rfl
@[simp] theorem setGroup_faceSeq (s : State) (u : Nat) (a : GroupS) : (s.setGroup u a).faceSeq = s.faceSeq := rfl
@[simp] theorem setGroup_lost (s : State) (u : Nat) (a : GroupS) : (s.setGroup u a).lost = s.lost := rfl
@[simp] theorem setGroup_outbox (s : State) (u : Nat) (a : GroupS) : (s.setGroup u a).outbox = s.outbox := rfl
@[simp] theorem setGroup_writes (s : State) (u : Nat) (a : GroupS) : (s.setGroup u a).writes = s.writes := rfl
@[simp] theorem setGroup_commands (s : State) (u : Nat) (a : GroupS) : (s.setGroup u a).commands = s.commands := rfl
@[simp] theorem setGroup_axes (s : State) (u : Nat) (a : GroupS) : (s.setGroup u a).axes = s.axes := rfl
@[simp] theorem setGroup_clusters (s : State) (u : Nat) (a : GroupS) : (s.setGroup u a).clusters = s.clusters := rfl
@[simp] theorem setGroup_jobs (s : State) (u : Nat) (a : GroupS) : (s.setGroup u a).jobs = s.jobs := rfl
@[simp] theorem setGroup_commit (s : State) (u : Nat) (a : GroupS) : (s.setGroup u a).commit = s.commit := rfl
@[simp] theorem setGroup_standby (s : State) (u : Nat) (a : GroupS) : (s.setGroup u a).standby = s.standby := rfl
@[simp] theorem setGroup_flipped (s : State) (u : Nat) (a : GroupS) : (s.setGroup u a).flipped = s.flipped := rfl
@[simp] theorem setGroup_camRuns (s : State) (u : Nat) (a : GroupS) : (s.setGroup u a).camRuns = s.camRuns := rfl
@[simp] theorem setGroup_latchIns (s : State) (u : Nat) (a : GroupS) : (s.setGroup u a).latchIns = s.latchIns := rfl
@[simp] theorem setGroup_pins (s : State) (u : Nat) (a : GroupS) : (s.setGroup u a).pins = s.pins := rfl
@[simp] theorem setGroup_sleeves (s : State) (u : Nat) (a : GroupS) : (s.setGroup u a).sleeves = s.sleeves := rfl
@[simp] theorem setGroup_cells (s : State) (u : Nat) (a : GroupS) : (s.setGroup u a).cells = s.cells := rfl
@[simp] theorem setGroup_rehousings (s : State) (u : Nat) (a : GroupS) : (s.setGroup u a).rehousings = s.rehousings := rfl
@[simp] theorem setGroup_kernels (s : State) (u : Nat) (a : GroupS) : (s.setGroup u a).kernels = s.kernels := rfl
@[simp] theorem setGroup_kernelSerial (s : State) (u : Nat) (a : GroupS) : (s.setGroup u a).kernelSerial = s.kernelSerial := rfl
@[simp] theorem setGroup_plan (s : State) (u : Nat) (a : GroupS) : (s.setGroup u a).plan = s.plan := rfl
@[simp] theorem setGroup_recorders (s : State) (u : Nat) (a : GroupS) : (s.setGroup u a).recorders = s.recorders := rfl
@[simp] theorem setGroup_field (s : State) (u : Nat) (a : GroupS) : (s.setGroup u a).field = s.field := rfl
@[simp] theorem setGroup_can (s : State) (u : Nat) (a : GroupS) : (s.setGroup u a).can = s.can := rfl
@[simp] theorem setGroup_nva (s : State) (u : Nat) (a : GroupS) : (s.setGroup u a).nva = s.nva := rfl
@[simp] theorem setGroup_journal (s : State) (u : Nat) (a : GroupS) : (s.setGroup u a).journal = s.journal := rfl
@[simp] theorem setGroup_rst (s : State) (u : Nat) (a : GroupS) : (s.setGroup u a).rst = s.rst := rfl
@[simp] theorem setGroup_faults (s : State) (u : Nat) (a : GroupS) : (s.setGroup u a).faults = s.faults := rfl
@[simp] theorem setGroup_freeCount (s : State) (u : Nat) (a : GroupS) : (s.setGroup u a).freeCount = s.freeCount := rfl
@[simp] theorem setGroup_at_val (s : State) (u : Nat) (a : GroupS) (x y : Nat) : (s.setGroup u a).val x y = s.val x y := rfl
@[simp] theorem setGroup_at_axis (s : State) (u : Nat) (a : GroupS) (x : Nat) : (s.setGroup u a).axis x = s.axis x := rfl
@[simp] theorem setGroup_at_sleeve (s : State) (u : Nat) (a : GroupS) (x : Nat) : (s.setGroup u a).sleeve x = s.sleeve x := rfl
@[simp] theorem setGroup_at_cell (s : State) (u : Nat) (a : GroupS) (x : Nat) : (s.setGroup u a).cell x = s.cell x := rfl
@[simp] theorem setGroup_at_rec (s : State) (u : Nat) (a : GroupS) (x : Nat) : (s.setGroup u a).rec' x = s.rec' x := rfl
@[simp] theorem setGroup_at_canOf (s : State) (u : Nat) (a : GroupS) (x : Nat) : (s.setGroup u a).canOf x = s.canOf x := rfl
@[simp] theorem setGroup_at_fault (s : State) (u : Nat) (a : GroupS) (x : Nat) : (s.setGroup u a).fault x = s.fault x := rfl
@[simp] theorem setGroup_at_cluster (s : State) (u : Nat) (a : GroupS) (x : Nat) : (s.setGroup u a).cluster x = s.cluster x := rfl
@[simp] theorem setGroup_at_kernel (s : State) (u : Nat) (a : GroupS) (x : Nat) : (s.setGroup u a).kernel x = s.kernel x := rfl
@[simp] theorem setGroup_at_slot (s : State) (u : Nat) (a : GroupS) (x : Nat) : (s.setGroup u a).slot x = s.slot x := rfl
@[simp] theorem setGroup_at_pin (s : State) (u : Nat) (a : GroupS) (x : Nat) : (s.setGroup u a).pin x = s.pin x := rfl

/-! ### emit -/

@[simp] theorem emit_pending (s : State) (m : Sent) : (s.emit m).pending = s.pending := rfl
@[simp] theorem emit_dict (s : State) (m : Sent) : (s.emit m).dict = s.dict := rfl
@[simp] theorem emit_time (s : State) (m : Sent) : (s.emit m).time = s.time := rfl
@[simp] theorem emit_beat (s : State) (m : Sent) : (s.emit m).beat = s.beat := rfl
@[simp] theorem emit_slots (s : State) (m : Sent) : (s.emit m).slots = s.slots := rfl
@[simp] theorem emit_authFails (s : State) (m : Sent) : (s.emit m).authFails = s.authFails := rfl
@[simp] theorem emit_authBars (s : State) (m : Sent) : (s.emit m).authBars = s.authBars := rfl
@[simp] theorem emit_keys (s : State) (m : Sent) : (s.emit m).keys = s.keys := rfl
@[simp] theorem emit_ipv4 (s : State) (m : Sent) : (s.emit m).ipv4 = s.ipv4 := rfl
@[simp] theorem emit_lfpPort (s : State) (m : Sent) : (s.emit m).lfpPort = s.lfpPort := rfl
@[simp] theorem emit_netMask (s : State) (m : Sent) : (s.emit m).netMask = s.netMask := rfl
@[simp] theorem emit_gateway (s : State) (m : Sent) : (s.emit m).gateway = s.gateway := rfl
@[simp] theorem emit_linkLocal (s : State) (m : Sent) : (s.emit m).linkLocal = s.linkLocal := rfl
@[simp] theorem emit_events (s : State) (m : Sent) : (s.emit m).events = s.events := rfl
@[simp] theorem emit_eventSerial (s : State) (m : Sent) : (s.emit m).eventSerial = s.eventSerial := rfl
@[simp] theorem emit_faceSeq (s : State) (m : Sent) : (s.emit m).faceSeq = s.faceSeq := rfl
@[simp] theorem emit_lost (s : State) (m : Sent) : (s.emit m).lost = s.lost := rfl
@[simp] theorem emit_outbox (s : State) (m : Sent) : (s.emit m).outbox = s.outbox := rfl
@[simp] theorem emit_writes (s : State) (m : Sent) : (s.emit m).writes = s.writes := rfl
@[simp] theorem emit_commands (s : State) (m : Sent) : (s.emit m).commands = s.commands := rfl
@[simp] theorem emit_axes (s : State) (m : Sent) : (s.emit m).axes = s.axes := rfl
@[simp] theorem emit_clusters (s : State) (m : Sent) : (s.emit m).clusters = s.clusters := rfl
@[simp] theorem emit_jobs (s : State) (m : Sent) : (s.emit m).jobs = s.jobs := rfl
@[simp] theorem emit_commit (s : State) (m : Sent) : (s.emit m).commit = s.commit := rfl
@[simp] theorem emit_standby (s : State) (m : Sent) : (s.emit m).standby = s.standby := rfl
@[simp] theorem emit_flipped (s : State) (m : Sent) : (s.emit m).flipped = s.flipped := rfl
@[simp] theorem emit_camRuns (s : State) (m : Sent) : (s.emit m).camRuns = s.camRuns := rfl
@[simp] theorem emit_latchIns (s : State) (m : Sent) : (s.emit m).latchIns = s.latchIns := rfl
@[simp] theorem emit_pins (s : State) (m : Sent) : (s.emit m).pins = s.pins := rfl
@[simp] theorem emit_sleeves (s : State) (m : Sent) : (s.emit m).sleeves = s.sleeves := rfl
@[simp] theorem emit_cells (s : State) (m : Sent) : (s.emit m).cells = s.cells := rfl
@[simp] theorem emit_rehousings (s : State) (m : Sent) : (s.emit m).rehousings = s.rehousings := rfl
@[simp] theorem emit_kernels (s : State) (m : Sent) : (s.emit m).kernels = s.kernels := rfl
@[simp] theorem emit_kernelSerial (s : State) (m : Sent) : (s.emit m).kernelSerial = s.kernelSerial := rfl
@[simp] theorem emit_plan (s : State) (m : Sent) : (s.emit m).plan = s.plan := rfl
@[simp] theorem emit_recorders (s : State) (m : Sent) : (s.emit m).recorders = s.recorders := rfl
@[simp] theorem emit_veil (s : State) (m : Sent) : (s.emit m).veil = s.veil := rfl
@[simp] theorem emit_field (s : State) (m : Sent) : (s.emit m).field = s.field := rfl
@[simp] theorem emit_can (s : State) (m : Sent) : (s.emit m).can = s.can := rfl
@[simp] theorem emit_nva (s : State) (m : Sent) : (s.emit m).nva = s.nva := rfl
@[simp] theorem emit_journal (s : State) (m : Sent) : (s.emit m).journal = s.journal := rfl
@[simp] theorem emit_rst (s : State) (m : Sent) : (s.emit m).rst = s.rst := rfl
@[simp] theorem emit_faults (s : State) (m : Sent) : (s.emit m).faults = s.faults := rfl
@[simp] theorem emit_freeCount (s : State) (m : Sent) : (s.emit m).freeCount = s.freeCount := rfl
@[simp] theorem emit_at_val (s : State) (m : Sent) (x y : Nat) : (s.emit m).val x y = s.val x y := rfl
@[simp] theorem emit_at_axis (s : State) (m : Sent) (x : Nat) : (s.emit m).axis x = s.axis x := rfl
@[simp] theorem emit_at_sleeve (s : State) (m : Sent) (x : Nat) : (s.emit m).sleeve x = s.sleeve x := rfl
@[simp] theorem emit_at_cell (s : State) (m : Sent) (x : Nat) : (s.emit m).cell x = s.cell x := rfl
@[simp] theorem emit_at_rec (s : State) (m : Sent) (x : Nat) : (s.emit m).rec' x = s.rec' x := rfl
@[simp] theorem emit_at_canOf (s : State) (m : Sent) (x : Nat) : (s.emit m).canOf x = s.canOf x := rfl
@[simp] theorem emit_at_fault (s : State) (m : Sent) (x : Nat) : (s.emit m).fault x = s.fault x := rfl
@[simp] theorem emit_at_cluster (s : State) (m : Sent) (x : Nat) : (s.emit m).cluster x = s.cluster x := rfl
@[simp] theorem emit_at_kernel (s : State) (m : Sent) (x : Nat) : (s.emit m).kernel x = s.kernel x := rfl
@[simp] theorem emit_at_slot (s : State) (m : Sent) (x : Nat) : (s.emit m).slot x = s.slot x := rfl
@[simp] theorem emit_at_pin (s : State) (m : Sent) (x : Nat) : (s.emit m).pin x = s.pin x := rfl
@[simp] theorem emit_at_group (s : State) (m : Sent) (x : Nat) : (s.emit m).group x = s.group x := rfl

/-! ### later -/

@[simp] theorem later_pending (s : State) (u code : Nat) (d : Bytes) : (s.later u code d).pending = s.pending := rfl
@[simp] theorem later_dict (s : State) (u code : Nat) (d : Bytes) : (s.later u code d).dict = s.dict := rfl
@[simp] theorem later_sent (s : State) (u code : Nat) (d : Bytes) : (s.later u code d).sent = s.sent := rfl
@[simp] theorem later_time (s : State) (u code : Nat) (d : Bytes) : (s.later u code d).time = s.time := rfl
@[simp] theorem later_beat (s : State) (u code : Nat) (d : Bytes) : (s.later u code d).beat = s.beat := rfl
@[simp] theorem later_slots (s : State) (u code : Nat) (d : Bytes) : (s.later u code d).slots = s.slots := rfl
@[simp] theorem later_authFails (s : State) (u code : Nat) (d : Bytes) : (s.later u code d).authFails = s.authFails := rfl
@[simp] theorem later_authBars (s : State) (u code : Nat) (d : Bytes) : (s.later u code d).authBars = s.authBars := rfl
@[simp] theorem later_keys (s : State) (u code : Nat) (d : Bytes) : (s.later u code d).keys = s.keys := rfl
@[simp] theorem later_ipv4 (s : State) (u code : Nat) (d : Bytes) : (s.later u code d).ipv4 = s.ipv4 := rfl
@[simp] theorem later_lfpPort (s : State) (u code : Nat) (d : Bytes) : (s.later u code d).lfpPort = s.lfpPort := rfl
@[simp] theorem later_netMask (s : State) (u code : Nat) (d : Bytes) : (s.later u code d).netMask = s.netMask := rfl
@[simp] theorem later_gateway (s : State) (u code : Nat) (d : Bytes) : (s.later u code d).gateway = s.gateway := rfl
@[simp] theorem later_linkLocal (s : State) (u code : Nat) (d : Bytes) : (s.later u code d).linkLocal = s.linkLocal := rfl
@[simp] theorem later_events (s : State) (u code : Nat) (d : Bytes) : (s.later u code d).events = s.events := rfl
@[simp] theorem later_eventSerial (s : State) (u code : Nat) (d : Bytes) : (s.later u code d).eventSerial = s.eventSerial := rfl
@[simp] theorem later_faceSeq (s : State) (u code : Nat) (d : Bytes) : (s.later u code d).faceSeq = s.faceSeq := rfl
@[simp] theorem later_lost (s : State) (u code : Nat) (d : Bytes) : (s.later u code d).lost = s.lost := rfl
@[simp] theorem later_writes (s : State) (u code : Nat) (d : Bytes) : (s.later u code d).writes = s.writes := rfl
@[simp] theorem later_commands (s : State) (u code : Nat) (d : Bytes) : (s.later u code d).commands = s.commands := rfl
@[simp] theorem later_axes (s : State) (u code : Nat) (d : Bytes) : (s.later u code d).axes = s.axes := rfl
@[simp] theorem later_clusters (s : State) (u code : Nat) (d : Bytes) : (s.later u code d).clusters = s.clusters := rfl
@[simp] theorem later_jobs (s : State) (u code : Nat) (d : Bytes) : (s.later u code d).jobs = s.jobs := rfl
@[simp] theorem later_commit (s : State) (u code : Nat) (d : Bytes) : (s.later u code d).commit = s.commit := rfl
@[simp] theorem later_standby (s : State) (u code : Nat) (d : Bytes) : (s.later u code d).standby = s.standby := rfl
@[simp] theorem later_flipped (s : State) (u code : Nat) (d : Bytes) : (s.later u code d).flipped = s.flipped := rfl
@[simp] theorem later_camRuns (s : State) (u code : Nat) (d : Bytes) : (s.later u code d).camRuns = s.camRuns := rfl
@[simp] theorem later_latchIns (s : State) (u code : Nat) (d : Bytes) : (s.later u code d).latchIns = s.latchIns := rfl
@[simp] theorem later_pins (s : State) (u code : Nat) (d : Bytes) : (s.later u code d).pins = s.pins := rfl
@[simp] theorem later_sleeves (s : State) (u code : Nat) (d : Bytes) : (s.later u code d).sleeves = s.sleeves := rfl
@[simp] theorem later_cells (s : State) (u code : Nat) (d : Bytes) : (s.later u code d).cells = s.cells := rfl
@[simp] theorem later_rehousings (s : State) (u code : Nat) (d : Bytes) : (s.later u code d).rehousings = s.rehousings := rfl
@[simp] theorem later_kernels (s : State) (u code : Nat) (d : Bytes) : (s.later u code d).kernels = s.kernels := rfl
@[simp] theorem later_kernelSerial (s : State) (u code : Nat) (d : Bytes) : (s.later u code d).kernelSerial = s.kernelSerial := rfl
@[simp] theorem later_plan (s : State) (u code : Nat) (d : Bytes) : (s.later u code d).plan = s.plan := rfl
@[simp] theorem later_recorders (s : State) (u code : Nat) (d : Bytes) : (s.later u code d).recorders = s.recorders := rfl
@[simp] theorem later_veil (s : State) (u code : Nat) (d : Bytes) : (s.later u code d).veil = s.veil := rfl
@[simp] theorem later_field (s : State) (u code : Nat) (d : Bytes) : (s.later u code d).field = s.field := rfl
@[simp] theorem later_can (s : State) (u code : Nat) (d : Bytes) : (s.later u code d).can = s.can := rfl
@[simp] theorem later_nva (s : State) (u code : Nat) (d : Bytes) : (s.later u code d).nva = s.nva := rfl
@[simp] theorem later_journal (s : State) (u code : Nat) (d : Bytes) : (s.later u code d).journal = s.journal := rfl
@[simp] theorem later_rst (s : State) (u code : Nat) (d : Bytes) : (s.later u code d).rst = s.rst := rfl
@[simp] theorem later_faults (s : State) (u code : Nat) (d : Bytes) : (s.later u code d).faults = s.faults := rfl
@[simp] theorem later_freeCount (s : State) (u code : Nat) (d : Bytes) : (s.later u code d).freeCount = s.freeCount := rfl
@[simp] theorem later_at_val (s : State) (u code : Nat) (d : Bytes) (x y : Nat) : (s.later u code d).val x y = s.val x y := rfl
@[simp] theorem later_at_axis (s : State) (u code : Nat) (d : Bytes) (x : Nat) : (s.later u code d).axis x = s.axis x := rfl
@[simp] theorem later_at_sleeve (s : State) (u code : Nat) (d : Bytes) (x : Nat) : (s.later u code d).sleeve x = s.sleeve x := rfl
@[simp] theorem later_at_cell (s : State) (u code : Nat) (d : Bytes) (x : Nat) : (s.later u code d).cell x = s.cell x := rfl
@[simp] theorem later_at_rec (s : State) (u code : Nat) (d : Bytes) (x : Nat) : (s.later u code d).rec' x = s.rec' x := rfl
@[simp] theorem later_at_canOf (s : State) (u code : Nat) (d : Bytes) (x : Nat) : (s.later u code d).canOf x = s.canOf x := rfl
@[simp] theorem later_at_fault (s : State) (u code : Nat) (d : Bytes) (x : Nat) : (s.later u code d).fault x = s.fault x := rfl
@[simp] theorem later_at_cluster (s : State) (u code : Nat) (d : Bytes) (x : Nat) : (s.later u code d).cluster x = s.cluster x := rfl
@[simp] theorem later_at_kernel (s : State) (u code : Nat) (d : Bytes) (x : Nat) : (s.later u code d).kernel x = s.kernel x := rfl
@[simp] theorem later_at_slot (s : State) (u code : Nat) (d : Bytes) (x : Nat) : (s.later u code d).slot x = s.slot x := rfl
@[simp] theorem later_at_pin (s : State) (u code : Nat) (d : Bytes) (x : Nat) : (s.later u code d).pin x = s.pin x := rfl
@[simp] theorem later_at_group (s : State) (u code : Nat) (d : Bytes) (x : Nat) : (s.later u code d).group x = s.group x := rfl

/-! ### journal -/

@[simp] theorem journal_pending (s : State) (rs : List JRecord) (act : TxnAct) : (journal s rs act).pending = s.pending := rfl
@[simp] theorem journal_dict (s : State) (rs : List JRecord) (act : TxnAct) : (journal s rs act).dict = s.dict := rfl
@[simp] theorem journal_sent (s : State) (rs : List JRecord) (act : TxnAct) : (journal s rs act).sent = s.sent := rfl
@[simp] theorem journal_time (s : State) (rs : List JRecord) (act : TxnAct) : (journal s rs act).time = s.time := rfl
@[simp] theorem journal_beat (s : State) (rs : List JRecord) (act : TxnAct) : (journal s rs act).beat = s.beat := rfl
@[simp] theorem journal_slots (s : State) (rs : List JRecord) (act : TxnAct) : (journal s rs act).slots = s.slots := rfl
@[simp] theorem journal_authFails (s : State) (rs : List JRecord) (act : TxnAct) : (journal s rs act).authFails = s.authFails := rfl
@[simp] theorem journal_authBars (s : State) (rs : List JRecord) (act : TxnAct) : (journal s rs act).authBars = s.authBars := rfl
@[simp] theorem journal_keys (s : State) (rs : List JRecord) (act : TxnAct) : (journal s rs act).keys = s.keys := rfl
@[simp] theorem journal_ipv4 (s : State) (rs : List JRecord) (act : TxnAct) : (journal s rs act).ipv4 = s.ipv4 := rfl
@[simp] theorem journal_lfpPort (s : State) (rs : List JRecord) (act : TxnAct) : (journal s rs act).lfpPort = s.lfpPort := rfl
@[simp] theorem journal_netMask (s : State) (rs : List JRecord) (act : TxnAct) : (journal s rs act).netMask = s.netMask := rfl
@[simp] theorem journal_gateway (s : State) (rs : List JRecord) (act : TxnAct) : (journal s rs act).gateway = s.gateway := rfl
@[simp] theorem journal_linkLocal (s : State) (rs : List JRecord) (act : TxnAct) : (journal s rs act).linkLocal = s.linkLocal := rfl
@[simp] theorem journal_events (s : State) (rs : List JRecord) (act : TxnAct) : (journal s rs act).events = s.events := rfl
@[simp] theorem journal_eventSerial (s : State) (rs : List JRecord) (act : TxnAct) : (journal s rs act).eventSerial = s.eventSerial := rfl
@[simp] theorem journal_faceSeq (s : State) (rs : List JRecord) (act : TxnAct) : (journal s rs act).faceSeq = s.faceSeq := rfl
@[simp] theorem journal_lost (s : State) (rs : List JRecord) (act : TxnAct) : (journal s rs act).lost = s.lost := rfl
@[simp] theorem journal_outbox (s : State) (rs : List JRecord) (act : TxnAct) : (journal s rs act).outbox = s.outbox := rfl
@[simp] theorem journal_writes (s : State) (rs : List JRecord) (act : TxnAct) : (journal s rs act).writes = s.writes := rfl
@[simp] theorem journal_commands (s : State) (rs : List JRecord) (act : TxnAct) : (journal s rs act).commands = s.commands := rfl
@[simp] theorem journal_axes (s : State) (rs : List JRecord) (act : TxnAct) : (journal s rs act).axes = s.axes := rfl
@[simp] theorem journal_clusters (s : State) (rs : List JRecord) (act : TxnAct) : (journal s rs act).clusters = s.clusters := rfl
@[simp] theorem journal_jobs (s : State) (rs : List JRecord) (act : TxnAct) : (journal s rs act).jobs = s.jobs := rfl
@[simp] theorem journal_commit (s : State) (rs : List JRecord) (act : TxnAct) : (journal s rs act).commit = s.commit := rfl
@[simp] theorem journal_standby (s : State) (rs : List JRecord) (act : TxnAct) : (journal s rs act).standby = s.standby := rfl
@[simp] theorem journal_flipped (s : State) (rs : List JRecord) (act : TxnAct) : (journal s rs act).flipped = s.flipped := rfl
@[simp] theorem journal_camRuns (s : State) (rs : List JRecord) (act : TxnAct) : (journal s rs act).camRuns = s.camRuns := rfl
@[simp] theorem journal_latchIns (s : State) (rs : List JRecord) (act : TxnAct) : (journal s rs act).latchIns = s.latchIns := rfl
@[simp] theorem journal_pins (s : State) (rs : List JRecord) (act : TxnAct) : (journal s rs act).pins = s.pins := rfl
@[simp] theorem journal_sleeves (s : State) (rs : List JRecord) (act : TxnAct) : (journal s rs act).sleeves = s.sleeves := rfl
@[simp] theorem journal_cells (s : State) (rs : List JRecord) (act : TxnAct) : (journal s rs act).cells = s.cells := rfl
@[simp] theorem journal_rehousings (s : State) (rs : List JRecord) (act : TxnAct) : (journal s rs act).rehousings = s.rehousings := rfl
@[simp] theorem journal_kernels (s : State) (rs : List JRecord) (act : TxnAct) : (journal s rs act).kernels = s.kernels := rfl
@[simp] theorem journal_kernelSerial (s : State) (rs : List JRecord) (act : TxnAct) : (journal s rs act).kernelSerial = s.kernelSerial := rfl
@[simp] theorem journal_plan (s : State) (rs : List JRecord) (act : TxnAct) : (journal s rs act).plan = s.plan := rfl
@[simp] theorem journal_recorders (s : State) (rs : List JRecord) (act : TxnAct) : (journal s rs act).recorders = s.recorders := rfl
@[simp] theorem journal_veil (s : State) (rs : List JRecord) (act : TxnAct) : (journal s rs act).veil = s.veil := rfl
@[simp] theorem journal_field (s : State) (rs : List JRecord) (act : TxnAct) : (journal s rs act).field = s.field := rfl
@[simp] theorem journal_can (s : State) (rs : List JRecord) (act : TxnAct) : (journal s rs act).can = s.can := rfl
@[simp] theorem journal_nva (s : State) (rs : List JRecord) (act : TxnAct) : (journal s rs act).nva = s.nva := rfl
@[simp] theorem journal_rst (s : State) (rs : List JRecord) (act : TxnAct) : (journal s rs act).rst = s.rst := rfl
@[simp] theorem journal_faults (s : State) (rs : List JRecord) (act : TxnAct) : (journal s rs act).faults = s.faults := rfl
@[simp] theorem journal_freeCount (s : State) (rs : List JRecord) (act : TxnAct) : (journal s rs act).freeCount = s.freeCount := rfl
@[simp] theorem journal_at_val (s : State) (rs : List JRecord) (act : TxnAct) (x y : Nat) : (journal s rs act).val x y = s.val x y := rfl
@[simp] theorem journal_at_axis (s : State) (rs : List JRecord) (act : TxnAct) (x : Nat) : (journal s rs act).axis x = s.axis x := rfl
@[simp] theorem journal_at_sleeve (s : State) (rs : List JRecord) (act : TxnAct) (x : Nat) : (journal s rs act).sleeve x = s.sleeve x := rfl
@[simp] theorem journal_at_cell (s : State) (rs : List JRecord) (act : TxnAct) (x : Nat) : (journal s rs act).cell x = s.cell x := rfl
@[simp] theorem journal_at_rec (s : State) (rs : List JRecord) (act : TxnAct) (x : Nat) : (journal s rs act).rec' x = s.rec' x := rfl
@[simp] theorem journal_at_canOf (s : State) (rs : List JRecord) (act : TxnAct) (x : Nat) : (journal s rs act).canOf x = s.canOf x := rfl
@[simp] theorem journal_at_fault (s : State) (rs : List JRecord) (act : TxnAct) (x : Nat) : (journal s rs act).fault x = s.fault x := rfl
@[simp] theorem journal_at_cluster (s : State) (rs : List JRecord) (act : TxnAct) (x : Nat) : (journal s rs act).cluster x = s.cluster x := rfl
@[simp] theorem journal_at_kernel (s : State) (rs : List JRecord) (act : TxnAct) (x : Nat) : (journal s rs act).kernel x = s.kernel x := rfl
@[simp] theorem journal_at_slot (s : State) (rs : List JRecord) (act : TxnAct) (x : Nat) : (journal s rs act).slot x = s.slot x := rfl
@[simp] theorem journal_at_pin (s : State) (rs : List JRecord) (act : TxnAct) (x : Nat) : (journal s rs act).pin x = s.pin x := rfl
@[simp] theorem journal_at_group (s : State) (rs : List JRecord) (act : TxnAct) (x : Nat) : (journal s rs act).group x = s.group x := rfl

/-! ### modJournal -/

@[simp] theorem modJournal_pending (s : State) (f : JournalS → JournalS) : (modJournal s f).pending = s.pending := rfl
@[simp] theorem modJournal_dict (s : State) (f : JournalS → JournalS) : (modJournal s f).dict = s.dict := rfl
@[simp] theorem modJournal_sent (s : State) (f : JournalS → JournalS) : (modJournal s f).sent = s.sent := rfl
@[simp] theorem modJournal_time (s : State) (f : JournalS → JournalS) : (modJournal s f).time = s.time := rfl
@[simp] theorem modJournal_beat (s : State) (f : JournalS → JournalS) : (modJournal s f).beat = s.beat := rfl
@[simp] theorem modJournal_slots (s : State) (f : JournalS → JournalS) : (modJournal s f).slots = s.slots := rfl
@[simp] theorem modJournal_authFails (s : State) (f : JournalS → JournalS) : (modJournal s f).authFails = s.authFails := rfl
@[simp] theorem modJournal_authBars (s : State) (f : JournalS → JournalS) : (modJournal s f).authBars = s.authBars := rfl
@[simp] theorem modJournal_keys (s : State) (f : JournalS → JournalS) : (modJournal s f).keys = s.keys := rfl
@[simp] theorem modJournal_ipv4 (s : State) (f : JournalS → JournalS) : (modJournal s f).ipv4 = s.ipv4 := rfl
@[simp] theorem modJournal_lfpPort (s : State) (f : JournalS → JournalS) : (modJournal s f).lfpPort = s.lfpPort := rfl
@[simp] theorem modJournal_netMask (s : State) (f : JournalS → JournalS) : (modJournal s f).netMask = s.netMask := rfl
@[simp] theorem modJournal_gateway (s : State) (f : JournalS → JournalS) : (modJournal s f).gateway = s.gateway := rfl
@[simp] theorem modJournal_linkLocal (s : State) (f : JournalS → JournalS) : (modJournal s f).linkLocal = s.linkLocal := rfl
@[simp] theorem modJournal_events (s : State) (f : JournalS → JournalS) : (modJournal s f).events = s.events := rfl
@[simp] theorem modJournal_eventSerial (s : State) (f : JournalS → JournalS) : (modJournal s f).eventSerial = s.eventSerial := rfl
@[simp] theorem modJournal_faceSeq (s : State) (f : JournalS → JournalS) : (modJournal s f).faceSeq = s.faceSeq := rfl
@[simp] theorem modJournal_lost (s : State) (f : JournalS → JournalS) : (modJournal s f).lost = s.lost := rfl
@[simp] theorem modJournal_outbox (s : State) (f : JournalS → JournalS) : (modJournal s f).outbox = s.outbox := rfl
@[simp] theorem modJournal_writes (s : State) (f : JournalS → JournalS) : (modJournal s f).writes = s.writes := rfl
@[simp] theorem modJournal_commands (s : State) (f : JournalS → JournalS) : (modJournal s f).commands = s.commands := rfl
@[simp] theorem modJournal_axes (s : State) (f : JournalS → JournalS) : (modJournal s f).axes = s.axes := rfl
@[simp] theorem modJournal_clusters (s : State) (f : JournalS → JournalS) : (modJournal s f).clusters = s.clusters := rfl
@[simp] theorem modJournal_jobs (s : State) (f : JournalS → JournalS) : (modJournal s f).jobs = s.jobs := rfl
@[simp] theorem modJournal_commit (s : State) (f : JournalS → JournalS) : (modJournal s f).commit = s.commit := rfl
@[simp] theorem modJournal_standby (s : State) (f : JournalS → JournalS) : (modJournal s f).standby = s.standby := rfl
@[simp] theorem modJournal_flipped (s : State) (f : JournalS → JournalS) : (modJournal s f).flipped = s.flipped := rfl
@[simp] theorem modJournal_camRuns (s : State) (f : JournalS → JournalS) : (modJournal s f).camRuns = s.camRuns := rfl
@[simp] theorem modJournal_latchIns (s : State) (f : JournalS → JournalS) : (modJournal s f).latchIns = s.latchIns := rfl
@[simp] theorem modJournal_pins (s : State) (f : JournalS → JournalS) : (modJournal s f).pins = s.pins := rfl
@[simp] theorem modJournal_sleeves (s : State) (f : JournalS → JournalS) : (modJournal s f).sleeves = s.sleeves := rfl
@[simp] theorem modJournal_cells (s : State) (f : JournalS → JournalS) : (modJournal s f).cells = s.cells := rfl
@[simp] theorem modJournal_rehousings (s : State) (f : JournalS → JournalS) : (modJournal s f).rehousings = s.rehousings := rfl
@[simp] theorem modJournal_kernels (s : State) (f : JournalS → JournalS) : (modJournal s f).kernels = s.kernels := rfl
@[simp] theorem modJournal_kernelSerial (s : State) (f : JournalS → JournalS) : (modJournal s f).kernelSerial = s.kernelSerial := rfl
@[simp] theorem modJournal_plan (s : State) (f : JournalS → JournalS) : (modJournal s f).plan = s.plan := rfl
@[simp] theorem modJournal_recorders (s : State) (f : JournalS → JournalS) : (modJournal s f).recorders = s.recorders := rfl
@[simp] theorem modJournal_veil (s : State) (f : JournalS → JournalS) : (modJournal s f).veil = s.veil := rfl
@[simp] theorem modJournal_field (s : State) (f : JournalS → JournalS) : (modJournal s f).field = s.field := rfl
@[simp] theorem modJournal_can (s : State) (f : JournalS → JournalS) : (modJournal s f).can = s.can := rfl
@[simp] theorem modJournal_nva (s : State) (f : JournalS → JournalS) : (modJournal s f).nva = s.nva := rfl
@[simp] theorem modJournal_rst (s : State) (f : JournalS → JournalS) : (modJournal s f).rst = s.rst := rfl
@[simp] theorem modJournal_faults (s : State) (f : JournalS → JournalS) : (modJournal s f).faults = s.faults := rfl
@[simp] theorem modJournal_freeCount (s : State) (f : JournalS → JournalS) : (modJournal s f).freeCount = s.freeCount := rfl
@[simp] theorem modJournal_at_val (s : State) (f : JournalS → JournalS) (x y : Nat) : (modJournal s f).val x y = s.val x y := rfl
@[simp] theorem modJournal_at_axis (s : State) (f : JournalS → JournalS) (x : Nat) : (modJournal s f).axis x = s.axis x := rfl
@[simp] theorem modJournal_at_sleeve (s : State) (f : JournalS → JournalS) (x : Nat) : (modJournal s f).sleeve x = s.sleeve x := rfl
@[simp] theorem modJournal_at_cell (s : State) (f : JournalS → JournalS) (x : Nat) : (modJournal s f).cell x = s.cell x := rfl
@[simp] theorem modJournal_at_rec (s : State) (f : JournalS → JournalS) (x : Nat) : (modJournal s f).rec' x = s.rec' x := rfl
@[simp] theorem modJournal_at_canOf (s : State) (f : JournalS → JournalS) (x : Nat) : (modJournal s f).canOf x = s.canOf x := rfl
@[simp] theorem modJournal_at_fault (s : State) (f : JournalS → JournalS) (x : Nat) : (modJournal s f).fault x = s.fault x := rfl
@[simp] theorem modJournal_at_cluster (s : State) (f : JournalS → JournalS) (x : Nat) : (modJournal s f).cluster x = s.cluster x := rfl
@[simp] theorem modJournal_at_kernel (s : State) (f : JournalS → JournalS) (x : Nat) : (modJournal s f).kernel x = s.kernel x := rfl
@[simp] theorem modJournal_at_slot (s : State) (f : JournalS → JournalS) (x : Nat) : (modJournal s f).slot x = s.slot x := rfl
@[simp] theorem modJournal_at_pin (s : State) (f : JournalS → JournalS) (x : Nat) : (modJournal s f).pin x = s.pin x := rfl
@[simp] theorem modJournal_at_group (s : State) (f : JournalS → JournalS) (x : Nat) : (modJournal s f).group x = s.group x := rfl

/-! ### modNva -/

@[simp] theorem modNva_pending (s : State) (f : Nva → Nva) : (modNva s f).pending = s.pending := rfl
@[simp] theorem modNva_dict (s : State) (f : Nva → Nva) : (modNva s f).dict = s.dict := rfl
@[simp] theorem modNva_sent (s : State) (f : Nva → Nva) : (modNva s f).sent = s.sent := rfl
@[simp] theorem modNva_time (s : State) (f : Nva → Nva) : (modNva s f).time = s.time := rfl
@[simp] theorem modNva_beat (s : State) (f : Nva → Nva) : (modNva s f).beat = s.beat := rfl
@[simp] theorem modNva_slots (s : State) (f : Nva → Nva) : (modNva s f).slots = s.slots := rfl
@[simp] theorem modNva_authFails (s : State) (f : Nva → Nva) : (modNva s f).authFails = s.authFails := rfl
@[simp] theorem modNva_authBars (s : State) (f : Nva → Nva) : (modNva s f).authBars = s.authBars := rfl
@[simp] theorem modNva_keys (s : State) (f : Nva → Nva) : (modNva s f).keys = s.keys := rfl
@[simp] theorem modNva_ipv4 (s : State) (f : Nva → Nva) : (modNva s f).ipv4 = s.ipv4 := rfl
@[simp] theorem modNva_lfpPort (s : State) (f : Nva → Nva) : (modNva s f).lfpPort = s.lfpPort := rfl
@[simp] theorem modNva_netMask (s : State) (f : Nva → Nva) : (modNva s f).netMask = s.netMask := rfl
@[simp] theorem modNva_gateway (s : State) (f : Nva → Nva) : (modNva s f).gateway = s.gateway := rfl
@[simp] theorem modNva_linkLocal (s : State) (f : Nva → Nva) : (modNva s f).linkLocal = s.linkLocal := rfl
@[simp] theorem modNva_events (s : State) (f : Nva → Nva) : (modNva s f).events = s.events := rfl
@[simp] theorem modNva_eventSerial (s : State) (f : Nva → Nva) : (modNva s f).eventSerial = s.eventSerial := rfl
@[simp] theorem modNva_faceSeq (s : State) (f : Nva → Nva) : (modNva s f).faceSeq = s.faceSeq := rfl
@[simp] theorem modNva_lost (s : State) (f : Nva → Nva) : (modNva s f).lost = s.lost := rfl
@[simp] theorem modNva_outbox (s : State) (f : Nva → Nva) : (modNva s f).outbox = s.outbox := rfl
@[simp] theorem modNva_writes (s : State) (f : Nva → Nva) : (modNva s f).writes = s.writes := rfl
@[simp] theorem modNva_commands (s : State) (f : Nva → Nva) : (modNva s f).commands = s.commands := rfl
@[simp] theorem modNva_axes (s : State) (f : Nva → Nva) : (modNva s f).axes = s.axes := rfl
@[simp] theorem modNva_clusters (s : State) (f : Nva → Nva) : (modNva s f).clusters = s.clusters := rfl
@[simp] theorem modNva_jobs (s : State) (f : Nva → Nva) : (modNva s f).jobs = s.jobs := rfl
@[simp] theorem modNva_commit (s : State) (f : Nva → Nva) : (modNva s f).commit = s.commit := rfl
@[simp] theorem modNva_standby (s : State) (f : Nva → Nva) : (modNva s f).standby = s.standby := rfl
@[simp] theorem modNva_flipped (s : State) (f : Nva → Nva) : (modNva s f).flipped = s.flipped := rfl
@[simp] theorem modNva_camRuns (s : State) (f : Nva → Nva) : (modNva s f).camRuns = s.camRuns := rfl
@[simp] theorem modNva_latchIns (s : State) (f : Nva → Nva) : (modNva s f).latchIns = s.latchIns := rfl
@[simp] theorem modNva_pins (s : State) (f : Nva → Nva) : (modNva s f).pins = s.pins := rfl
@[simp] theorem modNva_sleeves (s : State) (f : Nva → Nva) : (modNva s f).sleeves = s.sleeves := rfl
@[simp] theorem modNva_cells (s : State) (f : Nva → Nva) : (modNva s f).cells = s.cells := rfl
@[simp] theorem modNva_rehousings (s : State) (f : Nva → Nva) : (modNva s f).rehousings = s.rehousings := rfl
@[simp] theorem modNva_kernels (s : State) (f : Nva → Nva) : (modNva s f).kernels = s.kernels := rfl
@[simp] theorem modNva_kernelSerial (s : State) (f : Nva → Nva) : (modNva s f).kernelSerial = s.kernelSerial := rfl
@[simp] theorem modNva_plan (s : State) (f : Nva → Nva) : (modNva s f).plan = s.plan := rfl
@[simp] theorem modNva_recorders (s : State) (f : Nva → Nva) : (modNva s f).recorders = s.recorders := rfl
@[simp] theorem modNva_veil (s : State) (f : Nva → Nva) : (modNva s f).veil = s.veil := rfl
@[simp] theorem modNva_field (s : State) (f : Nva → Nva) : (modNva s f).field = s.field := rfl
@[simp] theorem modNva_can (s : State) (f : Nva → Nva) : (modNva s f).can = s.can := rfl
@[simp] theorem modNva_journal (s : State) (f : Nva → Nva) : (modNva s f).journal = s.journal := rfl
@[simp] theorem modNva_rst (s : State) (f : Nva → Nva) : (modNva s f).rst = s.rst := rfl
@[simp] theorem modNva_faults (s : State) (f : Nva → Nva) : (modNva s f).faults = s.faults := rfl
@[simp] theorem modNva_freeCount (s : State) (f : Nva → Nva) : (modNva s f).freeCount = s.freeCount := rfl
@[simp] theorem modNva_at_val (s : State) (f : Nva → Nva) (x y : Nat) : (modNva s f).val x y = s.val x y := rfl
@[simp] theorem modNva_at_axis (s : State) (f : Nva → Nva) (x : Nat) : (modNva s f).axis x = s.axis x := rfl
@[simp] theorem modNva_at_sleeve (s : State) (f : Nva → Nva) (x : Nat) : (modNva s f).sleeve x = s.sleeve x := rfl
@[simp] theorem modNva_at_cell (s : State) (f : Nva → Nva) (x : Nat) : (modNva s f).cell x = s.cell x := rfl
@[simp] theorem modNva_at_rec (s : State) (f : Nva → Nva) (x : Nat) : (modNva s f).rec' x = s.rec' x := rfl
@[simp] theorem modNva_at_canOf (s : State) (f : Nva → Nva) (x : Nat) : (modNva s f).canOf x = s.canOf x := rfl
@[simp] theorem modNva_at_fault (s : State) (f : Nva → Nva) (x : Nat) : (modNva s f).fault x = s.fault x := rfl
@[simp] theorem modNva_at_cluster (s : State) (f : Nva → Nva) (x : Nat) : (modNva s f).cluster x = s.cluster x := rfl
@[simp] theorem modNva_at_kernel (s : State) (f : Nva → Nva) (x : Nat) : (modNva s f).kernel x = s.kernel x := rfl
@[simp] theorem modNva_at_slot (s : State) (f : Nva → Nva) (x : Nat) : (modNva s f).slot x = s.slot x := rfl
@[simp] theorem modNva_at_pin (s : State) (f : Nva → Nva) (x : Nat) : (modNva s f).pin x = s.pin x := rfl
@[simp] theorem modNva_at_group (s : State) (f : Nva → Nva) (x : Nat) : (modNva s f).group x = s.group x := rfl

/-! ### modField -/

@[simp] theorem modField_pending (s : State) (f : FieldS → FieldS) : (modField s f).pending = s.pending := rfl
@[simp] theorem modField_dict (s : State) (f : FieldS → FieldS) : (modField s f).dict = s.dict := rfl
@[simp] theorem modField_sent (s : State) (f : FieldS → FieldS) : (modField s f).sent = s.sent := rfl
@[simp] theorem modField_time (s : State) (f : FieldS → FieldS) : (modField s f).time = s.time := rfl
@[simp] theorem modField_beat (s : State) (f : FieldS → FieldS) : (modField s f).beat = s.beat := rfl
@[simp] theorem modField_slots (s : State) (f : FieldS → FieldS) : (modField s f).slots = s.slots := rfl
@[simp] theorem modField_authFails (s : State) (f : FieldS → FieldS) : (modField s f).authFails = s.authFails := rfl
@[simp] theorem modField_authBars (s : State) (f : FieldS → FieldS) : (modField s f).authBars = s.authBars := rfl
@[simp] theorem modField_keys (s : State) (f : FieldS → FieldS) : (modField s f).keys = s.keys := rfl
@[simp] theorem modField_ipv4 (s : State) (f : FieldS → FieldS) : (modField s f).ipv4 = s.ipv4 := rfl
@[simp] theorem modField_lfpPort (s : State) (f : FieldS → FieldS) : (modField s f).lfpPort = s.lfpPort := rfl
@[simp] theorem modField_netMask (s : State) (f : FieldS → FieldS) : (modField s f).netMask = s.netMask := rfl
@[simp] theorem modField_gateway (s : State) (f : FieldS → FieldS) : (modField s f).gateway = s.gateway := rfl
@[simp] theorem modField_linkLocal (s : State) (f : FieldS → FieldS) : (modField s f).linkLocal = s.linkLocal := rfl
@[simp] theorem modField_events (s : State) (f : FieldS → FieldS) : (modField s f).events = s.events := rfl
@[simp] theorem modField_eventSerial (s : State) (f : FieldS → FieldS) : (modField s f).eventSerial = s.eventSerial := rfl
@[simp] theorem modField_faceSeq (s : State) (f : FieldS → FieldS) : (modField s f).faceSeq = s.faceSeq := rfl
@[simp] theorem modField_lost (s : State) (f : FieldS → FieldS) : (modField s f).lost = s.lost := rfl
@[simp] theorem modField_outbox (s : State) (f : FieldS → FieldS) : (modField s f).outbox = s.outbox := rfl
@[simp] theorem modField_writes (s : State) (f : FieldS → FieldS) : (modField s f).writes = s.writes := rfl
@[simp] theorem modField_commands (s : State) (f : FieldS → FieldS) : (modField s f).commands = s.commands := rfl
@[simp] theorem modField_axes (s : State) (f : FieldS → FieldS) : (modField s f).axes = s.axes := rfl
@[simp] theorem modField_clusters (s : State) (f : FieldS → FieldS) : (modField s f).clusters = s.clusters := rfl
@[simp] theorem modField_jobs (s : State) (f : FieldS → FieldS) : (modField s f).jobs = s.jobs := rfl
@[simp] theorem modField_commit (s : State) (f : FieldS → FieldS) : (modField s f).commit = s.commit := rfl
@[simp] theorem modField_standby (s : State) (f : FieldS → FieldS) : (modField s f).standby = s.standby := rfl
@[simp] theorem modField_flipped (s : State) (f : FieldS → FieldS) : (modField s f).flipped = s.flipped := rfl
@[simp] theorem modField_camRuns (s : State) (f : FieldS → FieldS) : (modField s f).camRuns = s.camRuns := rfl
@[simp] theorem modField_latchIns (s : State) (f : FieldS → FieldS) : (modField s f).latchIns = s.latchIns := rfl
@[simp] theorem modField_pins (s : State) (f : FieldS → FieldS) : (modField s f).pins = s.pins := rfl
@[simp] theorem modField_sleeves (s : State) (f : FieldS → FieldS) : (modField s f).sleeves = s.sleeves := rfl
@[simp] theorem modField_cells (s : State) (f : FieldS → FieldS) : (modField s f).cells = s.cells := rfl
@[simp] theorem modField_rehousings (s : State) (f : FieldS → FieldS) : (modField s f).rehousings = s.rehousings := rfl
@[simp] theorem modField_kernels (s : State) (f : FieldS → FieldS) : (modField s f).kernels = s.kernels := rfl
@[simp] theorem modField_kernelSerial (s : State) (f : FieldS → FieldS) : (modField s f).kernelSerial = s.kernelSerial := rfl
@[simp] theorem modField_plan (s : State) (f : FieldS → FieldS) : (modField s f).plan = s.plan := rfl
@[simp] theorem modField_recorders (s : State) (f : FieldS → FieldS) : (modField s f).recorders = s.recorders := rfl
@[simp] theorem modField_veil (s : State) (f : FieldS → FieldS) : (modField s f).veil = s.veil := rfl
@[simp] theorem modField_can (s : State) (f : FieldS → FieldS) : (modField s f).can = s.can := rfl
@[simp] theorem modField_nva (s : State) (f : FieldS → FieldS) : (modField s f).nva = s.nva := rfl
@[simp] theorem modField_journal (s : State) (f : FieldS → FieldS) : (modField s f).journal = s.journal := rfl
@[simp] theorem modField_rst (s : State) (f : FieldS → FieldS) : (modField s f).rst = s.rst := rfl
@[simp] theorem modField_faults (s : State) (f : FieldS → FieldS) : (modField s f).faults = s.faults := rfl
@[simp] theorem modField_freeCount (s : State) (f : FieldS → FieldS) : (modField s f).freeCount = s.freeCount := rfl
@[simp] theorem modField_at_val (s : State) (f : FieldS → FieldS) (x y : Nat) : (modField s f).val x y = s.val x y := rfl
@[simp] theorem modField_at_axis (s : State) (f : FieldS → FieldS) (x : Nat) : (modField s f).axis x = s.axis x := rfl
@[simp] theorem modField_at_sleeve (s : State) (f : FieldS → FieldS) (x : Nat) : (modField s f).sleeve x = s.sleeve x := rfl
@[simp] theorem modField_at_cell (s : State) (f : FieldS → FieldS) (x : Nat) : (modField s f).cell x = s.cell x := rfl
@[simp] theorem modField_at_rec (s : State) (f : FieldS → FieldS) (x : Nat) : (modField s f).rec' x = s.rec' x := rfl
@[simp] theorem modField_at_canOf (s : State) (f : FieldS → FieldS) (x : Nat) : (modField s f).canOf x = s.canOf x := rfl
@[simp] theorem modField_at_fault (s : State) (f : FieldS → FieldS) (x : Nat) : (modField s f).fault x = s.fault x := rfl
@[simp] theorem modField_at_cluster (s : State) (f : FieldS → FieldS) (x : Nat) : (modField s f).cluster x = s.cluster x := rfl
@[simp] theorem modField_at_kernel (s : State) (f : FieldS → FieldS) (x : Nat) : (modField s f).kernel x = s.kernel x := rfl
@[simp] theorem modField_at_slot (s : State) (f : FieldS → FieldS) (x : Nat) : (modField s f).slot x = s.slot x := rfl
@[simp] theorem modField_at_pin (s : State) (f : FieldS → FieldS) (x : Nat) : (modField s f).pin x = s.pin x := rfl
@[simp] theorem modField_at_group (s : State) (f : FieldS → FieldS) (x : Nat) : (modField s f).group x = s.group x := rfl

/-! ### modRst -/

@[simp] theorem modRst_pending (s : State) (f : ResetS → ResetS) : (modRst s f).pending = s.pending := rfl
@[simp] theorem modRst_dict (s : State) (f : ResetS → ResetS) : (modRst s f).dict = s.dict := rfl
@[simp] theorem modRst_sent (s : State) (f : ResetS → ResetS) : (modRst s f).sent = s.sent := rfl
@[simp] theorem modRst_time (s : State) (f : ResetS → ResetS) : (modRst s f).time = s.time := rfl
@[simp] theorem modRst_beat (s : State) (f : ResetS → ResetS) : (modRst s f).beat = s.beat := rfl
@[simp] theorem modRst_slots (s : State) (f : ResetS → ResetS) : (modRst s f).slots = s.slots := rfl
@[simp] theorem modRst_authFails (s : State) (f : ResetS → ResetS) : (modRst s f).authFails = s.authFails := rfl
@[simp] theorem modRst_authBars (s : State) (f : ResetS → ResetS) : (modRst s f).authBars = s.authBars := rfl
@[simp] theorem modRst_keys (s : State) (f : ResetS → ResetS) : (modRst s f).keys = s.keys := rfl
@[simp] theorem modRst_ipv4 (s : State) (f : ResetS → ResetS) : (modRst s f).ipv4 = s.ipv4 := rfl
@[simp] theorem modRst_lfpPort (s : State) (f : ResetS → ResetS) : (modRst s f).lfpPort = s.lfpPort := rfl
@[simp] theorem modRst_netMask (s : State) (f : ResetS → ResetS) : (modRst s f).netMask = s.netMask := rfl
@[simp] theorem modRst_gateway (s : State) (f : ResetS → ResetS) : (modRst s f).gateway = s.gateway := rfl
@[simp] theorem modRst_linkLocal (s : State) (f : ResetS → ResetS) : (modRst s f).linkLocal = s.linkLocal := rfl
@[simp] theorem modRst_events (s : State) (f : ResetS → ResetS) : (modRst s f).events = s.events := rfl
@[simp] theorem modRst_eventSerial (s : State) (f : ResetS → ResetS) : (modRst s f).eventSerial = s.eventSerial := rfl
@[simp] theorem modRst_faceSeq (s : State) (f : ResetS → ResetS) : (modRst s f).faceSeq = s.faceSeq := rfl
@[simp] theorem modRst_lost (s : State) (f : ResetS → ResetS) : (modRst s f).lost = s.lost := rfl
@[simp] theorem modRst_outbox (s : State) (f : ResetS → ResetS) : (modRst s f).outbox = s.outbox := rfl
@[simp] theorem modRst_writes (s : State) (f : ResetS → ResetS) : (modRst s f).writes = s.writes := rfl
@[simp] theorem modRst_commands (s : State) (f : ResetS → ResetS) : (modRst s f).commands = s.commands := rfl
@[simp] theorem modRst_axes (s : State) (f : ResetS → ResetS) : (modRst s f).axes = s.axes := rfl
@[simp] theorem modRst_clusters (s : State) (f : ResetS → ResetS) : (modRst s f).clusters = s.clusters := rfl
@[simp] theorem modRst_jobs (s : State) (f : ResetS → ResetS) : (modRst s f).jobs = s.jobs := rfl
@[simp] theorem modRst_commit (s : State) (f : ResetS → ResetS) : (modRst s f).commit = s.commit := rfl
@[simp] theorem modRst_standby (s : State) (f : ResetS → ResetS) : (modRst s f).standby = s.standby := rfl
@[simp] theorem modRst_flipped (s : State) (f : ResetS → ResetS) : (modRst s f).flipped = s.flipped := rfl
@[simp] theorem modRst_camRuns (s : State) (f : ResetS → ResetS) : (modRst s f).camRuns = s.camRuns := rfl
@[simp] theorem modRst_latchIns (s : State) (f : ResetS → ResetS) : (modRst s f).latchIns = s.latchIns := rfl
@[simp] theorem modRst_pins (s : State) (f : ResetS → ResetS) : (modRst s f).pins = s.pins := rfl
@[simp] theorem modRst_sleeves (s : State) (f : ResetS → ResetS) : (modRst s f).sleeves = s.sleeves := rfl
@[simp] theorem modRst_cells (s : State) (f : ResetS → ResetS) : (modRst s f).cells = s.cells := rfl
@[simp] theorem modRst_rehousings (s : State) (f : ResetS → ResetS) : (modRst s f).rehousings = s.rehousings := rfl
@[simp] theorem modRst_kernels (s : State) (f : ResetS → ResetS) : (modRst s f).kernels = s.kernels := rfl
@[simp] theorem modRst_kernelSerial (s : State) (f : ResetS → ResetS) : (modRst s f).kernelSerial = s.kernelSerial := rfl
@[simp] theorem modRst_plan (s : State) (f : ResetS → ResetS) : (modRst s f).plan = s.plan := rfl
@[simp] theorem modRst_recorders (s : State) (f : ResetS → ResetS) : (modRst s f).recorders = s.recorders := rfl
@[simp] theorem modRst_veil (s : State) (f : ResetS → ResetS) : (modRst s f).veil = s.veil := rfl
@[simp] theorem modRst_field (s : State) (f : ResetS → ResetS) : (modRst s f).field = s.field := rfl
@[simp] theorem modRst_can (s : State) (f : ResetS → ResetS) : (modRst s f).can = s.can := rfl
@[simp] theorem modRst_nva (s : State) (f : ResetS → ResetS) : (modRst s f).nva = s.nva := rfl
@[simp] theorem modRst_journal (s : State) (f : ResetS → ResetS) : (modRst s f).journal = s.journal := rfl
@[simp] theorem modRst_faults (s : State) (f : ResetS → ResetS) : (modRst s f).faults = s.faults := rfl
@[simp] theorem modRst_freeCount (s : State) (f : ResetS → ResetS) : (modRst s f).freeCount = s.freeCount := rfl
@[simp] theorem modRst_at_val (s : State) (f : ResetS → ResetS) (x y : Nat) : (modRst s f).val x y = s.val x y := rfl
@[simp] theorem modRst_at_axis (s : State) (f : ResetS → ResetS) (x : Nat) : (modRst s f).axis x = s.axis x := rfl
@[simp] theorem modRst_at_sleeve (s : State) (f : ResetS → ResetS) (x : Nat) : (modRst s f).sleeve x = s.sleeve x := rfl
@[simp] theorem modRst_at_cell (s : State) (f : ResetS → ResetS) (x : Nat) : (modRst s f).cell x = s.cell x := rfl
@[simp] theorem modRst_at_rec (s : State) (f : ResetS → ResetS) (x : Nat) : (modRst s f).rec' x = s.rec' x := rfl
@[simp] theorem modRst_at_canOf (s : State) (f : ResetS → ResetS) (x : Nat) : (modRst s f).canOf x = s.canOf x := rfl
@[simp] theorem modRst_at_fault (s : State) (f : ResetS → ResetS) (x : Nat) : (modRst s f).fault x = s.fault x := rfl
@[simp] theorem modRst_at_cluster (s : State) (f : ResetS → ResetS) (x : Nat) : (modRst s f).cluster x = s.cluster x := rfl
@[simp] theorem modRst_at_kernel (s : State) (f : ResetS → ResetS) (x : Nat) : (modRst s f).kernel x = s.kernel x := rfl
@[simp] theorem modRst_at_slot (s : State) (f : ResetS → ResetS) (x : Nat) : (modRst s f).slot x = s.slot x := rfl
@[simp] theorem modRst_at_pin (s : State) (f : ResetS → ResetS) (x : Nat) : (modRst s f).pin x = s.pin x := rfl
@[simp] theorem modRst_at_group (s : State) (f : ResetS → ResetS) (x : Nat) : (modRst s f).group x = s.group x := rfl

/-! ### modTime -/

@[simp] theorem modTime_pending (s : State) (f : TimeS → TimeS) : (modTime s f).pending = s.pending := rfl
@[simp] theorem modTime_dict (s : State) (f : TimeS → TimeS) : (modTime s f).dict = s.dict := rfl
@[simp] theorem modTime_sent (s : State) (f : TimeS → TimeS) : (modTime s f).sent = s.sent := rfl
@[simp] theorem modTime_beat (s : State) (f : TimeS → TimeS) : (modTime s f).beat = s.beat := rfl
@[simp] theorem modTime_slots (s : State) (f : TimeS → TimeS) : (modTime s f).slots = s.slots := rfl
@[simp] theorem modTime_authFails (s : State) (f : TimeS → TimeS) : (modTime s f).authFails = s.authFails := rfl
@[simp] theorem modTime_authBars (s : State) (f : TimeS → TimeS) : (modTime s f).authBars = s.authBars := rfl
@[simp] theorem modTime_keys (s : State) (f : TimeS → TimeS) : (modTime s f).keys = s.keys := rfl
@[simp] theorem modTime_ipv4 (s : State) (f : TimeS → TimeS) : (modTime s f).ipv4 = s.ipv4 := rfl
@[simp] theorem modTime_lfpPort (s : State) (f : TimeS → TimeS) : (modTime s f).lfpPort = s.lfpPort := rfl
@[simp] theorem modTime_netMask (s : State) (f : TimeS → TimeS) : (modTime s f).netMask = s.netMask := rfl
@[simp] theorem modTime_gateway (s : State) (f : TimeS → TimeS) : (modTime s f).gateway = s.gateway := rfl
@[simp] theorem modTime_linkLocal (s : State) (f : TimeS → TimeS) : (modTime s f).linkLocal = s.linkLocal := rfl
@[simp] theorem modTime_events (s : State) (f : TimeS → TimeS) : (modTime s f).events = s.events := rfl
@[simp] theorem modTime_eventSerial (s : State) (f : TimeS → TimeS) : (modTime s f).eventSerial = s.eventSerial := rfl
@[simp] theorem modTime_faceSeq (s : State) (f : TimeS → TimeS) : (modTime s f).faceSeq = s.faceSeq := rfl
@[simp] theorem modTime_lost (s : State) (f : TimeS → TimeS) : (modTime s f).lost = s.lost := rfl
@[simp] theorem modTime_outbox (s : State) (f : TimeS → TimeS) : (modTime s f).outbox = s.outbox := rfl
@[simp] theorem modTime_writes (s : State) (f : TimeS → TimeS) : (modTime s f).writes = s.writes := rfl
@[simp] theorem modTime_commands (s : State) (f : TimeS → TimeS) : (modTime s f).commands = s.commands := rfl
@[simp] theorem modTime_axes (s : State) (f : TimeS → TimeS) : (modTime s f).axes = s.axes := rfl
@[simp] theorem modTime_clusters (s : State) (f : TimeS → TimeS) : (modTime s f).clusters = s.clusters := rfl
@[simp] theorem modTime_jobs (s : State) (f : TimeS → TimeS) : (modTime s f).jobs = s.jobs := rfl
@[simp] theorem modTime_commit (s : State) (f : TimeS → TimeS) : (modTime s f).commit = s.commit := rfl
@[simp] theorem modTime_standby (s : State) (f : TimeS → TimeS) : (modTime s f).standby = s.standby := rfl
@[simp] theorem modTime_flipped (s : State) (f : TimeS → TimeS) : (modTime s f).flipped = s.flipped := rfl
@[simp] theorem modTime_camRuns (s : State) (f : TimeS → TimeS) : (modTime s f).camRuns = s.camRuns := rfl
@[simp] theorem modTime_latchIns (s : State) (f : TimeS → TimeS) : (modTime s f).latchIns = s.latchIns := rfl
@[simp] theorem modTime_pins (s : State) (f : TimeS → TimeS) : (modTime s f).pins = s.pins := rfl
@[simp] theorem modTime_sleeves (s : State) (f : TimeS → TimeS) : (modTime s f).sleeves = s.sleeves := rfl
@[simp] theorem modTime_cells (s : State) (f : TimeS → TimeS) : (modTime s f).cells = s.cells := rfl
@[simp] theorem modTime_rehousings (s : State) (f : TimeS → TimeS) : (modTime s f).rehousings = s.rehousings := rfl
@[simp] theorem modTime_kernels (s : State) (f : TimeS → TimeS) : (modTime s f).kernels = s.kernels := rfl
@[simp] theorem modTime_kernelSerial (s : State) (f : TimeS → TimeS) : (modTime s f).kernelSerial = s.kernelSerial := rfl
@[simp] theorem modTime_plan (s : State) (f : TimeS → TimeS) : (modTime s f).plan = s.plan := rfl
@[simp] theorem modTime_recorders (s : State) (f : TimeS → TimeS) : (modTime s f).recorders = s.recorders := rfl
@[simp] theorem modTime_veil (s : State) (f : TimeS → TimeS) : (modTime s f).veil = s.veil := rfl
@[simp] theorem modTime_field (s : State) (f : TimeS → TimeS) : (modTime s f).field = s.field := rfl
@[simp] theorem modTime_can (s : State) (f : TimeS → TimeS) : (modTime s f).can = s.can := rfl
@[simp] theorem modTime_nva (s : State) (f : TimeS → TimeS) : (modTime s f).nva = s.nva := rfl
@[simp] theorem modTime_journal (s : State) (f : TimeS → TimeS) : (modTime s f).journal = s.journal := rfl
@[simp] theorem modTime_rst (s : State) (f : TimeS → TimeS) : (modTime s f).rst = s.rst := rfl
@[simp] theorem modTime_faults (s : State) (f : TimeS → TimeS) : (modTime s f).faults = s.faults := rfl
@[simp] theorem modTime_freeCount (s : State) (f : TimeS → TimeS) : (modTime s f).freeCount = s.freeCount := rfl
@[simp] theorem modTime_at_val (s : State) (f : TimeS → TimeS) (x y : Nat) : (modTime s f).val x y = s.val x y := rfl
@[simp] theorem modTime_at_axis (s : State) (f : TimeS → TimeS) (x : Nat) : (modTime s f).axis x = s.axis x := rfl
@[simp] theorem modTime_at_sleeve (s : State) (f : TimeS → TimeS) (x : Nat) : (modTime s f).sleeve x = s.sleeve x := rfl
@[simp] theorem modTime_at_cell (s : State) (f : TimeS → TimeS) (x : Nat) : (modTime s f).cell x = s.cell x := rfl
@[simp] theorem modTime_at_rec (s : State) (f : TimeS → TimeS) (x : Nat) : (modTime s f).rec' x = s.rec' x := rfl
@[simp] theorem modTime_at_canOf (s : State) (f : TimeS → TimeS) (x : Nat) : (modTime s f).canOf x = s.canOf x := rfl
@[simp] theorem modTime_at_fault (s : State) (f : TimeS → TimeS) (x : Nat) : (modTime s f).fault x = s.fault x := rfl
@[simp] theorem modTime_at_cluster (s : State) (f : TimeS → TimeS) (x : Nat) : (modTime s f).cluster x = s.cluster x := rfl
@[simp] theorem modTime_at_kernel (s : State) (f : TimeS → TimeS) (x : Nat) : (modTime s f).kernel x = s.kernel x := rfl
@[simp] theorem modTime_at_slot (s : State) (f : TimeS → TimeS) (x : Nat) : (modTime s f).slot x = s.slot x := rfl
@[simp] theorem modTime_at_pin (s : State) (f : TimeS → TimeS) (x : Nat) : (modTime s f).pin x = s.pin x := rfl
@[simp] theorem modTime_at_group (s : State) (f : TimeS → TimeS) (x : Nat) : (modTime s f).group x = s.group x := rfl

/-! ### modVeil -/

@[simp] theorem modVeil_pending (s : State) (f : VeilS → VeilS) : (modVeil s f).pending = s.pending := rfl
@[simp] theorem modVeil_dict (s : State) (f : VeilS → VeilS) : (modVeil s f).dict = s.dict := rfl
@[simp] theorem modVeil_sent (s : State) (f : VeilS → VeilS) : (modVeil s f).sent = s.sent := rfl
@[simp] theorem modVeil_time (s : State) (f : VeilS → VeilS) : (modVeil s f).time = s.time := rfl
@[simp] theorem modVeil_beat (s : State) (f : VeilS → VeilS) : (modVeil s f).beat = s.beat := rfl
@[simp] theorem modVeil_slots (s : State) (f : VeilS → VeilS) : (modVeil s f).slots = s.slots := rfl
@[simp] theorem modVeil_authFails (s : State) (f : VeilS → VeilS) : (modVeil s f).authFails = s.authFails := rfl
@[simp] theorem modVeil_authBars (s : State) (f : VeilS → VeilS) : (modVeil s f).authBars = s.authBars := rfl
@[simp] theorem modVeil_keys (s : State) (f : VeilS → VeilS) : (modVeil s f).keys = s.keys := rfl
@[simp] theorem modVeil_ipv4 (s : State) (f : VeilS → VeilS) : (modVeil s f).ipv4 = s.ipv4 := rfl
@[simp] theorem modVeil_lfpPort (s : State) (f : VeilS → VeilS) : (modVeil s f).lfpPort = s.lfpPort := rfl
@[simp] theorem modVeil_netMask (s : State) (f : VeilS → VeilS) : (modVeil s f).netMask = s.netMask := rfl
@[simp] theorem modVeil_gateway (s : State) (f : VeilS → VeilS) : (modVeil s f).gateway = s.gateway := rfl
@[simp] theorem modVeil_linkLocal (s : State) (f : VeilS → VeilS) : (modVeil s f).linkLocal = s.linkLocal := rfl
@[simp] theorem modVeil_events (s : State) (f : VeilS → VeilS) : (modVeil s f).events = s.events := rfl
@[simp] theorem modVeil_eventSerial (s : State) (f : VeilS → VeilS) : (modVeil s f).eventSerial = s.eventSerial := rfl
@[simp] theorem modVeil_faceSeq (s : State) (f : VeilS → VeilS) : (modVeil s f).faceSeq = s.faceSeq := rfl
@[simp] theorem modVeil_lost (s : State) (f : VeilS → VeilS) : (modVeil s f).lost = s.lost := rfl
@[simp] theorem modVeil_outbox (s : State) (f : VeilS → VeilS) : (modVeil s f).outbox = s.outbox := rfl
@[simp] theorem modVeil_writes (s : State) (f : VeilS → VeilS) : (modVeil s f).writes = s.writes := rfl
@[simp] theorem modVeil_commands (s : State) (f : VeilS → VeilS) : (modVeil s f).commands = s.commands := rfl
@[simp] theorem modVeil_axes (s : State) (f : VeilS → VeilS) : (modVeil s f).axes = s.axes := rfl
@[simp] theorem modVeil_clusters (s : State) (f : VeilS → VeilS) : (modVeil s f).clusters = s.clusters := rfl
@[simp] theorem modVeil_jobs (s : State) (f : VeilS → VeilS) : (modVeil s f).jobs = s.jobs := rfl
@[simp] theorem modVeil_commit (s : State) (f : VeilS → VeilS) : (modVeil s f).commit = s.commit := rfl
@[simp] theorem modVeil_standby (s : State) (f : VeilS → VeilS) : (modVeil s f).standby = s.standby := rfl
@[simp] theorem modVeil_flipped (s : State) (f : VeilS → VeilS) : (modVeil s f).flipped = s.flipped := rfl
@[simp] theorem modVeil_camRuns (s : State) (f : VeilS → VeilS) : (modVeil s f).camRuns = s.camRuns := rfl
@[simp] theorem modVeil_latchIns (s : State) (f : VeilS → VeilS) : (modVeil s f).latchIns = s.latchIns := rfl
@[simp] theorem modVeil_pins (s : State) (f : VeilS → VeilS) : (modVeil s f).pins = s.pins := rfl
@[simp] theorem modVeil_sleeves (s : State) (f : VeilS → VeilS) : (modVeil s f).sleeves = s.sleeves := rfl
@[simp] theorem modVeil_cells (s : State) (f : VeilS → VeilS) : (modVeil s f).cells = s.cells := rfl
@[simp] theorem modVeil_rehousings (s : State) (f : VeilS → VeilS) : (modVeil s f).rehousings = s.rehousings := rfl
@[simp] theorem modVeil_kernels (s : State) (f : VeilS → VeilS) : (modVeil s f).kernels = s.kernels := rfl
@[simp] theorem modVeil_kernelSerial (s : State) (f : VeilS → VeilS) : (modVeil s f).kernelSerial = s.kernelSerial := rfl
@[simp] theorem modVeil_plan (s : State) (f : VeilS → VeilS) : (modVeil s f).plan = s.plan := rfl
@[simp] theorem modVeil_recorders (s : State) (f : VeilS → VeilS) : (modVeil s f).recorders = s.recorders := rfl
@[simp] theorem modVeil_field (s : State) (f : VeilS → VeilS) : (modVeil s f).field = s.field := rfl
@[simp] theorem modVeil_can (s : State) (f : VeilS → VeilS) : (modVeil s f).can = s.can := rfl
@[simp] theorem modVeil_nva (s : State) (f : VeilS → VeilS) : (modVeil s f).nva = s.nva := rfl
@[simp] theorem modVeil_journal (s : State) (f : VeilS → VeilS) : (modVeil s f).journal = s.journal := rfl
@[simp] theorem modVeil_rst (s : State) (f : VeilS → VeilS) : (modVeil s f).rst = s.rst := rfl
@[simp] theorem modVeil_faults (s : State) (f : VeilS → VeilS) : (modVeil s f).faults = s.faults := rfl
@[simp] theorem modVeil_freeCount (s : State) (f : VeilS → VeilS) : (modVeil s f).freeCount = s.freeCount := rfl
@[simp] theorem modVeil_at_val (s : State) (f : VeilS → VeilS) (x y : Nat) : (modVeil s f).val x y = s.val x y := rfl
@[simp] theorem modVeil_at_axis (s : State) (f : VeilS → VeilS) (x : Nat) : (modVeil s f).axis x = s.axis x := rfl
@[simp] theorem modVeil_at_sleeve (s : State) (f : VeilS → VeilS) (x : Nat) : (modVeil s f).sleeve x = s.sleeve x := rfl
@[simp] theorem modVeil_at_cell (s : State) (f : VeilS → VeilS) (x : Nat) : (modVeil s f).cell x = s.cell x := rfl
@[simp] theorem modVeil_at_rec (s : State) (f : VeilS → VeilS) (x : Nat) : (modVeil s f).rec' x = s.rec' x := rfl
@[simp] theorem modVeil_at_canOf (s : State) (f : VeilS → VeilS) (x : Nat) : (modVeil s f).canOf x = s.canOf x := rfl
@[simp] theorem modVeil_at_fault (s : State) (f : VeilS → VeilS) (x : Nat) : (modVeil s f).fault x = s.fault x := rfl
@[simp] theorem modVeil_at_cluster (s : State) (f : VeilS → VeilS) (x : Nat) : (modVeil s f).cluster x = s.cluster x := rfl
@[simp] theorem modVeil_at_kernel (s : State) (f : VeilS → VeilS) (x : Nat) : (modVeil s f).kernel x = s.kernel x := rfl
@[simp] theorem modVeil_at_slot (s : State) (f : VeilS → VeilS) (x : Nat) : (modVeil s f).slot x = s.slot x := rfl
@[simp] theorem modVeil_at_pin (s : State) (f : VeilS → VeilS) (x : Nat) : (modVeil s f).pin x = s.pin x := rfl

/-! ### What an update writes -/

theorem setAxis_read (s : State) (u : Nat) (a : AxisS) (j : Nat) : (s.setAxis u a).axis j = if u = j then a else s.axis j := mapGet_mapPut _ _ _ _ _
@[simp] theorem setAxis_read_self (s : State) (u : Nat) (a : AxisS) : (s.setAxis u a).axis u = a := mapGet_mapPut_self _ _ _ _
theorem setSleeve_read (s : State) (u : Nat) (a : SleeveS) (j : Nat) : (s.setSleeve u a).sleeve j = if u = j then a else s.sleeve j := mapGet_mapPut _ _ _ _ _
@[simp] theorem setSleeve_read_self (s : State) (u : Nat) (a : SleeveS) : (s.setSleeve u a).sleeve u = a := mapGet_mapPut_self _ _ _ _
theorem setCell_read (s : State) (u : Nat) (a : CellS) (j : Nat) : (s.setCell u a).cell j = if u = j then a else s.cell j := mapGet_mapPut _ _ _ _ _
@[simp] theorem setCell_read_self (s : State) (u : Nat) (a : CellS) : (s.setCell u a).cell u = a := mapGet_mapPut_self _ _ _ _
theorem setRec_read (s : State) (u : Nat) (a : RecS) (j : Nat) : (s.setRec u a).rec' j = if u = j then a else s.rec' j := mapGet_mapPut _ _ _ _ _
@[simp] theorem setRec_read_self (s : State) (u : Nat) (a : RecS) : (s.setRec u a).rec' u = a := mapGet_mapPut_self _ _ _ _
theorem setCan_read (s : State) (u : Nat) (a : CanS) (j : Nat) : (s.setCan u a).canOf j = if u = j then a else s.canOf j := mapGet_mapPut _ _ _ _ _
@[simp] theorem setCan_read_self (s : State) (u : Nat) (a : CanS) : (s.setCan u a).canOf u = a := mapGet_mapPut_self _ _ _ _
theorem setFault_read (s : State) (u : Nat) (a : FaultS) (j : Nat) : (s.setFault u a).fault j = if u = j then a else s.fault j := mapGet_mapPut _ _ _ _ _
@[simp] theorem setFault_read_self (s : State) (u : Nat) (a : FaultS) : (s.setFault u a).fault u = a := mapGet_mapPut_self _ _ _ _
theorem setCluster_read (s : State) (u : Nat) (a : ClusterS) (j : Nat) : (s.setCluster u a).cluster j = if u = j then a else s.cluster j := mapGet_mapPut _ _ _ _ _
@[simp] theorem setCluster_read_self (s : State) (u : Nat) (a : ClusterS) : (s.setCluster u a).cluster u = a := mapGet_mapPut_self _ _ _ _
theorem setKernel_read (s : State) (u : Nat) (a : KernelS) (j : Nat) : (s.setKernel u a).kernel j = if u = j then a else s.kernel j := mapGet_mapPut _ _ _ _ _
@[simp] theorem setKernel_read_self (s : State) (u : Nat) (a : KernelS) : (s.setKernel u a).kernel u = a := mapGet_mapPut_self _ _ _ _
theorem setSlot_read (s : State) (u : Nat) (a : Slot) (j : Nat) : (s.setSlot u a).slot j = if u = j then a else s.slot j := mapGet_mapPut _ _ _ _ _
@[simp] theorem setSlot_read_self (s : State) (u : Nat) (a : Slot) : (s.setSlot u a).slot u = a := mapGet_mapPut_self _ _ _ _
theorem setPin_read (s : State) (u : Nat) (a : PinS) (j : Nat) : (s.setPin u a).pin j = if u = j then a else s.pin j := mapGet_mapPut _ _ _ _ _
@[simp] theorem setPin_read_self (s : State) (u : Nat) (a : PinS) : (s.setPin u a).pin u = a := mapGet_mapPut_self _ _ _ _
theorem setGroup_read (s : State) (u : Nat) (a : GroupS) (j : Nat) : (s.setGroup u a).group j = if u = j then a else s.group j := mapGet_mapPut _ _ _ _ _
@[simp] theorem setGroup_read_self (s : State) (u : Nat) (a : GroupS) : (s.setGroup u a).group u = a := mapGet_mapPut_self _ _ _ _
@[simp] theorem modJournal_journal (s : State) (f : JournalS → JournalS) : (modJournal s f).journal = f s.journal := rfl
@[simp] theorem modNva_nva (s : State) (f : Nva → Nva) : (modNva s f).nva = f s.nva := rfl
@[simp] theorem modField_field (s : State) (f : FieldS → FieldS) : (modField s f).field = f s.field := rfl
@[simp] theorem modRst_rst (s : State) (f : ResetS → ResetS) : (modRst s f).rst = f s.rst := rfl
@[simp] theorem modTime_time (s : State) (f : TimeS → TimeS) : (modTime s f).time = f s.time := rfl
@[simp] theorem modVeil_veil (s : State) (f : VeilS → VeilS) : (modVeil s f).veil = f s.veil := rfl
@[simp] theorem emit_sent (s : State) (m : Sent) : (s.emit m).sent = m :: s.sent := rfl

theorem keyOf_inj {u k u' k' : Nat} (hk : k < 2 ^ 24) (hk' : k' < 2 ^ 24) : keyOf u k = keyOf u' k' ↔ u = u' ∧ k = k' := by
  unfold keyOf; omega

/-- The dictionary reads what was stored, and every other element reads as before. -/
theorem setV_read (s : State) (u k : Nat) (v : Val) (u' k' : Nat) :
    (s.setV u k v).val u' k' = if keyOf u k = keyOf u' k' then v else s.val u' k' :=
  mapGet_mapPut_key defaultAt _ _ _ _

@[simp] theorem setV_read_self (s : State) (u k : Nat) (v : Val) : (s.setV u k v).val u k = v := by simp [setV_read]

theorem setV_read_ne (s : State) {u k u' k' : Nat} (v : Val) (h : keyOf u k ≠ keyOf u' k') : (s.setV u k v).val u' k' = s.val u' k' := by
  simp [setV_read, h]

@[simp] theorem setV_n_self (s : State) (u k : Nat) (i : Int) : (s.setV u k (.num i)).n u k = i.toNat :=
  congrArg (fun v => (valInt v).toNat) (setV_read_self s u k (.num i))
@[simp] theorem setV_i_self (s : State) (u k : Nat) (i : Int) : (s.setV u k (.num i)).i u k = i :=
  congrArg valInt (setV_read_self s u k (.num i))
@[simp] theorem setV_bs_self (s : State) (u k : Nat) (b : Bytes) : (s.setV u k (.bytes b)).bs u k = b :=
  congrArg valRaw (setV_read_self s u k (.bytes b))

theorem setV_n_ne (s : State) {u k u' k' : Nat} (v : Val) (h : keyOf u k ≠ keyOf u' k') : (s.setV u k v).n u' k' = s.n u' k' :=
  congrArg (fun v => (valInt v).toNat) (setV_read_ne s v h)
theorem setV_i_ne (s : State) {u k u' k' : Nat} (v : Val) (h : keyOf u k ≠ keyOf u' k') : (s.setV u k v).i u' k' = s.i u' k' :=
  congrArg valInt (setV_read_ne s v h)
theorem setV_bs_ne (s : State) {u k u' k' : Nat} (v : Val) (h : keyOf u k ≠ keyOf u' k') : (s.setV u k v).bs u' k' = s.bs u' k' :=
  congrArg valRaw (setV_read_ne s v h)

@[simp] theorem setAxis_at_i (s : State) (u : Nat) (a : AxisS) (x y : Nat) : (s.setAxis u a).i x y = s.i x y := rfl
@[simp] theorem setAxis_at_n (s : State) (u : Nat) (a : AxisS) (x y : Nat) : (s.setAxis u a).n x y = s.n x y := rfl
@[simp] theorem setAxis_at_b (s : State) (u : Nat) (a : AxisS) (x y : Nat) : (s.setAxis u a).b x y = s.b x y := rfl
@[simp] theorem setAxis_at_bs (s : State) (u : Nat) (a : AxisS) (x y : Nat) : (s.setAxis u a).bs x y = s.bs x y := rfl
@[simp] theorem setSleeve_at_i (s : State) (u : Nat) (a : SleeveS) (x y : Nat) : (s.setSleeve u a).i x y = s.i x y := rfl
@[simp] theorem setSleeve_at_n (s : State) (u : Nat) (a : SleeveS) (x y : Nat) : (s.setSleeve u a).n x y = s.n x y := rfl
@[simp] theorem setSleeve_at_b (s : State) (u : Nat) (a : SleeveS) (x y : Nat) : (s.setSleeve u a).b x y = s.b x y := rfl
@[simp] theorem setSleeve_at_bs (s : State) (u : Nat) (a : SleeveS) (x y : Nat) : (s.setSleeve u a).bs x y = s.bs x y := rfl
@[simp] theorem setCell_at_i (s : State) (u : Nat) (a : CellS) (x y : Nat) : (s.setCell u a).i x y = s.i x y := rfl
@[simp] theorem setCell_at_n (s : State) (u : Nat) (a : CellS) (x y : Nat) : (s.setCell u a).n x y = s.n x y := rfl
@[simp] theorem setCell_at_b (s : State) (u : Nat) (a : CellS) (x y : Nat) : (s.setCell u a).b x y = s.b x y := rfl
@[simp] theorem setCell_at_bs (s : State) (u : Nat) (a : CellS) (x y : Nat) : (s.setCell u a).bs x y = s.bs x y := rfl
@[simp] theorem setRec_at_i (s : State) (u : Nat) (a : RecS) (x y : Nat) : (s.setRec u a).i x y = s.i x y := rfl
@[simp] theorem setRec_at_n (s : State) (u : Nat) (a : RecS) (x y : Nat) : (s.setRec u a).n x y = s.n x y := rfl
@[simp] theorem setRec_at_b (s : State) (u : Nat) (a : RecS) (x y : Nat) : (s.setRec u a).b x y = s.b x y := rfl
@[simp] theorem setRec_at_bs (s : State) (u : Nat) (a : RecS) (x y : Nat) : (s.setRec u a).bs x y = s.bs x y := rfl
@[simp] theorem setCan_at_i (s : State) (u : Nat) (a : CanS) (x y : Nat) : (s.setCan u a).i x y = s.i x y := rfl
@[simp] theorem setCan_at_n (s : State) (u : Nat) (a : CanS) (x y : Nat) : (s.setCan u a).n x y = s.n x y := rfl
@[simp] theorem setCan_at_b (s : State) (u : Nat) (a : CanS) (x y : Nat) : (s.setCan u a).b x y = s.b x y := rfl
@[simp] theorem setCan_at_bs (s : State) (u : Nat) (a : CanS) (x y : Nat) : (s.setCan u a).bs x y = s.bs x y := rfl
@[simp] theorem setFault_at_i (s : State) (u : Nat) (a : FaultS) (x y : Nat) : (s.setFault u a).i x y = s.i x y := rfl
@[simp] theorem setFault_at_n (s : State) (u : Nat) (a : FaultS) (x y : Nat) : (s.setFault u a).n x y = s.n x y := rfl
@[simp] theorem setFault_at_b (s : State) (u : Nat) (a : FaultS) (x y : Nat) : (s.setFault u a).b x y = s.b x y := rfl
@[simp] theorem setFault_at_bs (s : State) (u : Nat) (a : FaultS) (x y : Nat) : (s.setFault u a).bs x y = s.bs x y := rfl
@[simp] theorem setCluster_at_i (s : State) (u : Nat) (a : ClusterS) (x y : Nat) : (s.setCluster u a).i x y = s.i x y := rfl
@[simp] theorem setCluster_at_n (s : State) (u : Nat) (a : ClusterS) (x y : Nat) : (s.setCluster u a).n x y = s.n x y := rfl
@[simp] theorem setCluster_at_b (s : State) (u : Nat) (a : ClusterS) (x y : Nat) : (s.setCluster u a).b x y = s.b x y := rfl
@[simp] theorem setCluster_at_bs (s : State) (u : Nat) (a : ClusterS) (x y : Nat) : (s.setCluster u a).bs x y = s.bs x y := rfl
@[simp] theorem setKernel_at_i (s : State) (u : Nat) (a : KernelS) (x y : Nat) : (s.setKernel u a).i x y = s.i x y := rfl
@[simp] theorem setKernel_at_n (s : State) (u : Nat) (a : KernelS) (x y : Nat) : (s.setKernel u a).n x y = s.n x y := rfl
@[simp] theorem setKernel_at_b (s : State) (u : Nat) (a : KernelS) (x y : Nat) : (s.setKernel u a).b x y = s.b x y := rfl
@[simp] theorem setKernel_at_bs (s : State) (u : Nat) (a : KernelS) (x y : Nat) : (s.setKernel u a).bs x y = s.bs x y := rfl
@[simp] theorem setSlot_at_i (s : State) (u : Nat) (a : Slot) (x y : Nat) : (s.setSlot u a).i x y = s.i x y := rfl
@[simp] theorem setSlot_at_n (s : State) (u : Nat) (a : Slot) (x y : Nat) : (s.setSlot u a).n x y = s.n x y := rfl
@[simp] theorem setSlot_at_b (s : State) (u : Nat) (a : Slot) (x y : Nat) : (s.setSlot u a).b x y = s.b x y := rfl
@[simp] theorem setSlot_at_bs (s : State) (u : Nat) (a : Slot) (x y : Nat) : (s.setSlot u a).bs x y = s.bs x y := rfl
@[simp] theorem setPin_at_i (s : State) (u : Nat) (a : PinS) (x y : Nat) : (s.setPin u a).i x y = s.i x y := rfl
@[simp] theorem setPin_at_n (s : State) (u : Nat) (a : PinS) (x y : Nat) : (s.setPin u a).n x y = s.n x y := rfl
@[simp] theorem setPin_at_b (s : State) (u : Nat) (a : PinS) (x y : Nat) : (s.setPin u a).b x y = s.b x y := rfl
@[simp] theorem setPin_at_bs (s : State) (u : Nat) (a : PinS) (x y : Nat) : (s.setPin u a).bs x y = s.bs x y := rfl
@[simp] theorem setGroup_at_i (s : State) (u : Nat) (a : GroupS) (x y : Nat) : (s.setGroup u a).i x y = s.i x y := rfl
@[simp] theorem setGroup_at_n (s : State) (u : Nat) (a : GroupS) (x y : Nat) : (s.setGroup u a).n x y = s.n x y := rfl
@[simp] theorem setGroup_at_b (s : State) (u : Nat) (a : GroupS) (x y : Nat) : (s.setGroup u a).b x y = s.b x y := rfl
@[simp] theorem setGroup_at_bs (s : State) (u : Nat) (a : GroupS) (x y : Nat) : (s.setGroup u a).bs x y = s.bs x y := rfl
@[simp] theorem emit_at_i (s : State) (m : Sent) (x y : Nat) : (s.emit m).i x y = s.i x y := rfl
@[simp] theorem emit_at_n (s : State) (m : Sent) (x y : Nat) : (s.emit m).n x y = s.n x y := rfl
@[simp] theorem emit_at_b (s : State) (m : Sent) (x y : Nat) : (s.emit m).b x y = s.b x y := rfl
@[simp] theorem emit_at_bs (s : State) (m : Sent) (x y : Nat) : (s.emit m).bs x y = s.bs x y := rfl
@[simp] theorem later_at_i (s : State) (u code : Nat) (d : Bytes) (x y : Nat) : (s.later u code d).i x y = s.i x y := rfl
@[simp] theorem later_at_n (s : State) (u code : Nat) (d : Bytes) (x y : Nat) : (s.later u code d).n x y = s.n x y := rfl
@[simp] theorem later_at_b (s : State) (u code : Nat) (d : Bytes) (x y : Nat) : (s.later u code d).b x y = s.b x y := rfl
@[simp] theorem later_at_bs (s : State) (u code : Nat) (d : Bytes) (x y : Nat) : (s.later u code d).bs x y = s.bs x y := rfl
@[simp] theorem journal_at_i (s : State) (rs : List JRecord) (act : TxnAct) (x y : Nat) : (journal s rs act).i x y = s.i x y := rfl
@[simp] theorem journal_at_n (s : State) (rs : List JRecord) (act : TxnAct) (x y : Nat) : (journal s rs act).n x y = s.n x y := rfl
@[simp] theorem journal_at_b (s : State) (rs : List JRecord) (act : TxnAct) (x y : Nat) : (journal s rs act).b x y = s.b x y := rfl
@[simp] theorem journal_at_bs (s : State) (rs : List JRecord) (act : TxnAct) (x y : Nat) : (journal s rs act).bs x y = s.bs x y := rfl
@[simp] theorem modJournal_at_i (s : State) (f : JournalS → JournalS) (x y : Nat) : (modJournal s f).i x y = s.i x y := rfl
@[simp] theorem modJournal_at_n (s : State) (f : JournalS → JournalS) (x y : Nat) : (modJournal s f).n x y = s.n x y := rfl
@[simp] theorem modJournal_at_b (s : State) (f : JournalS → JournalS) (x y : Nat) : (modJournal s f).b x y = s.b x y := rfl
@[simp] theorem modJournal_at_bs (s : State) (f : JournalS → JournalS) (x y : Nat) : (modJournal s f).bs x y = s.bs x y := rfl
@[simp] theorem modNva_at_i (s : State) (f : Nva → Nva) (x y : Nat) : (modNva s f).i x y = s.i x y := rfl
@[simp] theorem modNva_at_n (s : State) (f : Nva → Nva) (x y : Nat) : (modNva s f).n x y = s.n x y := rfl
@[simp] theorem modNva_at_b (s : State) (f : Nva → Nva) (x y : Nat) : (modNva s f).b x y = s.b x y := rfl
@[simp] theorem modNva_at_bs (s : State) (f : Nva → Nva) (x y : Nat) : (modNva s f).bs x y = s.bs x y := rfl
@[simp] theorem modField_at_i (s : State) (f : FieldS → FieldS) (x y : Nat) : (modField s f).i x y = s.i x y := rfl
@[simp] theorem modField_at_n (s : State) (f : FieldS → FieldS) (x y : Nat) : (modField s f).n x y = s.n x y := rfl
@[simp] theorem modField_at_b (s : State) (f : FieldS → FieldS) (x y : Nat) : (modField s f).b x y = s.b x y := rfl
@[simp] theorem modField_at_bs (s : State) (f : FieldS → FieldS) (x y : Nat) : (modField s f).bs x y = s.bs x y := rfl
@[simp] theorem modRst_at_i (s : State) (f : ResetS → ResetS) (x y : Nat) : (modRst s f).i x y = s.i x y := rfl
@[simp] theorem modRst_at_n (s : State) (f : ResetS → ResetS) (x y : Nat) : (modRst s f).n x y = s.n x y := rfl
@[simp] theorem modRst_at_b (s : State) (f : ResetS → ResetS) (x y : Nat) : (modRst s f).b x y = s.b x y := rfl
@[simp] theorem modRst_at_bs (s : State) (f : ResetS → ResetS) (x y : Nat) : (modRst s f).bs x y = s.bs x y := rfl
@[simp] theorem modTime_at_i (s : State) (f : TimeS → TimeS) (x y : Nat) : (modTime s f).i x y = s.i x y := rfl
@[simp] theorem modTime_at_n (s : State) (f : TimeS → TimeS) (x y : Nat) : (modTime s f).n x y = s.n x y := rfl
@[simp] theorem modTime_at_b (s : State) (f : TimeS → TimeS) (x y : Nat) : (modTime s f).b x y = s.b x y := rfl
@[simp] theorem modTime_at_bs (s : State) (f : TimeS → TimeS) (x y : Nat) : (modTime s f).bs x y = s.bs x y := rfl
@[simp] theorem modVeil_at_i (s : State) (f : VeilS → VeilS) (x y : Nat) : (modVeil s f).i x y = s.i x y := rfl
@[simp] theorem modVeil_at_n (s : State) (f : VeilS → VeilS) (x y : Nat) : (modVeil s f).n x y = s.n x y := rfl
@[simp] theorem modVeil_at_b (s : State) (f : VeilS → VeilS) (x y : Nat) : (modVeil s f).b x y = s.b x y := rfl
@[simp] theorem modVeil_at_bs (s : State) (f : VeilS → VeilS) (x y : Nat) : (modVeil s f).bs x y = s.bs x y := rfl

/-! ### Records read from equal fields -/

theorem val_congr {s t : State} (h : t.dict = s.dict) (x y : Nat) : t.val x y = s.val x y := by unfold State.val; rw [h]
theorem axis_congr {s t : State} (h : t.axes = s.axes) (x : Nat) : t.axis x = s.axis x := by unfold State.axis; rw [h]
theorem sleeve_congr {s t : State} (h : t.sleeves = s.sleeves) (x : Nat) : t.sleeve x = s.sleeve x := by unfold State.sleeve; rw [h]
theorem cell_congr {s t : State} (h : t.cells = s.cells) (x : Nat) : t.cell x = s.cell x := by unfold State.cell; rw [h]
theorem rec_congr {s t : State} (h : t.recorders = s.recorders) (x : Nat) : t.rec' x = s.rec' x := by unfold State.rec'; rw [h]
theorem canOf_congr {s t : State} (h : t.can = s.can) (x : Nat) : t.canOf x = s.canOf x := by unfold State.canOf; rw [h]
theorem fault_congr {s t : State} (h : t.faults = s.faults) (x : Nat) : t.fault x = s.fault x := by unfold State.fault; rw [h]
theorem cluster_congr {s t : State} (h : t.clusters = s.clusters) (x : Nat) : t.cluster x = s.cluster x := by unfold State.cluster; rw [h]
theorem kernel_congr {s t : State} (h : t.kernels = s.kernels) (x : Nat) : t.kernel x = s.kernel x := by unfold State.kernel; rw [h]
theorem slot_congr {s t : State} (h : t.slots = s.slots) (x : Nat) : t.slot x = s.slot x := by unfold State.slot; rw [h]
theorem pin_congr {s t : State} (h : t.pins = s.pins) (x : Nat) : t.pin x = s.pin x := by unfold State.pin; rw [h]
theorem group_congr {s t : State} (h : t.veil = s.veil) (x : Nat) : t.group x = s.group x := by unfold State.group; rw [h]

end Sys2Proof.Machine
end

