-- ==== Sys2Proof/Laws/Events.lean ====
section
/-! SUPPORT. What publishing an event, counting on a stick counter and answering a request can change: once, for every caller. -/

namespace Sys2Proof.Machine

/-! ### Fields that events leave alone -/

/-- Two states that differ at most in the event queue, the sessions' lists of events, and the dictionary. -/
structure SameButEvents (s t : State) : Prop where
  pending : t.pending = s.pending
  sent : t.sent = s.sent
  time : t.time = s.time
  beat : t.beat = s.beat
  authFails : t.authFails = s.authFails
  authBars : t.authBars = s.authBars
  keys : t.keys = s.keys
  ipv4 : t.ipv4 = s.ipv4
  lfpPort : t.lfpPort = s.lfpPort
  linkLocal : t.linkLocal = s.linkLocal
  outbox : t.outbox = s.outbox
  writes : t.writes = s.writes
  commands : t.commands = s.commands
  axes : t.axes = s.axes
  clusters : t.clusters = s.clusters
  jobs : t.jobs = s.jobs
  commit : t.commit = s.commit
  standby : t.standby = s.standby
  flipped : t.flipped = s.flipped
  camRuns : t.camRuns = s.camRuns
  latchIns : t.latchIns = s.latchIns
  pins : t.pins = s.pins
  sleeves : t.sleeves = s.sleeves
  cells : t.cells = s.cells
  rehousings : t.rehousings = s.rehousings
  kernels : t.kernels = s.kernels
  kernelSerial : t.kernelSerial = s.kernelSerial
  plan : t.plan = s.plan
  recorders : t.recorders = s.recorders
  veil : t.veil = s.veil
  field : t.field = s.field
  can : t.can = s.can
  nva : t.nva = s.nva
  journal : t.journal = s.journal
  rst : t.rst = s.rst
  faults : t.faults = s.faults
  freeCount : t.freeCount = s.freeCount
  netMask : t.netMask = s.netMask
  gateway : t.gateway = s.gateway

theorem SameButEvents.refl (s : State) : SameButEvents s s := by constructor <;> rfl

theorem SameButEvents.trans {s t u : State} (h : SameButEvents s t) (g : SameButEvents t u) : SameButEvents s u := by
  constructor <;> first
    | exact g.pending.trans h.pending | exact g.sent.trans h.sent | exact g.time.trans h.time | exact g.beat.trans h.beat
    | exact g.authFails.trans h.authFails | exact g.authBars.trans h.authBars | exact g.keys.trans h.keys
    | exact g.ipv4.trans h.ipv4 | exact g.lfpPort.trans h.lfpPort | exact g.linkLocal.trans h.linkLocal
    | exact g.outbox.trans h.outbox | exact g.writes.trans h.writes | exact g.commands.trans h.commands
    | exact g.axes.trans h.axes | exact g.clusters.trans h.clusters | exact g.jobs.trans h.jobs | exact g.commit.trans h.commit
    | exact g.standby.trans h.standby | exact g.flipped.trans h.flipped | exact g.camRuns.trans h.camRuns
    | exact g.latchIns.trans h.latchIns | exact g.pins.trans h.pins | exact g.sleeves.trans h.sleeves | exact g.cells.trans h.cells
    | exact g.rehousings.trans h.rehousings | exact g.kernels.trans h.kernels | exact g.kernelSerial.trans h.kernelSerial
    | exact g.plan.trans h.plan | exact g.recorders.trans h.recorders | exact g.veil.trans h.veil | exact g.field.trans h.field
    | exact g.can.trans h.can | exact g.nva.trans h.nva | exact g.journal.trans h.journal | exact g.rst.trans h.rst
    | exact g.faults.trans h.faults | exact g.freeCount.trans h.freeCount | exact g.netMask.trans h.netMask
    | exact g.gateway.trans h.gateway

theorem SameButEvents.setV (s : State) (u k : Nat) (v : Val) : SameButEvents s (s.setV u k v) := by constructor <;> rfl

/-- Counting is a few writes to the dictionary: what they keep, counting keeps. -/
theorem countStick_ind (P : State → Prop) (s : State) (u k : Nat) (h0 : P s) (h1 : ∀ t k v, P t → P (t.setV u k v)) : P (countStick s u k).1 := by
  unfold countStick
  split
  · exact h0
  · dsimp only
    split
    · exact h0
    · split
      · exact h1 _ _ _ h0
      · split
        · exact h1 _ _ _ h0
        · exact h1 _ _ _ (h1 _ _ _ h0)

theorem countStick_same (s : State) (u k : Nat) : SameButEvents s (countStick s u k).1 :=
  countStick_ind (SameButEvents s) s u k (.refl s) fun _ _ _ h => h.trans (.setV ..)

theorem enqueueEvent_same (s : State) (u c : Nat) (d : Bytes) (f : Nat) (h : List Nat) : SameButEvents s (enqueueEvent s u c d f h) := by
  constructor <;> rfl

theorem publishRaw_same (s : State) (u c : Nat) (d : Bytes) : SameButEvents s (publishRaw s u c d).1 := by
  unfold publishRaw takeFaceSeq
  dsimp only
  split
  · constructor <;> rfl
  · split
    · exact SameButEvents.trans (t := { s with faceSeq := _ }) (by constructor <;> rfl) (enqueueEvent_same ..)
    · refine SameButEvents.trans (t := { s with faceSeq := _, lost := _ }) (by constructor <;> rfl) (countStick_same ..)

theorem publish_same (s : State) (u c : Nat) (d : Bytes) : SameButEvents s (publish s u c d) := by
  unfold publish
  dsimp only
  split
  · exact (publishRaw_same ..).trans (publishRaw_same ..)
  · exact publishRaw_same ..

theorem bump_same (s : State) (u k : Nat) : SameButEvents s (bump s u k) := by
  unfold bump
  dsimp only
  split
  · exact (countStick_same ..).trans (publish_same ..)
  · exact countStick_same ..

theorem bumpN_same (s : State) (u k n : Nat) : SameButEvents s (bumpN s u k n) := by
  induction n generalizing s with
  | zero => exact .refl s
  | succ n ih => exact (bump_same s u k).trans (ih _)

/-! ### The dictionary after an event -/

/-- The word of CounterSaturation that holds the bit of a stick counter. -/
def satKey (u k : Nat) : Nat := match kindOf u with
  | none => 0x0B1000
  | some kd => 0x0B1000 + stickIndex kd (k / 256) (k % 256) / 32

theorem countStick_val (s : State) (u k u' k' : Nat) (h1 : keyOf u k ≠ keyOf u' k') (h2 : keyOf u (satKey u k) ≠ keyOf u' k') :
    (countStick s u k).1.val u' k' = s.val u' k' := by
  unfold countStick satKey at *
  split
  · rfl
  · rename_i kd hk
    rw [hk] at h2
    dsimp only at h2 ⊢
    split
    · rfl
    · split
      · simp only [setN_eq]; rw [setV_read_ne _ _ h1]
      · split
        · simp only [setN_eq]; rw [setV_read_ne _ _ h1]
        · simp only [setN_eq]; rw [setV_read_ne _ _ h2, setV_read_ne _ _ h1]

theorem enqueueEvent_val (s : State) (u c : Nat) (d : Bytes) (f : Nat) (h : List Nat) (x y : Nat) :
    (enqueueEvent s u c d f h).val x y = s.val x y := rfl

/-- An event changes no element but WaggleLostCount and its saturation bit. -/
theorem publishRaw_val (s : State) (u c : Nat) (d : Bytes) (x y : Nat) (h1 : keyOf 0 0x012200 ≠ keyOf x y)
    (h2 : keyOf 0 (satKey 0 0x012200) ≠ keyOf x y) : (publishRaw s u c d).1.val x y = s.val x y := by
  unfold publishRaw takeFaceSeq
  dsimp only
  split
  · rfl
  · split
    · rfl
    · rw [countStick_val _ _ _ _ _ h1 h2]; rfl

theorem publish_val (s : State) (u c : Nat) (d : Bytes) (x y : Nat) (h1 : keyOf 0 0x012200 ≠ keyOf x y)
    (h2 : keyOf 0 (satKey 0 0x012200) ≠ keyOf x y) : (publish s u c d).val x y = s.val x y := by
  unfold publish
  dsimp only
  split
  · rw [publishRaw_val _ _ _ _ _ _ h1 h2, publishRaw_val _ _ _ _ _ _ h1 h2]
  · rw [publishRaw_val _ _ _ _ _ _ h1 h2]

/-- Counting changes no element but the counter, its saturation bit, and the two of WaggleLostCount. -/
theorem bump_val (s : State) (u k x y : Nat) (h1 : keyOf u k ≠ keyOf x y) (h2 : keyOf u (satKey u k) ≠ keyOf x y)
    (h3 : keyOf 0 0x012200 ≠ keyOf x y) (h4 : keyOf 0 (satKey 0 0x012200) ≠ keyOf x y) : (bump s u k).val x y = s.val x y := by
  unfold bump
  dsimp only
  split
  · rw [publish_val _ _ _ _ _ _ h3 h4, countStick_val _ _ _ _ _ h1 h2]
  · rw [countStick_val _ _ _ _ _ h1 h2]

/-! ### Where the saturation bits stand -/

/-- All stick counters, elements counted. -/
def satTotal : Nat := (allRows.map fun r => if r.stick then r.elHi - r.elLo + 1 else 0).sum

set_option maxRecDepth 100000 in
theorem satTotal_le : satTotal < 1024 := by decide +kernel

theorem sum_filter_le {α : Type} (l : List α) (p : α → Bool) (f g : α → Nat) (h : ∀ x ∈ l, p x = true → f x ≤ g x) :
    ((l.filter p).map f).sum ≤ (l.map g).sum := by
  induction l with
  | nil => simp
  | cons a r ih =>
    have h2 := ih fun x hx => h x (List.mem_cons_of_mem _ hx)
    rw [List.filter_cons]
    split
    · rename_i hp
      have := h a List.mem_cons_self hp
      simp only [List.map_cons, List.sum_cons]
      omega
    · simp only [List.map_cons, List.sum_cons]
      omega

theorem stickIndex_le (k : UKind) (o e : Nat) (h : ∀ r ∈ allRows, r.stick = true → r.obj = o → e ≤ r.elHi) : stickIndex k o e ≤ satTotal := by
  refine sum_filter_le _ _ _ _ fun r hr hp => ?_
  have hs : r.stick = true := by simp at hp; exact hp.1
  rw [if_pos hs]
  split
  · exact Nat.le_refl _
  · split
    · rename_i ho
      have := h r hr hs ho
      omega
    · omega

/-- The word of the saturation bit of a stick counter's element lies in CounterSaturation. -/
theorem satKey_range (u k : Nat) (h : ∀ r ∈ allRows, r.stick = true → r.obj = k / 256 → k % 256 ≤ r.elHi) :
    0x0B1000 ≤ satKey u k ∧ satKey u k < 0x0B1020 := by
  unfold satKey
  split
  · omega
  · rename_i kd _
    have h1 := stickIndex_le kd (k / 256) (k % 256) h
    have h2 := satTotal_le
    omega

set_option maxRecDepth 100000 in
theorem lostCount_rows : ∀ r ∈ allRows, r.stick = true → r.obj = 0x012200 / 256 → 0x012200 % 256 ≤ r.elHi := by decide +kernel

theorem satKey_lost : 0x0B1000 ≤ satKey 0 0x012200 ∧ satKey 0 0x012200 < 0x0B1020 := satKey_range 0 0x012200 lostCount_rows

/-- An event leaves every element that is neither WaggleLostCount nor CounterSaturation of the root. -/
theorem publish_keeps (s : State) (u c : Nat) (d : Bytes) (x y : Nat) (hy : y < 2 ^ 24)
    (h : x ≠ 0 ∨ (y ≠ 0x012200 ∧ (y < 0x0B1000 ∨ 0x0B1020 ≤ y))) : (publish s u c d).val x y = s.val x y := by
  have hs := satKey_lost
  apply publish_val
  · intro he; rw [keyOf_inj (by omega) hy] at he; omega
  · intro he; rw [keyOf_inj (by omega) hy] at he; omega

/-- Counting leaves every other element that is neither WaggleLostCount nor CounterSaturation. -/
theorem bump_keeps (s : State) (u k x y : Nat) (hy : y < 2 ^ 24) (hk : k < 2 ^ 24)
    (hr : ∀ r ∈ allRows, r.stick = true → r.obj = k / 256 → k % 256 ≤ r.elHi)
    (h : x ≠ u ∨ y ≠ k) (h' : y ≠ 0x012200 ∧ (y < 0x0B1000 ∨ 0x0B1020 ≤ y)) : (bump s u k).val x y = s.val x y := by
  have hs := satKey_lost
  have hk' := satKey_range u k hr
  apply bump_val
  · intro he; rw [keyOf_inj hk hy] at he; omega
  · intro he; rw [keyOf_inj (by omega) hy] at he; omega
  · intro he; rw [keyOf_inj (by omega) hy] at he; omega
  · intro he; rw [keyOf_inj (by omega) hy] at he; omega

theorem n_of_val {s t : State} {x y : Nat} (h : t.val x y = s.val x y) : t.n x y = s.n x y := congrArg (fun v => (valInt v).toNat) h
theorem i_of_val {s t : State} {x y : Nat} (h : t.val x y = s.val x y) : t.i x y = s.i x y := congrArg valInt h

/-- Counting raises a stick counter that is not at its end by one. -/
theorem bump_counts (s : State) (u k : Nat) (kd : UKind) (hk : k < 2 ^ 24) (hu : kindOf u = some kd)
    (hr : ∀ r ∈ allRows, r.stick = true → r.obj = k / 256 → k % 256 ≤ r.elHi)
    (hb : ¬ (0x0B1000 ≤ k ∧ k < 0x0B1020)) (hl : k ≠ 0x012200)
    (hv : s.n u k < ((rowOf kd (k / 256) (k % 256)).map fun r => r.ty.maxNat).getD (2 ^ 32 - 1)) :
    (bump s u k).n u k = s.n u k + 1 := by
  have hs := satKey_lost
  have hk' := satKey_range u k hr
  have h1 : ∀ (s1 : State) (v : Val), (s1.setV u (0x0B1000 + stickIndex kd (k / 256) (k % 256) / 32) v).n u k = s1.n u k := by
    intro s1 v
    have : satKey u k = 0x0B1000 + stickIndex kd (k / 256) (k % 256) / 32 := by unfold satKey; rw [hu]
    exact setV_n_ne _ _ (by intro he; rw [keyOf_inj (by omega) hk] at he; omega)
  have h0 : (countStick s u k).1.n u k = s.n u k + 1 := by
    unfold countStick
    rw [hu]
    dsimp only
    rw [if_neg (by omega)]
    split
    · simp
    · split
      · simp
      · simp only [setN_eq]; rw [h1]; simp
  unfold bump
  dsimp only
  split
  · exact (n_of_val (publish_keeps _ _ _ _ _ _ hk (.inr ⟨hl, by omega⟩))).trans h0
  · exact h0

/-! ### Sessions and their calm -/

/-- The slots of two states agree in which of them is calm. -/
def CalmSame (m m' : NMap Slot) : Prop := ∀ i, calmSlot (mapGet .free m' i) = calmSlot (mapGet .free m i)

theorem CalmSame.refl (m : NMap Slot) : CalmSame m m := fun _ => rfl
theorem CalmSame.of_eq {m m' : NMap Slot} (h : m' = m) : CalmSame m m' := h ▸ .refl _
theorem CalmSame.trans {a b c : NMap Slot} (h : CalmSame a b) (g : CalmSame b c) : CalmSame a c := fun i => (g i).trans (h i)

/-- Putting a slot that is as calm as the one it replaces. -/
theorem CalmSame.put (m : NMap Slot) (i : Nat) (x : Slot) (h : calmSlot x = calmSlot (mapGet .free m i)) : CalmSame m (mapPut .free m i x) := by
  intro j
  rw [mapGet_mapPut]
  split
  · rename_i hj; rw [h, hj]
  · rfl

theorem enqueueEvent_calm (s : State) (u c : Nat) (d : Bytes) (f : Nat) (hs : List Nat) : CalmSame s.slots (enqueueEvent s u c d f hs).slots := by
  unfold enqueueEvent
  dsimp only
  generalize s.slots = m
  induction hs generalizing m with
  | nil => exact .refl _
  | cons a r ih =>
    refine CalmSame.trans ?_ (ih _)
    refine CalmSame.put _ _ _ ?_
    generalize mapGet Slot.free m a = x
    cases x <;> rfl

theorem countStick_slots (s : State) (u k : Nat) : (countStick s u k).1.slots = s.slots :=
  countStick_ind (fun t => t.slots = s.slots) s u k rfl fun _ _ _ h => h

theorem publishRaw_calm (s : State) (u c : Nat) (d : Bytes) : CalmSame s.slots (publishRaw s u c d).1.slots := by
  unfold publishRaw takeFaceSeq
  dsimp only
  split
  · exact .refl _
  · split
    · exact enqueueEvent_calm _ _ _ _ _ _
    · exact CalmSame.of_eq (countStick_slots _ _ _)

theorem publish_calm (s : State) (u c : Nat) (d : Bytes) : CalmSame s.slots (publish s u c d).slots := by
  unfold publish
  dsimp only
  split
  · exact (publishRaw_calm _ _ _ _).trans (publishRaw_calm _ _ _ _)
  · exact publishRaw_calm _ _ _ _

theorem bump_calm (s : State) (u k : Nat) : CalmSame s.slots (bump s u k).slots := by
  unfold bump
  dsimp only
  split
  · exact (CalmSame.of_eq (countStick_slots _ _ _)).trans (publish_calm _ _ _ _)
  · exact CalmSame.of_eq (countStick_slots _ _ _)

end Sys2Proof.Machine
end

