-- ==== Sys2Proof/Laws/Calm.lean ====
section
/-! SUPPORT. In a calm state nothing follows a command's effect: settle leaves the state as it is. And what leaves a state calm. -/

namespace Sys2Proof.Machine

theorem serveStep_calm (s : State) (i : Nat) (h : calmSlot (s.slot i) = true) : serveStep s i = none := by
  unfold serveStep
  split
  · rename_i ss hs
    rw [hs] at h
    simp only [calmSlot, Bool.and_eq_true, List.isEmpty_iff] at h
    rw [h.1]
  · rfl
  · rfl

theorem serveSession_calm (n : Nat) (s : State) (i : Nat) (h : calmSlot (s.slot i) = true) : serveSession n s i = s := by
  cases n with
  | zero => rfl
  | succ n => unfold serveSession; rw [serveStep_calm s i h]

theorem closeIfDone_calm (s : State) (i : Nat) (h : calmSlot (s.slot i) = true) : closeIfDone s i = s := by
  unfold closeIfDone
  split
  · rename_i ss hs
    rw [hs] at h
    simp only [calmSlot, Bool.and_eq_true, Bool.not_eq_true'] at h
    rw [if_neg]
    simp [h.2]
  · rfl
  · rfl

theorem pump_calm (s : State) (h : Calm s) : pump s = s := by
  unfold pump
  split
  · rfl
  · generalize List.range 16 = l
    induction l with
    | nil => rfl
    | cons i r ih =>
      simp only [List.foldl_cons]
      rw [serveSession_calm _ _ _ (h.1 i), closeIfDone_calm _ _ (h.1 i)]
      exact ih

theorem serveRaised_calm (s : State) (h : s.rst.raised = []) : serveRaised s = s := by
  unfold serveRaised
  rw [h]
  cases s with
  | mk => rename_i rst _ _; cases rst; simp only [modRst, List.foldl_nil] at h ⊢; subst h; rfl

/-- In a calm state nothing follows a command's effect. -/
theorem settle_calm (s : State) (h : Calm s) : settle s = s := by
  unfold settle
  rw [pump_calm s h, serveRaised_calm s h.2.1]
  unfold serveSoftware
  rw [h.2.2]

/-- The outcome of a command whose effect is calm. -/
theorem done_calm (s t : State) (h : Calm t) : done s t = .next { t with pending := s.pending } := by
  unfold done quiet
  rw [settle_calm t h]

/-! ### What leaves a state calm -/

theorem Calm.of_same {s t : State} (h : Calm s) (hs : CalmSame s.slots t.slots) (hr : t.rst = s.rst) : Calm t := by
  refine ⟨fun i => (hs i).trans (h.1 i), ?_, ?_⟩
  · rw [hr]; exact h.2.1
  · rw [hr]; exact h.2.2

theorem Calm.of_eq {s t : State} (h : Calm s) (hs : t.slots = s.slots) (hr : t.rst = s.rst) : Calm t := h.of_same (.of_eq hs) hr

theorem Calm.publish {s : State} (h : Calm s) (u c : Nat) (d : Bytes) : Calm (publish s u c d) :=
  h.of_same (publish_calm _ _ _ _) (publish_same ..).rst
theorem Calm.bump {s : State} (h : Calm s) (u k : Nat) : Calm (bump s u k) := h.of_same (bump_calm _ _ _) (bump_same ..).rst
theorem Calm.setV {s : State} (h : Calm s) (u k : Nat) (v : Val) : Calm (s.setV u k v) := h.of_eq rfl rfl
theorem Calm.setAxis {s : State} (h : Calm s) (u : Nat) (a : AxisS) : Calm (s.setAxis u a) := h.of_eq rfl rfl
theorem Calm.setSleeve {s : State} (h : Calm s) (u : Nat) (a : SleeveS) : Calm (s.setSleeve u a) := h.of_eq rfl rfl
theorem Calm.setCell {s : State} (h : Calm s) (u : Nat) (a : CellS) : Calm (s.setCell u a) := h.of_eq rfl rfl
theorem Calm.setRec {s : State} (h : Calm s) (u : Nat) (a : RecS) : Calm (s.setRec u a) := h.of_eq rfl rfl
theorem Calm.setCan {s : State} (h : Calm s) (u : Nat) (a : CanS) : Calm (s.setCan u a) := h.of_eq rfl rfl
theorem Calm.setFault {s : State} (h : Calm s) (u : Nat) (a : FaultS) : Calm (s.setFault u a) := h.of_eq rfl rfl
theorem Calm.setKernel {s : State} (h : Calm s) (u : Nat) (a : KernelS) : Calm (s.setKernel u a) := h.of_eq rfl rfl
theorem Calm.setCluster {s : State} (h : Calm s) (u : Nat) (a : ClusterS) : Calm (s.setCluster u a) := h.of_eq rfl rfl
theorem Calm.setPin {s : State} (h : Calm s) (u : Nat) (a : PinS) : Calm (s.setPin u a) := h.of_eq rfl rfl
theorem Calm.setGroup {s : State} (h : Calm s) (u : Nat) (a : GroupS) : Calm (s.setGroup u a) := h.of_eq rfl rfl
theorem Calm.emit {s : State} (h : Calm s) (m : Sent) : Calm (s.emit m) := h.of_eq rfl rfl
theorem Calm.journal {s : State} (h : Calm s) (rs : List JRecord) (a : TxnAct) : Calm (journal s rs a) := h.of_eq rfl rfl

/-- A reply leaves a calm state calm. -/
theorem Calm.answer {s : State} (h : Calm s) (o : Option Origin) (r : ItemReply) : Calm (answer s o r) := by
  unfold Machine.answer
  split
  · exact h
  · rename_i o
    split
    · rename_i ss hs
      dsimp only
      have key : ∀ ss' : Session, ss'.ready = ss.ready → ss'.closing = ss.closing → Calm (s.setSlot o.slot (.opened ss')) := by
        intro ss' h1 h2
        refine Calm.of_same (s := s) h (CalmSame.put s.slots o.slot (.opened ss') ?_) rfl
        refine Eq.trans ?_ (congrArg calmSlot hs).symm
        simp only [calmSlot, h1, h2]
      split
      · exact h
      · split
        · unfold sendReply
          exact Calm.emit (key _ (by rfl) (by rfl)) _
        · exact key _ rfl rfl
    · exact h

/-- A reply changes nothing but its session and the log of what is sent. -/
theorem answer_keeps (s : State) (o : Option Origin) (r : ItemReply) : ∃ m l, answer s o r = { s with slots := m, sent := l } := by
  unfold answer
  split
  · exact ⟨_, _, rfl⟩
  · split
    · dsimp only
      split
      · exact ⟨_, _, rfl⟩
      · split
        · exact ⟨_, _, rfl⟩
        · exact ⟨_, _, rfl⟩
    · exact ⟨_, _, rfl⟩

end Sys2Proof.Machine
end

