-- ==== Sys2Proof/Laws/Kernel.lean ====
section
/-! SUPPORT. What issuing an instruction of a kernel can do (10 R250, R251): its effect, an exception, or an overrun. -/

namespace Sys2Proof.Machine

theorem quiet_self (s t : State) (h : t.pending = s.pending) : quiet s t = .next t := by
  unfold quiet
  rw [← h]

@[simp] theorem withRun_kernel (s : State) (k : Nat) (r : KRun) : (withRun s k r).kernel k = { s.kernel k with run := some r } := by
  simp [withRun]

theorem withRun_pending (s : State) (k : Nat) (r : KRun) : (withRun s k r).pending = s.pending := rfl

/-- An instruction whose effect fits the budget takes it. -/
theorem kIssue_ok (k : Nat) (e : KEffect) (s : State) (r : KRun) (c : KCtx) (n : Nat) (h : KernelRuns s k r)
    (he : e { kernel := s.kernel k, r := r } = .ok (c, n)) (hf : Fits s k r (c.wait + n)) :
    quiet s (kIssue k e s) = .next (withRun s k { c.r with used := r.used + (c.wait + n) }) := by
  unfold kIssue
  simp only [h.1, h.2, he]
  rw [if_neg (by simp), if_neg (by unfold Fits at hf; omega)]
  exact quiet_self _ _ rfl

/-- An instruction whose cycles fit and that faults ends in an exception. -/
theorem kIssue_error (k : Nat) (e : KEffect) (s : State) (r : KRun) (cause n : Nat) (h : KernelRuns s k r)
    (he : e { kernel := s.kernel k, r := r } = .error (cause, n)) (hf : Fits s k r n) : kIssue k e s = kException s k cause := by
  unfold kIssue
  simp only [h.1, h.2, he]
  rw [if_neg (by simp), if_neg (by unfold Fits at hf; omega)]

/-- An instruction that does not fit the budget is an overrun, whether it would fault or not. -/
theorem kIssue_over_ok (k : Nat) (e : KEffect) (s : State) (r : KRun) (c : KCtx) (n : Nat) (h : KernelRuns s k r)
    (he : e { kernel := s.kernel k, r := r } = .ok (c, n)) (hf : ¬ Fits s k r (c.wait + n)) : kIssue k e s = kOverrun s k := by
  unfold kIssue
  simp only [h.1, h.2, he]
  rw [if_neg (by simp), if_pos (by unfold Fits at hf; omega)]

theorem kIssue_over_error (k : Nat) (e : KEffect) (s : State) (r : KRun) (cause n : Nat) (h : KernelRuns s k r)
    (he : e { kernel := s.kernel k, r := r } = .error (cause, n)) (hf : ¬ Fits s k r n) : kIssue k e s = kOverrun s k := by
  unfold kIssue
  simp only [h.1, h.2, he]
  rw [if_neg (by simp), if_pos (by unfold Fits at hf; omega)]

/-- An instruction on registers alone. -/
theorem kReg_becomes (i : Instr) (k n : Nat) (f : KRun → KRun) (hi : ∀ s, exec i s = quiet s (kIssue k (kReg n f) s)) : Becomes i k n f := by
  intro s r h hf
  rw [hi]
  have := kIssue_ok k (kReg n f) s r { kernel := s.kernel k, r := { f r with pc := r.pc + 1 } } n h rfl (by simpa using hf)
  rw [this]
  simp

theorem putS_eq (r : KRun) (d : Fin 32) (v : W32) : r.putS d v = if d = 0 then r else { r with s := r.s.set d v } := rfl

/-- An instruction that writes one scalar register. -/
theorem kReg_writes (i : Instr) (k n : Nat) (d : Fin 32) (v w : KRun → W32) (hi : ∀ s, exec i s = quiet s (kIssue k (kReg n fun r => r.putS d (v r)) s))
    (hv : ∀ r, v r = w r) : WritesS i k n d w := by
  have h := kReg_becomes i k n _ hi
  unfold WritesS
  simpa only [putS_eq, hv] using h

/-- An exception (10 R251). -/
theorem kException_excepted (s : State) (k cause : Nat) (r : KRun) (hk : k < 128) (h : KernelRuns s k r) : Excepted s k r (kException s k cause) := by
  have hr : ∀ r ∈ allRows, r.stick = true → r.obj = (0x110800 + k) / 256 → (0x110800 + k) % 256 ≤ r.elHi := by
    have h1 : (0x110800 + k) / 256 = 0x1108 := by omega
    have h2 : (0x110800 + k) % 256 = k := by omega
    rw [h1, h2]
    have : ∀ r ∈ allRows, r.stick = true → r.obj = 0x1108 → 127 ≤ r.elHi := by
      set_option maxRecDepth 100000 in decide +kernel
    intro r h3 h4 h5
    have := this r h3 h4 h5
    omega
  have hmax : ((rowOf .root ((0x110800 + k) / 256) ((0x110800 + k) % 256)).map fun r => r.ty.maxNat).getD (2 ^ 32 - 1) = 2 ^ 32 - 1 := by
    have h1 : (0x110800 + k) / 256 = 0x1108 := by omega
    have h2 : (0x110800 + k) % 256 = k := by omega
    rw [h1, h2]
    have : ∀ k : Fin 128, ((rowOf .root 0x1108 k.val).map fun r => r.ty.maxNat).getD (2 ^ 32 - 1) = 2 ^ 32 - 1 := by
      set_option maxRecDepth 100000 in decide +kernel
    exact this ⟨k, hk⟩
  unfold kException
  simp only [h.1]
  generalize hd : (leBytes 1 k ++ leBytes 1 cause ++ leBytes 2 r.pc) = d
  generalize hx : (s.kernel k).home = home
  refine ⟨?_, ?_, ?_, ?_, ?_, ?_, ?_⟩
  · refine (kernel_congr ((bump_same _ _ _).kernels.trans (publish_same _ _ _ _).kernels) k).trans ?_
    simp [hx]
  · refine (n_of_val (bump_keeps _ 0 (0x110800 + k) 0 (0x110400 + k) (by omega) (by omega) hr (.inr (by omega)) (by omega))).trans ?_
    refine (n_of_val (publish_keeps _ _ _ _ 0 (0x110400 + k) (by omega) (.inr (by omega)))).trans ?_
    simp
  · intro hv
    have hp : ∀ t : State, (publish (t.setN 0 (0x110400 + k) 2) home 0x1102 d).n 0 (0x110800 + k) = t.n 0 (0x110800 + k) := by
      intro t
      refine (n_of_val (publish_keeps _ _ _ _ 0 (0x110800 + k) (by omega) (.inr (by omega)))).trans ?_
      simp only [setN_eq]
      exact setV_n_ne _ _ (by rw [Ne, keyOf_inj (by omega) (by omega)]; omega)
    refine (bump_counts _ 0 (0x110800 + k) .root (by omega) (by rfl) hr (by omega) (by omega) ?_).trans ?_
    · rw [hp, hmax]; exact hv
    · rw [hp]; rfl
  · exact (bump_same _ _ _).axes.trans (publish_same _ _ _ _).axes
  · exact (bump_same _ _ _).cells.trans (publish_same _ _ _ _).cells
  · exact (bump_same _ _ _).sleeves.trans (publish_same _ _ _ _).sleeves
  · intro j hj
    refine (kernel_congr ((bump_same _ _ _).kernels.trans (publish_same _ _ _ _).kernels) j).trans ?_
    simp only [setN_eq, setV_at_kernel]
    rw [setKernel_read, if_neg (Ne.symm hj)]

theorem kException_pending (s : State) (k cause : Nat) : (kException s k cause).pending = s.pending := by
  unfold kException
  dsimp only
  split
  · rfl
  · refine (bump_same _ _ _).pending.trans ((publish_same _ _ _ _).pending.trans ?_)
    simp only [setN_eq, setV_pending, setKernel_pending]

/-- An element of KernelOverrunCount counts to the end of 32 bits, and its saturation bit lies in CounterSaturation. -/
theorem overrunCount_rows (k : Nat) (hk : k < 128) : ∀ r ∈ allRows, r.stick = true → r.obj = (0x110700 + k) / 256 → (0x110700 + k) % 256 ≤ r.elHi := by
  have h1 : (0x110700 + k) / 256 = 0x1107 := by omega
  have h2 : (0x110700 + k) % 256 = k := by omega
  rw [h1, h2]
  have : ∀ r ∈ allRows, r.stick = true → r.obj = 0x1107 → 127 ≤ r.elHi := by
    set_option maxRecDepth 100000 in decide +kernel
  intro r h3 h4 h5
  have := this r h3 h4 h5
  omega

theorem overrunCount_max (k : Nat) (hk : k < 128) :
    ((rowOf .root ((0x110700 + k) / 256) ((0x110700 + k) % 256)).map fun r => r.ty.maxNat).getD (2 ^ 32 - 1) = 2 ^ 32 - 1 := by
  have h1 : (0x110700 + k) / 256 = 0x1107 := by omega
  have h2 : (0x110700 + k) % 256 = k := by omega
  rw [h1, h2]
  have : ∀ k : Fin 128, ((rowOf .root 0x1107 k.val).map fun r => r.ty.maxNat).getD (2 ^ 32 - 1) = 2 ^ 32 - 1 := by
    set_option maxRecDepth 100000 in decide +kernel
  exact this ⟨k, hk⟩

/-- An overrun (10 R250). -/
theorem kOverrun_overran (s : State) (k : Nat) (r : KRun) (hk : k < 128) (h : KernelRuns s k r) :
    Overran s k r (kOverrun s k) ∧ (kOverrun s k).pending = s.pending := by
  unfold kOverrun
  simp only [h.1, h.2]
  rw [if_neg (by simp)]
  have hr := overrunCount_rows k hk
  generalize hd : leBytes 1 k ++ leBytes 4 (s.kernel k).image.budget = d
  generalize hx : (s.kernel k).home = home
  have hc : kernelCell (s.setKernel k { s.kernel k with home := home, run := some { r with mem := [], done := true } }) k = kernelCell s k := by
    rfl
  rw [hc]
  generalize hs2 : (if kernelCell s k = 0 then s.setKernel k { s.kernel k with home := home, run := some { r with mem := [], done := true } }
    else (s.setKernel k { s.kernel k with home := home, run := some { r with mem := [], done := true } }).setCell (kernelCell s k)
      { (s.setKernel k { s.kernel k with home := home, run := some { r with mem := [], done := true } }).cell (kernelCell s k) with late := true }) = s2
  have b := bump_same (publish s2 home 0x1101 d) 0 (0x110700 + k)
  have p := publish_same s2 home 0x1101 d
  refine ⟨⟨?_, ?_, ?_, ?_, ?_, ?_⟩, ?_⟩
  · refine (kernel_congr (b.kernels.trans p.kernels) k).trans ?_
    rw [← hs2]; split <;> simp [hx]
  · intro hn
    refine (congrArg CellS.late (cell_congr (b.cells.trans p.cells) _)).trans ?_
    rw [← hs2, if_neg hn]; simp
  · have hp : (publish s2 home 0x1101 d).n 0 (0x110700 + k) = s.n 0 (0x110700 + k) := by
      refine (n_of_val (publish_keeps _ _ _ _ 0 (0x110700 + k) (by omega) (.inr (by omega)))).trans ?_
      rw [← hs2]; split <;> simp
    intro hv
    refine (bump_counts _ 0 (0x110700 + k) .root (by omega) (by rfl) hr (by omega) (by omega) ?_).trans (by rw [hp])
    rw [hp, overrunCount_max k hk]; exact hv
  · refine (n_of_val (bump_keeps _ 0 (0x110700 + k) 0 (0x110400 + k) (by omega) (by omega) hr (.inr (by omega)) (by omega))).trans ?_
    refine (n_of_val (publish_keeps _ _ _ _ 0 (0x110400 + k) (by omega) (.inr (by omega)))).trans ?_
    rw [← hs2]; split <;> simp
  · refine b.axes.trans (p.axes.trans ?_)
    rw [← hs2]; split <;> simp
  · refine b.sleeves.trans (p.sleeves.trans ?_)
    rw [← hs2]; split <;> simp
  · refine b.pending.trans (p.pending.trans ?_)
    rw [← hs2]; split <;> simp

end Sys2Proof.Machine
end

