-- ==== Sys2Proof/Laws/PerInstr.lean ====
section
/-! SUPPORT. For every command: the word that encodes it, where it is an instruction of a kernel, has 32 bits (10 R239). -/

namespace Sys2Proof.Laws.Encoding

open Sys2Proof.Machine

/-- The word that encodes the instruction, if any, has 32 bits. -/
def Statement (i : Instr) : Prop := ∀ w, kernelEncode i = some w → w < 2 ^ 32

theorem reg_word (op d a b c f : Nat) (ho : op < 256) (hd : d < 32) (ha : a < 32) (hb : b < 32) (hc : c < 32) (hf : f < 16) :
    regWord op d a b c f < 2 ^ 32 := by unfold regWord; omega
theorem imm_word (op d : Nat) (imm : BitVec 19) (ho : op < 256) (hd : d < 32) : immWord op d imm < 2 ^ 32 := by unfold immWord; omega
theorem ptr_word (op d p m : Nat) (off : BitVec 14) (ho : op < 256) (hd : d < 32) (hp : p < 8) (hm : m < 4) : ptrWord op d p m off < 2 ^ 32 := by
  unfold ptrWord; omega

theorem beatStart (samples : List SleeveSample) : Statement (.beatStart samples) := nofun
theorem tickStart (sample : SleeveSample) : Statement (.tickStart sample) := nofun
theorem cellCommit (cell : Nat) (registered : Nat) : Statement (.cellCommit cell registered) := nofun
theorem deadline (cell : Nat) : Statement (.deadline cell) := nofun
theorem carrierUpdate (sleeve : Nat) : Statement (.carrierUpdate sleeve) := nofun
theorem pulseDecision (sleeve : Nat) (phase : Nat) (high : Bool) : Statement (.pulseDecision sleeve phase high) := nofun
theorem delayCal (bank : Nat) (ok : Bool) : Statement (.delayCal bank ok) := nofun
theorem trip (sleeve : Nat) (source : TripInput) : Statement (.trip sleeve source) := nofun
theorem tripSourceDeassert (sleeve : Nat) (source : TripSource) : Statement (.tripSourceDeassert sleeve source) := nofun
theorem tripClear (w : Write) : Statement (.tripClear w) := nofun
theorem tripCleared (sleeve : Nat) : Statement (.tripCleared sleeve) := nofun
theorem readback (sleeve : Nat) (pin : Nat) (level : Bool) : Statement (.readback sleeve pin level) := nofun
theorem unitStop (unit : Nat) (origin : Option Origin) : Statement (.unitStop unit origin) := nofun
theorem unitDisable (unit : Nat) (origin : Option Origin) : Statement (.unitDisable unit origin) := nofun
theorem unitEnable (unit : Nat) (origin : Option Origin) : Statement (.unitEnable unit origin) := nofun
theorem unitStart (unit : Nat) (origin : Option Origin) : Statement (.unitStart unit origin) := nofun
theorem selfTestDone (cell : Nat) (pass : Bool) : Statement (.selfTestDone cell pass) := nofun
theorem combPlanApply (plan : CombPlan) (origin : Option Origin) : Statement (.combPlanApply plan origin) := nofun
theorem roleReassign (failed : Nat) : Statement (.roleReassign failed) := nofun
theorem openSession (d : Dgram) (draw : OpenDraw) : Statement (.openSession d draw) := nofun
theorem proof (d : Dgram) : Statement (.proof d) := nofun
theorem challengeTimeout (slot : Nat) : Statement (.challengeTimeout slot) := nofun
theorem close (d : Dgram) : Statement (.close d) := nofun
theorem keepalive (d : Dgram) : Statement (.keepalive d) := nofun
theorem sessionTimeout (slot : Nat) : Statement (.sessionTimeout slot) := nofun
theorem read (d : Dgram) : Statement (.read d) := nofun
theorem write (d : Dgram) : Statement (.write d) := nofun
theorem stage (d : Dgram) : Statement (.stage d) := nofun
theorem commit (d : Dgram) : Statement (.commit d) := nofun
theorem revoke (d : Dgram) : Statement (.revoke d) := nofun
theorem waggleAck (d : Dgram) : Statement (.waggleAck d) := nofun
theorem pdOut (d : Dgram) (arrival : Nat) : Statement (.pdOut d arrival) := nofun
theorem arpRequest (r : ArpRequest) : Statement (.arpRequest r) := nofun
theorem icmpEchoRequest (r : IcmpEcho) : Statement (.icmpEchoRequest r) := nofun
theorem commissioningProbe (answered : Bool) : Statement (.commissioningProbe answered) := nofun
theorem netApply (w : Write) : Statement (.netApply w) := nofun
theorem levelKey (w : Write) : Statement (.levelKey w) := nofun
theorem waggleSend (slot : Nat) : Statement (.waggleSend slot) := nofun
theorem waggleRepeat (slot : Nat) : Statement (.waggleRepeat slot) := nofun
theorem gapAppend : Statement (.gapAppend) := nofun
theorem pdMapApply (w : Write) : Statement (.pdMapApply w) := nofun
theorem pdInLaunch : Statement (.pdInLaunch) := nofun
theorem counterClear (obj : Nat) (w : Write) : Statement (.counterClear obj w) := nofun
theorem objectWrite (obj : Nat) (w : Write) : Statement (.objectWrite obj w) := nofun
theorem sync (m : PtpMsg) : Statement (.sync m) := nofun
theorem followUp (m : PtpMsg) : Statement (.followUp m) := nofun
theorem announce (a : Announce) : Statement (.announce a) := nofun
theorem pdelayReq (m : PtpMsg) : Statement (.pdelayReq m) := nofun
theorem pdelayResp (m : PtpMsg) (t1 : Int) (t2 : Int) (t3 : Int) : Statement (.pdelayResp m t1 t2 t3) := nofun
theorem delayReq (m : PtpMsg) : Statement (.delayReq m) := nofun
theorem delayResp (m : PtpMsg) (t1 : Int) (t2 : Int) (t3 : Int) : Statement (.delayResp m t1 t2 t3) := nofun
theorem eventMessageForward (m : PtpMsg) (residence : Nat) : Statement (.eventMessageForward m residence) := nofun
theorem syncTimeout : Statement .syncTimeout := nofun
theorem timeOfDaySet (w : Write) : Statement (.timeOfDaySet w) := nofun
theorem timingObjectWrite (obj : Nat) (w : Write) : Statement (.timingObjectWrite obj w) := nofun
theorem ppsOutEdge : Statement (.ppsOutEdge) := nofun
theorem ppsInEdge (stamp : Nat) : Statement (.ppsInEdge stamp) := nofun
theorem segmentAppend (w : Write) : Statement (.segmentAppend w) := nofun
theorem queueFlush (unit : Nat) (origin : Option Origin) : Statement (.queueFlush unit origin) := nofun
theorem queueAbort (unit : Nat) (origin : Option Origin) : Statement (.queueAbort unit origin) := nofun
theorem jobDiscard (w : Write) : Statement (.jobDiscard w) := nofun
theorem commitLoaded : Statement (.commitLoaded) := nofun
theorem commitLoadCheck : Statement (.commitLoadCheck) := nofun
theorem phaseTrimAdd (w : Write) : Statement (.phaseTrimAdd w) := nofun
theorem camOpen (table : Nat) (origin : Option Origin) : Statement (.camOpen table origin) := nofun
theorem camSeal (table : Nat) (origin : Option Origin) : Statement (.camSeal table origin) := nofun
theorem camErase (table : Nat) (origin : Option Origin) : Statement (.camErase table origin) := nofun
theorem latchEdge (input : Nat) (level : Bool) (stamp : Nat) : Statement (.latchEdge input level stamp) := nofun
theorem latchEntryInsert (unit : Nat) : Statement (.latchEntryInsert unit) := nofun
theorem compareAppend (w : Write) : Statement (.compareAppend w) := nofun
theorem compareTargetInsert (unit : Nat) : Statement (.compareTargetInsert unit) := nofun
theorem compareFire (unit : Nat) : Statement (.compareFire unit) := nofun
theorem pulseEnd (pin : Nat) : Statement (.pulseEnd pin) := nofun
theorem compareFlush (unit : Nat) (origin : Option Origin) : Statement (.compareFlush unit origin) := nofun
theorem compareStatusClear (w : Write) : Statement (.compareStatusClear w) := nofun
theorem torqueOffsetClear (unit : Nat) (origin : Option Origin) : Statement (.torqueOffsetClear unit origin) := nofun
theorem bankSwapRequest (w : Write) : Statement (.bankSwapRequest w) := nofun
theorem countEdge (sleeve : Nat) (a : Bool) (b : Bool) (stamp : Nat) : Statement (.countEdge sleeve a b stamp) := nofun
theorem hallStep (sleeve : Nat) (a : Bool) (b : Bool) (c : Bool) (stamp : Nat) : Statement (.hallStep sleeve a b c stamp) := nofun
theorem indexEdge (sleeve : Nat) (stamp : Nat) : Statement (.indexEdge sleeve stamp) := nofun
theorem serialTransactionStart (sleeve : Nat) : Statement (.serialTransactionStart sleeve) := nofun
theorem ssiFrame (sleeve : Nat) (idleHigh : Bool) (bits : List Bool) : Statement (.ssiFrame sleeve idleHigh bits) := nofun
theorem fspReply (sleeve : Nat) (bytes : Bytes) (framingOk : Bool) : Statement (.fspReply sleeve bytes framingOk) := nofun
theorem fspTimeout (sleeve : Nat) : Statement (.fspTimeout sleeve) := nofun
theorem fspRegisterRequest (w : Write) : Statement (.fspRegisterRequest w) := nofun
theorem ocDetect (sleeve : Nat) (i1 : List Bool) (i2 : List Bool) : Statement (.ocDetect sleeve i1 i2) := nofun
theorem sdStreamStuck (sleeve : Nat) (bits : List Bool) : Statement (.sdStreamStuck sleeve bits) := nofun
theorem nop (k : Nat) : Statement (.nop k) := by
  intro w h; rw [← Option.some.inj h]; exact reg_word _ _ _ _ _ _ (by omega) (by omega) (by omega) (by omega) (by omega) (by omega)
theorem add (k : Nat) (d : Fin 32) (a : Fin 32) (b : Fin 32) : Statement (.add k d a b) := by
  intro w h; rw [← Option.some.inj h]; exact reg_word _ _ _ _ _ _ (by omega) (by omega) (by omega) (by omega) (by omega) (by omega)
theorem sub (k : Nat) (d : Fin 32) (a : Fin 32) (b : Fin 32) : Statement (.sub k d a b) := by
  intro w h; rw [← Option.some.inj h]; exact reg_word _ _ _ _ _ _ (by omega) (by omega) (by omega) (by omega) (by omega) (by omega)
theorem and (k : Nat) (d : Fin 32) (a : Fin 32) (b : Fin 32) : Statement (.and k d a b) := by
  intro w h; rw [← Option.some.inj h]; exact reg_word _ _ _ _ _ _ (by omega) (by omega) (by omega) (by omega) (by omega) (by omega)
theorem or (k : Nat) (d : Fin 32) (a : Fin 32) (b : Fin 32) : Statement (.or k d a b) := by
  intro w h; rw [← Option.some.inj h]; exact reg_word _ _ _ _ _ _ (by omega) (by omega) (by omega) (by omega) (by omega) (by omega)
theorem xor (k : Nat) (d : Fin 32) (a : Fin 32) (b : Fin 32) : Statement (.xor k d a b) := by
  intro w h; rw [← Option.some.inj h]; exact reg_word _ _ _ _ _ _ (by omega) (by omega) (by omega) (by omega) (by omega) (by omega)
theorem shl (k : Nat) (d : Fin 32) (a : Fin 32) (b : Fin 32) : Statement (.shl k d a b) := by
  intro w h; rw [← Option.some.inj h]; exact reg_word _ _ _ _ _ _ (by omega) (by omega) (by omega) (by omega) (by omega) (by omega)
theorem shr (k : Nat) (d : Fin 32) (a : Fin 32) (b : Fin 32) : Statement (.shr k d a b) := by
  intro w h; rw [← Option.some.inj h]; exact reg_word _ _ _ _ _ _ (by omega) (by omega) (by omega) (by omega) (by omega) (by omega)
theorem sar (k : Nat) (d : Fin 32) (a : Fin 32) (b : Fin 32) : Statement (.sar k d a b) := by
  intro w h; rw [← Option.some.inj h]; exact reg_word _ _ _ _ _ _ (by omega) (by omega) (by omega) (by omega) (by omega) (by omega)
theorem mul (k : Nat) (d : Fin 32) (a : Fin 32) (b : Fin 32) : Statement (.mul k d a b) := by
  intro w h; rw [← Option.some.inj h]; exact reg_word _ _ _ _ _ _ (by omega) (by omega) (by omega) (by omega) (by omega) (by omega)
theorem mulh (k : Nat) (d : Fin 32) (a : Fin 32) (b : Fin 32) : Statement (.mulh k d a b) := by
  intro w h; rw [← Option.some.inj h]; exact reg_word _ _ _ _ _ _ (by omega) (by omega) (by omega) (by omega) (by omega) (by omega)
theorem slt (k : Nat) (d : Fin 32) (a : Fin 32) (b : Fin 32) : Statement (.slt k d a b) := by
  intro w h; rw [← Option.some.inj h]; exact reg_word _ _ _ _ _ _ (by omega) (by omega) (by omega) (by omega) (by omega) (by omega)
theorem sltu (k : Nat) (d : Fin 32) (a : Fin 32) (b : Fin 32) : Statement (.sltu k d a b) := by
  intro w h; rw [← Option.some.inj h]; exact reg_word _ _ _ _ _ _ (by omega) (by omega) (by omega) (by omega) (by omega) (by omega)
theorem addi (k : Nat) (d : Fin 32) (imm : BitVec 19) : Statement (.addi k d imm) := by
  intro w h; rw [← Option.some.inj h]; exact imm_word _ _ _ (by omega) (by omega)
theorem andi (k : Nat) (d : Fin 32) (imm : BitVec 19) : Statement (.andi k d imm) := by
  intro w h; rw [← Option.some.inj h]; exact imm_word _ _ _ (by omega) (by omega)
theorem ori (k : Nat) (d : Fin 32) (imm : BitVec 19) : Statement (.ori k d imm) := by
  intro w h; rw [← Option.some.inj h]; exact imm_word _ _ _ (by omega) (by omega)
theorem lui (k : Nat) (d : Fin 32) (imm : BitVec 19) : Statement (.lui k d imm) := by
  intro w h; rw [← Option.some.inj h]; exact imm_word _ _ _ (by omega) (by omega)
theorem fadd (k : Nat) (d : Fin 32) (a : Fin 32) (b : Fin 32) : Statement (.fadd k d a b) := by
  intro w h; rw [← Option.some.inj h]; exact reg_word _ _ _ _ _ _ (by omega) (by omega) (by omega) (by omega) (by omega) (by omega)
theorem fsub (k : Nat) (d : Fin 32) (a : Fin 32) (b : Fin 32) : Statement (.fsub k d a b) := by
  intro w h; rw [← Option.some.inj h]; exact reg_word _ _ _ _ _ _ (by omega) (by omega) (by omega) (by omega) (by omega) (by omega)
theorem fmul (k : Nat) (d : Fin 32) (a : Fin 32) (b : Fin 32) : Statement (.fmul k d a b) := by
  intro w h; rw [← Option.some.inj h]; exact reg_word _ _ _ _ _ _ (by omega) (by omega) (by omega) (by omega) (by omega) (by omega)
theorem ffma (k : Nat) (d : Fin 32) (a : Fin 32) (b : Fin 32) (c : Fin 32) : Statement (.ffma k d a b c) := by
  intro w h; rw [← Option.some.inj h]; exact reg_word _ _ _ _ _ _ (by omega) (by omega) (by omega) (by omega) (by omega) (by omega)
theorem fdiv (k : Nat) (d : Fin 32) (a : Fin 32) (b : Fin 32) : Statement (.fdiv k d a b) := by
  intro w h; rw [← Option.some.inj h]; exact reg_word _ _ _ _ _ _ (by omega) (by omega) (by omega) (by omega) (by omega) (by omega)
theorem fsqrt (k : Nat) (d : Fin 32) (a : Fin 32) : Statement (.fsqrt k d a) := by
  intro w h; rw [← Option.some.inj h]; exact reg_word _ _ _ _ _ _ (by omega) (by omega) (by omega) (by omega) (by omega) (by omega)
theorem itof (k : Nat) (d : Fin 32) (a : Fin 32) : Statement (.itof k d a) := by
  intro w h; rw [← Option.some.inj h]; exact reg_word _ _ _ _ _ _ (by omega) (by omega) (by omega) (by omega) (by omega) (by omega)
theorem ftoi (k : Nat) (d : Fin 32) (a : Fin 32) : Statement (.ftoi k d a) := by
  intro w h; rw [← Option.some.inj h]; exact reg_word _ _ _ _ _ _ (by omega) (by omega) (by omega) (by omega) (by omega) (by omega)
theorem flt (k : Nat) (d : Fin 32) (a : Fin 32) (b : Fin 32) : Statement (.flt k d a b) := by
  intro w h; rw [← Option.some.inj h]; exact reg_word _ _ _ _ _ _ (by omega) (by omega) (by omega) (by omega) (by omega) (by omega)
theorem fneg (k : Nat) (d : Fin 32) (a : Fin 32) : Statement (.fneg k d a) := by
  intro w h; rw [← Option.some.inj h]; exact reg_word _ _ _ _ _ _ (by omega) (by omega) (by omega) (by omega) (by omega) (by omega)
theorem fabs (k : Nat) (d : Fin 32) (a : Fin 32) : Statement (.fabs k d a) := by
  intro w h; rw [← Option.some.inj h]; exact reg_word _ _ _ _ _ _ (by omega) (by omega) (by omega) (by omega) (by omega) (by omega)
theorem vld (k : Nat) (d : Fin 8) (p : Fin 8) (mode : Fin 4) (off : BitVec 14) : Statement (.vld k d p mode off) := by
  intro w h; rw [← Option.some.inj h]; exact ptr_word _ _ _ _ _ (by omega) (by omega) (by omega) (by omega)
theorem vst (k : Nat) (d : Fin 8) (p : Fin 8) (mode : Fin 4) (off : BitVec 14) : Statement (.vst k d p mode off) := by
  intro w h; rw [← Option.some.inj h]; exact ptr_word _ _ _ _ _ (by omega) (by omega) (by omega) (by omega)
theorem vbc (k : Nat) (d : Fin 8) (a : Fin 32) : Statement (.vbc k d a) := by
  intro w h; rw [← Option.some.inj h]; exact reg_word _ _ _ _ _ _ (by omega) (by omega) (by omega) (by omega) (by omega) (by omega)
theorem vfma (k : Nat) (d : Fin 4) (a : Fin 32) (b : Fin 8) : Statement (.vfma k d a b) := by
  intro w h; rw [← Option.some.inj h]; exact reg_word _ _ _ _ _ _ (by omega) (by omega) (by omega) (by omega) (by omega) (by omega)
theorem vmul (k : Nat) (d : Fin 8) (a : Fin 32) (b : Fin 8) : Statement (.vmul k d a b) := by
  intro w h; rw [← Option.some.inj h]; exact reg_word _ _ _ _ _ _ (by omega) (by omega) (by omega) (by omega) (by omega) (by omega)
theorem vadd (k : Nat) (d : Fin 8) (a : Fin 8) (b : Fin 8) : Statement (.vadd k d a b) := by
  intro w h; rw [← Option.some.inj h]; exact reg_word _ _ _ _ _ _ (by omega) (by omega) (by omega) (by omega) (by omega) (by omega)
theorem aclr (k : Nat) (d : Fin 4) : Statement (.aclr k d) := by
  intro w h; rw [← Option.some.inj h]; exact reg_word _ _ _ _ _ _ (by omega) (by omega) (by omega) (by omega) (by omega) (by omega)
theorem amov (k : Nat) (d : Fin 8) (a : Fin 4) : Statement (.amov k d a) := by
  intro w h; rw [← Option.some.inj h]; exact reg_word _ _ _ _ _ _ (by omega) (by omega) (by omega) (by omega) (by omega) (by omega)
theorem vsum (k : Nat) (d : Fin 32) (a : Fin 8) : Statement (.vsum k d a) := by
  intro w h; rw [← Option.some.inj h]; exact reg_word _ _ _ _ _ _ (by omega) (by omega) (by omega) (by omega) (by omega) (by omega)
theorem vget (k : Nat) (d : Fin 32) (a : Fin 8) (func : BitVec 4) : Statement (.vget k d a func) := by
  intro w h; rw [← Option.some.inj h]; exact reg_word _ _ _ _ _ _ (by omega) (by omega) (by omega) (by omega) (by omega) (by omega)
theorem vput (k : Nat) (d : Fin 8) (a : Fin 32) (func : BitVec 4) : Statement (.vput k d a func) := by
  intro w h; rw [← Option.some.inj h]; exact reg_word _ _ _ _ _ _ (by omega) (by omega) (by omega) (by omega) (by omega) (by omega)
theorem ld (k : Nat) (d : Fin 32) (p : Fin 8) (mode : Fin 4) (off : BitVec 14) : Statement (.ld k d p mode off) := by
  intro w h; rw [← Option.some.inj h]; exact ptr_word _ _ _ _ _ (by omega) (by omega) (by omega) (by omega)
theorem st (k : Nat) (d : Fin 32) (p : Fin 8) (mode : Fin 4) (off : BitVec 14) : Statement (.st k d p mode off) := by
  intro w h; rw [← Option.some.inj h]; exact ptr_word _ _ _ _ _ (by omega) (by omega) (by omega) (by omega)
theorem pset (k : Nat) (d : Fin 8) (a : Fin 32) : Statement (.pset k d a) := by
  intro w h; rw [← Option.some.inj h]; exact reg_word _ _ _ _ _ _ (by omega) (by omega) (by omega) (by omega) (by omega) (by omega)
theorem bset (k : Nat) (d : Fin 8) (a : Fin 32) : Statement (.bset k d a) := by
  intro w h; rw [← Option.some.inj h]; exact reg_word _ _ _ _ _ _ (by omega) (by omega) (by omega) (by omega) (by omega) (by omega)
theorem lset (k : Nat) (d : Fin 8) (a : Fin 32) : Statement (.lset k d a) := by
  intro w h; rw [← Option.some.inj h]; exact reg_word _ _ _ _ _ _ (by omega) (by omega) (by omega) (by omega) (by omega) (by omega)
theorem pget (k : Nat) (d : Fin 32) (a : Fin 8) : Statement (.pget k d a) := by
  intro w h; rw [← Option.some.inj h]; exact reg_word _ _ _ _ _ _ (by omega) (by omega) (by omega) (by omega) (by omega) (by omega)
theorem srch (k : Nat) (d : Fin 32) (a : Fin 8) (b : Fin 32) (func : BitVec 4) : Statement (.srch k d a b func) := by
  intro w h; rw [← Option.some.inj h]; exact reg_word _ _ _ _ _ _ (by omega) (by omega) (by omega) (by omega) (by omega) (by omega)
theorem bz (k : Nat) (d : Fin 32) (imm : BitVec 19) : Statement (.bz k d imm) := by
  intro w h; rw [← Option.some.inj h]; exact imm_word _ _ _ (by omega) (by omega)
theorem bnz (k : Nat) (d : Fin 32) (imm : BitVec 19) : Statement (.bnz k d imm) := by
  intro w h; rw [← Option.some.inj h]; exact imm_word _ _ _ (by omega) (by omega)
theorem br (k : Nat) (imm : BitVec 19) : Statement (.br k imm) := by
  intro w h; rw [← Option.some.inj h]; exact imm_word _ _ _ (by omega) (by omega)
theorem loop (k : Nat) (d : Fin 32) (imm : BitVec 19) : Statement (.loop k d imm) := by
  intro w h; rw [← Option.some.inj h]; exact imm_word _ _ _ (by omega) (by omega)
theorem jal (k : Nat) (d : Fin 32) (imm : BitVec 19) : Statement (.jal k d imm) := by
  intro w h; rw [← Option.some.inj h]; exact imm_word _ _ _ (by omega) (by omega)
theorem jr (k : Nat) (a : Fin 32) : Statement (.jr k a) := by
  intro w h; rw [← Option.some.inj h]; exact reg_word _ _ _ _ _ _ (by omega) (by omega) (by omega) (by omega) (by omega) (by omega)
theorem endK (k : Nat) : Statement (.endK k) := by
  intro w h; rw [← Option.some.inj h]; exact reg_word _ _ _ _ _ _ (by omega) (by omega) (by omega) (by omega) (by omega) (by omega)
theorem illegalInstruction (k : Nat) (word : W32) : Statement (.illegalInstruction k word) := nofun
theorem kernelOverrun (k : Nat) : Statement (.kernelOverrun k) := nofun
theorem crcPoly (k : Nat) (v : W32) : Statement (.crcPoly k v) := nofun
theorem crcCfg (k : Nat) (v : W32) : Statement (.crcCfg k v) := nofun
theorem crcInit (k : Nat) (v : W32) : Statement (.crcInit k v) := nofun
theorem crcValue (k : Nat) (v : W32) : Statement (.crcValue k v) := nofun
theorem crcIn8 (k : Nat) (v : W32) : Statement (.crcIn8 k v) := nofun
theorem crcIn16 (k : Nat) (v : W32) : Statement (.crcIn16 k v) := nofun
theorem crcIn32 (k : Nat) (v : W32) : Statement (.crcIn32 k v) := nofun
theorem kernelRestart (w : Write) : Statement (.kernelRestart w) := nofun
theorem kernelUpdateApply (w : Write) : Statement (.kernelUpdateApply w) := nofun
theorem triggerCondition (w : Write) : Statement (.triggerCondition w) := nofun
theorem streamDatagramSend (recorder : Nat) : Statement (.streamDatagramSend recorder) := nofun
theorem streamFlushTimeout (recorder : Nat) : Statement (.streamFlushTimeout recorder) := nofun
theorem faultHit (unit : Nat) (bit : Nat) : Statement (.faultHit unit bit) := nofun
theorem faultStickyClear (shadowed : Bool) (w : Write) : Statement (.faultStickyClear shadowed w) := nofun
theorem readyingDone (cell : Nat) : Statement (.readyingDone cell) := nofun
theorem rehousingQueuedStart : Statement (.rehousingQueuedStart) := nofun
theorem roleGrant (cell : Nat) : Statement (.roleGrant cell) := nofun
theorem quietPeriodEnd (unit : Nat) (channel : Option Nat) : Statement (.quietPeriodEnd unit channel) := nofun
theorem retireRelease (w : Write) : Statement (.retireRelease w) := nofun
theorem operatingTimeSave : Statement (.operatingTimeSave) := nofun
theorem veilCycle (inp : VeilInputs) : Statement (.veilCycle inp) := nofun
theorem veilFrame (sleeve : Nat) (good : Bool) (frame : SnoopedFrame) (received : Nat) : Statement (.veilFrame sleeve good frame received) := nofun
theorem stoDarkTest (group : Nat) (lowSeen : Bool) (highSeen : Bool) : Statement (.stoDarkTest group lowSeen highSeen) := nofun
theorem testPulse (output : Nat) (readsZero : List (Nat × Bool)) : Statement (.testPulse output readsZero) := nofun
theorem groupLatchClear (w : Write) : Statement (.groupLatchClear w) := nofun
theorem safetyKeyEnrol (w : Write) : Statement (.safetyKeyEnrol w) := nofun
theorem enrolTimeout : Statement (.enrolTimeout) := nofun
theorem safetyReset (w : Write) : Statement (.safetyReset w) := nofun
theorem veilSelfTestDone (pass : Bool) : Statement (.veilSelfTestDone pass) := nofun
theorem seamFrameSend : Statement (.seamFrameSend) := nofun
theorem seamFrameReceive (toField : Bool) (valid : Bool) : Statement (.seamFrameReceive toField valid) := nofun
theorem fieldSeamLoss : Statement (.fieldSeamLoss) := nofun
theorem seamLoss : Statement (.seamLoss) := nofun
theorem fieldInputSample (levels : Nat) (low : Nat) : Statement (.fieldInputSample levels low) := nofun
theorem outputSet (w : Write) : Statement (.outputSet w) := nofun
theorem outputClear (w : Write) : Statement (.outputClear w) := nofun
theorem currentLimitTimeout (ch : FieldSwitch) : Statement (.currentLimitTimeout ch) := nofun
theorem outputRetry (ch : FieldSwitch) : Statement (.outputRetry ch) := nofun
theorem outOvertemp (ch : FieldSwitch) : Statement (.outOvertemp ch) := nofun
theorem outOpenLoad (output : Nat) : Statement (.outOpenLoad output) := nofun
theorem tpOverload (output : Nat) : Statement (.tpOverload output) := nofun
theorem vfieldLow (microvolts : Nat) : Statement (.vfieldLow microvolts) := nofun
theorem dieOvertemp : Statement (.dieOvertemp) := nofun
theorem txSlot (w : Write) : Statement (.txSlot w) := nofun
theorem txAbort (w : Write) : Statement (.txAbort w) := nofun
theorem rxRead (unit : Nat) (dataLength : Nat) (origin : Option Origin) : Statement (.rxRead unit dataLength origin) := nofun
theorem arbitration (unit : Nat) (won : Bool) (sof : Nat) : Statement (.arbitration unit won sof) := nofun
theorem txDone (unit : Nat) : Statement (.txDone unit) := nofun
theorem txError (unit : Nat) (e : CanTxErr) : Statement (.txError unit e) := nofun
theorem busRecovered (unit : Nat) : Statement (.busRecovered unit) := nofun
theorem canFrameReceive (unit : Nat) (f : CanFrame) (sof : Nat) : Statement (.canFrameReceive unit f sof) := nofun
theorem refMessageDue (unit : Nat) : Statement (.refMessageDue unit) := nofun
theorem journalCommit : Statement (.journalCommit) := nofun
theorem renderNow (w : Write) : Statement (.renderNow w) := nofun
theorem renderDone : Statement (.renderDone) := nofun
theorem retirementsAccept (w : Write) : Statement (.retirementsAccept w) := nofun
theorem pfail : Statement (.pfail) := nofun
theorem firmwareApply (w : Write) (signatureOk : Bool) : Statement (.firmwareApply w signatureOk) := nofun
theorem firmwareConfirmed : Statement (.firmwareConfirmed) := nofun
theorem por (v : Supplies) : Statement (.por v) := nofun
theorem borCore (v : Supplies) : Statement (.borCore v) := nofun
theorem borIo (v : Supplies) : Statement (.borIo v) := nofun
theorem pin : Statement (.pin) := nofun
theorem keeperWdg : Statement (.keeperWdg) := nofun
theorem debug : Statement (.debug) := nofun
theorem thermal (milliCelsius : Int) : Statement (.thermal milliCelsius) := nofun
theorem resetRequestFull (origin : Option Origin) : Statement (.resetRequestFull origin) := nofun
theorem resetRequestDevice (origin : Option Origin) : Statement (.resetRequestDevice origin) := nofun
theorem resetRequestKeeper (origin : Option Origin) : Statement (.resetRequestKeeper origin) := nofun
theorem resetRequestComb (origin : Option Origin) : Statement (.resetRequestComb origin) := nofun
theorem resetStretchEnd : Statement (.resetStretchEnd) := nofun
theorem fuseLoadDone (rows : List FuseRow) : Statement (.fuseLoadDone rows) := nofun
theorem keeperBootDone (signatureOk : Bool) : Statement (.keeperBootDone signatureOk) := nofun
theorem journalReplayDone : Statement (.journalReplayDone) := nofun
theorem keeperResetDone (signatureOk : Bool) : Statement (.keeperResetDone signatureOk) := nofun
theorem combReset : Statement (.combReset) := nofun
theorem drainRequest (unit : Nat) (origin : Option Origin) : Statement (.drainRequest unit origin) := nofun
theorem drainCancel (unit : Nat) (origin : Option Origin) : Statement (.drainCancel unit origin) := nofun
theorem drainIdle (unit : Nat) : Statement (.drainIdle unit) := nofun
theorem unitReset (unit : Nat) (origin : Option Origin) : Statement (.unitReset unit origin) := nofun
theorem jtagUnlock (w : Write) : Statement (.jtagUnlock w) := nofun
theorem thermalHigh (milliCelsius : Int) : Statement (.thermalHigh milliCelsius) := nofun
theorem vfieldAbsent : Statement (.vfieldAbsent) := nofun
theorem fieldDiePowerUp : Statement (.fieldDiePowerUp) := nofun
theorem faultSourceInactive (unit : Nat) (bit : Nat) : Statement (.faultSourceInactive unit bit) := nofun
theorem resetSourceDeassert (source : ResetSource) : Statement (.resetSourceDeassert source) := nofun
theorem thermalRearm (milliCelsius : Int) : Statement (.thermalRearm milliCelsius) := nofun
theorem busError (unit : Nat) : Statement (.busError unit) := nofun

end Sys2Proof.Laws.Encoding
end

