-- ==== Sys2Proof/Laws/Units.lean ====
section
/-! SUPPORT. What a change of a unit's state can touch (01 R27 to R30): once for putState, setUnit, axisTo and sleeveFollows, for every caller. -/

namespace Sys2Proof.Machine

/-- Two states that differ at most in the dictionary, the events and the sessions' lists of them, axes, sleeves, pins, recorders, fault
bookkeeping and the log of what is sent. -/
structure Within (s t : State) : Prop where
  calm : CalmSame s.slots t.slots
  pending : t.pending = s.pending
  time : t.time = s.time
  beat : t.beat = s.beat
  authFails : t.authFails = s.authFails
  authBars : t.authBars = s.authBars
  keys : t.keys = s.keys
  ipv4 : t.ipv4 = s.ipv4
  lfpPort : t.lfpPort = s.lfpPort
  linkLocal : t.linkLocal = s.linkLocal
  writes : t.writes = s.writes
  commands : t.commands = s.commands
  clusters : t.clusters = s.clusters
  jobs : t.jobs = s.jobs
  commit : t.commit = s.commit
  standby : t.standby = s.standby
  flipped : t.flipped = s.flipped
  camRuns : t.camRuns = s.camRuns
  latchIns : t.latchIns = s.latchIns
  cells : t.cells = s.cells
  rehousings : t.rehousings = s.rehousings
  kernels : t.kernels = s.kernels
  kernelSerial : t.kernelSerial = s.kernelSerial
  plan : t.plan = s.plan
  veil : t.veil = s.veil
  field : t.field = s.field
  can : t.can = s.can
  nva : t.nva = s.nva
  journal : t.journal = s.journal
  rst : t.rst = s.rst
  freeCount : t.freeCount = s.freeCount
  netMask : t.netMask = s.netMask
  gateway : t.gateway = s.gateway

theorem Within.refl (s : State) : Within s s := by
  exact ⟨.refl _, rfl, rfl, rfl, rfl, rfl, rfl, rfl, rfl, rfl, rfl, rfl, rfl, rfl, rfl, rfl, rfl, rfl, rfl, rfl, rfl, rfl, rfl, rfl, rfl, rfl, rfl, rfl, rfl, rfl, rfl, rfl, rfl⟩

theorem Within.trans {s t u : State} (h : Within s t) (g : Within t u) : Within s u := by
  constructor
  · exact h.calm.trans g.calm
  · exact g.pending.trans h.pending
  · exact g.time.trans h.time
  · exact g.beat.trans h.beat
  · exact g.authFails.trans h.authFails
  · exact g.authBars.trans h.authBars
  · exact g.keys.trans h.keys
  · exact g.ipv4.trans h.ipv4
  · exact g.lfpPort.trans h.lfpPort
  · exact g.linkLocal.trans h.linkLocal
  · exact g.writes.trans h.writes
  · exact g.commands.trans h.commands
  · exact g.clusters.trans h.clusters
  · exact g.jobs.trans h.jobs
  · exact g.commit.trans h.commit
  · exact g.standby.trans h.standby
  · exact g.flipped.trans h.flipped
  · exact g.camRuns.trans h.camRuns
  · exact g.latchIns.trans h.latchIns
  · exact g.cells.trans h.cells
  · exact g.rehousings.trans h.rehousings
  · exact g.kernels.trans h.kernels
  · exact g.kernelSerial.trans h.kernelSerial
  · exact g.plan.trans h.plan
  · exact g.veil.trans h.veil
  · exact g.field.trans h.field
  · exact g.can.trans h.can
  · exact g.nva.trans h.nva
  · exact g.journal.trans h.journal
  · exact g.rst.trans h.rst
  · exact g.freeCount.trans h.freeCount
  · exact g.netMask.trans h.netMask
  · exact g.gateway.trans h.gateway

/-- What keeps the slots and every other field that counts is within. -/
theorem Within.of_events {s t : State} (h : SameButEvents s t) (c : CalmSame s.slots t.slots) : Within s t := by
  constructor
  · exact c
  · exact h.pending
  · exact h.time
  · exact h.beat
  · exact h.authFails
  · exact h.authBars
  · exact h.keys
  · exact h.ipv4
  · exact h.lfpPort
  · exact h.linkLocal
  · exact h.writes
  · exact h.commands
  · exact h.clusters
  · exact h.jobs
  · exact h.commit
  · exact h.standby
  · exact h.flipped
  · exact h.camRuns
  · exact h.latchIns
  · exact h.cells
  · exact h.rehousings
  · exact h.kernels
  · exact h.kernelSerial
  · exact h.plan
  · exact h.veil
  · exact h.field
  · exact h.can
  · exact h.nva
  · exact h.journal
  · exact h.rst
  · exact h.freeCount
  · exact h.netMask
  · exact h.gateway

theorem Within.setV (s : State) (u k : Nat) (v : Val) : Within s (s.setV u k v) :=
  ⟨(.of_eq (setV_slots ..)), setV_pending .., setV_time .., setV_beat .., setV_authFails .., setV_authBars .., setV_keys .., setV_ipv4 .., setV_lfpPort .., setV_linkLocal .., setV_writes .., setV_commands .., setV_clusters .., setV_jobs .., setV_commit .., setV_standby .., setV_flipped .., setV_camRuns .., setV_latchIns .., setV_cells .., setV_rehousings .., setV_kernels .., setV_kernelSerial .., setV_plan .., setV_veil .., setV_field .., setV_can .., setV_nva .., setV_journal .., setV_rst .., setV_freeCount .., setV_netMask .., setV_gateway ..⟩
theorem Within.setAxis (s : State) (u : Nat) (a : AxisS) : Within s (s.setAxis u a) :=
  ⟨(.of_eq (setAxis_slots ..)), setAxis_pending .., setAxis_time .., setAxis_beat .., setAxis_authFails .., setAxis_authBars .., setAxis_keys .., setAxis_ipv4 .., setAxis_lfpPort .., setAxis_linkLocal .., setAxis_writes .., setAxis_commands .., setAxis_clusters .., setAxis_jobs .., setAxis_commit .., setAxis_standby .., setAxis_flipped .., setAxis_camRuns .., setAxis_latchIns .., setAxis_cells .., setAxis_rehousings .., setAxis_kernels .., setAxis_kernelSerial .., setAxis_plan .., setAxis_veil .., setAxis_field .., setAxis_can .., setAxis_nva .., setAxis_journal .., setAxis_rst .., setAxis_freeCount .., setAxis_netMask .., setAxis_gateway ..⟩
theorem Within.setSleeve (s : State) (u : Nat) (a : SleeveS) : Within s (s.setSleeve u a) :=
  ⟨(.of_eq (setSleeve_slots ..)), setSleeve_pending .., setSleeve_time .., setSleeve_beat .., setSleeve_authFails .., setSleeve_authBars .., setSleeve_keys .., setSleeve_ipv4 .., setSleeve_lfpPort .., setSleeve_linkLocal .., setSleeve_writes .., setSleeve_commands .., setSleeve_clusters .., setSleeve_jobs .., setSleeve_commit .., setSleeve_standby .., setSleeve_flipped .., setSleeve_camRuns .., setSleeve_latchIns .., setSleeve_cells .., setSleeve_rehousings .., setSleeve_kernels .., setSleeve_kernelSerial .., setSleeve_plan .., setSleeve_veil .., setSleeve_field .., setSleeve_can .., setSleeve_nva .., setSleeve_journal .., setSleeve_rst .., setSleeve_freeCount .., setSleeve_netMask .., setSleeve_gateway ..⟩
theorem Within.setPin (s : State) (u : Nat) (a : PinS) : Within s (s.setPin u a) :=
  ⟨(.of_eq (setPin_slots ..)), setPin_pending .., setPin_time .., setPin_beat .., setPin_authFails .., setPin_authBars .., setPin_keys .., setPin_ipv4 .., setPin_lfpPort .., setPin_linkLocal .., setPin_writes .., setPin_commands .., setPin_clusters .., setPin_jobs .., setPin_commit .., setPin_standby .., setPin_flipped .., setPin_camRuns .., setPin_latchIns .., setPin_cells .., setPin_rehousings .., setPin_kernels .., setPin_kernelSerial .., setPin_plan .., setPin_veil .., setPin_field .., setPin_can .., setPin_nva .., setPin_journal .., setPin_rst .., setPin_freeCount .., setPin_netMask .., setPin_gateway ..⟩
theorem Within.setRec (s : State) (u : Nat) (a : RecS) : Within s (s.setRec u a) :=
  ⟨(.of_eq (setRec_slots ..)), setRec_pending .., setRec_time .., setRec_beat .., setRec_authFails .., setRec_authBars .., setRec_keys .., setRec_ipv4 .., setRec_lfpPort .., setRec_linkLocal .., setRec_writes .., setRec_commands .., setRec_clusters .., setRec_jobs .., setRec_commit .., setRec_standby .., setRec_flipped .., setRec_camRuns .., setRec_latchIns .., setRec_cells .., setRec_rehousings .., setRec_kernels .., setRec_kernelSerial .., setRec_plan .., setRec_veil .., setRec_field .., setRec_can .., setRec_nva .., setRec_journal .., setRec_rst .., setRec_freeCount .., setRec_netMask .., setRec_gateway ..⟩
theorem Within.setFault (s : State) (u : Nat) (a : FaultS) : Within s (s.setFault u a) :=
  ⟨(.of_eq (setFault_slots ..)), setFault_pending .., setFault_time .., setFault_beat .., setFault_authFails .., setFault_authBars .., setFault_keys .., setFault_ipv4 .., setFault_lfpPort .., setFault_linkLocal .., setFault_writes .., setFault_commands .., setFault_clusters .., setFault_jobs .., setFault_commit .., setFault_standby .., setFault_flipped .., setFault_camRuns .., setFault_latchIns .., setFault_cells .., setFault_rehousings .., setFault_kernels .., setFault_kernelSerial .., setFault_plan .., setFault_veil .., setFault_field .., setFault_can .., setFault_nva .., setFault_journal .., setFault_rst .., setFault_freeCount .., setFault_netMask .., setFault_gateway ..⟩
theorem Within.emit (s : State) (m : Sent) : Within s (s.emit m) :=
  ⟨(.of_eq (emit_slots ..)), emit_pending .., emit_time .., emit_beat .., emit_authFails .., emit_authBars .., emit_keys .., emit_ipv4 .., emit_lfpPort .., emit_linkLocal .., emit_writes .., emit_commands .., emit_clusters .., emit_jobs .., emit_commit .., emit_standby .., emit_flipped .., emit_camRuns .., emit_latchIns .., emit_cells .., emit_rehousings .., emit_kernels .., emit_kernelSerial .., emit_plan .., emit_veil .., emit_field .., emit_can .., emit_nva .., emit_journal .., emit_rst .., emit_freeCount .., emit_netMask .., emit_gateway ..⟩
theorem Within.later (s : State) (u c : Nat) (d : Bytes) : Within s (s.later u c d) :=
  ⟨(.of_eq (later_slots ..)), later_pending .., later_time .., later_beat .., later_authFails .., later_authBars .., later_keys .., later_ipv4 .., later_lfpPort .., later_linkLocal .., later_writes .., later_commands .., later_clusters .., later_jobs .., later_commit .., later_standby .., later_flipped .., later_camRuns .., later_latchIns .., later_cells .., later_rehousings .., later_kernels .., later_kernelSerial .., later_plan .., later_veil .., later_field .., later_can .., later_nva .., later_journal .., later_rst .., later_freeCount .., later_netMask .., later_gateway ..⟩
theorem Within.publish (s : State) (u c : Nat) (d : Bytes) : Within s (publish s u c d) := .of_events (publish_same ..) (publish_calm _ _ _ _)
theorem Within.bump (s : State) (u k : Nat) : Within s (bump s u k) := .of_events (bump_same ..) (bump_calm _ _ _)
theorem Within.bumpN (s : State) (u k n : Nat) : Within s (bumpN s u k n) := by
  induction n generalizing s with
  | zero => exact .refl s
  | succ n ih => exact (Within.bump s u k).trans (ih _)
theorem Within.say (now : Bool) (s : State) (u c : Nat) (d : Bytes) : Within s (say now s u c d) := by
  unfold Machine.say; split
  · exact .publish ..
  · exact .later ..

/-- A fold of steps that are within is within. -/
theorem Within.foldl {α : Type} (f : State → α → State) (l : List α) (s : State) (h : ∀ t x, Within t (f t x)) : Within s (l.foldl f s) := by
  induction l generalizing s with
  | nil => exact .refl s
  | cons a r ih => exact (h s a).trans (ih _)

theorem Within.placeEdge (s : State) (p t : Nat) (l : Bool) : Within s (placeEdge s p t l).2 := by
  unfold Machine.placeEdge; dsimp only; split
  · exact .refl s
  · dsimp only; split
    · exact ((Within.bump ..).trans (.setPin ..)).trans (.emit ..)
    · exact (Within.setPin ..).trans (.emit ..)

theorem Within.pinUpTo (t : Nat) (s : State) (p : Nat) : Within s (pinUpTo t s p) := by
  unfold Machine.pinUpTo; dsimp only; split
  · exact .refl s
  · exact (Within.setPin ..).trans (.foldl _ _ _ fun _ _ => .placeEdge ..)

theorem Within.pinIdle (s : State) (p : Nat) : Within s (pinIdle s p) := by
  unfold Machine.pinIdle; dsimp only
  refine (Within.pinUpTo s.q s p).trans ?_
  split
  · exact .setPin ..
  · exact (Within.setPin ..).trans (.emit ..)

theorem Within.noteHit (s : State) (h : HitS) : Within s (noteHit s h) := by
  unfold Machine.noteHit
  refine .foldl _ _ _ fun t e => ?_
  split
  · exact .refl t
  · exact .setRec ..

theorem Within.putState (now : Bool) (s : State) (u st : Nat) : Within s (putState now s u st) := by
  unfold Machine.putState; split
  · exact .refl s
  · dsimp only
    have h1 := (Within.setV s u 0x030000 (.num st)).trans (Within.say now (s.setN u 0x030000 st) u 0x0003 (leBytes 1 (s.st u) ++ leBytes 1 st))
    generalize Machine.say now (s.setN u 0x030000 st) u 0x0003 (leBytes 1 (s.st u) ++ leBytes 1 st) = s1 at h1 ⊢
    have h2 : Within s (if st = usReady ∨ st = usActive then s1 else (ownedPins s1 u).foldl Machine.pinIdle s1) := by
      split
      · exact h1
      · exact h1.trans (.foldl _ _ _ fun t p => .pinIdle t p)
    generalize (if st = usReady ∨ st = usActive then s1 else (ownedPins s1 u).foldl Machine.pinIdle s1) = s2 at h2 ⊢
    split
    · exact (h2.trans (.bump ..)).trans (.noteHit ..)
    · exact h2

theorem Within.abortRun (now : Bool) (s : State) (a c : Nat) : Within s (abortRun now s a c) := by
  unfold Machine.abortRun; split
  · exact .refl s
  · exact (((Within.setAxis ..).trans (.setV ..)).trans (.setV ..)).trans (.say ..)

theorem Within.emptyQueue (s : State) (a : Nat) : Within s (emptyQueue s a) := .setAxis ..

theorem Within.leaveActive (now : Bool) (s : State) (a : Nat) : Within s (leaveActive now s a) := by
  unfold Machine.leaveActive; dsimp only
  exact ((Within.abortRun now s a 2).trans (.emptyQueue _ a)).trans (.setAxis ..)

theorem Within.followFace (now : Bool) (s : State) (c : ClusterPlan) : Within s (followFace now s c) := by
  unfold Machine.followFace; split
  · exact .refl s
  · dsimp only; split
    · exact (Within.leaveActive ..).trans (.putState ..)
    · exact .putState ..

theorem Within.followFaces (now : Bool) (n : Nat) (s : State) (u : Nat) : Within s (followFaces now n s u) := by
  induction n generalizing s u with
  | zero => exact .refl s
  | succ n ih =>
    unfold Machine.followFaces; split
    · exact .refl s
    · split
      · exact .refl s
      · exact (Within.followFace ..).trans (ih _ _)

theorem Within.watchReserve (s : State) : Within s (watchReserve s) := by
  unfold Machine.watchReserve; dsimp only; split
  · exact (Within.setFault ..).trans (.publish ..)
  · split
    · exact .setFault ..
    · exact .refl s

theorem Within.setUnit (now : Bool) (s : State) (u st : Nat) : Within s (setUnit now s u st) := by
  unfold Machine.setUnit; dsimp only
  have h1 := (Within.putState now s u st).trans (Within.followFaces now 31 (Machine.putState now s u st) u)
  generalize Machine.followFaces now 31 (Machine.putState now s u st) u = s1 at h1 ⊢
  have h2 : Within s (if isAxis u then Machine.putState now s1 0 (rootState s1) else s1) := by
    split
    · exact h1.trans (.putState ..)
    · exact h1
  split
  · exact h2.trans (.watchReserve _)
  · exact h2

theorem Within.dropLatchCompare (now : Bool) (s : State) (a : Nat) : Within s (dropLatchCompare now s a) := by
  unfold Machine.dropLatchCompare; dsimp only
  generalize (if now then (s.axis a).latch.fifo else (s.axis a).latch.fifo.filter fun e => !e.intake) = gone
  generalize (if now then [] else (s.axis a).latch.fifo.filter LatchEntry.intake) = kept
  have h1 := (Within.setAxis s a { s.axis a with latch := { fifo := kept }, compare := { (s.axis a).compare with queue := [], published := [] } }).trans
    (.bumpN _ a 0x090A00 gone.length)
  generalize Machine.bumpN _ a 0x090A00 gone.length = s2 at h1 ⊢
  split
  · split
    · exact h1
    · exact h1.trans (.say ..)
  · split
    · exact h1.trans (.say ..)
    · exact (h1.trans (.say ..)).trans (.say ..)

theorem Within.hem (s : State) (u : Nat) : Within s (hem s u) := .setSleeve ..

theorem Within.axisTo (now : Bool) (s : State) (a st : Nat) : Within s (axisTo now s a st) := by
  unfold Machine.axisTo; dsimp only
  refine Within.trans ?_ (.setUnit ..)
  have h1 : Within s (if s.st a = usActive ∧ st ≠ usActive then Machine.leaveActive now s a else s) := by
    split
    · exact .leaveActive ..
    · exact .refl s
  generalize (if s.st a = usActive ∧ st ≠ usActive then Machine.leaveActive now s a else s) = s1 at h1 ⊢
  split
  · exact (h1.trans (.dropLatchCompare ..)).trans (.emptyQueue ..)
  · exact h1

theorem Within.sleeveFollows (now : Bool) (s : State) (a st : Nat) : Within s (sleeveFollows now s a st) := by
  unfold Machine.sleeveFollows; dsimp only; split
  · exact .refl s
  · split
    · exact .putState ..
    · exact (Within.hem ..).trans (.putState ..)

theorem Within.openShadow (s : State) (u r : Nat) (b : List Nat) : Within s (openShadow s u r b) := .setFault ..

theorem Within.closeShadow (s : State) (r n : Nat) : Within s (closeShadow s r n) := by
  unfold Machine.closeShadow
  refine .foldl _ _ _ fun t e => ?_
  dsimp only; split
  · exact .refl t
  · exact .setFault ..

theorem Within.putFaultBit (s : State) (u o b : Nat) (v : Bool) : Within s (putFaultBit s u o b v) := .setV ..

theorem Within.recordHit (s : State) (u b : Nat) (k : UKind) (c : FClass) : Within s (recordHit s u b k c).1 := by
  unfold Machine.recordHit; dsimp only
  have h0 : Within s (if isLevelSource k b then Machine.putFaultBit s u 0xB01 b true else s) := by
    split
    · exact .putFaultBit ..
    · exact .refl s
  generalize (if isLevelSource k b then Machine.putFaultBit s u 0xB01 b true else s) = s0 at h0 ⊢
  split <;> dsimp only <;> split
  · exact h0
  · exact (h0.trans (.putFaultBit ..)).trans (.publish ..)
  · exact h0
  · exact (h0.trans (.putFaultBit ..)).trans (.publish ..)

theorem Calm.within {s t : State} (h : Calm s) (w : Within s t) : Calm t := h.of_same w.calm w.rst

theorem Within.apart {s t : State} (w : Within s t) : Apart s t :=
  ⟨w.pending, w.time, w.beat, w.keys, w.ipv4, w.lfpPort, w.writes, w.commands, w.clusters, w.jobs, w.commit, w.standby, w.camRuns, w.latchIns,
    w.cells, w.rehousings, w.kernels, w.plan, w.veil, w.field, w.can, w.nva, w.journal, w.rst⟩

/-! ### What a state change leaves of axes, sleeves and the dictionary -/

theorem val_of_dict {s t : State} {x y : Nat} (h : t.dict = s.dict) : t.val x y = s.val x y := by unfold State.val; rw [h]

theorem foldl_keeps {α β : Type} (g : State → β) (f : State → α → State) (l : List α) (s : State) (h : ∀ t x, g (f t x) = g t) :
    g (l.foldl f s) = g s := by
  induction l generalizing s with
  | nil => rfl
  | cons a r ih => exact (ih _).trans (h s a)

theorem noteHit_keeps {β : Type} (g : State → β) (s : State) (x : HitS) (h : ∀ t u a, g (t.setRec u a) = g t) : g (noteHit s x) = g s := by
  unfold noteHit
  refine foldl_keeps g _ _ _ fun t e => ?_
  split
  · rfl
  · exact h ..

/-- A view that pins, the log and the counts of moved edges leave alone is left alone by an edge that is placed. -/
theorem placeEdge_keeps {β : Type} (g : State → β) (s : State) (p t : Nat) (l : Bool) (h : ∀ t u a, g (t.setPin u a) = g t)
    (h' : ∀ t m, g (t.emit m) = g t) (hq : ∀ t, g (bump t 0 (0x092300 + p)) = g t) : g (placeEdge s p t l).2 = g s := by
  unfold placeEdge; dsimp only; split
  · rfl
  · dsimp only; split
    · exact ((h' ..).trans (h ..)).trans (hq ..)
    · exact (h' ..).trans (h ..)

theorem pinUpTo_keeps {β : Type} (g : State → β) (t : Nat) (s : State) (p : Nat) (h : ∀ t u a, g (t.setPin u a) = g t)
    (h' : ∀ t m, g (t.emit m) = g t) (hq : ∀ t, g (bump t 0 (0x092300 + p)) = g t) : g (pinUpTo t s p) = g s := by
  unfold pinUpTo; dsimp only; split
  · rfl
  · exact (foldl_keeps g _ _ _ fun _ _ => placeEdge_keeps g _ _ _ _ h h' hq).trans (h ..)

theorem pinIdle_keeps {β : Type} (g : State → β) (s : State) (p : Nat) (h : ∀ t u a, g (t.setPin u a) = g t) (h' : ∀ t m, g (t.emit m) = g t)
    (hq : ∀ t, g (bump t 0 (0x092300 + p)) = g t) : g (pinIdle s p) = g s := by
  unfold pinIdle; dsimp only; split
  · exact (h ..).trans (pinUpTo_keeps g _ _ _ h h' hq)
  · exact ((h' ..).trans (h ..)).trans (pinUpTo_keeps g _ _ _ h h' hq)

/-- The pins that a unit owns go idle: a view that this leaves alone pin by pin. -/
theorem ownedIdle_keeps {β : Type} (g : State → β) (s : State) (u : Nat) (h : ∀ t u a, g (t.setPin u a) = g t) (h' : ∀ t m, g (t.emit m) = g t)
    (hq : ∀ t p, p < 16 → g (bump t 0 (0x092300 + p)) = g t) : g ((ownedPins s u).foldl pinIdle s) = g s := by
  have hl : ∀ p ∈ ownedPins s u, p < 16 := by
    intro p hp
    simp only [ownedPins, List.mem_filter, List.mem_range] at hp
    exact hp.1
  generalize ownedPins s u = l at hl
  induction l generalizing s with
  | nil => rfl
  | cons p r ih =>
    exact (ih _ fun q hq => hl q (List.mem_cons_of_mem _ hq)).trans (pinIdle_keeps g s p h h' fun t => hq t p (hl p (List.mem_cons_self ..)))

theorem say_keeps {β : Type} (g : State → β) (now : Bool) (s : State) (u c : Nat) (d : Bytes) (h : g (publish s u c d) = g s)
    (h' : g (s.later u c d) = g s) : g (say now s u c d) = g s := by
  unfold say; split
  · exact h
  · exact h'

/-- A view of the state that events, counters, pins, recorders and the unit's own state leave alone is left alone by putState. -/
theorem putState_keeps {β : Type} (g : State → β) (now : Bool) (s : State) (u st : Nat) (hv : g (s.setV u 0x030000 (.num st)) = g s)
    (hp : ∀ t c d, g (publish t u c d) = g t) (hl : ∀ t c d, g (t.later u c d) = g t) (hb : ∀ t, g (bump t u 0x0B0600) = g t)
    (hr : ∀ t u a, g (t.setRec u a) = g t) (hpin : ∀ t u a, g (t.setPin u a) = g t) (he : ∀ t m, g (t.emit m) = g t)
    (hq : ∀ t p, p < 16 → g (bump t 0 (0x092300 + p)) = g t) : g (putState now s u st) = g s := by
  unfold putState; split
  · rfl
  · dsimp only
    have h1 : g (say now (s.setN u 0x030000 st) u 0x0003 (leBytes 1 (s.st u) ++ leBytes 1 st)) = g s :=
      (say_keeps g _ _ _ _ _ (hp ..) (hl ..)).trans hv
    generalize say now (s.setN u 0x030000 st) u 0x0003 (leBytes 1 (s.st u) ++ leBytes 1 st) = s1 at h1 ⊢
    have h2 : g (if st = usReady ∨ st = usActive then s1 else (ownedPins s1 u).foldl pinIdle s1) = g s := by
      split
      · exact h1
      · exact (ownedIdle_keeps g _ _ hpin he hq).trans h1
    generalize (if st = usReady ∨ st = usActive then s1 else (ownedPins s1 u).foldl pinIdle s1) = s2 at h2 ⊢
    split
    · exact (noteHit_keeps g _ _ hr).trans ((hb _).trans h2)
    · exact h2

set_option maxRecDepth 100000 in
theorem faultCount_rows : ∀ r ∈ allRows, r.stick = true → r.obj = 0x0B0600 / 256 → 0x0B0600 % 256 ≤ r.elHi := by decide +kernel

set_option maxRecDepth 100000 in
theorem squeeze_elems : ∀ r ∈ allRows, r.stick = true → r.obj = 0x923 → r.elHi = 15 := by decide +kernel

theorem squeezeCount_rows (p : Nat) (hp : p < 16) : ∀ r ∈ allRows, r.stick = true → r.obj = (0x092300 + p) / 256 → (0x092300 + p) % 256 ≤ r.elHi := by
  intro r hr hs ho
  have := squeeze_elems r hr hs (by omega)
  omega

/-- An element that a unit's change of state leaves alone on every unit: not UnitState, not a count or saturation bit that the change may raise. -/
def Steady (y : Nat) : Prop :=
  y < 2 ^ 24 ∧ y ≠ 0x030000 ∧ y ≠ 0x012200 ∧ y ≠ 0x0B0600 ∧ (y < 0x0B1000 ∨ 0x0B1020 ≤ y) ∧ (y < 0x092300 ∨ 0x092310 ≤ y)

/-- putState moves no element of another name, and no other unit's state. -/
theorem putState_val (now : Bool) (s : State) (u st x y : Nat) (hy : y < 2 ^ 24)
    (h1 : y ≠ 0x012200 ∧ y ≠ 0x0B0600 ∧ (y < 0x0B1000 ∨ 0x0B1020 ≤ y) ∧ (y < 0x092300 ∨ 0x092310 ≤ y)) (h2 : x ≠ u ∨ y ≠ 0x030000) : (putState now s u st).val x y = s.val x y :=
  putState_keeps (fun t => t.val x y) now s u st
    (setV_read_ne _ _ (by intro he; rw [keyOf_inj (by omega) hy] at he; omega))
    (fun t c d => publish_keeps t u c d x y hy (.inr ⟨h1.1, h1.2.2.1⟩)) (fun _ _ _ => val_of_dict (later_dict ..))
    (fun t => bump_keeps t u 0x0B0600 x y hy (by omega) faultCount_rows (.inr (by omega)) ⟨h1.1, h1.2.2.1⟩)
    (fun _ _ _ => val_of_dict (setRec_dict ..)) (fun _ _ _ => val_of_dict (setPin_dict ..)) (fun _ _ => val_of_dict (emit_dict ..))
    fun t p hp => bump_keeps t 0 (0x092300 + p) x y hy (by omega) (squeezeCount_rows p hp) (.inr (by omega)) ⟨h1.1, h1.2.2.1⟩

/-- The unit has the state it is put in. -/
theorem putState_st (now : Bool) (s : State) (u st : Nat) : (putState now s u st).st u = st := by
  unfold putState; split
  · assumption
  · dsimp only
    have h1 : (say now (s.setN u 0x030000 st) u 0x0003 (leBytes 1 (s.st u) ++ leBytes 1 st)).st u = st := by
      refine (say_keeps (fun t => t.st u) _ _ _ _ _ (n_of_val (publish_keeps _ _ _ _ _ _ (by omega) (.inr (by omega)))) (n_of_val (val_of_dict (later_dict ..)))).trans ?_
      show (s.setN u 0x030000 st).n u 0x030000 = st
      simp
    generalize say now (s.setN u 0x030000 st) u 0x0003 (leBytes 1 (s.st u) ++ leBytes 1 st) = s1 at h1 ⊢
    have h2 : (if st = usReady ∨ st = usActive then s1 else (ownedPins s1 u).foldl pinIdle s1).st u = st := by
      split
      · exact h1
      · exact (ownedIdle_keeps (fun t => t.st u) _ _ (fun _ _ _ => n_of_val (val_of_dict (setPin_dict ..))) (fun _ _ => n_of_val (val_of_dict (emit_dict ..)))
          fun t p hp => n_of_val (bump_keeps t 0 (0x092300 + p) u 0x030000 (by omega) (by omega) (squeezeCount_rows p hp) (.inr (by omega)) (by omega))).trans h1
    generalize (if st = usReady ∨ st = usActive then s1 else (ownedPins s1 u).foldl pinIdle s1) = s2 at h2 ⊢
    split
    · refine (noteHit_keeps (fun t => t.st u) _ _ fun _ _ _ => n_of_val (val_of_dict (setRec_dict ..))).trans ?_
      exact (n_of_val (bump_keeps s2 u 0x0B0600 u 0x030000 (by omega) (by omega) faultCount_rows (.inr (by omega)) (by omega))).trans h2
    · exact h2

/-- No other unit's state moves with putState. -/
theorem putState_st_ne (now : Bool) (s : State) (u st x : Nat) (h : x ≠ u) : (putState now s u st).st x = s.st x :=
  n_of_val (putState_val now s u st x 0x030000 (by omega) (by omega) (.inl h))

theorem putState_axes (now : Bool) (s : State) (u st : Nat) : (putState now s u st).axes = s.axes :=
  putState_keeps State.axes now s u st (setV_axes ..) (fun _ _ _ => (publish_same ..).axes) (fun _ _ _ => later_axes ..) (fun _ => (bump_same ..).axes)
    (fun _ _ _ => setRec_axes ..) (fun _ _ _ => setPin_axes ..) (fun _ _ => emit_axes ..) (fun _ _ _ => (bump_same ..).axes)
theorem putState_sleeves (now : Bool) (s : State) (u st : Nat) : (putState now s u st).sleeves = s.sleeves :=
  putState_keeps State.sleeves now s u st (setV_sleeves ..) (fun _ _ _ => (publish_same ..).sleeves) (fun _ _ _ => later_sleeves ..) (fun _ => (bump_same ..).sleeves)
    (fun _ _ _ => setRec_sleeves ..) (fun _ _ _ => setPin_sleeves ..) (fun _ _ => emit_sleeves ..) (fun _ _ _ => (bump_same ..).sleeves)
theorem putState_faults (now : Bool) (s : State) (u st : Nat) : (putState now s u st).faults = s.faults :=
  putState_keeps State.faults now s u st (setV_faults ..) (fun _ _ _ => (publish_same ..).faults) (fun _ _ _ => later_faults ..) (fun _ => (bump_same ..).faults)
    (fun _ _ _ => setRec_faults ..) (fun _ _ _ => setPin_faults ..) (fun _ _ => emit_faults ..) (fun _ _ _ => (bump_same ..).faults)

/-- A unit in no cluster carries no face along. -/
theorem followFaces_free (now : Bool) (n : Nat) (s : State) (u : Nat) (h : NoCluster s u) :
    followFaces now n s u = s := by
  cases n with
  | zero => rfl
  | succ n =>
    unfold followFaces
    have : ((planClusters s).find? fun c => c.members.contains (.device u)) = none := by
      rw [List.find?_eq_none]
      intro c hc
      simpa using h c hc
    rw [this]

theorem planClusters_of_plan {s t : State} (h : t.plan = s.plan) : planClusters t = planClusters s := by unfold planClusters; rw [h]
theorem NoCluster.of_plan {s t : State} {u : Nat} (h : NoCluster s u) (hp : t.plan = s.plan) : NoCluster t u := by
  unfold NoCluster; rw [planClusters_of_plan hp]; exact h
theorem planSleeves_of_plan {s t : State} (h : t.plan = s.plan) : planSleeves t = planSleeves s := by unfold planSleeves; rw [h]
theorem sleeveOf_of_plan {s t : State} (h : t.plan = s.plan) (a : Nat) : sleeveOf t a = sleeveOf s a := by
  unfold sleeveOf; rw [planSleeves_of_plan h]
theorem axisOf_of_plan {s t : State} (h : t.plan = s.plan) (a : Nat) : axisOf t a = axisOf s a := by
  unfold axisOf; rw [planSleeves_of_plan h]

theorem watchReserve_keeps {β : Type} (g : State → β) (s : State) (hf : ∀ t u a, g (t.setFault u a) = g t)
    (hp : ∀ t d, g (publish t 0 0x0B06 d) = g t) : g (watchReserve s) = g s := by
  unfold watchReserve; dsimp only; split
  · exact (hp _ _).trans (hf _ _ _)
  · split
    · exact hf _ _ _
    · rfl

/-- A view that putState leaves alone for the unit and the root, and the fault bookkeeping too, is left alone by setUnit of a unit in no cluster. -/
theorem setUnit_keeps {β : Type} (g : State → β) (now : Bool) (s : State) (u st : Nat) (h : NoCluster s u)
    (hs : g (putState now s u st) = g s) (hr : ∀ t st, isAxis u = true → g (putState now t 0 st) = g t) (hf : ∀ t u a, g (t.setFault u a) = g t)
    (hp : ∀ t d, g (publish t 0 0x0B06 d) = g t) : g (setUnit now s u st) = g s := by
  unfold setUnit; dsimp only
  rw [followFaces_free now 31 (putState now s u st) u (h.of_plan (Within.putState ..).plan)]
  split
  · refine (watchReserve_keeps g _ hf hp).trans ?_
    split
    · exact (hr _ _ ‹_›).trans hs
    · exact hs
  · split
    · exact (hr _ _ ‹_›).trans hs
    · exact hs

theorem isAxis_ne_zero {u : Nat} (h : isAxis u = true) : u ≠ 0 := by rintro rfl; simp [isAxis] at h

/-- The unit, in no cluster, has the state it is moved to. -/
theorem setUnit_st (now : Bool) (s : State) (u st : Nat) (h : NoCluster s u) : (setUnit now s u st).st u = st := by
  unfold setUnit; dsimp only
  rw [followFaces_free now 31 (putState now s u st) u (h.of_plan (Within.putState ..).plan)]
  have hw : ∀ t : State, (watchReserve t).st u = t.st u := fun t =>
    watchReserve_keeps (fun t => t.st u) t (fun _ _ _ => n_of_val (val_of_dict (setFault_dict ..))) fun t d => n_of_val (publish_keeps _ _ _ _ _ _ (by omega) (.inr (by omega)))
  split
  · rw [hw]; split
    · rw [putState_st_ne _ _ _ _ _ (isAxis_ne_zero ‹_›), putState_st]
    · exact putState_st ..
  · split
    · rw [putState_st_ne _ _ _ _ _ (isAxis_ne_zero ‹_›), putState_st]
    · exact putState_st ..

/-- A unit's change of state, outside clusters, leaves the elements that no change of state moves. -/
theorem setUnit_val (now : Bool) (s : State) (u st x y : Nat) (h : NoCluster s u) (hy : Steady y) :
    (setUnit now s u st).val x y = s.val x y :=
  setUnit_keeps (fun t => t.val x y) now s u st h (putState_val _ _ _ _ _ _ hy.1 ⟨hy.2.2.1, hy.2.2.2⟩ (.inr hy.2.1))
    (fun t st _ => putState_val _ _ _ _ _ _ hy.1 ⟨hy.2.2.1, hy.2.2.2⟩ (.inr hy.2.1)) (fun _ _ _ => val_of_dict (setFault_dict ..))
    fun _ _ => publish_keeps _ _ _ _ _ _ hy.1 (.inr ⟨hy.2.2.1, hy.2.2.2.2.1⟩)

/-- A unit's change of state, outside clusters, moves no other unit's state but the root's. -/
theorem setUnit_st_ne (now : Bool) (s : State) (u st x : Nat) (h : NoCluster s u) (hx : x ≠ u) (h0 : x ≠ 0) :
    (setUnit now s u st).st x = s.st x :=
  setUnit_keeps (fun t => t.st x) now s u st h (putState_st_ne _ _ _ _ _ hx) (fun t st _ => putState_st_ne _ _ _ _ _ h0) (fun _ _ _ => n_of_val (val_of_dict (setFault_dict ..)))
    fun _ _ => n_of_val (publish_keeps _ _ _ _ _ _ (by omega) (.inr (by omega)))

theorem setUnit_axes (now : Bool) (s : State) (u st : Nat) (h : NoCluster s u) :
    (setUnit now s u st).axes = s.axes :=
  setUnit_keeps State.axes now s u st h (putState_axes ..) (fun _ _ _ => putState_axes ..) (fun _ _ _ => setFault_axes ..) fun _ _ => (publish_same ..).axes
theorem setUnit_sleeves (now : Bool) (s : State) (u st : Nat) (h : NoCluster s u) :
    (setUnit now s u st).sleeves = s.sleeves :=
  setUnit_keeps State.sleeves now s u st h (putState_sleeves ..) (fun _ _ _ => putState_sleeves ..) (fun _ _ _ => setFault_sleeves ..) fun _ _ => (publish_same ..).sleeves

/-! ### Replies and whole commands -/

theorem answer_calm (s : State) (o : Option Origin) (r : ItemReply) : CalmSame s.slots (answer s o r).slots := by
  unfold Machine.answer
  split
  · exact .refl _
  · rename_i o
    split
    · rename_i ss hs
      dsimp only
      have key : ∀ ss' : Session, ss'.ready = ss.ready → ss'.closing = ss.closing → CalmSame s.slots (s.setSlot o.slot (.opened ss')).slots := by
        intro ss' h1 h2
        refine CalmSame.put s.slots o.slot (.opened ss') ?_
        refine Eq.trans ?_ (congrArg calmSlot hs).symm
        simp only [calmSlot, h1, h2]
      split
      · exact .refl _
      · split
        · unfold sendReply
          exact key _ rfl rfl
        · exact key _ rfl rfl
    · exact .refl _

theorem Within.answer (s : State) (o : Option Origin) (r : ItemReply) : Within s (answer s o r) := by
  have hc := answer_calm s o r
  obtain ⟨m, l, h⟩ := answer_keeps s o r
  rw [h] at hc ⊢
  exact ⟨hc, rfl, rfl, rfl, rfl, rfl, rfl, rfl, rfl, rfl, rfl, rfl, rfl, rfl, rfl, rfl, rfl, rfl, rfl, rfl, rfl, rfl, rfl, rfl, rfl, rfl, rfl, rfl, rfl, rfl, rfl, rfl, rfl⟩
theorem Within.answerSt (s : State) (o : Option Origin) (n : Nat) : Within s (answerSt s o n) := .answer ..

theorem answerSt_dict (s : State) (o : Option Origin) (n : Nat) : (answerSt s o n).dict = s.dict := by
  obtain ⟨m, l, h⟩ := answer_keeps s o { status := n }
  unfold answerSt; rw [h]
theorem answerSt_val (s : State) (o : Option Origin) (n u k : Nat) : (answerSt s o n).val u k = s.val u k := val_of_dict (answerSt_dict ..)
theorem answerSt_n (s : State) (o : Option Origin) (n u k : Nat) : (answerSt s o n).n u k = s.n u k := n_of_val (answerSt_val ..)
theorem answerSt_st (s : State) (o : Option Origin) (n u : Nat) : (answerSt s o n).st u = s.st u := answerSt_n ..
theorem answerSt_axes (s : State) (o : Option Origin) (n : Nat) : (answerSt s o n).axes = s.axes := by
  obtain ⟨m, l, h⟩ := answer_keeps s o { status := n }
  unfold answerSt; rw [h]
theorem answerSt_axis (s : State) (o : Option Origin) (n a : Nat) : (answerSt s o n).axis a = s.axis a := by
  unfold State.axis; rw [answerSt_axes]
theorem answerSt_sleeves (s : State) (o : Option Origin) (n : Nat) : (answerSt s o n).sleeves = s.sleeves := by
  obtain ⟨m, l, h⟩ := answer_keeps s o { status := n }
  unfold answerSt; rw [h]
theorem answerSt_recorders (s : State) (o : Option Origin) (n : Nat) : (answerSt s o n).recorders = s.recorders := by
  obtain ⟨m, l, h⟩ := answer_keeps s o { status := n }
  unfold answerSt; rw [h]
theorem answerSt_pins (s : State) (o : Option Origin) (n : Nat) : (answerSt s o n).pins = s.pins := by
  obtain ⟨m, l, h⟩ := answer_keeps s o { status := n }
  unfold answerSt; rw [h]
theorem answerSt_faults (s : State) (o : Option Origin) (n : Nat) : (answerSt s o n).faults = s.faults := by
  obtain ⟨m, l, h⟩ := answer_keeps s o { status := n }
  unfold answerSt; rw [h]

/-- A command whose effect is within answers its effect in a calm state. -/
theorem done_within {s t : State} (h : Calm s) (w : Within s t) : done s t = .next t := by
  rw [done_calm s t (h.within w), ← w.pending]

theorem whenWf_of {i : Instr} {s t : State} (h : i.wf = true) : whenWf i s t = t := if_pos h
theorem whenRuns_of {s t : State} (h : combRuns s = true) : whenRuns s t = t := if_pos h
theorem combRuns_of {s : State} (h : Serving s) : combRuns s = true := by unfold combRuns; rw [h.1]; rfl
theorem whenReady_of {s t : State} (h : Serving s) : whenReady s t = t := if_pos h.1
theorem keeperUp_of {s : State} (h : Serving s) : keeperUp s = true := by
  unfold keeperUp; rw [h.1, h.2]; rfl
theorem whenKeeper_of {s t : State} (h : Serving s) : whenKeeper s t = t := if_pos (keeperUp_of h)

/-- A UnitCommand that is answered at once: its effect, and the answer. -/
theorem unitActs_next {s t : State} {i : Instr} {a c : Nat} {o : Option Origin} {st : Nat} (hs : Serving s) (hq : Calm s) (hw : i.wf = true)
    (hx : exec i s = done s (whenWf i s (unitActs s a c o))) (hc : unitCommand true s a c o = (some st, t)) (ht : Within s t) :
    exec i s = .next (answerSt t o st) := by
  rw [hx, whenWf_of hw]
  have : unitActs s a c o = answerSt t o st := by
    unfold unitActs
    rw [keeperUp_of hs, hc]
    rfl
  rw [this, done_within hq (ht.trans (.answerSt ..))]

/-! ### Axes -/

theorem axis_command {s : State} {a c : Nat} {o : Option Origin} (h : isAxis a = true) : unitCommand true s a c o = (some (axisCommand true s a c).1, (axisCommand true s a c).2) := by
  unfold unitCommand
  have hk : kindOf a = some .localAxis ∨ kindOf a = some .netAxis ∨ kindOf a = some .virtAxis := by
    simp only [isAxis, decide_eq_true_eq] at h
    unfold kindOf
    rw [if_neg (by omega), if_neg (by omega), if_neg (by omega)]
    by_cases h1 : 0x200 ≤ a ∧ a ≤ 0x21F
    · exact .inl (if_pos h1)
    · rw [if_neg h1]
      by_cases h2 : 0x220 ≤ a ∧ a ≤ 0x31F
      · exact .inr (.inl (if_pos h2))
      · rw [if_neg h2, if_pos (by omega)]; exact .inr (.inr rfl)
  rcases hk with hk | hk | hk <;> rw [hk]

theorem wf_axis {a : Nat} (h : isAxis a = true) : wfUnit a = true := by
  simp only [isAxis, decide_eq_true_eq] at h
  simp [wfUnit, wfAxis, h]

theorem axis_of_axes {s t : State} (h : t.axes = s.axes) (a : Nat) : t.axis a = s.axis a := by unfold State.axis; rw [h]

theorem sleeveFollows_axes (now : Bool) (s : State) (a st : Nat) : (sleeveFollows now s a st).axes = s.axes := by
  unfold sleeveFollows; dsimp only; split
  · rfl
  · split
    · exact putState_axes ..
    · rw [putState_axes]; rfl

theorem sleeveFollows_st (now : Bool) (s : State) (a st x : Nat) (h : sleeveOf s a = 0 ∨ x ≠ sleeveOf s a) : (sleeveFollows now s a st).st x = s.st x := by
  unfold sleeveFollows; dsimp only; split
  · rfl
  · have hx : x ≠ sleeveOf s a := by
      rcases h with h | h
      · rename_i hn; exact absurd (.inl h) hn
      · exact h
    split
    · exact putState_st_ne _ _ _ _ _ hx
    · rw [putState_st_ne _ _ _ _ _ hx]
      exact n_of_val (val_of_dict (setSleeve_dict ..))

theorem ne_sleeve {a k : Nat} (h : isAxis a = true) (hk : isSleeve k = true) : a ≠ k := by
  simp only [isAxis, isSleeve, decide_eq_true_eq] at *; omega

theorem setAxis_axis_self (s : State) (a : Nat) (x : AxisS) : (s.setAxis a x).axis a = x := mapGet_mapPut_self _ _ _ _

theorem abortRun_run (now : Bool) (s : State) (a c : Nat) : ((abortRun now s a c).axis a).traj.run = none := by
  unfold abortRun; split
  · assumption
  · dsimp only
    have : ∀ t : State, ∀ d, (say now t a 0x0702 d).axis a = t.axis a := fun t d =>
      say_keeps (fun t => t.axis a) _ _ _ _ _ (axis_of_axes (publish_same ..).axes a) (later_at_axis ..)
    rw [this]
    rw [setN_eq, setN_eq, setV_at_axis, setV_at_axis, setAxis_axis_self]

theorem setUnit_axis (now : Bool) (s : State) (u st x : Nat) (h : NoCluster s u) : (setUnit now s u st).axis x = s.axis x := axis_of_axes (setUnit_axes now s u st h) x

theorem leaveActive_run (now : Bool) (s : State) (a : Nat) : ((leaveActive now s a).axis a).traj.run = none := by
  unfold leaveActive; dsimp only
  rw [setAxis_axis_self]; dsimp only
  unfold emptyQueue; rw [setAxis_axis_self]; dsimp only
  exact abortRun_run ..

theorem bumpN_axis (s : State) (u k n a : Nat) : (bumpN s u k n).axis a = s.axis a := axis_of_axes (bumpN_same ..).axes a
theorem say_axis (now : Bool) (s : State) (u c : Nat) (d : Bytes) (a : Nat) : (say now s u c d).axis a = s.axis a :=
  say_keeps (fun t => t.axis a) _ _ _ _ _ (axis_of_axes (publish_same ..).axes a) (later_at_axis ..)

theorem dropLatchCompare_axis (s : State) (a : Nat) :
    (dropLatchCompare true s a).axis a = { s.axis a with latch := { fifo := [] }, compare := { (s.axis a).compare with queue := [], published := [] } } := by
  unfold dropLatchCompare; dsimp only
  simp only [if_true]
  split
  · split
    · rw [bumpN_axis, setAxis_axis_self]
    · rw [say_axis, bumpN_axis, setAxis_axis_self]
  · split
    · rw [say_axis, bumpN_axis, setAxis_axis_self]
    · rw [say_axis, say_axis, bumpN_axis, setAxis_axis_self]

theorem axisTo_off (s : State) (a st : Nat) (h : NoCluster s a) (h1 : st ≠ usActive) (h2 : st ≠ usReady) :
    (axisTo true s a st).st a = st ∧ ((axisTo true s a st).axis a).traj.queue = [] ∧ (s.st a = usActive → ((axisTo true s a st).axis a).traj.run = none)
      ∧ ((axisTo true s a st).axis a).latch.fifo = [] ∧ ((axisTo true s a st).axis a).compare.queue = [] := by
  unfold axisTo; dsimp only
  rw [if_pos ⟨h1, h2⟩, if_pos ⟨h1, h2⟩]
  have key : ∀ s1 : State, s1.plan = s.plan → (setUnit true (emptyQueue (dropLatchCompare true s1 a) a) a st).st a = st
      ∧ (setUnit true (emptyQueue (dropLatchCompare true s1 a) a) a st).axis a = { s1.axis a with
          traj := { (s1.axis a).traj with queue := [] }, latch := { fifo := [] }, compare := { (s1.axis a).compare with queue := [], published := [] } } := by
    intro s1 hp
    have hn : NoCluster (emptyQueue (dropLatchCompare true s1 a) a) a :=
      (h.of_plan hp).of_plan ((Within.dropLatchCompare true s1 a).trans (Within.emptyQueue _ a)).plan
    refine ⟨setUnit_st _ _ _ _ hn, ?_⟩
    rw [setUnit_axis _ _ _ _ _ hn]
    unfold emptyQueue
    rw [setAxis_axis_self, dropLatchCompare_axis]
  by_cases ha : s.st a = usActive
  · rw [if_pos ⟨ha, h1⟩]
    have := key (leaveActive true s a) (Within.leaveActive ..).plan
    refine ⟨this.1, ?_, ?_, ?_, ?_⟩ <;> rw [this.2]
    intro _; exact leaveActive_run ..
  · rw [if_neg (by simp [ha])]
    have := key s rfl
    refine ⟨this.1, ?_, fun h => absurd h ha, ?_, ?_⟩ <;> rw [this.2]

theorem axisCommand_of {s t : State} {a c st : Nat} {o : Option Origin} (h : isAxis a = true) (hc : axisCommand true s a c = (st, t)) :
    unitCommand true s a c o = (some st, t) := by rw [axis_command h, hc]

theorem Within.startTraj (s : State) (a : Nat) : Within s (startTraj s a) := .setAxis ..

end Sys2Proof.Machine
end

