-- ==== Sys2Proof/Tests/Slice0.lean ====
section
/-! SUPPORT. Small tests: ill-formed commands, first steps, and the witnesses of the statements' hypotheses. -/

namespace Sys2Proof.Tests

open Sys2Proof.Machine

set_option Elab.async false

/-! ### Well-formedness -/

/-- One ill-formed command for each check. -/
def illFormed : List Instr := [
  .beatStart [⟨0x100, [], [], []⟩], .tickStart ⟨0x121, [], [], []⟩, .cellCommit 0 0, .deadline 0x81, .pulseDecision 0x101 3 true, .delayCal 4 true,
  .readback 0x101 6 true, .unitStop 0x81 none, .unitStart 0x2000 none, .openSession { src := ⟨2 ^ 32, 0⟩, dst := ⟨0, 0⟩, fragment := false, bytes := [] } { sid := 1, challenge := List.replicate 32 0 },
  .openSession { src := ⟨0, 0⟩, dst := ⟨0, 0⟩, fragment := false, bytes := [] } { sid := 0, challenge := List.replicate 32 0 }, .challengeTimeout 16,
  .arpRequest { senderMac := 2 ^ 48, senderIp := 0, targetIp := 0 }, .netApply { unit := 0, elem := 256, data := [] }, .levelKey { unit := 0, elem := 5, data := [] },
  .objectWrite 65536 { unit := 0, data := [] }, .camOpen 1024 none, .latchEdge 16 true 0, .latchEntryInsert 0x1FF, .pulseEnd 16, .sdStreamStuck 0x101 [],
  .add 128 0 0 0, .ld 0 0 0 3 0, .srch 0 31 0 0 0, .srch 0 0 0 0 4, .kernelRestart { unit := 0, elem := 128, data := [] }, .triggerCondition { unit := 0x400, elem := 8, data := [] },
  .streamFlushTimeout 0x410, .faultHit 0 256, .quietPeriodEnd 0x101 (some 0), .quietPeriodEnd 0x700 (some 52), .stoDarkTest 8 true true, .testPulse 4 [],
  .currentLimitTimeout (.output 16), .currentLimitTimeout (.supply 4), .txSlot { unit := 0x500, elem := 32, data := [] }, .rxRead 0x502 0 none, .fuseLoadDone []]

theorem test_ill_formed_refused : illFormed.all (fun i => !i.wf) = true := by decide

theorem test_ill_formed_changes_nothing : exec (.deadline 0x81) State.reset = .next State.reset := by rfl

theorem test_well_formed : ([.beatStart [⟨0x101, [], [], []⟩], .deadline 0x80, .unitStop 0x1FFF none, .ld 127 31 7 2 0, .quietPeriodEnd 0x700 (some 51)] : List Instr).all Instr.wf = true := by
  decide


/-! ### Witnesses: a state and operands for the hypotheses of each statement -/

/-- A device in service, with an address, whose dictionary holds its defaults. -/
def up : State := { State.reset with rst := { State.reset.rst with phase := .running, nRstLow := false }, ipv4 := 0x0A000009 }

/-- The row of the dictionary that a write meets. -/
def rowAt (s : State) (o : Nat) (w : Write) : ObjRow := match directCheck s w.unit o w with | .ok r => r | .error _ => default

theorem calm_of {s : State} (h : (s.slots.all (fun e => calmSlot e.2) && s.rst.raised.isEmpty && s.rst.swReach.isNone) = true) : Calm s := by
  simp only [Bool.and_eq_true, List.isEmpty_iff, Option.isNone_iff_eq_none] at h
  refine ⟨fun i => ?_, h.1.2, h.2⟩
  unfold State.slot mapGet
  generalize s.slots = m at h
  obtain ⟨⟨h, -⟩, -⟩ := h
  induction m with
  | nil => rfl
  | cons e m ih =>
    simp only [List.all_cons, Bool.and_eq_true] at h
    unfold mapFind
    split
    · exact h.1
    · exact ih h.2

theorem serves_of {s : State} (h : (s.slots.all (fun e => calmSlot e.2) && s.rst.raised.isEmpty && s.rst.swReach.isNone) = true)
    (p : s.rst.phase = .running ∧ s.rst.keeperDown = false) : Serving s ∧ Calm s := ⟨p, calm_of h⟩

/-- The write passes its checks. -/
def passesB (s : State) (o : Nat) (w : Write) : Bool :=
  wfWrite w && decide (o < 65536) && decide (storeOf s w.unit o = w.unit) && decide (directCheck s w.unit o w = .ok (rowAt s o w)) && (ownRefusal s w.unit o (rowAt s o w) w).isNone

theorem passes_of {s : State} {o : Nat} {w : Write} (h : passesB s o w = true) : Passes s o w (rowAt s o w) := by
  simp only [passesB, Bool.and_eq_true, decide_eq_true_eq, Option.isNone_iff_eq_none] at h
  exact ⟨h.1.1.1.1, h.1.1.1.2, h.1.1.2, h.1.2, h.2⟩

theorem noCluster_of {s : State} (h : planClusters s = []) : ∀ u, NoCluster s u := fun u c hc => by rw [h] at hc; cases hc

theorem serves_as {s t : State} (hs : t.slots = s.slots) (hr : t.rst = s.rst) (h : Serving s ∧ Calm s) : Serving t ∧ Calm t := by
  refine ⟨?_, fun i => ?_, ?_, ?_⟩
  · unfold Serving; rw [hr]; exact h.1
  · unfold State.slot; rw [hs]; exact h.2.1 i
  · rw [hr]; exact h.2.2.1
  · rw [hr]; exact h.2.2.2

theorem slot_setSlot (s : State) (i : Nat) (x : Slot) (j : Nat) : (s.setSlot i x).slot j = if i = j then x else s.slot j :=
  mapGet_mapPut _ _ _ _ _

theorem serves_setSlot {s : State} (i : Nat) {x : Slot} (hx : calmSlot x = true) (h : Serving s ∧ Calm s) : Serving (s.setSlot i x) ∧ Calm (s.setSlot i x) := by
  refine ⟨h.1, fun j => ?_, h.2.2⟩
  rw [slot_setSlot]
  split
  · exact hx
  · exact h.2.1 j

theorem slot_self (s : State) (i : Nat) (x : Slot) : (s.setSlot i x).slot i = x := (slot_setSlot s i x i).trans (if_pos rfl)

theorem serves_setV {s : State} (u k : Nat) (v : Val) (h : Serving s ∧ Calm s) : Serving (s.setV u k v) ∧ Calm (s.setV u k v) :=
  serves_as (setV_slots s u k v) (setV_rst s u k v) h


/-- A comb plan with one local axis and a sleeve, and a group of net axes. -/
def plan1 : CombPlan := { quadrants := [0], cells := [⟨1, .localServo, 500, [0x200]⟩, ⟨2, .netGroup, 500, [0x220]⟩], sleeves := [⟨0x101, 0x200, 4, 0, 0⟩], clusters := [],
                          kernels := [], sdDividers := [5, 5, 5, 5], signature := 7 }

/-- The plan in force, its units at work, a beat in progress. -/
def atWork : State :=
  let s : State := { up with
    plan := some plan1
    beat := { up.beat with running := true, n := 41, start := 1000000, period := 256000 }
    cells := [(1, { work := { role := .localServo, clock := 500, units := [0x200] } }), (2, { work := { role := .netGroup, clock := 500, units := [0x220] } }), (3, { work := { role := .netGroup } })] }
  [1, 2, 0x101, 0x200].foldl (fun s u => s.setN u 0x030000 usActive) s

theorem at_work_serves : Serving atWork ∧ Calm atWork := serves_of (by decide +kernel) (by decide +kernel)
theorem up_serves : Serving up ∧ Calm up := serves_of (by decide +kernel) (by decide +kernel)
theorem up_clear : ∀ u, NoCluster up u := noCluster_of (by decide +kernel)

/-- Beats, by clause: a device at rest; a tick before its last; a commit at its deadline and 2 ns after it; a deadline. -/
theorem witness_Beats : (Serving up ∧ Calm up) ∧ (Serving atWork ∧ Calm atWork)
    ∧ (up.plan = none ∧ up.cells = [] ∧ up.rehousings = [] ∧ up.kernels = [] ∧ up.writes = [] ∧ up.commands = [] ∧ up.commit = none ∧ up.flipped = none
      ∧ up.recorders = [] ∧ up.veil.groups = [] ∧ up.beat.rxMap = [] ∧ up.beat.running = false)
    ∧ (isSleeve 0x101 = true ∧ atWork.beat.running = true ∧ (sleevePlan atWork 0x101).isSome = true ∧ (atWork.sleeve 0x101).fb.tick + 1 < ticksPerBeat atWork 0x101
      ∧ (atWork.sleeve 0x101).fb.lostDue = false)
    ∧ (isCell 3 = true ∧ (atWork.cell 3).work = { role := .netGroup } ∧ (atWork.cell 3).committed = false ∧ (atWork.cell 3).closed = false
      ∧ (atWork.cell 3).late = false ∧ (atWork.cell 3).ticks = 0 ∧ (atWork.cell 3).shut = none ∧ atWork.writes = [] ∧ atWork.flipped = none
      ∧ (atWork.cell 3).rehoused = none ∧ (atWork.cell 3).replaced = none
      ∧ tickDeadline atWork 3 0 / 32 < (tickDeadline atWork 3 0 + 32) / 32
      ∧ atWork.n 3 0x032300 + 1 < atWork.n 3 0x032100 ∧ atWork.n 3 0x032300 < 16 ∧ shadowed atWork 3 2 = false) := by
  refine ⟨up_serves, at_work_serves, ?_⟩
  decide +kernel

/-- The units in a state of Table 1-3, of a device that has no plan. -/
def units (us : List Nat) (st : Nat) : State := us.foldl (fun s u => s.setN u 0x030000 st) up

theorem units_serve (us : List Nat) (st : Nat) : Serving (units us st) ∧ Calm (units us st) := by
  have h : ∀ s : State, (us.foldl (fun s u => s.setN u 0x030000 st) s).rst = s.rst ∧ (us.foldl (fun s u => s.setN u 0x030000 st) s).slots = s.slots := by
    induction us with
    | nil => exact fun s => ⟨rfl, rfl⟩
    | cons u us ih => intro s; rw [List.foldl_cons, (ih _).1, (ih _).2, setN_eq, setV_rst, setV_slots]; exact ⟨rfl, rfl⟩
  exact serves_as (h up).2 (h up).1 up_serves

/-- AxisCommands, by the state of the axis: with a sleeve and without. -/
theorem witness_AxisCommands : (Serving atWork ∧ Calm atWork) ∧ (Serving (units [0x222] usDisabled) ∧ Calm (units [0x222] usDisabled))
    ∧ (Serving (units [0x222] usReady) ∧ Calm (units [0x222] usReady)) ∧ NoCluster atWork 0x200 ∧ (∀ st, NoCluster (units [0x222] st) 0x222)
    ∧ (isAxis 0x200 = true ∧ isSleeve (sleeveOf atWork 0x200) = true ∧ atWork.st 0x200 = usActive)
    ∧ (isAxis 0x222 = true ∧ sleeveOf (units [0x222] usDisabled) 0x222 = 0 ∧ (units [0x222] usDisabled).st 0x222 = usDisabled
      ∧ enableRefusal (units [0x222] usDisabled) 0x222 = none)
    ∧ (sleeveOf (units [0x222] usReady) 0x222 = 0 ∧ (units [0x222] usReady).st 0x222 = usReady ∧ startRefusal (units [0x222] usReady) 0x222 = none
      ∧ isLocal 0x222 = false) := by
  refine ⟨at_work_serves, units_serve _ _, units_serve _ _, noCluster_of (by decide +kernel) _, fun st => noCluster_of rfl _, ?_⟩
  decide +kernel

/-- A cell under self-test, with the role that the plan gives it. -/
def tested (role : Role) : State := (units [3] usDisabled).setCell 3 { selfTest := true, planned := { role := role } }

theorem witness_SelfTests : (∀ r, Serving (tested r) ∧ Calm (tested r) ∧ NoCluster (tested r) 3 ∧ (tested r).faults = [])
    ∧ (isCell 3 = true ∧ ((units [3] usDisabled).cell 3).selfTest = false ∧ (units [3] usDisabled).faults = [])
    ∧ (((tested .none).cell 3).selfTest = true ∧ (tested .none).st 3 ≠ usFault ∧ ((tested .none).cell 3).planned.role = .none ∧ (tested .none).st 3 ≠ usOff
      ∧ (tested .none).st 3 ≠ usRetired ∧ ((tested .none).cell 3).work.role = .none ∧ (tested .none).rehousings = [])
    ∧ (((tested .recorder).cell 3).selfTest = true ∧ ((tested .recorder).cell 3).planned.role ≠ .none) := by
  refine ⟨fun r => ⟨(serves_as rfl rfl (units_serve [3] usDisabled)).1, (serves_as rfl rfl (units_serve [3] usDisabled)).2, noCluster_of rfl _, rfl⟩, ?_⟩
  decide +kernel

/-- PlanApplies: the root not DISABLED; DISABLED with a plan that breaks a rule, and with one that keeps them. -/
theorem witness_PlanApplies : (Serving (units [0] usReady) ∧ Calm (units [0] usReady)) ∧ (Serving up ∧ Calm up)
    ∧ ((units [0] usReady).st 0 ≠ usDisabled) ∧ (up.st 0 = usDisabled ∧ planOk up { plan1 with quadrants := [9] } = false)
    ∧ (planOk up plan1 = true ∧ journalFull up [itemRecord 7 (leBytes 4 plan1.signature)] = false) := by
  refine ⟨units_serve _ _, up_serves, ?_⟩
  decide +kernel

/-- A rehousing of a failed cell's role that has no cell yet. -/
def wait3 (noCell : Bool) : Rehouse := { kind := .fault, failed := 3, work := { role := .localServo, clock := 500, units := [0x200] }, noCell := noCell }

/-- Cell 1 as given, reserve cells 6 and 7 READY, and a rehousing that waits. -/
def reserve (st : Nat) (c : CellS) (rs : List Rehouse) : State := { ((units [6, 7] usReady).setN 1 0x030000 st).setCell 1 c with rehousings := rs }

theorem reserve_serves (st : Nat) (c : CellS) (rs : List Rehouse) : Serving (reserve st c rs) ∧ Calm (reserve st c rs) ∧ ∀ u, NoCluster (reserve st c rs) u :=
  ⟨(serves_as rfl rfl (units_serve [6, 7] usReady)).1, (serves_as rfl rfl (units_serve [6, 7] usReady)).2, noCluster_of rfl⟩

theorem witness_WeaveCommands : (∀ st c rs, Serving (reserve st c rs) ∧ Calm (reserve st c rs) ∧ ∀ u, NoCluster (reserve st c rs) u)
    ∧ (let s := reserve usFault { planned := { role := .localServo, clock := 500, units := [0x200] } } []
       isCell 1 = true ∧ activeRehousings s < 4 ∧ s.st 1 = usFault ∧ (s.cell 1).planned.role ≠ .none ∧ ((chooseCell s 1).map isCell) = some true)
    ∧ (let s := reserve usReady {} [wait3 true]
       activeRehousings s < 4 ∧ waitingRole s = some (wait3 true) ∧ s.st 1 = usReady ∧ draining s 1 = false)
    ∧ (let s := reserve usReady {} [wait3 false]
       activeRehousings s < 4 ∧ s.rehousings.find? (fun r => r.target.isNone && !r.noCell) = some (wait3 false) ∧ (chooseCell s 3).map isCell = some true) := by
  refine ⟨reserve_serves, ?_⟩
  decide +kernel

/-! ### Witnesses: sessions, process data and writes (02, 00) -/

/-- A datagram of LFP that carries a message whole. -/
def dgram (kind sid seq : Nat) (payload : Bytes) : Dgram :=
  let b := leBytes 1 1 ++ leBytes 1 kind ++ leBytes 2 0 ++ leBytes 8 sid ++ leBytes 4 seq ++ leBytes 2 payload.length ++ leBytes 2 0 ++ payload
  ⟨⟨9, 10⟩, ⟨0x0A000009, up.lfpPort⟩, false, b ++ leBytes 4 (crc32c b)⟩

/-- Decides that the datagram carries the message. -/
def carriesB (kind sid seq : Nat) (payload : Bytes) : Bool :=
  wfDgram (dgram kind sid seq payload) && decide (readLfp (dgram kind sid seq payload).bytes = .ok { kind := kind, sid := sid, seq := seq, payload := payload })

theorem carries_of {kind sid seq : Nat} {p : Bytes} (h : carriesB kind sid seq p = true) : Carries (dgram kind sid seq p) kind sid seq p := by
  simp only [carriesB, Bool.and_eq_true, decide_eq_true_eq] at h
  exact h

/-- A session of level 2 that is open and at rest. -/
def sess : Session := { level := 2, src := ⟨9, 10⟩, sid := 4242, expect := 17 }

/-- A device with one slot taken, and keys. -/
def met (i : Nat) (x : Slot) (keys : NMap Bytes) : State := { up.setSlot i x with keys := keys }

theorem met_serves (i : Nat) (x : Slot) (keys : NMap Bytes) (h : calmSlot x = true) : Serving (met i x keys) ∧ Calm (met i x keys) :=
  serves_as rfl rfl (serves_setSlot i h up_serves)

theorem reaches_as {s t : State} (hi : t.ipv4 = s.ipv4) (hp : t.lfpPort = s.lfpPort) (ht : Serving t) (h0 : s.ipv4 ≠ 0) (d : Dgram) :
    reaches t d = (some s.ipv4 == some d.dst.addr && d.dst.port == s.lfpPort && !d.fragment) := by
  unfold reaches ownAddr
  rw [if_neg (fun h => h ht.1), hi, hp, if_pos h0]

def draw : OpenDraw := ⟨77, List.replicate 32 9⟩

def key1 : NMap Bytes := [(1, List.replicate 32 5)]

/-- SessionsOpen: OPEN at the levels 0 and 4 with no key and at the level 1 with one; a pending challenge, with the right and a wrong code. -/
theorem witness_SessionsOpen : (Serving up ∧ Calm up) ∧ (Serving (met 15 .free key1) ∧ Calm (met 15 .free key1))
    ∧ (∀ level ∈ [0, 4, 1], (reaches up (dgram mkOpen 5 6 (leBytes 1 level ++ [0, 0, 0])) = true ∧ reaches (met 15 .free key1) (dgram mkOpen 5 6 (leBytes 1 level ++ [0, 0, 0])) = true)
      ∧ Carries (dgram mkOpen 5 6 (leBytes 1 level ++ [0, 0, 0])) mkOpen 5 6 (leBytes 1 level ++ [0, 0, 0]))
    ∧ (mapGet 0 up.authBars 9 ≤ up.time.uptime ∧ freeSlot up = some 0 ∧ drawOk up draw = true ∧ mapGet [] up.keys 0 = [] ∧ mapGet [] up.keys 4 = []
      ∧ mapGet [] (met 15 .free key1).keys 1 ≠ [] ∧ freeSlot (met 15 .free key1) = some 0 ∧ drawOk (met 15 .free key1) draw = true)
    ∧ (let s := met 15 (.challenge 1 ⟨9, 10⟩ 4242 (List.replicate 32 7)) key1
       (Serving s ∧ Calm s) ∧ Carries (dgram mkProof 4242 6 [1]) mkProof 4242 6 [1] ∧ (∀ p, reaches s (dgram mkProof 4242 6 p) = true) ∧ sessionOf s ⟨9, 10⟩ 4242 = none
       ∧ challengeBySid s 4242 = some (15, 1, ⟨9, 10⟩, List.replicate 32 7) ∧ s.slot 15 = .challenge 1 ⟨9, 10⟩ 4242 (List.replicate 32 7)
       ∧ [1] ≠ hmac (mapGet [] s.keys 1) (List.replicate 32 7)
       ∧ Carries (dgram mkProof 4242 6 (hmac (mapGet [] s.keys 1) (List.replicate 32 7))) mkProof 4242 6 (hmac (mapGet [] s.keys 1) (List.replicate 32 7))) := by
  refine ⟨up_serves, met_serves _ _ _ rfl, fun level h => ⟨⟨rfl, rfl⟩, carries_of ?_⟩, ?_, met_serves _ _ _ rfl, carries_of ?_, fun _ => rfl, ?_, ?_, ?_, ?_, carries_of ?_⟩
  · revert level; decide +kernel
  all_goals decide +kernel

/-- The item of a request, with no path. -/
def itemOf (rd : Bool) (u o e job : Nat) (data : Bytes) : Bytes :=
  leBytes 1 1 ++ leBytes 1 e ++ leBytes 2 o ++ leBytes 1 job ++ [0, 0, 0] ++ leBytes 2 data.length ++ leBytes 2 u ++ (if rd then [] else data)

/-- A device with the session in slot 15. -/
def inSession (us : List Nat) : State := (units us usReady).setSlot 15 (.opened sess)

theorem in_session_serves (us : List Nat) : Serving (inSession us) ∧ Calm (inSession us) := serves_setSlot 15 rfl (units_serve us usReady)

theorem in_session_at_rest (us : List Nat) (kind seq : Nat) (p : Bytes) (h : sessionOf (inSession us) ⟨9, 10⟩ 4242 = some (15, sess)) :
    AtRest (inSession us) (dgram kind 4242 seq p) 15 sess := by
  refine ⟨h, ?_, by decide, rfl, rfl, rfl, rfl, rfl⟩
  exact (slot_setSlot _ _ _ _).trans (if_pos rfl)

theorem in_session_reaches (us : List Nat) (kind seq : Nat) (p : Bytes) : reaches (inSession us) (dgram kind 4242 seq p) = true := by
  have h : ∀ s : State, (us.foldl (fun s u => s.setN u 0x030000 usReady) s).ipv4 = s.ipv4 ∧ (us.foldl (fun s u => s.setN u 0x030000 usReady) s).lfpPort = s.lfpPort := by
    induction us with
    | nil => exact fun s => ⟨rfl, rfl⟩
    | cons u us ih => intro s; rw [List.foldl_cons, (ih _).1, (ih _).2, setN_eq, setV_ipv4, setV_lfpPort]; exact ⟨rfl, rfl⟩
  have e := h up
  exact (reaches_as (s := up) (t := inSession us) e.1 e.2 (in_session_serves us).1 (by decide) _).trans rfl

/-- The item and the checks' answer of an accepted request. -/
def itOf (rd : Bool) (p : Bytes) : Item := ((parseItems rd p).getD []).headD default
def chOf (us : List Nat) (kind : Nat) (p : Bytes) : Checked :=
  match checkItem ((inSession us).setSlot 15 (.opened (arrived sess ⟨17, kind, p⟩))) 15 (arrived sess ⟨17, kind, p⟩) (reqKind kind) (itOf (kind == mkRead) p) with
  | .ok c => c
  | .error _ => ⟨0, 0, default, false⟩
def acceptedB (us : List Nat) (kind : Nat) (p : Bytes) : Bool :=
  decide (parseItems (kind == mkRead) p = some [itOf (kind == mkRead) p])
    && decide (checkItem ((inSession us).setSlot 15 (.opened (arrived sess ⟨17, kind, p⟩))) 15 (arrived sess ⟨17, kind, p⟩) (reqKind kind)
      (itOf (kind == mkRead) p) = .ok (chOf us kind p))
theorem accepted_of {us : List Nat} {kind : Nat} {p : Bytes} (h : acceptedB us kind p = true) :
    Accepted (inSession us) 15 sess kind p (itOf (kind == mkRead) p) (chOf us kind p) := by
  simp only [acceptedB, Bool.and_eq_true, decide_eq_true_eq] at h
  exact h

/-- SessionsEnd: a session at rest, with the requests that go on and end it, and NetApply. -/
theorem witness_SessionsEnd : (Serving (inSession []) ∧ Calm (inSession [])) ∧ (∀ k n p, reaches (inSession []) (dgram k 4242 n p) = true)
    ∧ (∀ d : Bool, AtRest (inSession []) (if d then dgram mkKeepalive 4242 55 [1] else dgram mkClose 4242 17 []) 15 sess)
    ∧ Carries (dgram mkKeepalive 4242 55 [1]) mkKeepalive 4242 55 [1] ∧ Carries (dgram mkClose 4242 17 []) mkClose 4242 17 []
    ∧ (inSession []).slot 15 = .opened sess
    ∧ Passes up 0x104 { unit := 0, data := [1] } (rowAt up 0x104 { unit := 0, data := [1] }) := by
  have h : sessionOf (inSession []) ⟨9, 10⟩ 4242 = some (15, sess) := by decide +kernel
  refine ⟨in_session_serves _, in_session_reaches _, fun d => ?_, carries_of (by decide +kernel), carries_of (by decide +kernel), (slot_setSlot _ _ _ _).trans (if_pos rfl), passes_of (by decide +kernel)⟩
  split
  · exact in_session_at_rest _ _ _ _ h
  · exact in_session_at_rest _ _ _ _ h

/-- Requests of one item that are accepted: READ of a scalar, WRITE of one, WRITE of a journaled one, WRITE on an axis that a cell serves, STAGE. -/
def requests : List (Nat × Bytes) := [(mkRead, itemOf true 0 0x145 0 0 []), (mkWrite, itemOf false 0 0x145 0 0 [1]), (mkWrite, itemOf false 0 0x314 0 0 [2]),
  (mkWrite, itemOf false 0x222 0x810 0 0 (leBytes 8 1)), (mkStage, itemOf false 0x222 0x708 0 7 (leBytes 8 1))]

/-- The premises of a WRITE beside its acceptance. -/
def plainB (p : Bytes) : Bool :=
  let c := chOf [0x222] mkWrite p
  let s1 := (inSession [0x222]).setSlot 15 (.opened (inService sess 17 c.row.ty.code))
  let it := itOf false p
  let w := itemWrite 15 sess c it
  (ownRefusal s1 c.store it.obj c.row w).isNone
    && (c.store != 0 || ((journaledCommand s1 it.obj w).isNone && (rootWrite s1 it.obj w).isNone)) && (!(isAxis c.store || isCluster c.store) || (axisWrite s1 c.store it.obj c.row w).isNone)
    && (!isSleeve c.store || (sleeveWrite s1 c.store it.obj c.row w).isNone) && (c.store == 0 || (otherWrite s1 c.store it.obj c.row w).isNone) && !c.row.stick
    && !([0xC0A, 0xC0B, 0x301, 0xB00, 0xB02, 0x1011, 0x1013].contains it.obj) && !journalFull s1 [writeRecord c.store it.obj c.row w]

/-- RequestsServed, by the kind of request. -/
theorem witness_RequestsServed : (Serving (inSession [0x222]) ∧ Calm (inSession [0x222])) ∧ (∀ k p, reaches (inSession [0x222]) (dgram k 4242 17 p) = true)
    ∧ (∀ r ∈ requests, AtRest (inSession [0x222]) (dgram r.1 4242 17 r.2) 15 sess ∧ Carries (dgram r.1 4242 17 r.2) r.1 4242 17 r.2
      ∧ Accepted (inSession [0x222]) 15 sess r.1 r.2 (itOf (r.1 == mkRead) r.2) (chOf [0x222] r.1 r.2))
    ∧ ((requests.filter (·.1 == mkWrite)).all (fun r => plainB r.2) = true
      ∧ (requests.filter (·.1 == mkWrite)).map (fun r => ((chOf [0x222] mkWrite r.2).row.jour, cellServed (chOf [0x222] mkWrite r.2).store, (chOf [0x222] mkWrite r.2).row.ty.scalar))
        = [(false, false, true), (true, false, true), (false, true, true)])
    ∧ (let p := itemOf true 0 0x145 0 0 []
       (readData ((inSession [0x222]).setSlot 15 (.opened (inService sess 17 (chOf [0x222] mkRead p).row.ty.code))) 15 (chOf [0x222] mkRead p) (itOf true p)).length ≤ 1444)
    ∧ (let p := itemOf false 0x222 0x708 0 7 (leBytes 8 1)
       let c := chOf [0x222] mkStage p
       let s1 := (inSession [0x222]).setSlot 15 (.opened (inService sess 17 c.row.ty.code))
       let it := itOf false p
       c.remote = false ∧ stageOwn s1 c.store it.obj it.data = none ∧ stageRefusal s1 it.job it.path it.obj it.elem it.data = none
       ∧ journalFull s1 [{ writeRecord c.store it.obj c.row (itemWrite 15 sess c it) with space := 1, job := it.job, path := it.path }] = false)
    ∧ (requests.map (fun r => (itOf (r.1 == mkRead) r.2).obj) = [0x145, 0x145, 0x314, 0x810, 0x708]) ∧ (parseItems true [1] = none ∧ parseItems false [1] = none ∧ Carries (dgram mkRead 4242 17 [1]) mkRead 4242 17 [1]
      ∧ Carries (dgram mkWrite 4242 17 [1]) mkWrite 4242 17 [1]) := by
  have h : sessionOf (inSession [0x222]) ⟨9, 10⟩ 4242 = some (15, sess) := by decide +kernel
  have e : requests.all (fun r => carriesB r.1 4242 17 r.2 && acceptedB [0x222] r.1 r.2) = true := by decide +kernel
  refine ⟨in_session_serves _, fun k => in_session_reaches _ k 17, fun r hr => ?_, by decide +kernel, by decide +kernel, by decide +kernel, by decide +kernel, by decide +kernel, by decide +kernel,
    carries_of (by decide +kernel), carries_of (by decide +kernel)⟩
  have := List.all_eq_true.1 e r hr
  rw [Bool.and_eq_true] at this
  exact ⟨in_session_at_rest _ _ _ _ h, carries_of this.1, accepted_of this.2⟩

/-- A session with waggles on the way, their events and events lost. -/
def waggling : Session := { sess with unsent := [8, 11], outstanding := [(5, 7), (6, 8), (7, 17)], acked := 4, delivered := 7 }
def waggleState (n : Nat) : State := { up.setSlot 15 (.opened waggling) with
  events := [⟨7, 0, 1, 0x101, 0, 0, [], [15, 2]⟩, ⟨8, 0, 1, 0x101, 0, 0, [], [15]⟩, ⟨17, 0, 1, 0x101, 0, 0, [], [15]⟩]
  lost := [(0x101, ⟨77, n⟩)] }

theorem witness_Waggles : (∀ n, Serving (waggleState n) ∧ Calm (waggleState n)) ∧ (∀ n, (waggleState n).slot 15 = .opened waggling)
    ∧ (∀ a ∈ [5, 7, 17], reaches (waggleState 1) (dgram mkWaggleAck 4242 a []) = true ∧ Carries (dgram mkWaggleAck 4242 a []) mkWaggleAck 4242 a [] ∧ sessionOf (waggleState 1) ⟨9, 10⟩ 4242 = some (15, waggling)
      ∧ precedes32 waggling.acked a = true)
    ∧ (waggling.unsent = 8 :: [11] ∧ ((waggleState 1).events.find? (fun e => e.serial == 8)).isSome = true
      ∧ 1 ≤ ((waggling.delivered + 1) % 2 ^ 32 + 2 ^ 32 - waggling.acked) % 2 ^ 32 ∧ ((waggling.delivered + 1) % 2 ^ 32 + 2 ^ 32 - waggling.acked) % 2 ^ 32 ≤ 32)
    ∧ (∀ n ∈ [1, 65535], (waggleState n).lost = [(0x101, ⟨77, n⟩)] ∧ queueUse (waggleState n) + gapBytes ≤ Config.eventQueueBytes ∧ selectors (waggleState n) 0x0001 ≠ []) := by
  refine ⟨fun n => serves_as (s := up.setSlot 15 (.opened waggling)) rfl rfl (serves_setSlot 15 (x := .opened waggling) rfl up_serves), fun n => slot_self up 15 (.opened waggling), fun a ha => ⟨rfl, ?_, ?_⟩, ?_⟩
  · apply carries_of; revert a; decide +kernel
  · revert a; decide +kernel
  · decide +kernel

/-- The owner of process data holds slot 15; PD_OUT's map as given, of one entry. -/
def pdState (m : Bytes) : State := ((up.setSlot 15 (.opened sess)).setV 0 0x014500 (.num 15)).setV 0 0x014000 (.bytes m) |>.setV 0 0x014200 (.num 1)

theorem pd_serves (m : Bytes) : Serving (pdState m) ∧ Calm (pdState m) :=
  serves_setV _ _ _ (serves_setV _ _ _ (serves_setV _ _ _ (serves_setSlot 15 (x := .opened sess) rfl up_serves)))

/-- One part of a cycle's data. -/
def part1 : Bytes := leBytes 1 0 ++ leBytes 1 1 ++ leBytes 2 0 ++ leBytes 2 4 ++ leBytes 2 0 ++ [1, 2, 3, 4]

theorem pd_reaches (m : Bytes) (n : Nat) : reaches (pdState m) (dgram mkPdOut 4242 n part1) = true :=
  (reaches_as (s := up) (by unfold pdState; rw [setV_ipv4, setV_ipv4, setV_ipv4]; rfl) (by unfold pdState; rw [setV_lfpPort, setV_lfpPort, setV_lfpPort]; rfl)
    (pd_serves m).1 (by decide) _).trans rfl

/-- A map entry of one object of an axis, and one that names no object. -/
def mapGood : Bytes := leBytes 2 0x700 ++ leBytes 2 0xD20 ++ [0, 3, 0, 0]
def mapBad : Bytes := leBytes 2 0x700 ++ leBytes 2 0xBFFF ++ [0, 3, 0, 0]

/-- ProcessData: a part in time and at the cut-off, and one of another cycle; maps that may be applied and may not. -/
theorem witness_ProcessData : (∀ m, Serving (pdState m) ∧ Calm (pdState m))
    ∧ (let s := pdState mapGood
       let c := cycleNow s
       (Carries (dgram mkPdOut 4242 c part1) mkPdOut 4242 c part1 ∧ (∀ n, reaches s (dgram mkPdOut 4242 n part1) = true) ∧ pdSource s ⟨9, 10⟩ { kind := mkPdOut, sid := 4242, seq := c, payload := part1 } = some 0
        ∧ pdSource s ⟨9, 10⟩ { kind := mkPdOut, sid := 4242, seq := c + 1, payload := part1 } = some 0
        ∧ (readPart 0 part1).isSome = true ∧ 0 * Config.quantaPerNs < pdCutoff s ∧ pdCutoff s ≤ pdCutoff s * Config.quantaPerNs)
       ∧ Carries (dgram mkPdOut 4242 (c + 1) part1) mkPdOut 4242 (c + 1) part1
       ∧ Passes s 0x144 { unit := 0, data := [1] } (rowAt s 0x144 { unit := 0, data := [1] })
       ∧ mapOk s true (mapEntries s 0x140 0x142) = true ∧ mapOk s false (mapEntries s 0x141 0x143) = true
       ∧ s.n 0 0x014500 = 15 ∧ s.slot 15 = .opened sess ∧ ∀ e < 8, s.n 0 (0x014600 + e) = 0)
    ∧ (let s := pdState mapBad
       Passes s 0x144 { unit := 0, data := [1] } (rowAt s 0x144 { unit := 0, data := [1] }) ∧ mapOk s true (mapEntries s 0x140 0x142) = false) := by
  refine ⟨pd_serves, ⟨⟨carries_of (by decide +kernel), pd_reaches _, by decide +kernel⟩, carries_of (by decide +kernel), passes_of (by decide +kernel), by decide +kernel⟩,
    passes_of (by decide +kernel), by decide +kernel⟩

/-- NetworkAnswers: an address and none; operands at the ends of their ranges. -/
theorem witness_NetworkAnswers : Serving up ∧ Serving { up with ipv4 := 0 } ∧ up.ipv4 ≠ 0 ∧ ({ up with ipv4 := 0 } : State).ipv4 = 0
    ∧ (2 ^ 48 - 1 < 2 ^ 48 ∧ 2 ^ 32 - 1 < 2 ^ 32) := ⟨up_serves.1, up_serves.1, by decide, rfl, by decide⟩

/-- Writes: one that a check refuses; a scalar; a journaled one; keys, at the ends of their levels. -/
theorem witness_Writes : (Serving up ∧ Calm up)
    ∧ (wfWrite { unit := 0, data := [1] } = true ∧ storeOf up 0 0x0FF = 0 ∧ (∃ e, directCheck up 0 0x0FF { unit := 0, data := [1] } = .error e))
    ∧ (let w : Write := { unit := 0, data := [1] }
       Passes up 0x145 w (rowAt up 0x145 w) ∧ PlainObject up 0 0x145 (rowAt up 0x145 w) w ∧ (rowAt up 0x145 w).jour = false ∧ (rowAt up 0x145 w).ty.scalar = true)
    ∧ (let w : Write := { unit := 0, data := [2] }
       Passes up 0x314 w (rowAt up 0x314 w) ∧ PlainObject up 0 0x314 (rowAt up 0x314 w) w ∧ (rowAt up 0x314 w).jour = true
       ∧ journalFull up [writeRecord 0 0x314 (rowAt up 0x314 w) w] = false)
    ∧ (∀ l ∈ [0, 4], let w : Write := { unit := 0, elem := l, data := List.replicate 32 7 }
       Passes up 0x010 w (rowAt up 0x010 w) ∧ journalFull up [itemRecord 1 (leBytes 1 w.elem ++ w.data)] = false) := by
  refine ⟨up_serves, ⟨by decide +kernel, by decide +kernel, 4, by decide +kernel⟩, ⟨passes_of (by decide +kernel), ?_, by decide +kernel, by decide +kernel⟩,
    ⟨passes_of (by decide +kernel), ?_, by decide +kernel, by decide +kernel⟩, fun l hl => ⟨passes_of ?_, ?_⟩⟩
  · delta PlainObject; decide +kernel
  · delta PlainObject; decide +kernel
  · revert l; decide +kernel
  · revert l; decide +kernel

/-- The row of an object of the root. -/
def rootRow (o : Nat) : ObjRow := (objAt up 0 .root o).getD default

/-- StickCounters: a counter that is not journaled, at both ends of its elements, and one that is, with 0 and with another value. -/
theorem witness_StickCounters : (Serving up ∧ Calm up) ∧ kindOf 0 = some .root ∧ up.st 0 ≠ usOff
    ∧ (∀ x ∈ [(0x1107, 0), (0x1107, 127), (0xB03, 0)], ∀ v ∈ [0, 1],
      let w : Write := { unit := 0, elem := x.2, data := leBytes (rootRow x.1).ty.size v }
      objAt up 0 .root x.1 = some (rootRow x.1) ∧ (rootRow x.1).stick = true ∧ (rootRow x.1).elLo ≤ w.elem ∧ w.elem ≤ (rootRow x.1).elHi ∧ wfWrite w = true
      ∧ x.1 < 0xC000 ∧ storeOf up 0 x.1 = 0 ∧ x.1 ≠ 0x025 ∧ w.data.length = (rootRow x.1).ty.size ∧ decodeNum (rootRow x.1).ty w.data = v)
    ∧ (rootRow 0x1107).jour = false ∧ (rootRow 0xB03).jour = true
    ∧ journalFull up [writeRecord 0 0xB03 (rootRow 0xB03) { unit := 0, data := leBytes (rootRow 0xB03).ty.size 0 }] = false := by
  refine ⟨up_serves, ?_⟩
  decide +kernel

/-! ### Witnesses: time (03) -/

def master1 : Announce := ⟨0, 0, 77, 1, 2, 3, 4, 5, 6, 7, false⟩
def sync1 (two : Bool) (d : Int) : PtpMsg := ⟨0, 0, 9, two, 77, 1000, 20, 1020 + d, false⟩

/-- A device that follows a master, with a two-step Sync that waits, in a time state and a clock role. -/
def timed (st role : Nat) : State := { (up.setV 0 0x020100 (.num st)).setV 0 0x020200 (.num role) with
  time := { up.time with master := some master1, syncWait := some (sync1 true 5), linkDelay := [500, 700], freqHistory := [1 / 2, 3] } }

theorem timed_serves (st role : Nat) : Serving (timed st role) ∧ Calm (timed st role) :=
  serves_as (s := (up.setV 0 0x020100 (.num st)).setV 0 0x020200 (.num role)) rfl rfl (serves_setV _ _ _ (serves_setV _ _ _ up_serves))

/-- The same without an Announce for the announce timeout. -/
def silent (st role : Nat) : State := { timed st role with time := { (timed st role).time with uptime := announceTimeout } }

theorem silent_serves (st role : Nat) : Serving (silent st role) ∧ Calm (silent st role) := serves_as (s := timed st role) rfl rfl (timed_serves st role)

theorem witness_NetworkTimeServo : (∀ st role, Serving (timed st role) ∧ Calm (timed st role))
    ∧ (∀ st ∈ [0, 1, 2], ∀ two, (sync1 two 0).port < 2 ∧ fromMaster (timed st 0) (sync1 two 0) = true ∧ timeState (timed st 0) ≠ 3 ∧ (sync1 two 0).twoStep = two
      ∧ (timed st 0).time.syncWait = some (sync1 true 5) ∧ (sync1 true 5).seq = (sync1 two 0).seq ∧ (sync1 true 5).port = (sync1 two 0).port)
    ∧ stepBarred (timed 2 0) = false
    ∧ (∀ x ∈ [((65536000 : Int), true), (65536001, false)],
       let m := sync1 false (x.1 + pathDelay (timed 2 0) 0 - phyRx (timed 2 0) 0)
       let theta : Int := m.stamp + phyRx (timed 2 0) 0 - m.origin - m.correction - pathDelay (timed 2 0) 0
       theta = x.1 ∧ decide (|(theta : Rat) / 65536| ≤ ((timed 2 0).n 0 0x022300 : Rat)) = x.2) := by
  refine ⟨timed_serves, ?_⟩
  decide +kernel

theorem witness_PtpMessages : Serving (timed 1 0) ∧ Serving (timed 1 2)
    ∧ (let s := timed 1 0
       let s1 := s.setV 0 0x020700 (.num 1)
       heard s (sync1 false 0) = true ∧ peerDelay s = true ∧ s.b 0 0x020700 = false ∧ peerDelay s1 = true ∧ s1.b 0 0x020700 = true
       ∧ heard s1 (sync1 false 0) = true ∧ s.time.linkDelay.length = 2 ∧ s.n 0 0x020200 ≠ 2)
    ∧ (let s := (timed 1 2).setV 0 0x020600 (.num 1)
       heard s (sync1 false 0) = true ∧ s.n 0 0x020200 = 2 ∧ s.n 0 0x020600 = 1 ∧ fromMaster s (sync1 false 0) = true) := by
  refine ⟨(timed_serves _ _).1, (timed_serves _ _).1, ?_⟩
  decide +kernel

/-- TimeStates: no master yet, with a first Announce at either port; LOCKED and not; the time of day with a sleeve ACTIVE and with none; timing objects. -/
theorem witness_TimeStates : (∀ st role, Serving (timed st role) ∧ Calm (timed st role)) ∧ (Serving up ∧ Calm up)
    ∧ (∀ p ∈ [0, 1], ({ master1 with port := p } : Announce).port < 2 ∧ master1.domain = up.n 0 0x020400 ∧ master1.udp = overUdp up ∧ up.time.master = none ∧ up.n 0 0x020200 ≠ 1)
    ∧ (timeState (timed 2 0) = 2 ∧ (timed 2 0).time.freqHistory ≠ [] ∧ timeState (timed 1 0) ≠ 2)
    ∧ ((∀ st role, Serving (silent st role) ∧ Calm (silent st role)) ∧ timeState (silent 2 0) = 2 ∧ timeState (silent 1 0) ≠ 2 ∧ announceLost (silent 1 0) = true
       ∧ announceLost (silent 2 0) = true ∧ announceLost (timed 1 0) = false ∧ announceLost (timed 2 0) = false)
    ∧ (let w : Write := { unit := 0, data := leBytes 8 123456789012 }
       Passes up 0x245 w (rowAt up 0x245 w) ∧ stepBarred up = false ∧ Passes atWork 0x245 w (rowAt atWork 0x245 w) ∧ stepBarred atWork = true)
    ∧ (∀ x ∈ [(0x230, 4, 100), (0x231, 4, 500), (0x233, 2, 16), (0x233, 2, 256)], let w : Write := { unit := 0, data := leBytes x.2.1 x.2.2 }
       x.1 ∈ timingObjs ∧ passesB up x.1 w = true ∧ journalFull up [writeRecord 0 x.1 (rowAt up x.1 w) w] = false) := by
  refine ⟨timed_serves, up_serves, ?_, by decide +kernel, ⟨silent_serves, by decide +kernel⟩, ⟨passes_of (by decide +kernel), by decide +kernel, passes_of (by decide +kernel), by decide +kernel⟩, by decide +kernel⟩
  decide +kernel

/-! ### Witnesses: axes, latch, compare and jobs (04 to 07) -/

/-- The state with values of its dictionary. -/
def put (l : List (Nat × Nat × Int)) (s : State) : State := l.foldl (fun s x => s.setI x.1 x.2.1 x.2.2) s

/-- Decides that the device serves and nothing waits. -/
def readyB (s : State) : Bool :=
  decide (s.rst.phase = .running ∧ s.rst.keeperDown = false) && (s.slots.all (fun e => calmSlot e.2) && s.rst.raised.isEmpty && s.rst.swReach.isNone)

theorem ready_all {l : List State} (h : l.all readyB = true) : ∀ s ∈ l, Serving s ∧ Calm s := fun s hs => by
  have := List.all_eq_true.1 h s hs
  rw [readyB, Bool.and_eq_true, decide_eq_true_eq] at this
  exact serves_of this.2 this.1

theorem passes_all {l : List (State × Nat × Write)} (h : l.all (fun x => passesB x.1 x.2.1 x.2.2) = true) :
    ∀ x ∈ l, Passes x.1 x.2.1 x.2.2 (rowAt x.1 x.2.1 x.2.2) := fun x hx => passes_of (List.all_eq_true.1 h x hx)

/-- Segments wait on a net axis in a state of Table 1-3. -/
def queued (st n : Nat) : State := (put [(0x222, 0x030000, st), (0x200, 0x030000, st)] up).setAxis 0x222 { traj := { queue := List.replicate n { kind := 3 } } }

/-- A move to a position. -/
def seg3 : Bytes := leBytes 1 3 ++ leBytes 1 0 ++ [0, 0] ++ leBytes 4 77 ++ leBytes 4 0 ++ [0, 0, 0, 0] ++ leBytes 8 5000 ++ leBytes 4 0x40A00000 ++ leBytes 4 0x40A00000
  ++ leBytes 4 0x40A00000 ++ leBytes 4 0x40A00000 ++ List.replicate 24 0

def wr (u : Nat) (data : Bytes) : Write := { unit := u, data := data }

/-- AxisWrites: an append to an empty queue and to one with one place left, READY and ACTIVE; one in another state; and each other write. -/
theorem witness_AxisWrites : (∀ s ∈ [queued usReady 0, queued usActive 63, queued usDisabled 1, queued usActive 2, queued usReady 2], Serving s ∧ Calm s)
    ∧ (∀ x ∈ [(queued usReady 0, 0x710, wr 0x222 seg3), (queued usActive 63, 0x710, wr 0x222 seg3), (queued usDisabled 1, 0x710, wr 0x222 seg3), (queued usActive 2, 0x712, wr 0x222 [1]),
        (queued usActive 2, 0x712, wr 0x222 [2]), (queued usReady 2, 0x811, wr 0x222 (leBytes 8 (2 ^ 63 - 1))), (queued usReady 2, 0x606, wr 0x200 [1]), (queued usReady 2, 0x641, wr 0x200 [1]),
        (queued usReady 2, 0x641, wr 0x200 [2])], Passes x.1 x.2.1 x.2.2 (rowAt x.1 x.2.1 x.2.2))
    ∧ (queueCount (queued usActive 63) 0x222 < 64 ∧ seg3.length = 64 ∧ segmentOk (queued usReady 0) 0x222 seg3 = true ∧ segmentOk (queued usActive 63) 0x222 seg3 = true
      ∧ (queued usReady 0).st 0x222 = usReady ∧ (queued usActive 63).st 0x222 = usActive ∧ (queued usDisabled 1).st 0x222 = usDisabled ∧ leNat (wr 0x200 [2]).data = 2) := by
  refine ⟨ready_all (by decide +kernel), passes_all (by decide +kernel), by decide +kernel⟩

/-- Two axes that latch at inputs 0 and 15, with the samples on both sides of a waiting edge. -/
def latching (win : Nat) : State :=
  let smp : List AxisSample := [⟨900000, 70000, 9, true⟩, ⟨800000, 60000, 8, true⟩, ⟨700000, 50000, 7, true⟩, ⟨600000, 40000, 2, true⟩]
  let s := put [(0x222, 0x030000, 2), (0x320, 0x030000, 3), (0x222, 0x090000, 0x8001), (0x320, 0x090000, 2), (0x222, 0x090300, win), (0x222, 0x090400, 60000), (0x222, 0x090500, 70000)] up
  { s.setAxis 0x222 { latch := { setSamples := smp, edges := [⟨650000, 3, true⟩, ⟨2000000, 5, false⟩] } } with
    time := { s.time with counter := 1000000 * 2 ^ 28 } }

theorem witness_Latches : (∀ s ∈ [latching 0, latching 1], Serving s ∧ Calm s)
    ∧ (∀ i ∈ [0, 15], (mapGet {} (latching 0).latchIns i).cand = none ∧ latchLevel (latching 0) i = false ∧ 0x222 ∈ liveAxes (latching 0)
      ∧ takesEdge (latching 0) 0x222 i true = true ∧ 0x320 ∈ liveAxes (latching 0) ∧ takesEdge (latching 0) 0x320 i true = false ∧ 0x200 ∉ liveAxes (latching 0))
    ∧ (∀ w ∈ [0, 1], let s := latching w
       (s.axis 0x222).latch.edges = ⟨650000, 3, true⟩ :: [⟨2000000, 5, false⟩] ∧ inputsDecided s 0x222 650000 = true
       ∧ (latchPos s 0x222 650000).bind LatchPos.pos = some 45000 ∧ inWindow s 0x222 (wrapPos (m16 s 0x222) 45000) = (w == 0)
       ∧ (s.axis 0x222).latch.fifo.length < 64) := by
  refine ⟨ready_all (by decide +kernel), by decide +kernel, by decide +kernel⟩

def target (pos : Int) (pin act width : Nat) : Bytes :=
  leBytes 8 (pos % 2 ^ 64).toNat ++ leBytes 4 55 ++ leBytes 1 pin ++ leBytes 1 act ++ leBytes 1 1 ++ leBytes 1 0 ++ leBytes 4 width ++ leBytes 4 0

/-- A net axis that compares on the outputs 3 and 15, with a published target before or behind its reference sample. -/
def comparing (pos : Int) : State :=
  let smp : List AxisSample := [⟨900000, 70000, 9, true⟩, ⟨800000, 60000, 8, true⟩, ⟨700000, 50000, 7, true⟩]
  (put [(0x222, 0x030000, 2), (0, 0x092003, 0x222), (0, 0x09200F, 0x222), (0x222, 0x093100, 1), (0x222, 0x093600, 0xFFFFFFF2)] up).setAxis 0x222
    { latch := { setSamples := smp }
      compare := { queue := [readTarget (target 56000 3 1 0), readTarget (target 60000 3 0 0)], published := [(readTarget (target pos 3 1 0), 7)] } }

/-- CompareTargets: an append at the first and the last output; a target ahead of the reference sample, at it, and behind it. -/
theorem witness_CompareTargets : (∀ s ∈ [comparing 50001, comparing 50000, comparing 49999], Serving s ∧ Calm s)
    ∧ (∀ x ∈ [(comparing 50001, 0x933, wr 0x222 (target 500 3 2 0)), (comparing 50001, 0x933, wr 0x222 (target (-500) 15 0 0)), (comparing 50001, 0x935, wr 0x222 [1]),
        (comparing 50001, 0x936, wr 0x222 [0x82])], Passes x.1 x.2.1 x.2.2 (rowAt x.1 x.2.1 x.2.2))
    ∧ (let s := comparing 50001
       s.st 0x222 = usReady ∧ targetsHeld s 0x222 < 256 ∧ (readTarget (target 500 3 2 0)).pin = 3 ∧ (readTarget (target (-500) 15 0 0)).pin = 15
       ∧ s.n 0 (0x092000 + 3) = 0x222 ∧ s.n 0 (0x092000 + 15) = 0x222 ∧ m16 s 0x222 = 0 ∧ (readTarget (target 500 3 2 0)).action = 2)
    ∧ (∀ x ∈ [(50001, true), (50000, false), (49999, false)], let s := comparing x.1
       (s.axis 0x222).compare.published = [(readTarget (target x.1 3 1 0), 7)] ∧ m16 s 0x222 = 0
       ∧ (compareSamples s 0x222).find? (fun x => decide (x.beat ≤ 7)) = some ⟨700000, 50000, 7, true⟩
       ∧ decide (0 < aheadOf s 0x222 50000 (readTarget (target x.1 3 1 0))) = x.2) := by
  refine ⟨ready_all (by decide +kernel), passes_all (by decide +kernel), by decide +kernel, by decide +kernel⟩

/-- The state of an output pin, low or high. -/
def outPin (level : Bool) (last : Option Nat) : PinS := { level := level, lastEdge := last, pulseEnds := if level then [1000009] else [], edges := 61 }

/-- An axis that owns an output and drives it, with a firing at an instant and the calibration of the pin's bank. -/
def firing (p f cal : Nat) (x : PinS) : State :=
  let s := (put [(0x222, 0x030000, 3), (0, 0x092000 + p, 0x222), (0x101 + 8 * (p / 4), 0x045000, cal)] up).setPin p x
  { s.setAxis 0x222 { compare := { firing := [⟨⟨5, 6, p, 0, true, 0⟩, f, false⟩] } } with time := { s.time with counter := 1000100 * 2 ^ 28 } }

theorem pin_self (s : State) (p : Nat) (x : PinS) (h : mapGet {} (mapPut {} s.pins p x) p = x) : (s.setPin p x).pin p = x := h

/-- TimingOutputs: a firing now and one to come; the end of a pulse; an edge 20 ns after the one before, and one sooner. -/
theorem witness_TimingOutputs : (∀ s ∈ [firing 0 1000100 0 (outPin false none), firing 15 1000101 0 (outPin true (some 5)), firing 15 1000003 2 (outPin true (some 999690))], Serving s ∧ Calm s)
    ∧ (∀ p ∈ [0, 15], let x := outPin false none
       let s := firing p 1000100 0 x
       s.pin p = x ∧ (s.axis 0x222).compare.firing = [⟨⟨5, 6, p, 0, true, 0⟩, 1000100, false⟩] ∧ 1000100 ≤ s.q ∧ s.n 0 (0x092000 + p) = 0x222 ∧ pinDriven s p = true
       ∧ x.edges + x.pulseEnds.length < 64 ∧ x.scheduled = [] ∧ x.pulseEnds = [] ∧ x.level = false ∧ x.lastEdge = none ∧ s.n (0x101 + 8 * (p / 4)) 0x045000 = 0)
    ∧ (let x := outPin true (some 5)
       let s := firing 15 1000101 0 x
       s.pin 15 = x ∧ (s.axis 0x222).compare.firing = [⟨⟨5, 6, 15, 0, true, 0⟩, 1000101, false⟩] ∧ s.q < 1000101 ∧ x.pulseEnds = [1000009] ∧ 1000009 ≤ s.q ∧ x.level = true
       ∧ x.lastEdge = some 5 ∧ 5 + 320 ≤ 1000009)
    ∧ (let x := outPin true (some 999690)
       let s := firing 15 1000003 2 x
       s.pin 15 = x ∧ x.pulseEnds = [1000009] ∧ 1000009 ≤ s.q ∧ x.level = true ∧ pinGrid s 15 1000009 < pinInstant s 15 1000009) := by
  refine ⟨ready_all (by decide +kernel), by decide +kernel, by decide +kernel, by decide +kernel⟩

/-- A job with entries, a session at rest in slot 15 and a pending commit or none. -/
def jobbed (c : Option Commit) : State := { ((put [(0x200, 0x030000, 2)] up).setSlot 15 (.opened sess)) with
  jobs := [(3, [⟨[0x200], 0x200, 0x070000, .num 3⟩, ⟨[0x222], 0x222, 0x070100, .num 4⟩])], commit := c, time := { up.time with counter := 5000 * 2 ^ 32 } }

def commitPayload (t : Nat) (pos : Bool) : Bytes :=
  leBytes 1 3 ++ leBytes 1 (if pos then 1 else 0) ++ [0] ++ leBytes 1 (if pos then 1 else 0) ++ leBytes 8 t ++ leBytes 8 (if pos then 55 else 0) ++ (if pos then leBytes 2 0x200 else [])

/-- The first time that a commit of job 3 may name. -/
def firstTime : Nat := ((jobbed none).q + guardQ (jobbed none) 3 + Config.quantaPerNs - 1) / Config.quantaPerNs

def pending1 (t : Nat) : Commit := { job := 3, trigger := 0, dir := 0, master := 0, timeT := t, posP := 0, beat := 100, guard := 1000 }

/-- Decides what a COMMIT asks for. -/
def readsAs (p : Bytes) (x : Nat × Nat × Nat × Nat × Int × List Nat) : Bool := match readCommit p with
  | some y => decide (y.1 = x.1 ∧ y.2.1 = x.2.1 ∧ y.2.2.1 = x.2.2.1 ∧ y.2.2.2.1 = x.2.2.2.1 ∧ y.2.2.2.2.1 = x.2.2.2.2.1 ∧ y.2.2.2.2.2 = x.2.2.2.2.2)
  | none => false

theorem reads_of {p : Bytes} {x : Nat × Nat × Nat × Nat × Int × List Nat} (h : readsAs p x = true) : readCommit p = some x := by
  unfold readsAs at h
  split at h
  · rename_i y e
    obtain ⟨h1, h2, h3, h4, h5, h6⟩ := of_decide_eq_true h
    rw [e, Prod.ext h1 (Prod.ext h2 (Prod.ext h3 (Prod.ext h4 (Prod.ext h5 h6))))]
  · cases h

/-- JobCommits: a commit at a time and one at a position, at the first time that is allowed; a pending commit in time and one that is late; a discard. -/
theorem witness_JobCommits : (∀ s ∈ [jobbed none, jobbed (some (pending1 (2 ^ 40))), jobbed (some (pending1 100))], Serving s ∧ Calm s)
    ∧ (∀ pos, let s := jobbed none
       let p := commitPayload firstTime pos
       AtRest s (dgram mkCommit 4242 17 p) 15 sess ∧ sess.keyless = false ∧ levelOk sess.level 1 false = true ∧ Carries (dgram mkCommit 4242 17 p) mkCommit 4242 17 p
       ∧ readCommit p = some (3, if pos then 1 else 0, 0, firstTime, if pos then 55 else 0, if pos then [0x200] else [])
       ∧ (if pos then masterFace s [0x200] else some 0) = some (if pos then 0x200 else 0)
       ∧ s.q + guardQ s 3 ≤ firstTime * Config.quantaPerNs ∧ jobOf s 3 ≠ [] ∧ s.commit = none ∧ journalFull s [itemRecord 6 (p ++ leBytes 8 (triggerBeat s firstTime))] = false)
    ∧ (let s := jobbed (some (pending1 (2 ^ 40)))
       let p := leBytes 1 3 ++ [0, 0, 0]
       AtRest s (dgram mkRevoke 4242 17 p) 15 sess ∧ s.commit = some (pending1 (2 ^ 40)) ∧ Carries (dgram mkRevoke 4242 17 p) mkRevoke 4242 17 p
       ∧ s.q + (pending1 (2 ^ 40)).guard < s.beatStart (triggerBeat s (2 ^ 40)) ∧ (pending1 (2 ^ 40)).armed = false ∧ s.beat.n + s.n 0 0x023300 < triggerBeat s (2 ^ 40))
    ∧ (let s := jobbed (some (pending1 100))
       s.commit = some (pending1 100) ∧ triggerBeat s 100 ≤ s.beat.n + s.n 0 0x023300)
    ∧ (∀ j ∈ [0, 255], let w : Write := { unit := 0, elem := j, data := [1] }
       Passes up 0x787 w (rowAt up 0x787 w) ∧ journalFull up [{ erase := true, space := 1, job := w.elem }] = false) := by
  have e : [true, false].all (fun pos => carriesB mkCommit 4242 17 (commitPayload firstTime pos)) = true := by decide +kernel
  refine ⟨ready_all (by decide +kernel), fun pos => ⟨?_, rfl, rfl, carries_of (List.all_eq_true.1 e pos (by cases pos <;> decide)), ?_⟩,
    ⟨?_, by decide +kernel, carries_of (by decide +kernel), by decide +kernel⟩, by decide +kernel, fun j hj => ⟨passes_of ?_, ?_⟩⟩
  · refine ⟨(by decide +kernel : sessionOf (jobbed none) ⟨9, 10⟩ 4242 = some (15, sess)), by decide +kernel, by decide, rfl, rfl, rfl, rfl, rfl⟩
  · refine ⟨reads_of (by cases pos <;> decide +kernel), ?_⟩
    cases pos <;> decide +kernel
  · refine ⟨(by decide +kernel : sessionOf (jobbed none) ⟨9, 10⟩ 4242 = some (15, sess)), by decide +kernel, by decide, rfl, rfl, rfl, rfl, rfl⟩
  · revert j; decide +kernel
  · revert j; decide +kernel

/-- Cam table n in a state, and whether an axis runs it. -/
def camTables (n st : Nat) (used : Bool) : State :=
  let s := { (put [(0, (0x2800 + n) * 256, st)] up).setV 0 ((0x2400 + n) * 256) (.bytes (leBytes 4 2 ++ List.replicate 12 0)) with camRuns := [(n, [(0, 2)])] }
  if used then s.setAxis 0x222 { traj := { run := some { seg := { kind := 5, table := n } } } } else s

/-- CamCommands, of the first and the last table. -/
theorem witness_CamCommands : (∀ s ∈ [camTables 0 0 false, camTables 1023 1 false, camTables 1023 2 false, camTables 5 2 true], Serving s ∧ Calm s)
    ∧ (∀ x ∈ [(camTables 0 0 false, 0x2C00, wr 0 [1]), (camTables 1023 1 false, 0x2FFF, wr 0 [2]), (camTables 1023 2 false, 0x2FFF, wr 0 [3])], Passes x.1 x.2.1 x.2.2 (rowAt x.1 x.2.1 x.2.2))
    ∧ (journalFull (camTables 0 0 false) (camRecords (camTables 0 0 false) 0 1) = false ∧ journalFull (camTables 1023 1 false) (camRecords (camTables 1023 1 false) 1023 2) = false
      ∧ journalFull (camTables 1023 2 false) (camRecords (camTables 1023 2 false) 1023 3) = false)
    ∧ (∃ row, directCheck (camTables 0 0 false) 0 0x2C00 (wr 0 [2]) = .ok row) ∧ camState (camTables 0 0 false) 0 ≠ 1
    ∧ (∃ row, directCheck (camTables 5 2 true) 0 0x2C05 (wr 0 [3]) = .ok row) ∧ tableInUse (camTables 5 2 true) 5 = true := by
  refine ⟨ready_all (by decide +kernel), passes_all (by decide +kernel), by decide +kernel, ⟨rowAt (camTables 0 0 false) 0x2C00 (wr 0 [2]), by decide +kernel⟩, by decide +kernel,
    ⟨rowAt (camTables 5 2 true) 0x2C05 (wr 0 [3]), by decide +kernel⟩, by decide +kernel⟩

/-! ### Witnesses: sleeves and feedback (08, 09) -/

/-- A sleeve with trip source and latch bits, and a filter of 100 us/1000. -/
def tripping (st active : Nat) : State :=
  { (put [(0x101, 0x030000, st), (0x101, 0x044000, active), (0x101, 0x044300, 100), (0x101, 0x054600, 0x3F000000), (0x101, 0x054700, 1), (0x101, 0x054000, 0x3F800000),
      (0x101, 0x054500, 3)] up).setSleeve 0x101 { pwm := { clearing := active == 0 } } with
    time := { up.time with counter := 1000000 * 2 ^ 28 } }

/-- Trips: each source; a pin's level at the filter and one quantum short of it; a sleeve that is OFF or has the source active; and the comparator's samples. -/
theorem witness_Trips : (∀ s ∈ [tripping usActive 0, tripping usActive 7, tripping usOff 0], (Serving s ∧ Calm s) ∧ NoCluster s 0x101)
    ∧ (isSleeve 0x101 = true ∧ (tripping usActive 0).st 0x101 ≠ usOff ∧ (tripping usOff 0).st 0x101 = usOff)
    ∧ (∀ src ∈ [TripSource.pin, .overCurrent, .veil], bitOf ((tripping usActive 0).n 0x101 0x044000) (tripBit src) = false ∧ bitOf ((tripping usActive 7).n 0x101 0x044000) (tripBit src) = true)
    ∧ (900000 + (tripping usActive 0).n 0x101 0x044300 * 1000 ≤ (tripping usActive 0).q ∧ (tripping usActive 0).q < 900001 + (tripping usActive 0).n 0x101 0x044300 * 1000)
    ∧ (∀ x ∈ [(tripping usActive 0, 0x442, wr 0x101 [1]), (tripping usActive 7, 0x442, wr 0x101 [1])], Passes x.1 x.2.1 x.2.2 (rowAt x.1 x.2.1 x.2.2))
    ∧ ((tripping usActive 0).n 0x101 0x044000 = 0 ∧ (tripping usActive 7).n 0x101 0x044000 ≠ 0 ∧ ((tripping usActive 0).sleeve 0x101).pwm.clearing = true)
    ∧ (ocDecides (tripping usActive 0) 0x101 (List.replicate 64 true) (List.replicate 64 true) = true
      ∧ ocDecides (tripping usActive 0) 0x101 (List.replicate 4 true) (List.replicate 64 true) = false) := by
  refine ⟨fun s hs => ⟨ready_all (l := [tripping usActive 0, tripping usActive 7, tripping usOff 0]) (by decide +kernel) s hs, ?_⟩, by decide +kernel, by decide +kernel, by decide +kernel,
    passes_all (by decide +kernel), by decide +kernel, by decide +kernel⟩
  revert s; intro s hs
  simp only [List.mem_cons, List.not_mem_nil, or_false] at hs
  rcases hs with rfl | rfl | rfl <;> exact noCluster_of (by decide +kernel) _

/-- A local sleeve whose phases modulate: a reference of 1800 quanta on the high gate of phase 0 and one of 4000 on the low gate of phase 1, its minimum pulse, whether
it stretches, and pads that read back wrong in an earlier carrier period. -/
def modulated (st minp stretch : Nat) (bad : Option Nat) : State :=
  let s := { up with plan := some plan1, time := { up.time with counter := 100977 * 2 ^ 32 } }
  let s := put [(0x101, 0x030000, st), (0x101, 0x042000, 160), (0x101, 0x042100, minp), (0x101, 0x042200, stretch)] s
  let now := s.q
  let g : GateS := { on := [(now - 900, now + 700)], ron := some 5, pass := true }
  let ph : PhaseS := { highs := [(now + 5000, now + 6000), (now - 1000, now + 800), (now - 9000, now - 5000)], hi := g, lo := { on := [], ron := some 3, pass := false } }
  s.setSleeve 0x101 { pwm := { duty := [0x3F000000, 0x3F400000, 0x3E800000], loaded := true, valley := now - 2000, phases := [ph, { ph with hi := ph.lo, lo := g }, {}], calDue := true,
                               held := [(5, [1, 2]), (6, [0x3E800000, 0x3F200000, 0x3F600000])], mismatch := List.replicate 6 bad } }

/-- The carrier period before the one in progress, and one that is longer ago. -/
def periodBefore : Nat := let s := modulated usActive 320 0 none; periodStart s 0x101 - carrierQ s 0x101

/-- The phase and gate of a reference on the high or the low side, in the state given: what the statement asks of it before its length. -/
def decides (s : State) (high : Bool) (w : Nat) : Bool :=
  let x := if high then 0 else 1
  let ron := s.q - (if high then 1000 else 5000)
  match (s.sleeve 0x101).pwm.phases[x]? with
  | some f => decide (pulseOn f high s.q = some ron ∧ refOff s 0x101 x high ron = ron + w ∧ (if high then f.hi else f.lo).ron ≠ some ron
      ∧ (if high then f.hi else f.lo).through = false ∧ (if high then f.lo else f.hi).on = [])
  | none => false

/-- Modulation: duties taken at an update instant, a valley with a calibrated bank, pulses of the minimum length and one quantum short of it on both sides, the first and
the last bank, and pads that read back right, wrong, and wrong twice. -/
theorem witness_Modulation : (∀ s ∈ [modulated usActive 1640 0 none, modulated usActive 1641 0 (some 5), modulated usActive 1641 1 (some periodBefore), modulated usReady 320 0 none],
      (Serving s ∧ Calm s) ∧ NoCluster s 0x101)
    ∧ (∀ st ∈ [usActive, usReady], let s := modulated st 1640 0 none
       isSleeve 0x101 = true ∧ s.st 0x101 = st ∧ (sleevePlan s 0x101).isSome = true ∧ lastInstant s 0x101 ≤ s.q ∧ (s.sleeve 0x101).pwm.lastUpdate = none
       ∧ isValley s 0x101 (lastInstant s 0x101) = true ∧ (s.sleeve (bankFirst 0x101)).pwm.calDue = true
       ∧ ((s.sleeve 0x101).pwm.held.filter fun h => decide (h.1 ≤ lastInstant s 0x101)).getLast? = some (6, [0x3E800000, 0x3F200000, 0x3F600000]))
    ∧ (∀ x ∈ [(1640, 0, true), (1641, 0, false), (1641, 1, false)], ∀ high, let s := modulated usActive (if high then x.1 else x.1 + 2200) x.2.1 none
       let w := if high then 1800 else 4000
       modulates s 0x101 = true ∧ decides s high w = true ∧ stretches s 0x101 = (x.2.1 == 1) ∧ 0 < minPulse s 0x101
       ∧ 0 < w ∧ decide ((minPulse s 0x101 : Int) ≤ (w : Int) - deadTime s 0x101) = x.2.2)
    ∧ (∀ bank ∈ [0, 3], ∀ cal ∈ [0, 1], let s := put [(0x101 + 8 * bank, 0x030000, 2), (0x101 + 8 * bank, 0x045000, cal)] up
       s.st (0x101 + 8 * bank) ≠ usOff ∧ s.n (0x101 + 8 * bank) 0x045000 = cal ∧ readyB s = true)
    ∧ (∀ bad ∈ [none, some 5, some periodBefore], ∀ pin ∈ [0, 5], let s := modulated usActive 1640 0 bad
       s.st 0x101 ≠ usOff ∧ s.st 0x101 ≠ usRetired ∧ padStable s 0x101 pin s.q = true ∧ shadowed s 0x101 3 = false ∧ shadowed s 0x101 4 = false
       ∧ (s.sleeve 0x101).pwm.mismatch.getD pin none = bad ∧ (bad = some 5 → 5 + carrierQ s 0x101 ≠ periodStart s 0x101)
       ∧ (bad = some periodBefore → periodBefore + carrierQ s 0x101 = periodStart s 0x101)) := by
  refine ⟨fun s hs => ⟨ready_all (l := [modulated usActive 1640 0 none, modulated usActive 1641 0 (some 5), modulated usActive 1641 1 (some periodBefore), modulated usReady 320 0 none])
    (by decide +kernel) s hs, ?_⟩, by decide +kernel, by decide +kernel, by decide +kernel, by decide +kernel⟩
  simp only [List.mem_cons, List.not_mem_nil, or_false] at hs
  rcases hs with rfl | rfl | rfl | rfl <;> exact noCluster_of (by decide +kernel) _

/-- A sleeve with an encoder of a kind, its FeedbackState, the levels at its inputs, and an edge filter of 100. -/
def counting (kind st : Nat) (a b c seen : Bool) : State :=
  { (put [(0x101, 0x030000, 4), (0x101, 0x050000, kind), (0x101, 0x050100, 4096), (0x101, 0x050300, 100), (0x101, 0x050400, 3), (0x101, 0x050500, 1), (0x101, 0x052000, st),
      (0x101, 0x052200, -1), (0x101, 0x052100, 4095)] up).setSleeve 0x101 { fb := { a := a, b := b, c := c, hallSeen := seen, illegal := 2, tickTime := 900000 } } with
    time := { up.time with counter := 1000000 * 2 ^ 28 } }

/-- The last stamp that a filter has accepted. -/
def lastStamp : Nat := 1000000 - 128 * 100

/-- CountedFeedback: each step forward, back and across, of a quadrature and of a Hall encoder; a stamp that the filter has accepted and one it has not. -/
theorem witness_CountedFeedback : (∀ s ∈ [counting 1 2 false false false true, counting 2 2 true false false true, counting 2 1 false false false false], (Serving s ∧ Calm s) ∧ NoCluster s 0x101)
    ∧ (∀ kind ∈ [1, 2], let s := counting kind 2 false false false true
       isSleeve 0x101 = true ∧ s.st 0x101 ≠ usOff ∧ s.st 0x101 ≠ usRetired ∧ fbKind s 0x101 = kind ∧ filterPassed s 0x101 lastStamp = true ∧ filterPassed s 0x101 (lastStamp + 8) = false
       ∧ (s.sleeve 0x101).fb.illegal + 1 ≤ s.n 0x101 0x050400 ∧ shadowed s 0x101 5 = false ∧ s.n 0x101 0x050500 = 1 ∧ axisOf s 0x101 = 0 ∧ shadowed s 0x101 9 = false)
    ∧ (∀ x ∈ [(true, false, 1), (false, true, 3), (true, true, 2)], (quadPhase x.1 x.2.1 + 4 - quadPhase false false) % 4 = x.2.2)
    ∧ (∃ m n p, hallPhase true false false = some m ∧ hallPhase true true false = some n ∧ hallPhase true false true = some p ∧ (n + 6 - m) % 6 = 1 ∧ (p + 6 - m) % 6 = 5
      ∧ ((counting 2 2 true false false true).sleeve 0x101).fb.hallSeen = true)
    ∧ ((counting 2 1 false false false false).n 0x101 0x052000 = 1 ∧ ((counting 2 1 false false false false).sleeve 0x101).fb.hallSeen = false)
    ∧ (∀ x, (List.replicate 64 x).length = 64 ∧ ((List.replicate 64 x).all (fun x => x) = true ∨ (List.replicate 64 x).all (fun x => !x) = true)) := by
  refine ⟨fun s hs => ⟨ready_all (l := [counting 1 2 false false false true, counting 2 2 true false false true, counting 2 1 false false false false]) (by decide +kernel) s hs, ?_⟩,
    by decide +kernel, by decide, ⟨0, 1, 5, by decide⟩, by decide +kernel, by decide⟩
  simp only [List.mem_cons, List.not_mem_nil, or_false] at hs
  rcases hs with rfl | rfl | rfl <;> exact noCluster_of (by decide +kernel) _

/-- A sleeve with a serial encoder: SSI of 3 and 12 bits or FSP, at an instant of a beat in progress, with a transaction in progress or none, and a
register request or none. -/
def serial (kind q : Nat) (started : Option Nat) (reg : Option (Nat × Nat × Nat × Option Origin)) (runs : Bool) : State :=
  { (put [(0x101, 0x030000, 2), (0x101, 0x050000, kind), (0x101, 0x050100, 4096), (0x101, 0x050700, 3), (0x101, 0x050800, 12), (0x101, 0x052000, 2)] up).setSleeve 0x101
      { fb := { started := started, register := reg, registerRuns := runs } } with
    beat := { up.beat with running := true, base := 0, period := 800000 }, time := { up.time with counter := q * 2 ^ 28 } }

/-- A register read, and a write. -/
def regRead : Nat × Nat × Nat × Option Origin := (3, 9, 0, some ⟨0, 77, 1, 0⟩)

def fspAnswer : Bytes := [7, 1, 2, 3, 4] ++ leBytes 2 (fspCrc [7, 1, 2, 3, 4])

/-- SerialEncoders: a transaction that is due and one that is not, of each kind; a good and a bad frame, at the last position of the turn; a register reply; and requests. -/
theorem witness_SerialEncoders : (∀ s ∈ [serial 3 799999 none none false, serial 3 1 none none false, serial 4 799999 none none false, serial 4 799999 none (some regRead) false,
      serial 3 799999 (some 999) none false, serial 4 799999 (some 999) (some regRead) true], Serving s ∧ Calm s)
    ∧ (∀ kind ∈ [3, 4], serialDue (serial kind 799999 none none false) 0x101 = true ∧ serialDue (serial kind 1 none none false) 0x101 = false ∧ fbKind (serial kind 1 none none false) 0x101 = kind
      ∧ (serial kind 1 none none false).st 0x101 ≠ usOff ∧ (serial kind 1 none none false).st 0x101 ≠ usActive)
    ∧ serialDue (serial 4 799999 none (some regRead) false) 0x101 = true
    ∧ (let s := serial 3 799999 (some 999) none false
       let bits : List Bool := List.replicate 15 true
       s.n 0x101 0x050900 = 0 ∧ s.n 0x101 0x050A00 = 0 ∧ s.b 0x101 0x050B00 = false ∧ bits.length = s.n 0x101 0x050700 + s.n 0x101 0x050800 ∧ s.b 0x101 0x050200 = false
       ∧ (bitsMsb (bits.drop (s.n 0x101 0x050700)) : Int) + 1 = fbCpr s 0x101 ∧ (s.sleeve 0x101).fb.lastField = none ∧ (s.sleeve 0x101).fb.started = some 999 ∧ shadowed s 0x101 7 = false)
    ∧ (let s := serial 4 799999 (some 999) (some regRead) true
       (s.sleeve 0x101).fb.started = some 999 ∧ (s.sleeve 0x101).fb.registerRuns = true ∧ (s.sleeve 0x101).fb.register = some regRead ∧ fbKind s 0x101 = 4)
    ∧ (regRead.1 = 3 ∧ fspAnswer.length = 7 ∧ fieldLE fspAnswer 5 2 = fspCrc (fspAnswer.take 5))
    ∧ (∀ c ∈ [3, 4], let w := wr 0x101 (leBytes 1 c ++ leBytes 1 9 ++ leBytes 4 123456)
       Passes (serial 4 799999 none none false) 0x514 w (rowAt (serial 4 799999 none none false) 0x514 w) ∧ fieldLE w.data 0 1 = c) := by
  refine ⟨ready_all (by decide +kernel), by decide +kernel, by decide +kernel, by decide +kernel, by decide +kernel, by decide +kernel, fun c hc => ⟨passes_of ?_, ?_⟩⟩
  all_goals revert c; decide +kernel

/-! ### Witnesses: kernels (10) -/

/-- Kernel 3 in a run, with code of nine words and its cycles. -/
def runs (budget : Nat) (r : KRun) : State := up.setKernel 3 { image := { budget := budget, code := List.replicate 9 0 }, run := some r }

theorem runs_kernel (budget : Nat) (r : KRun) (h : r.done = false) : KernelRuns (runs budget r) 3 r ∧ (runs budget r).kernel 3 = { image := { budget := budget, code := List.replicate 9 0 }, run := some r } := by
  have e : (runs budget r).kernel 3 = { image := { budget := budget, code := List.replicate 9 0 }, run := some r } := (mapGet_mapPut _ _ _ _ _).trans (if_pos rfl)
  exact ⟨⟨by rw [e], h⟩, e⟩

theorem runs_fit (used n m : Nat) (r : KRun) (h : r.used = used) : Fits (runs (used + n) r) 3 r m ↔ m ≤ n := by
  have e : (runs (used + n) r).kernel 3 = { image := { budget := used + n, code := List.replicate 9 0 }, run := some r } := (mapGet_mapPut _ _ _ _ _).trans (if_pos rfl)
  unfold Fits
  rw [e, h]
  show used + m ≤ used + n ↔ m ≤ n
  omega

/-- The pointer 1 at an address, with a base, a length, and the words that memory holds. -/
def pointing (p b l : Nat) (mem : NMap W32) : KRun :=
  { p := (Vector.replicate 8 0).set 1 (BitVec.ofNat 32 p), b := (Vector.replicate 8 0).set 1 (BitVec.ofNat 32 b), l := (Vector.replicate 8 0).set 1 (BitVec.ofNat 32 l),
    s := (Vector.replicate 32 0).set 7 4, mem := mem, pc := 2, used := 5 }

/-- An instruction of every length, in a budget that it uses up and in one that is a cycle short. -/
theorem witness_KernelInstructions : ∀ n ∈ [1, 2, 3, 4, 10, 12], let r := pointing 0 0 0 []
    KernelRuns (runs (5 + n) r) 3 r ∧ Fits (runs (5 + n) r) 3 r n ∧ ¬ Fits (runs (5 + n) r) 3 r (n + 1) :=
  fun n _ => ⟨(runs_kernel _ _ rfl).1, (runs_fit 5 n n _ rfl).2 (Nat.le_refl _), fun h => Nat.not_succ_le_self n ((runs_fit 5 n (n + 1) _ rfl).1 h)⟩

/-- Branches to the last instruction and to the first. -/
theorem witness_Branches : let r := pointing 0 0 0 []
    KernelRuns (runs (5 + 2) r) 3 r ∧ Fits (runs (5 + 2) r) 3 r 2 ∧ ((r.pc : Int) + 1 + (5 : BitVec 19).toInt = (8 : Nat) ∧ 8 < ((runs (5 + 2) r).kernel 3).image.code.length)
      ∧ ((r.pc : Int) + 1 + (BitVec.ofInt 19 (-3)).toInt = (0 : Nat)) ∧ (r.getS 7).toNat = 4 * 1 := by
  refine ⟨(runs_kernel _ _ rfl).1, (runs_fit 5 2 2 _ rfl).2 (Nat.le_refl _), ?_⟩
  decide +kernel

/-- LoadsAndStores, at the ends of the memory that a run may write. -/
theorem witness_LoadsAndStores : ∀ a ∈ [0x10080, 0x100FC, 0x10200, 0x17FFC], let r := pointing a 0 0 [(a, 77)]
    KernelRuns (runs (5 + 2) r) 3 r ∧ Fits (runs (5 + 2) r) 3 r 2 ∧ kAddr r 1 0 0 = .ok (BitVec.ofNat 32 a, BitVec.ofNat 32 a) ∧ KernelWord (BitVec.ofNat 32 a).toNat
      ∧ mapFind r.mem (BitVec.ofNat 32 a).toNat = some 77 := by
  refine fun a ha => ⟨(runs_kernel _ _ rfl).1, (runs_fit 5 2 2 _ rfl).2 (Nat.le_refl _), ?_⟩
  revert a
  delta KernelWord
  decide +kernel

def fourWords : NMap W32 := [(0x10200, 1), (0x10204, 2), (0x10208, 3), (0x1020C, 4)]

/-- VectorLoadsAndStores: four words in a row, and in a circular buffer of as many bytes from its last word on. -/
theorem witness_VectorLoadsAndStores : ∀ x ∈ [(0x10200, 0, 0), (0x1020C, 0x10200, 16)], let r := pointing x.1 x.2.1 x.2.2 fourWords
    KernelRuns (runs (5 + 2) r) 3 r ∧ Fits (runs (5 + 2) r) 3 r 2 ∧ kAddr r 1 1 0 = .ok (BitVec.ofNat 32 x.1, BitVec.ofNat 32 x.1)
      ∧ (∀ y ∈ kFour r 1 (BitVec.ofNat 32 x.1), KernelWord y) ∧ (kFour r 1 (BitVec.ofNat 32 x.1)).Nodup
      ∧ ∃ v : Vector W32 4, ∀ i : Fin 4, ∃ y, (kFour r 1 (BitVec.ofNat 32 x.1))[i.val]? = some y ∧ mapFind r.mem y = some v[i] := by
  intro x hx
  simp only [List.mem_cons, List.not_mem_nil, or_false] at hx
  delta KernelWord
  rcases hx with rfl | rfl
  · refine ⟨(runs_kernel _ _ rfl).1, (runs_fit 5 2 2 _ rfl).2 (Nat.le_refl _), by decide +kernel, by decide +kernel, by decide +kernel, #v[1, 2, 3, 4], fun i => ?_⟩
    match i with
    | 0 => exact ⟨0x10200, by decide +kernel⟩
    | 1 => exact ⟨0x10204, by decide +kernel⟩
    | 2 => exact ⟨0x10208, by decide +kernel⟩
    | 3 => exact ⟨0x1020C, by decide +kernel⟩
  · refine ⟨(runs_kernel _ _ rfl).1, (runs_fit 5 2 2 _ rfl).2 (Nat.le_refl _), by decide +kernel, by decide +kernel, by decide +kernel, #v[4, 1, 2, 3], fun i => ?_⟩
    match i with
    | 0 => exact ⟨0x1020C, by decide +kernel⟩
    | 1 => exact ⟨0x10200, by decide +kernel⟩
    | 2 => exact ⟨0x10204, by decide +kernel⟩
    | 3 => exact ⟨0x10208, by decide +kernel⟩

/-- AddressModes: an aligned base and length, a circular buffer up to the end of the address space, a misaligned base, a misaligned address, and an illegal mode. -/
theorem witness_AddressModes : (let r := pointing 0x10200 0x10200 16 []
      r.b[1].toNat % 4 = 0 ∧ r.l[1].toNat % 4 = 0 ∧ r.l[1].toNat ≠ 0)
    ∧ (let r := pointing 0x10200 0xFFFFFFF0 16 []
      r.b[1].toNat + r.l[1].toNat ≤ 2 ^ 32 ∧ r.l[1].toNat ≠ 0)
    ∧ (let r := pointing 0x10200 0x10201 16 []
      KernelRuns (runs (5 + 2) r) 3 r ∧ Fits (runs (5 + 2) r) 3 r 2 ∧ ¬ (r.b[1].toNat % 4 = 0 ∧ r.l[1].toNat % 4 = 0))
    ∧ (let r := pointing 0x10201 0 0 []
      KernelRuns (runs (5 + 2) r) 3 r ∧ Fits (runs (5 + 2) r) 3 r 2 ∧ ∃ a q, kAddr r 1 0 0 = .ok (a, q) ∧ a.toNat % 4 ≠ 0)
    ∧ ((0x3000C000 : W32).toNat / 2 ^ 14 % 4 = 3 ∧ [0x30, 0x31, 0x40, 0x41].contains ((0x3000C000 : W32).toNat / 2 ^ 24) = true) := by
  refine ⟨by decide +kernel, by decide +kernel, ⟨(runs_kernel _ _ rfl).1, (runs_fit 5 2 2 _ rfl).2 (Nat.le_refl _), by decide +kernel⟩,
    ⟨(runs_kernel _ _ rfl).1, (runs_fit 5 2 2 _ rfl).2 (Nat.le_refl _), 0x10201, 0x10201, by decide +kernel⟩, by decide +kernel⟩

/-- IntegerSearch over four words, two of them equal, and over the last of them alone. -/
theorem witness_IntegerSearch : ∀ x ∈ [(0x10200, 4, [1, 5, 5, 2]), (0x1020C, 1, [2])],
    let r : KRun := { pointing x.1 0 0 [(0x10200, 1), (0x10204, 5), (0x10208, 5), (0x1020C, 2)] with s := (Vector.replicate 32 0).set 7 (BitVec.ofNat 32 x.2.1) }
    let vs : List W32 := x.2.2
    KernelRuns (runs (5 + (4 + (vs.length + 3) / 4)) r) 3 r ∧ Fits (runs (5 + (4 + (vs.length + 3) / 4)) r) 3 r (4 + (vs.length + 3) / 4) ∧ kAligned r 1 = true
      ∧ (r.getS 7).toNat = vs.length ∧ 1 ≤ vs.length ∧ vs.length ≤ 4096
      ∧ ∀ (i : Nat) (v : W32), vs[i]? = some v → ∃ y : Nat, (r.p[1].toNat :: (srchAddrs r 1 vs.length).drop 1)[i]? = some y ∧ KernelWord y ∧ mapFind r.mem y = some v := by
  intro x hx
  refine ⟨(runs_kernel _ _ rfl).1, (runs_fit 5 _ _ _ rfl).2 (Nat.le_refl _), ?_⟩
  simp only [List.mem_cons, List.not_mem_nil, or_false] at hx
  rcases hx with rfl | rfl
  · refine ⟨by decide +kernel, by decide +kernel, by decide, by decide, fun i v h => ?_⟩
    match i, h with
    | 0, h => cases h; exact ⟨0x10200, by decide +kernel, by delta KernelWord; decide, by decide +kernel⟩
    | 1, h => cases h; exact ⟨0x10204, by decide +kernel, by delta KernelWord; decide, by decide +kernel⟩
    | 2, h => cases h; exact ⟨0x10208, by decide +kernel, by delta KernelWord; decide, by decide +kernel⟩
    | 3, h => cases h; exact ⟨0x1020C, by decide +kernel, by delta KernelWord; decide, by decide +kernel⟩
    | n + 4, h => cases h
  · refine ⟨by decide +kernel, by decide +kernel, by decide, by decide, fun i v h => ?_⟩
    match i, h with
    | 0, h => cases h; exact ⟨0x1020C, by decide +kernel, by delta KernelWord; decide, by decide +kernel⟩
    | n + 1, h => cases h

/-- CheckValueStores: a unit that is free, and one that is busy for three more cycles. -/
theorem witness_CheckValueStores : ∀ b ∈ [0, 8], let r : KRun := { pointing 0 0 0 [] with crc := { busyUntil := b } }
    KernelRuns (runs (5 + (b - 5 + 2)) r) 3 r ∧ Fits (runs (5 + (b - 5 + 2)) r) 3 r (r.crc.busyUntil - r.used + 2) ∧ 2 ≤ (2 : W32).toNat % 32 :=
  fun b _ => ⟨(runs_kernel _ _ rfl).1, (runs_fit 5 _ _ _ rfl).2 (Nat.le_refl _), by decide⟩

/-- KernelExceptions: an illegal word; addresses at the edges of the map and of what may be stored to; branches and a jump past the code; a width of 1 or 2 bits. -/
theorem witness_KernelExceptions : (∀ w ∈ [(0xFF000000 : W32), 0x3000C000], kernelDecode 3 w = none)
    ∧ (∀ a ∈ [0x10081, 0xFFFC, 0x18000, 0x1FFFC, 0x20120, 0x10000, 0x1007C, 0x10100, 0x101FC], let r := pointing a 0 0 []
      KernelRuns (runs (5 + 2) r) 3 r ∧ Fits (runs (5 + 2) r) 3 r 2 ∧ kAddr r 1 0 0 = .ok (BitVec.ofNat 32 a, BitVec.ofNat 32 a) ∧ (BitVec.ofNat 32 a).toNat = a)
    ∧ (let r := pointing 0 0 0 []
      KernelRuns (runs (5 + 2) r) 3 r ∧ Fits (runs (5 + 2) r) 3 r 2 ∧ Fits (runs (5 + 2) r) 3 r (r.crc.busyUntil - r.used + 2)
      ∧ (r.pc : Int) + 1 + (BitVec.ofInt 19 (-4)).toInt < 0 ∧ (((runs (5 + 2) r).kernel 3).image.code.length : Int) ≤ (r.pc : Int) + 1 + (6 : BitVec 19).toInt
      ∧ 4 * ((runs (5 + 2) { r with s := r.s.set 7 36 }).kernel 3).image.code.length ≤ ({ r with s := r.s.set 7 36 }.getS 7).toNat ∧ ({ r with s := r.s.set 7 6 }.getS 7).toNat % 4 ≠ 0
      ∧ (0 : W32).toNat % 32 < 2 ∧ (33 : W32).toNat % 32 < 2) := by
  have h : [(0xFF000000 : W32), 0x3000C000].all (fun w => (kernelDecode 3 w).isNone) = true := by decide +kernel
  refine ⟨fun w hw => Option.isNone_iff_eq_none.1 (List.all_eq_true.1 h w hw), fun a ha => ⟨(runs_kernel _ _ rfl).1, (runs_fit 5 2 2 _ rfl).2 (Nat.le_refl _), ?_⟩,
    (runs_kernel _ _ rfl).1, (runs_fit 5 2 2 _ rfl).2 (Nat.le_refl _), (runs_fit 5 2 2 _ rfl).2 (Nat.le_refl _), by decide +kernel⟩
  revert a
  decide +kernel

/-- KernelOverrun, one cycle short. -/
theorem witness_KernelOverrun : (let r := pointing 0x10200 0 0 []
      KernelRuns (runs (5 + 0) r) 3 r ∧ ¬ Fits (runs (5 + 0) r) 3 r 1 ∧ KernelRuns (runs (5 + 1) r) 3 r ∧ ¬ Fits (runs (5 + 1) r) 3 r 2 ∧ r.crc.busyUntil ≤ r.used) :=
  ⟨(runs_kernel _ _ rfl).1, fun h => absurd ((runs_fit 5 0 1 _ rfl).1 h) (by decide), (runs_kernel _ _ rfl).1, fun h => absurd ((runs_fit 5 1 2 _ rfl).1 h) (by decide), by decide⟩

/-! ### Witnesses: faults, kernels in service and recorders (10, 11, 12) -/

/-- A unit in a state, with sources that an upstream fault shadows. -/
def hitState (u st : Nat) (shadows : List Nat) : State :=
  ((put [(u, 0x030000, st)] up).setCell 3 { selfTest := true }).setFault u { openShadows := [(1, shadows)] }

/-- The first corrected and the first contained source of a cell, and a corrected one of a sleeve. -/
def firstSource (k : UKind) (p : FClass → Bool) : Nat := ((List.range 256).find? fun b => (classOf k b).any p).getD 256

def isCorrected : FClass → Bool
  | .corrected n => n != 0
  | _ => false

/-- FaultHits: a corrected source, a shadowed one, a contained one of a cell with no role, the first and last of the three sources of an axis without a sleeve and of a sleeve. -/
theorem witness_FaultHits : (∀ s ∈ [hitState 3 usReady [], hitState 3 usReady [firstSource .cell (fun c => c == .contained)], hitState 0x222 usReady [], hitState 0x320 usDisabled [],
        hitState 0x101 usActive [], hitState 0x101 usActive [3]], (Serving s ∧ Calm s) ∧ ∀ u, NoCluster s u)
    ∧ (wfUnit 3 = true ∧ wfUnit 0x222 = true ∧ wfUnit 0x320 = true ∧ wfUnit 0x101 = true ∧ kindOf 3 = some .cell ∧ kindOf 0x222 = some .netAxis ∧ kindOf 0x320 = some .virtAxis ∧ kindOf 0x101 = some .sleeve)
    ∧ (∀ x ∈ [(3, UKind.cell), (0x101, .sleeve)], let b := firstSource x.2 isCorrected
       b < 256 ∧ (classOf x.2 b).any isCorrected = true ∧ shadowed (hitState x.1 usReady []) x.1 b = false)
    ∧ (let b := firstSource .cell fun c => c == .contained
       b < 256 ∧ classOf .cell b = some .contained ∧ shadowed (hitState 3 usReady []) 3 b = false ∧ (hitState 3 usReady []).st 3 ≠ usOff ∧ (hitState 3 usReady []).st 3 ≠ usRetired
       ∧ ((hitState 3 usReady []).cell 3).work.role = .none ∧ (hitState 3 usReady []).rehousings = [] ∧ shadowed (hitState 3 usReady [b]) 3 b = true)
    ∧ ((classOf .sleeve 3).any (fun c => c != .fatal) = true ∧ shadowed (hitState 0x101 usActive [3]) 0x101 3 = true)
    ∧ (∀ b ∈ [0, 2], shadowed (hitState 0x222 usReady []) 0x222 b = false ∧ (hitState 0x222 usReady []).st 0x222 = usReady ∧ sleeveOf (hitState 0x222 usReady []) 0x222 = 0
       ∧ shadowed (hitState 0x320 usDisabled []) 0x320 b = false ∧ (hitState 0x320 usDisabled []).st 0x320 = usDisabled ∧ sleeveOf (hitState 0x320 usDisabled []) 0x320 = 0
       ∧ (hitState 0x101 usActive []).st 0x101 ≠ usOff ∧ bitOf ((hitState 0x101 usActive []).n 0x101 0x044000) b = false) := by
  refine ⟨fun s hs => ⟨ready_all (l := [hitState 3 usReady [], hitState 3 usReady [firstSource .cell (fun c => c == .contained)], hitState 0x222 usReady [], hitState 0x320 usDisabled [],
        hitState 0x101 usActive [], hitState 0x101 usActive [3]]) (by decide +kernel) s hs, ?_⟩, by decide +kernel, by decide +kernel, by decide +kernel, by decide +kernel, by decide +kernel⟩
  simp only [List.mem_cons, List.not_mem_nil, or_false] at hs
  rcases hs with rfl | rfl | rfl | rfl | rfl | rfl <;> exact noCluster_of (by decide +kernel)

/-- Units in FAULT, with sticky bits. -/
def faulted : State := put [(3, 0x030000, 4), (0x500, 0x030000, 4), (0x101, 0x0B0000, 0xFFFF1234), (0x101, 0x0B0207, 0xFFFFFFFF), (0x700, 0x0D4000, 2), (0x700, 0x0D401F, 2), (0x200, 0x030000, 5),
  (0, 0x0B3100 + UKind.can.code, 0)] up

/-- FaultBooks: the first and the last element of the sticky bits, the first and the last channel of the field die. -/
theorem witness_FaultBooks : ((Serving faulted ∧ Calm faulted) ∧ ∀ u, NoCluster faulted u)
    ∧ (∀ x ∈ [(false, 0), (true, 7)], let w : Write := { unit := 0x101, elem := x.2, data := leBytes 4 0x0F0F0F0F }
       Passes faulted (if x.1 then 0xB02 else 0xB00) w (rowAt faulted (if x.1 then 0xB02 else 0xB00) w))
    ∧ (isCell 3 = true ∧ faulted.st 3 = usFault ∧ containedActive faulted 3 .cell = false ∧ (faulted.cell 3).selfTest = false)
    ∧ (∀ c ∈ [0, 31], faulted.n fieldUnit (0x0D4000 + c) = 2 ∧ (channelSources c).any (faultBit faulted fieldUnit 0xB01) = false ∧ faulted.n fieldUnit (0x0D4100 + c) < 65535)
    ∧ (kindOf 0x500 = some .can ∧ faulted.st 0x500 = usFault ∧ containedActive faulted 0x500 .can = false ∧ retireThreshold faulted 0x500 = 0)
    ∧ (Passes faulted 0xB40 (wr 0 (leBytes 2 0x200)) (rowAt faulted 0xB40 (wr 0 (leBytes 2 0x200))) ∧ journalFull faulted [itemRecord 3 (leBytes 2 (leNat (wr 0 (leBytes 2 0x200)).data) ++ [0])] = false) := by
  refine ⟨⟨ready_all (l := [faulted]) (by decide +kernel) _ (by decide), noCluster_of (by decide +kernel)⟩, fun x hx => passes_of ?_, by decide +kernel, by decide +kernel, by decide +kernel,
    passes_of (by decide +kernel), by decide +kernel⟩
  revert x
  decide +kernel

/-- An image of one instruction, as #1110 holds it. -/
def kimage : Bytes := leBytes 2 1 ++ leBytes 2 1 ++ leBytes 4 100 ++ leBytes 2 0 ++ List.replicate 6 0 ++ leBytes 4 (crc32c (leBytes 4 0)) ++ List.replicate 12 0 ++ leBytes 4 0

/-- A kernel 3 in service on cell 2 beside reserve cells, a stopped kernel 127, and recorders READY and ACTIVE. -/
def service : State :=
  let s := (put [(0, 0x110403, 1), (0, 0x11047F, 2), (6, 0x030000, 2), (7, 0x030000, 2), (0x400, 0x030000, 3), (0x40F, 0x030000, 2)] up).setV 0 0x111000 (.bytes kimage)
  { s.setCell 2 { work := { role := .localServo, clock := 600, units := [0x201], kernel := some 3 } } with
    plan := some { quadrants := [0], cells := [], sleeves := [], clusters := [], kernels := [], sdDividers := [5, 5, 5, 5], signature := 7 } }

/-- A recorder whose oldest run has rows to send, as its stream buffer is flushed. -/
def streaming (r : Nat) : State :=
  ((put [(r, 0x0A0400, 4), (r, 0x0A0500, 1)] up).setSlot 4 (.opened sess)).setRec r
    { buffer := [⟨1, List.replicate 1000 3, 0, 77⟩, ⟨2, [1, 2, 3], 1, 77⟩, ⟨3, [3], 0, 78⟩], flush := true, cycle := 9999999, run := 78, numbers := [(77, 2 ^ 32 - 1)] }

def condition (r e : Nat) : Write := { unit := r, elem := e, data := List.replicate 32 0 }

/-- KernelsAndRecorders: a restart of the last kernel, an accepted update, the first and the last trigger condition, and the first and the last recorder. -/
theorem witness_KernelsAndRecorders : (∀ s ∈ [service, streaming 0x400, streaming 0x40F], (Serving s ∧ Calm s) ∧ ∀ u, NoCluster s u)
    ∧ (let w : Write := { unit := 0, elem := 127, data := [1] }
       Passes service 0x110A w (rowAt service 0x110A w) ∧ service.n 0 (0x110400 + 127) = 2)
    ∧ (let w : Write := { unit := 0, data := [3] }
       Passes service 0x1111 w (rowAt service 0x1111 w) ∧ leNat w.data = 3 ∧ service.n 0 (0x110400 + 3) ≠ 0 ∧ (service.rehousings.any fun r => r.replaces.isSome) = false
       ∧ ((parseImage (updateImage service)).any fun i => updateOk service 3 i) = true ∧ activeRehousings service < 4 ∧ (chooseCell service (kernelCell service 3)).map isCell = some true)
    ∧ (∀ x ∈ [(0x400, 0), (0x40F, 7)], let w := condition x.1 x.2
       Passes service 0xA10 w (rowAt service 0xA10 w) ∧ isRecorder x.1 = true ∧ journalFull service [writeRecord x.1 0xA10 (rowAt service 0xA10 w) w] = false)
    ∧ service.st 0x400 = usActive
    ∧ (∀ r ∈ [0x400, 0x40F], let s := streaming r
       isRecorder r = true ∧ s.slot (s.n r 0x0A0400) = .opened sess ∧ (s.rec' r).cycle ≠ s.beat.n / max 1 (s.n 0 0x023300) ∧ 0 < s.n r 0x0A0500
       ∧ takeBlocks 1440 (oldestRun (s.rec' r)) ≠ [] ∧ (s.rec' r).flush = true) := by
  refine ⟨fun s hs => ⟨ready_all (l := [service, streaming 0x400, streaming 0x40F]) (by decide +kernel) s hs, ?_⟩, ⟨passes_of (by decide +kernel), by decide +kernel⟩,
    ⟨passes_of (by decide +kernel), by decide +kernel⟩, fun x hx => ⟨passes_of ?_, ?_⟩, by decide +kernel, by decide +kernel⟩
  · simp only [List.mem_cons, List.not_mem_nil, or_false] at hs
    rcases hs with rfl | rfl | rfl <;> exact noCluster_of (by decide +kernel)
  all_goals revert x; decide +kernel

/-! ### Witnesses: the veil and the field die (13, 14) -/

/-- A veil that runs its cycle, with groups that were decided, are released and stand, sleeves heard by SSI and by FSP, and safe inputs. -/
def veiled (st test : Nat) : State :=
  let format : Bytes := [4, 12, 0, 0, 0, 0, 0, 0] ++ leBytes 4 0x43 ++ leBytes 4 0
  let s := put [(veilUnit, 0x030000, st), (veilUnit, 0x0C0200, test), (veilUnit, 0x0C3000, 3), (veilUnit, 0x0C3001, 4), (veilUnit, 0x0C3100, 4096), (veilUnit, 0x0C3101, 4096), (0x102, 0x050800, 12),
    (0x102, 0x050700, 4), (veilUnit, 0x0C2600, 0), (veilUnit, 0x0C2607, 3)] up
  let s := s.setV veilUnit 0x0C3200 (.bytes format)
  { s with
    field := { s.field with powered := true }
    veil := { s.veil with cycle := 50, stofb := 0x33, groups := [(0, { decided := some 4, high := true, changed := 48 }), (1, { releasing := true }), (2, { high := true, changed := 3 }), (7, { high := true, changed := 48 })] } }

def inputs1 : VeilInputs := ⟨List.replicate 8 false, List.replicate 8 true, true, 0x55, [(0x101, 5)], [(0x101, 0)], none⟩

/-- Frames that the veil hears: SSI with position 77, and FSP. -/
def ssi77 : List Bool := (List.range 16).map fun i => 77 / 2 ^ (15 - i) % 2 == 1
def fsp77 : Bytes := [0x30, 77, 0x20] ++ leBytes 2 (fspCrc [0x30, 77, 0x20])

/-- VeilCycle: a veil that runs and one that is OFF; a frame of each kind; groups at their first cycle after the change and later, the first and the last; test
pulses of the first and the last output and input, and of a field die without power and in seam loss. -/
theorem witness_VeilCycle : (∀ s ∈ [veiled usReady 1, veiled usOff 1], (Serving s ∧ Calm s) ∧ ∀ u, NoCluster s u)
    ∧ (inputs1.chanA.length = 8 ∧ inputs1.chanB.length = 8 ∧ inputs1.diagFail = none)
    ∧ (let s := veiled usReady 1
       veilRuns s = true ∧ veilRuns (veiled usOff 1) = false ∧ s.st veilUnit ≠ usFault ∧ s.veil.enrol = none ∧ (s.group 0).decided = some 4 ∧ (s.group 1).decided = none
       ∧ (s.group 1).releasing = true ∧ (s.group 2).decided = none ∧ (s.group 2).releasing = false
       ∧ (veilFrameRead s 0x101 true (.ssi ssi77)).isSome = true ∧ (∀ a ∈ (veilFb s 0x101).frames, a.2 ≠ 900) ∧ (veilFrameRead s 0x102 true (.fsp fsp77)).isSome = true
       ∧ (∀ a ∈ (veilFb s 0x102).frames, a.2 ≠ 900) ∧ veilKind s 0x101 ≠ 4 ∧ veilKind s 0x102 ≠ 3 ∧ veilFrameRead s 0x103 true (.ssi ssi77) = none)
    ∧ (∀ g ∈ [0, 7], let s := veiled usReady 1
       (s.group g).high = true ∧ (s.group g).changed + 1 < s.veil.cycle ∧ ((s.group g).decided = none ↔ g = 7))
    ∧ (∀ x ∈ [(0, 0), (3, 7)], let s := veiled usReady 1
       s.field.powered = true ∧ s.field.seamLost = false ∧ s.n veilUnit (0x0C2600 + x.2) % 16 = x.1 ∧ (safeIn s x.2).fault = 0)
    ∧ (up.field.powered = false) := by
  refine ⟨fun s hs => ⟨ready_all (l := [veiled usReady 1, veiled usOff 1]) (by decide +kernel) s hs, ?_⟩, by decide, by decide +kernel, by decide +kernel, by decide +kernel, by decide +kernel⟩
  simp only [List.mem_cons, List.not_mem_nil, or_false] at hs
  rcases hs with rfl | rfl <;> exact noCluster_of (by decide +kernel)

/-- Root and veil DISABLED with every group in STO, a safety key or none, an enrolment that waits or none. -/
def enrolling (key : Bool) (wait : Bool) : State := { put [(0, 0x030000, 1), (veilUnit, 0x030000, 1)] up with
  keys := if key then [(3, List.replicate 32 5)] else []
  veil := { up.veil with enrol := if wait then some (List.replicate 32 7, 2, true, none) else none } }

/-- A veil whose configuration is signed, before its self-test. -/
def unsignedVeil (enabled : Bool) : State :=
  let s := put [(veilUnit, 0x030000, 1), (veilUnit, 0x0C0200, 0)] up
  { s with veil := { s.veil with enabled := enabled } }
def beforeTest (enabled : Bool) : State := (unsignedVeil enabled).setI veilUnit 0x0C0000 (crc32c (veilConfigBytes (unsignedVeil enabled)))

theorem config_setV (s : State) (k : Nat) (v : Val) (h : k < 0x0C1000) : veilConfigBytes (s.setV veilUnit k v) = veilConfigBytes s := by
  unfold veilConfigBytes
  refine List.flatMap_congr fun r hr => ?_
  have := (of_decide_eq_true (List.mem_filter.1 hr).2).1
  congr 2
  funext e
  unfold veilElemBytes
  rw [setV_read_ne _ _ (by unfold keyOf; omega)]

theorem groups_setV (s : State) (k : Nat) (v : Val) (h : k < 0x0C1000) : groupSleeves (s.setV veilUnit k v) = groupSleeves s := by
  funext g
  unfold groupSleeves
  rw [setV_bs_ne _ _ (by unfold keyOf; omega)]

theorem before_test_signed (e : Bool) : veilSigned ((beforeTest e).setN veilUnit 0x0C0200 1) = true := by
  have h : (allGroups.flatMap (groupSleeves (unsignedVeil e))).Nodup := by cases e <;> decide +kernel
  unfold veilSigned beforeTest
  rw [setN_eq, setI_eq, config_setV _ _ _ (by decide), config_setV _ _ _ (by decide), groups_setV _ _ _ (by decide), groups_setV _ _ _ (by decide),
    setV_i_ne _ _ (by decide), setV_i_self, decide_eq_true rfl, decide_eq_true h]
  rfl

theorem witness_VeilCommands : (∀ s ∈ [enrolling false false, enrolling true false, enrolling false true, put [(0, 0x030000, 2)] (enrolling false false), beforeTest true, beforeTest false], (Serving s ∧ Calm s) ∧ ∀ u, NoCluster s u)
    ∧ (∀ e ∈ [0, 7], let w : Write := { unit := veilUnit, elem := e, data := [1] }
       Passes (enrolling false false) 0xC05 w (rowAt (enrolling false false) 0xC05 w))
    ∧ (∀ x ∈ [(enrolling false false, 0xC0A, wr veilUnit (List.replicate 32 7)), (enrolling true false, 0xC0A, wr veilUnit (List.replicate 32 7)), (enrolling false true, 0xC0A, wr veilUnit (List.replicate 32 7)),
        (enrolling false false, 0xC0B, wr veilUnit [1]), (put [(0, 0x030000, 2)] (enrolling false false), 0xC0B, wr veilUnit [1]),
        (put [(0, 0x030000, 2)] (enrolling false false), 0xC0A, wr veilUnit (List.replicate 32 7))], Passes x.1 x.2.1 x.2.2 (rowAt x.1 x.2.1 x.2.2))
    ∧ (enrolReady (enrolling false false) = true ∧ enrolReady (put [(0, 0x030000, 2)] (enrolling false false)) = false ∧ mapGet [] (enrolling false false).keys 3 = []
      ∧ (enrolling false false).veil.enrol = none ∧ mapGet [] (enrolling true false).keys 3 ≠ [] ∧ (enrolling false true).veil.enrol.isSome = true)
    ∧ (∀ e, let s := beforeTest e
       s.n veilUnit 0x0C0200 = 0 ∧ s.st veilUnit = usDisabled ∧ s.veil.enabled = e ∧ limp s = false)
    ∧ (∀ e, veilSigned ((beforeTest e).setN veilUnit 0x0C0200 1) = true)
    ∧ ((veiled usReady 1).n veilUnit 0x0C0200 ≠ 0) := by
  refine ⟨fun s hs => ⟨ready_all (l := [enrolling false false, enrolling true false, enrolling false true, put [(0, 0x030000, 2)] (enrolling false false), beforeTest true, beforeTest false]) (by decide +kernel) s hs, ?_⟩,
    fun e he => passes_of ?_, passes_all (by decide +kernel), by decide +kernel, fun e => ⟨?_, ?_, ?_, ?_⟩, before_test_signed, by decide +kernel⟩
  · simp only [List.mem_cons, List.not_mem_nil, or_false] at hs
    rcases hs with rfl | rfl | rfl | rfl | rfl | rfl <;> exact noCluster_of (by decide +kernel)
  · revert e; decide +kernel
  · exact (setV_n_ne _ _ (by decide)).trans (by cases e <;> decide +kernel)
  · exact (setV_n_ne _ _ (by decide)).trans (by cases e <;> decide +kernel)
  · cases e <;> decide +kernel
  · cases e <;> decide +kernel

/-- A field die with power: a frame on its way, of a unit in FAULT or not, switches that are on, off and due for a retry, and inputs. -/
def fieldState (st : Nat) (halt lost powered : Bool) (limit : Nat) : State :=
  let s := put [(fieldUnit, 0x030000, st), (fieldUnit, 0x0D2300, 0x8000), (fieldUnit, 0x0D2600, 0x8002), (fieldUnit, 0x0D2900, limit)] up
  { s with field := { s.field with
      powered := powered, seamLost := lost, flyDown := (0x8001, 3, halt), command := 0x0004, outputs := [(0, { on := true }), (2, { retry := true }), (3, { retry := true }), (14, { on := true })],
      supplies := [(0, { on := true }), (3, { on := true })], inputs := [(0, { level := true }), (31, { count := 3 })] } }

/-- FieldDie: with power and without, a frame with and without the halt bit, in seam loss and not, and the first and the last output and input. -/
theorem witness_FieldDie : (∀ s ∈ [fieldState usActive false false true 3, fieldState usFault true false true 3, fieldState usReady true true true 1, fieldState usOff false false false 3], (Serving s ∧ Calm s) ∧ NoCluster s fieldUnit)
    ∧ (let s := fieldState usActive false false true 3
       s.field.powered = true ∧ shadowed s fieldUnit 1 = false ∧ s.field.flyDown.2.2 = false ∧ bitOf s.field.flyDown.1 0 = true ∧ bitOf s.field.flyDown.1 1 = false ∧ bitOf s.field.flyDown.1 15 = true
       ∧ (∀ o ∈ [0, 15], s.n fieldUnit (0x0D4020 + o) = 0 ∧ (switchOf s (32 + o)).retry = false) ∧ bitOf (s.n fieldUnit 0x0D2300) 0 = false ∧ bitOf (s.n fieldUnit 0x0D2300) 15 = true
       ∧ (∀ i ∈ [0, 31], bitOf (s.n fieldUnit 0x0D1300) i = false ∧ (mapGet {} s.field.inputs i).wireOpen = false) ∧ s.st fieldUnit ≠ usRetired ∧ s.st fieldUnit ≠ usOff ∧ shadowed s fieldUnit 0 = false)
    ∧ ((fieldState usFault true false true 3).field.flyDown.2.2 = true ∧ (fieldState usFault true false true 3).field.seamLost = false)
    ∧ ((fieldState usOff false false false 3).field.powered = false ∧ (fieldState usOff false false false 3).st fieldUnit = usOff)
    ∧ (∀ x ∈ [(fieldState usActive false false true 3, 0xD21, wr fieldUnit [0x34, 0x12]), (fieldState usActive false false true 3, 0xD22, wr fieldUnit [0xFF, 0xFF])], Passes x.1 x.2.1 x.2.2 (rowAt x.1 x.2.1 x.2.2)) := by
  refine ⟨fun s hs => ⟨ready_all (l := [fieldState usActive false false true 3, fieldState usFault true false true 3, fieldState usReady true true true 1, fieldState usOff false false false 3]) (by decide +kernel) s hs, ?_⟩,
    by decide +kernel, by decide +kernel, by decide +kernel, passes_all (by decide +kernel)⟩
  simp only [List.mem_cons, List.not_mem_nil, or_false] at hs
  rcases hs with rfl | rfl | rfl | rfl <;> exact noCluster_of (by decide +kernel) _

/-- FieldChannels: a switch that is on, below its retry limit and at it; a retry of one that is commanded and of one that is not; an open load of one that is off, on, and not watched. -/
theorem witness_FieldChannels : (∀ limit ∈ [0, 1, 2], let s := fieldState usActive false false true limit
       readyB s = true ∧ planClusters s = [] ∧ s.field.powered = true ∧ s.n fieldUnit 0x0D2900 = limit ∧ s.st fieldUnit ≠ usOff ∧ s.st fieldUnit ≠ usRetired)
    ∧ (let s := fieldState usActive false false true 2
       (∀ o ∈ [0, 14], (switchOf s (32 + o)).on = true ∧ (switchOf s (32 + o)).lastRetry = none ∧ shadowed s fieldUnit (36 + o) = false ∧ shadowed s fieldUnit (52 + o) = false ∧ shadowed s fieldUnit (68 + o) = false)
       ∧ (∀ k ∈ [0, 3], (switchOf s (48 + k)).on = true ∧ (switchOf s (48 + k)).lastRetry = none ∧ shadowed s fieldUnit (104 + k) = false ∧ shadowed s fieldUnit (108 + k) = false)
       ∧ (switchOf s (32 + 2)).retry = true ∧ commanded s (32 + 2) = true ∧ (switchOf s (32 + 3)).retry = true ∧ commanded s (32 + 3) = false
       ∧ (∀ o ∈ [1, 15], (switchOf s (32 + o)).on = false ∧ bitOf (s.n fieldUnit 0x0D2600) o = true ∧ shadowed s fieldUnit (84 + o) = false)
       ∧ bitOf (s.n fieldUnit 0x0D2600) 2 = false ∧ shadowed s fieldUnit 2 = false ∧ shadowed s fieldUnit 3 = false) := by
  refine ⟨by decide +kernel, by decide +kernel⟩

/-! ### Witnesses: CAN (15) -/

def canRecord (id fl n : Nat) : Bytes := leBytes 4 id ++ leBytes 1 fl ++ leBytes 1 n ++ [0, 0] ++ List.replicate 8 0 ++ List.replicate n 9 ++ List.replicate (64 - n) 0

def canFrame1 : CanFrame := ⟨0x123, false, false, false, false, false, [1, 2, 3]⟩

/-- A controller with slots in given states, its error state and its FIFO. -/
def canState (u st : Nat) (slots : List (Nat × Nat)) (err tec fifo : Nat) (ref : Bool) : State :=
  let s := (put [(u, 0x030000, st), (u, 0x0E4000, if ref then 1 else 0)] up).setV u 0x0E203F (.bytes (leBytes 4 0x123 ++ leBytes 4 0x7F3 ++ leBytes 1 2 ++ List.replicate 23 0))
  s.setCan u { slots := slots.map fun x => (x.1, { state := x.2, frame := canFrame1, order := x.1 }), fifo := List.replicate fifo [7], tec := tec, err := err, order := 40 }

/-- CanTransmits: the first and the last slot, free and busy; a valid record and one that is not; an abort of slots of each state; an offer; a frame that ends and one that fails; a reference
message. -/
theorem witness_CanTransmits : (∀ u ∈ [0x500, 0x501], ∀ s ∈ [canState u usActive [(0, slPending), (5, slDone)] 0 247 0 false, canState u usActive [(0, slPending), (31, slSending)] 0 247 0 true],
      readyB s = true ∧ planClusters s = [] ∧ wfCan u = true ∧ s.st u = usActive ∧ (s.canOf u).err ≠ 2 ∧ (s.canOf u).stopping = none ∧ (s.canOf u).refSending = false ∧ (s.canOf u).refData = none)
    ∧ (∀ e ∈ [0, 31], ∀ d ∈ [canRecord 0x123 0 8, canRecord 0x900 0 8], let s := canState 0x500 usActive [(0, slPending), (31, slSending)] 0 247 0 true
       let w : Write := { unit := 0x500, elem := e, data := d }
       Passes s 0xE10 w (rowAt s 0xE10 w) ∧ ((slotOf s 0x500 e).state = slPending ∨ (slotOf s 0x500 e).state = slSending))
    ∧ (∀ d ∈ [canRecord 0x123 0 8, canRecord 0x900 0 8], let s := canState 0x500 usActive [(0, slPending), (5, slDone)] 0 247 0 false
       let w : Write := { unit := 0x500, elem := 31, data := d }
       Passes s 0xE10 w (rowAt s 0xE10 w) ∧ (slotOf s 0x500 31).state ≠ slPending ∧ (slotOf s 0x500 31).state ≠ slSending ∧ recordOk (s.n 0x500 0x0E0000) d = (d == canRecord 0x123 0 8))
    ∧ (let s := canState 0x500 usActive [(0, slPending), (5, slDone)] 0 247 0 false
       let w := wr 0x500 (leBytes 4 0xFFFFFFFF)
       Passes s 0xE13 w (rowAt s 0xE13 w) ∧ onBus s 0x500 = false ∧ ((bestOffer (offers s 0x500)).any fun x => x.1 == 0) = true ∧ s.b 0x500 0x0E4000 = false)
    ∧ (let s := canState 0x500 usActive [(0, slPending), (31, slSending)] 0 247 0 true
       slotsIn s 0x500 slSending = [31] ∧ (s.canOf 0x500).tec + 8 ≤ 255 ∧ (slotOf s 0x500 31).abort = false ∧ (slotOf s 0x500 31).limit = 0 ∧ (s.canOf 0x500).ackRun < 16
       ∧ s.b 0x500 0x0E4000 = true) := by
  refine ⟨by decide +kernel, fun e he d hd => ⟨passes_of ?_, ?_⟩, fun d hd => ⟨passes_of ?_, ?_⟩, ⟨passes_of (by decide +kernel), by decide +kernel⟩, by decide +kernel⟩
  · revert e d; decide +kernel
  · revert e d; decide +kernel
  · revert d; decide +kernel
  · revert d; decide +kernel

/-- CanReceives: a FIFO with room for one and a full one; the last filter; a frame that no filter takes; each error state. -/
theorem witness_CanReceives : (∀ n ∈ [127, 128], let s := canState 0x501 usReady [] 0 0 n false
      readyB s = true ∧ planClusters s = [] ∧ wfCan 0x501 = true ∧ s.st 0x501 = usReady ∧ (s.canOf 0x501).err ≠ 2 ∧ s.b 0x501 0x0E4000 = false
      ∧ (List.range 64).find? (fun i => filterMatches (filterOf s 0x501 i) canFrame1) = some 63 ∧ filterAction (filterOf s 0x501 63) = 1 ∧ (s.canOf 0x501).fifo.length = n)
    ∧ (∀ i < 64, filterMatches (filterOf (canState 0x501 usReady [] 0 0 0 false) 0x501 i) { canFrame1 with ident := 0x7FF } = false)
    ∧ (let s := canState 0x501 usActive [] 0 127 0 false
       s.st 0x501 = usActive ∧ (s.canOf 0x501).err = 0 ∧ (s.canOf 0x501).tec < 128 ∧ (s.canOf 0x501).rxErr < 127)
    ∧ (readyB (canState 0x501 usDisabled [] 2 0 0 false) = true ∧ ((canState 0x501 usDisabled [] 2 0 0 false).canOf 0x501).err = 2 ∧ (canState 0x501 usDisabled [] 2 0 0 false).st 0x501 ≠ usReady
      ∧ (canState 0x501 usDisabled [] 2 0 0 false).st 0x501 ≠ usActive) := by
  refine ⟨by decide +kernel, by decide +kernel, by decide +kernel, by decide +kernel⟩

/-! ### Witnesses: resets, start-up, drains, the journal and the firmware (16, 17) -/

/-- A running device with reset fuses, a debug port that is open or not, and nRST ignored for a time or not. -/
def resetable (mask : Nat) (pin thermal : Reach) (jtag open' ignored : Bool) : State := { up with
  rst := { up.rst with fuses := { up.rst.fuses with pin := pin, thermal := thermal, jtag := jtag, swMask := mask }, jtag := if open' then some 3 else none,
                       nRstIgnored := if ignored then up.time.uptime + 1 else up.time.uptime, since := up.time.uptime + 1, thermalArmed := true } }

theorem witness_ResetSources : (∀ x ∈ [(Reach.full, Reach.device, true, true), (.device, .full, false, false)], let s := resetable 15 x.1 x.2.1 false x.2.2.1 x.2.2.2
      readyB s = true ∧ s.rst.combDown = false ∧ s.rst.sources = [] ∧ s.rst.fuses.pin = x.1 ∧ s.rst.fuses.thermal = x.2.1 ∧ s.rst.jtag.isSome = x.2.2.1 ∧ s.rst.fuses.debug = .device
      ∧ decide (s.time.uptime < s.rst.nRstIgnored) = x.2.2.2 ∧ s.rst.fuses.keeperWdg = .keeper ∧ s.rst.since ≠ s.time.uptime ∧ s.rst.thermalArmed = true)
    ∧ (690000 ≤ (⟨690000, 3000000, 1650000, 2000000⟩ : Supplies).vcore ∧ (⟨679999, 2949999, 1620000, 1999999⟩ : Supplies).vcore < 680000 ∧ (⟨680000, 2950000, 1619999, 3600000⟩ : Supplies).vdd18 < 1620000
      ∧ (125000 : Int) < 125001 ∧ (115000 : Int) < 115001)
    ∧ ({ up with rst := { up.rst with phase := .fuseLoad } } : State).rst.phase = .fuseLoad ∧ Calm { up with rst := { up.rst with phase := .fuseLoad } } := by
  refine ⟨by decide +kernel, by decide, rfl, calm_of (by decide +kernel)⟩

/-- A request in service whose reply has not left. -/
def asker : Origin := ⟨6, 4242, 3, 0⟩
def asking (mask : Nat) : State := (resetable mask .full .device true false false).setSlot 6 (.opened { level := 4, src := ⟨9, 10⟩, sid := 4242, expect := 4, inflight := [{ req := 3, items := [none, none], types := [2, 2] }] })

/-- ResetRequests: every reach, permitted and not, given by itself and by a request whose reply is still to leave. -/
theorem witness_ResetRequests : (∀ m ∈ [0, 15], (Serving (asking m) ∧ Calm (asking m)) ∧ (asking m).rst.combDown = false ∧ (asking m).rst.sources = [] ∧ (asking m).rst.since ≠ (asking m).time.uptime
        ∧ (∀ u, NoCluster (asking m) u) ∧ (∀ g < 8, ((asking m).group g).high = false))
    ∧ (∀ a, sleeveOf (asking 15) a = 0)
    ∧ (∀ v ∈ [1, 2, 3, 4], Passes (asking 15) 0x1010 (wr 0 (leBytes 1 v)) (rowAt (asking 15) 0x1010 (wr 0 (leBytes 1 v))) ∧ Passes (asking 0) 0x1010 (wr 0 (leBytes 1 v)) (rowAt (asking 0) 0x1010 (wr 0 (leBytes 1 v)))
        ∧ bitOf (asking 15).rst.fuses.swMask (v - 1) = true ∧ bitOf (asking 0).rst.fuses.swMask (v - 1) = false)
    ∧ (∀ r o, replyLeft (answerSt { asking 15 with rst := { (asking 15).rst with swReach := some (r, o) } } none stOk) none = true)
    ∧ (replyLeft (answerSt { asking 15 with rst := { (asking 15).rst with swReach := some (.full, some asker) } } (some asker) stOk) (some asker) = false)
    ∧ (Passes (asking 15) 0x1030 (wr 0 [1]) (rowAt (asking 15) 0x1030 (wr 0 [1])) ∧ (asking 15).rst.fuses.jtag = true ∧ (resetable 15 .full .device false false false).rst.fuses.jtag = false) := by
  have h : [asking 0, asking 15].all readyB = true := by decide +kernel
  refine ⟨fun m hm => ⟨?_, ?_, ?_, ?_, ?_, ?_⟩, fun a => rfl, fun v hv => ⟨passes_of ?_, passes_of ?_, ?_, ?_⟩, fun _ _ => rfl, by decide +kernel, passes_of (by decide +kernel), rfl, rfl⟩
  · refine ready_all h _ ?_
    simp only [List.mem_cons, List.not_mem_nil, or_false] at hm
    rcases hm with rfl | rfl
    · exact List.mem_cons_self
    · exact List.mem_cons_of_mem _ List.mem_cons_self
  · revert m; decide +kernel
  · revert m; decide +kernel
  · revert m; decide +kernel
  · exact noCluster_of (by revert m; decide +kernel)
  · revert m; decide +kernel
  all_goals revert v; decide +kernel

/-- The device in a phase of its start-up, with sleeves OFF. -/
def phased (p : Phase) (stretch : Bool) (reach : Reach) : State := { (put [(0x101, 0x030000, 0), (0x120, 0x030000, 0)] up) with rst := { up.rst with phase := p, stretch := stretch, reach := reach } }
def keeperOff : State := { up with rst := { up.rst with keeperDown := true, stretch := false, paused := [] } }

theorem witness_StartUp : (∀ s ∈ [phased .inReset false .full, phased .inReset true .full, phased .inReset true .device, phased .fuseLoad false .full, phased .keeperBoot false .full, phased .replay false .full, keeperOff],
      (s.slots.all (fun e => calmSlot e.2) && s.rst.raised.isEmpty && s.rst.swReach.isNone) = true)
    ∧ (isSleeve 0x101 = true ∧ isSleeve 0x120 = true ∧ (phased .fuseLoad false .full).st 0x101 = usOff ∧ (phased .inReset true .device).st 0x120 = usOff)
    ∧ (List.replicate 32 (default : FuseRow)).length = 32
    ∧ (onTrial (phased .keeperBoot false .full) = false ∧ onTrial keeperOff = false)
    ∧ (let s := { phased .replay false .full with nva := { up.nva with anchor0 := none, anchor1 := none } }
       s.rst.phase = .replay ∧ s.slots = [] ∧ s.nva.plan = none ∧ s.rst.veilTested = false ∧ s.nva.anchor0 = none ∧ s.nva.anchor1 = none)
    ∧ (keeperOff.rst.keeperDown = true ∧ keeperOff.rst.phase = .running ∧ keeperOff.rst.stretch = false ∧ keeperOff.rst.paused = []) := by
  refine ⟨by decide +kernel, by decide +kernel, by decide, by decide +kernel, by decide +kernel, by decide +kernel⟩

/-- A unit in a state, draining or not. -/
def drained (u st d : Nat) : State := put [(u, 0x030000, st), (u, 0x101200, d)] up

/-- Drains: of a cell with no role, a recorder and a CAN controller; of a unit that is RETIRED, busy and idle. -/
theorem witness_Drains : (∀ u ∈ [3, 0x400, 0x501], ∀ st ∈ [usDisabled, usReady, usRetired], ∀ d ∈ [0, 1], readyB (drained u st d) = true ∧ planClusters (drained u st d) = [] ∧ (drained u st d).rehousings = []
        ∧ (drained u st d).st u = st ∧ draining (drained u st d) u = (d == 1) ∧ wfUnit u = true ∧ ((drained u st d).cell u).work.role = .none)
    ∧ (∀ x ∈ [(drained 3 usReady 0, 0x1011, wr 3 [1]), (drained 3 usRetired 0, 0x1011, wr 3 [1]), (drained 3 usReady 1, 0x1011, wr 3 [2]), (drained 3 usRetired 1, 0x1011, wr 3 [2]),
        (drained 0x400 usReady 1, 0x1013, wr 0x400 [1]), (drained 0x501 usReady 1, 0x1013, wr 0x501 [1]), (drained 0x501 usReady 0, 0x1013, wr 0x501 [1]), (drained 0x501 usRetired 0, 0x1013, wr 0x501 [1])],
        Passes x.1 x.2.1 x.2.2 (rowAt x.1 x.2.1 x.2.2))
    ∧ (idleForDrain (drained 3 usReady 1) 3 = true ∧ idleForDrain (drained 0x400 usReady 1) 0x400 = true ∧ idleForDrain (drained 0x501 usReady 1) 0x501 = true ∧ isRecorder 0x400 = true ∧ wfCan 0x501 = true) := by
  refine ⟨by decide +kernel, passes_all (by decide +kernel), by decide +kernel⟩

/-- A journal with a region as large as given, a rendering in progress or not, and a trial of the firmware or none. -/
def journaled (data : Bytes) (rendering lost : Bool) (trial : Nat) : State := { up with
  nva := { up.nva with anchor0 := some { generation := 4, epoch := 2 ^ 32 - 1, bootSlot := 0, trialSlot := trial }, region0 := [{ data := data }] }
  journal := { up.journal with rendering := rendering, retirementsLost := lost, trial := if trial < 2 then some trial else none, queue := [⟨[itemRecord 5 (leBytes 8 7)], .reply none⟩, ⟨[], .none⟩] } }

/-- The journal after the transaction at its front has been appended. -/
def appended (data : Bytes) : State :=
  appendRecords { journaled data false false 0xFF with journal := { (journaled data false false 0xFF).journal with queue := [⟨[], .none⟩] } } [itemRecord 5 (leBytes 8 7)]

theorem region_used (data : Bytes) : regionUsed (appended data).nva = (43 + data.length) / 16 * 16 + 48 := by
  have h : regionUsed (appended data).nva = recordBytes { data := data } + (recordBytes (itemRecord 5 (leBytes 8 7)) + 0) := rfl
  rw [h, show recordBytes (itemRecord 5 (leBytes 8 7)) = 48 by decide +kernel,
    show recordBytes { data := data } = (12 + 12 + 2 * 0 + data.length + 4 + 15) / 16 * 16 from rfl]
  omega

theorem witness_JournalAndFirmware : (∀ data r l t, Serving (journaled data r l t) ∧ Calm (journaled data r l t))
    ∧ (∀ data, (journaled data false false 0xFF).journal.queue = ⟨[itemRecord 5 (leBytes 8 7)], .reply none⟩ :: [⟨[], .none⟩])
    ∧ (∀ r ∈ [itemRecord 5 (leBytes 8 7)], ¬ (r.space = 2 ∧ r.obj = 7))
    ∧ (∀ data : Bytes, let c := appended data
       (data.length = 18871204 → 4 * regionUsed c.nva < 3 * Config.regionBytes) ∧ (data.length = 18871205 → 3 * Config.regionBytes ≤ 4 * regionUsed c.nva))
    ∧ (∀ r, let s := journaled [] r false 0xFF
       Passes s 0xF10 (wr 0 [1]) (rowAt s 0xF10 (wr 0 [1])) ∧ s.journal.rendering = r)
    ∧ (∀ l, let s := journaled [] false l 0xFF
       directCheck s 0 0xF11 (wr 0 [1]) = .ok (rowAt s 0xF11 (wr 0 [1])) ∧ wfWrite (wr 0 [1]) = true ∧ s.journal.retirementsLost = l)
    ∧ (∀ t ∈ [1, 0xFF], let s := journaled [] false false t
       directCheck s 0 0xF30 (wr 0 (leBytes 4 4160)) = .ok (rowAt s 0xF30 (wr 0 (leBytes 4 4160))) ∧ wfWrite (wr 0 (leBytes 4 4160)) = true ∧ onTrial s = (t == 1)
       ∧ s.journal.trial = if t = 1 then some 1 else none) := by
  refine ⟨fun _ _ _ _ => serves_as (s := up) rfl rfl up_serves, fun _ => rfl, by decide +kernel, fun data => ⟨fun h => ?_, fun h => ?_⟩, fun r => ⟨passes_of ?_, rfl⟩, fun l => ⟨?_, ?_, rfl⟩, by decide +kernel⟩
  · show 4 * regionUsed (appended data).nva < 3 * Config.regionBytes
    rw [region_used, h]
    decide
  · show 3 * Config.regionBytes ≤ 4 * regionUsed (appended data).nva
    rw [region_used, h]
    decide
  · cases r <;> decide +kernel
  · cases l <;> decide +kernel
  · cases l <;> decide +kernel

/-! ### Witnesses: the queue and kernel words (10); tests against tables of the spec -/

theorem witness_QueueInvariant : let s : State := { up with pending := [.keeperBootDone false, .deadline 0x80] }
    QueueWf s ∧ step s = .next { up with pending := [.deadline 0x80] } := ⟨rfl, rfl⟩

theorem witness_KernelEncoding : ∀ i ∈ ([.ffma 127 31 0 31 31, .st 0 31 7 2 (-1), .srch 127 30 7 31 3, .endK 0] : List Instr), i.wf = true ∧ (kernelEncode i).isSome = true := by decide +kernel

/-- CAN bit timing at the common rates (15 Table 15-1): clocks in a bit, quanta in a bit, and the quantum of an 80 % sample point. -/
theorem test_can_bit_timing : [125000, 500000, 1000000, 2000000, 5000000, 8000000].map (fun r => (clocksPerBit r, quantaPerBit r, sampleQuantum r 800))
    = [(640, 80, 64), (160, 80, 64), (80, 80, 64), (40, 40, 32), (16, 16, 13), (10, 10, 8)] := by decide +kernel

/-- The CRC unit of the cell datapath and LFP give the check value of 02 R40 and 10 R253 for "123456789". -/
theorem test_crc32c : crc32c [0x31, 0x32, 0x33, 0x34, 0x35, 0x36, 0x37, 0x38, 0x39] = 0xE3069283 := by decide +kernel

end Sys2Proof.Tests
end

section
/-! SUPPORT. A write given by itself (00 R7, R8; 02 R46, R52): which of its ways it takes, and what each way leaves. -/

namespace Sys2Proof.Machine

theorem exec_objectWrite (o : Nat) (w : Write) (s : State) :
    exec (.objectWrite o w) s = done s (whenWf (.objectWrite o w) s (directWrite s o w)) := rfl

theorem exec_levelKey (w : Write) (s : State) :
    exec (.levelKey w) s = done s (whenWf (.levelKey w) s (directWrite s 0x010 w)) := rfl

theorem wf_objectWrite {o : Nat} {w : Write} (hw : wfWrite w = true) (ho : o < 65536) : (Instr.objectWrite o w).wf = true := by
  simp [Instr.wf, hw, ho]

theorem wf_levelKey {w : Write} (hw : wfWrite w = true) (he : w.elem < 5) : (Instr.levelKey w).wf = true := by
  simp [Instr.wf, hw, he]

/-! ### What the checks of a write say -/

section
variable {s : State} {o : Nat} {w : Write} {row : ObjRow}

theorem Passes.wf (hp : Passes s o w row) : wfWrite w = true := hp.1
theorem Passes.obj_lt (hp : Passes s o w row) : o < 65536 := hp.2.1
theorem Passes.atStore (hp : Passes s o w row) : storeOf s w.unit o = w.unit := hp.2.2.1
theorem Passes.check (hp : Passes s o w row) : directCheck s w.unit o w = .ok row := hp.2.2.2.1
theorem Passes.own (hp : Passes s o w row) : ownRefusal s w.unit o row w = none := hp.2.2.2.2

/-- A write whose checks pass names an object of its unit. -/
theorem Passes.names (hp : Passes s o w row) : ∃ k, kindOf w.unit = some k ∧ objAt s w.unit k o = some row := by
  have hc := hp.check
  unfold directCheck at hc
  split at hc
  · cases hc
  · rename_i r hr
    obtain ⟨k, hk, ho⟩ := Option.bind_eq_some_iff.mp hr
    refine ⟨k, hk, ho.trans ?_⟩
    repeat' split at hc
    all_goals cases hc
    rfl
end

/-! ### The ways of a write given by itself -/

theorem directWrite_refused {s : State} {o e : Nat} {w : Write} (hs : Serving s) (hu : storeOf s w.unit o = w.unit)
    (hc : directCheck s w.unit o w = .error e) : directWrite s o w = answerSt s w.origin e := by
  unfold directWrite
  simp only [keeperUp_of hs, hu, hc, Bool.not_true, Bool.false_eq_true, if_false]

/-- On a unit that a cell serves, a write that is not journaled takes effect at once. -/
theorem directWrite_at_cell {s : State} {o : Nat} {w : Write} {row : ObjRow} (hs : Serving s) (hp : Passes s o w row)
    (hu : cellServed w.unit = true) (hj : row.jour = false) (ho : o ≠ 0x301) :
    directWrite s o w = replyWith w.origin (writeEffect s w.unit o row w) := by
  unfold directWrite
  simp only [keeperUp_of hs, hp.atStore, hp.check, hu, hj, bne_iff_ne.mpr ho, hp.own, Bool.not_true, Bool.not_false, Bool.and_self,
    Bool.false_eq_true, if_false, if_true]

/-- Every other write goes by its own way. -/
theorem directWrite_served {s : State} {o : Nat} {w : Write} {row : ObjRow} (hs : Serving s) (hp : Passes s o w row)
    (h : cellServed w.unit = false ∨ row.jour = true) : directWrite s o w = writeServe s w.unit o row w := by
  have hn : (cellServed w.unit && !row.jour && o != 0x301) = false := by rcases h with h | h <;> simp [h]
  unfold directWrite
  simp only [keeperUp_of hs, hp.atStore, hp.check, hn, Bool.not_true, Bool.false_eq_true, if_false]

/-! ### A write with no behaviour of its own -/

/-- PdMapApply stands on the root only. -/
theorem kind_of_pdMapApply {s : State} {u : Nat} {k : UKind} {row : ObjRow} (h : objAt s u k 0x144 = some row) : k = .root := by
  have hr : ∀ k : UKind, k ≠ .root → objRowOf k 0x144 = none := by
    intro k hk
    cases k
    case root => exact absurd rfl hk
    all_goals decide +kernel
  have hx : objAt s u k 0x144 = objRowOf k 0x144 := by
    unfold objAt
    rw [if_neg (by decide), if_neg (by simp [axisFaceObj])]
  by_contra hk
  rw [hx, hr k hk] at h
  cases h

theorem eq_zero_of_kindOf_root {u : Nat} (h : kindOf u = some .root) : u = 0 := by
  unfold kindOf at h
  by_contra hu
  rw [if_neg hu] at h
  repeat' split at h
  all_goals cases h

theorem PlainObject.ne_pdMapApply {s : State} {o : Nat} {w : Write} {row : ObjRow} (hp : Passes s o w row)
    (h : PlainObject s w.unit o row w) : o ≠ 0x144 := by
  rintro rfl
  obtain ⟨k, hk, ho⟩ := hp.names
  obtain rfl := kind_of_pdMapApply ho
  exact Option.some_ne_none _ (h.1 (eq_zero_of_kindOf_root hk)).2

theorem PlainObject.ne_unitCommand {s : State} {u o : Nat} {row : ObjRow} {w : Write} (h : PlainObject s u o row w) : o ≠ 0x301 := by
  obtain ⟨-, -, -, -, -, -, -, h301, -⟩ := h
  exact h301

theorem commonWrite_plain {s : State} {u o : Nat} {row : ObjRow} {w : Write} (h : PlainObject s u o row w) : commonWrite s u o row w = none := by
  obtain ⟨-, -, -, -, hstick, -, -, -, h1, h2, h3, h4⟩ := h
  simp [commonWrite, hstick, h1, h2, h3, h4]

/-- The write of an object with no behaviour of its own only stores, and is answered OK. -/
theorem writeEffect_plain {s : State} {u o : Nat} {row : ObjRow} {w : Write} (h : PlainObject s u o row w) :
    writeEffect s u o row w = withOk (plainWrite s u o row w) := by
  have hcommon := commonWrite_plain h
  obtain ⟨hroot, haxis, hsleeve, hother, -⟩ := h
  unfold writeEffect
  simp only [hcommon, Option.orElse_none]
  by_cases h0 : u = 0
  · rw [if_pos h0, (hroot h0).2]; rfl
  · rw [if_neg h0]
    by_cases ha : (isAxis u || isCluster u) = true
    · rw [if_pos ha, haxis (Bool.or_eq_true _ _ ▸ ha)]; rfl
    · rw [if_neg ha]
      by_cases hk : isSleeve u = true
      · rw [if_pos hk, hsleeve hk]; rfl
      · rw [if_neg hk, hother h0]; rfl

/-- The transaction of a write with no behaviour of its own is its one record, where the object is journaled. -/
theorem journalTxn_plain {s : State} {u o : Nat} {row : ObjRow} {w : Write} (h : PlainObject s u o row w) (port : Option Nat) :
    journalTxn s u o row w port = if row.jour then some ([writeRecord u o row w], .write o w port) else none := by
  obtain ⟨hroot, -, -, -, -, h1, h2, h3, -⟩ := h
  have hcmd : (if u = 0 then journaledCommand s o w else none) = none := by
    split
    · next h0 => exact (hroot h0).1
    · rfl
  simp [journalTxn, hcmd, h1, h2, h3]

theorem takeWrite_plain {s : State} {u o : Nat} {row : ObjRow} {w : Write} (h : PlainObject s u o row w) (hr : ownRefusal s u o row w = none)
    (hu : cellServed u = false) (hj : row.jour = false) : takeWrite s u o row w = withOk (plainWrite s u o row w) := by
  have hx := journalTxn_plain h none
  have he := writeEffect_plain h
  obtain ⟨-, -, -, -, -, h1, h2, h3, -⟩ := h
  simp [takeWrite, hx, hj, hr, lowerCode, h1, h2, h3, hu, he]

/-- The direct write of an object with no behaviour of its own that is not journaled: stored and answered OK, whatever serves the unit. -/
theorem directWrite_plain {s : State} {o : Nat} {w : Write} {row : ObjRow} (hs : Serving s) (hp : Passes s o w row)
    (h : PlainObject s w.unit o row w) (hj : row.jour = false) :
    directWrite s o w = answerSt (plainWrite s w.unit o row w) w.origin stOk := by
  have h144 := h.ne_pdMapApply hp
  cases hu : cellServed w.unit with
  | true => rw [directWrite_at_cell hs hp hu hj h.ne_unitCommand, writeEffect_plain h]; rfl
  | false =>
    rw [directWrite_served hs hp (.inl hu)]
    unfold writeServe
    rw [takeWrite_plain h hp.own hu hj]
    simp only [h144, if_false]; rfl

theorem plainWrite_scalar {row : ObjRow} (h : row.ty.scalar = true) (s : State) (u o : Nat) (w : Write) :
    plainWrite s u o row w = s.setV u (o * 256 + w.elem) (.num (decodeNum row.ty w.data)) := if_pos h

/-! ### A write that goes to the journal first -/

theorem takeWrite_journaled {s : State} {u o : Nat} {row : ObjRow} {w : Write} {port : Option Nat} {rs : List JRecord} {act : TxnAct}
    (hr : ownRefusal s u o row w = none) (ht : journalTxn s u o row w port = some (rs, act)) (hf : journalFull s rs = false) :
    takeWrite s u o row w port = (none, journal s rs act) := by
  simp [takeWrite, ht, hr, fullRefusal, hf, lowerCode]

/-- A write that makes a transaction, given by itself, hands it to the keeper and does nothing else. -/
theorem directWrite_journaled {s : State} {o : Nat} {w : Write} {row : ObjRow} {rs : List JRecord} {act : TxnAct} (hs : Serving s)
    (hp : Passes s o w row) (hu : cellServed w.unit = false ∨ row.jour = true) (ho : o ≠ 0x144)
    (ht : journalTxn s w.unit o row w none = some (rs, act)) (hf : journalFull s rs = false) : directWrite s o w = journal s rs act := by
  rw [directWrite_served hs hp hu]
  unfold writeServe
  rw [takeWrite_journaled hp.own ht hf]
  simp only [ho, if_false]; rfl

/-- The transaction of a LevelKey. -/
theorem journalTxn_levelKey (s : State) (row : ObjRow) (w : Write) (port : Option Nat) :
    journalTxn s 0 0x010 row w port = some ([itemRecord 1 (leBytes 1 w.elem ++ w.data)], .key w.elem w.data w.origin) := rfl

/-- In a calm state a command that hands a transaction to the keeper does nothing else. -/
theorem done_journal {s : State} (h : Calm s) (rs : List JRecord) (act : TxnAct) : done s (journal s rs act) = .next (journal s rs act) :=
  done_calm s _ (h.journal rs act)

end Sys2Proof.Machine

namespace Sys2Proof.Proofs
open Sys2Proof.Machine

theorem objectWrite_refused {s : State} {o e : Nat} {w : Write} (hs : Serving s) (hq : Calm s) (hw : wfWrite w = true) (ho : o < 65536)
    (hu : storeOf s w.unit o = w.unit) (hc : directCheck s w.unit o w = .error e) :
    exec (.objectWrite o w) s = .next (answerSt s w.origin e) := by
  rw [exec_objectWrite, whenWf_of (wf_objectWrite hw ho), directWrite_refused hs hu hc]
  exact done_within hq (.answerSt ..)

theorem objectWrite_stores {s : State} {o : Nat} {w : Write} {row : ObjRow} (hs : Serving s) (hq : Calm s) (hp : Passes s o w row)
    (h : PlainObject s w.unit o row w) (hj : row.jour = false) (hsc : row.ty.scalar = true) :
    exec (.objectWrite o w) s = .next (answerSt (s.setV w.unit (o * 256 + w.elem) (.num (decodeNum row.ty w.data))) w.origin stOk) := by
  rw [exec_objectWrite, whenWf_of (wf_objectWrite hp.wf hp.obj_lt), directWrite_plain hs hp h hj, plainWrite_scalar hsc]
  exact done_within hq ((Within.setV ..).trans (.answerSt ..))

theorem objectWrite_journals {s : State} {o : Nat} {w : Write} {row : ObjRow} (hs : Serving s) (hq : Calm s) (hp : Passes s o w row)
    (h : PlainObject s w.unit o row w) (hj : row.jour = true) (hf : journalFull s [writeRecord w.unit o row w] = false) :
    exec (.objectWrite o w) s = .next (journal s [writeRecord w.unit o row w] (.write o w none)) := by
  have ht := (journalTxn_plain h none).trans (if_pos hj)
  rw [exec_objectWrite, whenWf_of (wf_objectWrite hp.wf hp.obj_lt), directWrite_journaled hs hp (.inr hj) (h.ne_pdMapApply hp) ht hf]
  exact done_journal hq _ _

theorem levelKey_journals {s : State} {w : Write} {row : ObjRow} (hs : Serving s) (hq : Calm s) (hp : Passes s 0x010 w row)
    (hu : w.unit = 0) (he : w.elem < 5) (hf : journalFull s [itemRecord 1 (leBytes 1 w.elem ++ w.data)] = false) :
    exec (.levelKey w) s = .next (journal s [itemRecord 1 (leBytes 1 w.elem ++ w.data)] (.key w.elem w.data w.origin)) := by
  have ht := journalTxn_levelKey s row w none
  rw [← hu] at ht
  rw [exec_levelKey, whenWf_of (wf_levelKey hp.wf he), directWrite_journaled hs hp (.inl (by rw [hu]; rfl)) (by decide) ht hf]
  exact done_journal hq _ _

theorem answered_setV_i (s : State) (u k : Nat) (i : Int) (og : Option Origin) (n : Nat) :
    (answerSt (s.setV u k (.num i)) og n).i u k = i := by
  rw [i_of_val (answerSt_val ..)]
  exact congrArg valInt (setV_read_self ..)

theorem answered_setV_val_ne (s : State) {u k u' k' : Nat} (v : Val) (og : Option Origin) (n : Nat) (hk : k < 2 ^ 24) (hk' : k' < 2 ^ 24)
    (h : u' ≠ u ∨ k' ≠ k) : (answerSt (s.setV u k v) og n).val u' k' = s.val u' k' := by
  rw [answerSt_val]
  refine setV_read_ne _ _ fun hkey => ?_
  obtain ⟨hu, hk⟩ := (keyOf_inj hk hk').mp hkey
  exact h.elim (fun h => h hu.symm) fun h => h hk.symm

/-- Settles O16: the way each write takes, and what is read after it. -/
theorem writes : Obligations.Writes := by
  intro s o w row hs hq
  refine ⟨fun e hw ho hu hc => objectWrite_refused hs hq hw ho hu hc, fun hp h hj hsc => ?_,
    fun hp h hj hf => objectWrite_journals hs hq hp h hj hf, fun hp hu he hf => levelKey_journals hs hq hp hu he hf⟩
  have ho := hp.obj_lt
  exact ⟨_, objectWrite_stores hs hq hp h hj hsc, answered_setV_i .., fun u k hk he hne => answered_setV_val_ne _ _ _ _ (by omega) hk hne,
    (Within.answerSt ..).journal.trans (setV_journal ..)⟩

end Sys2Proof.Proofs
end

section
/-! SUPPORT. Rules that several chapters share: a command of the COMB domains, a list of steps of which one decides, the bits of a number, and what
recording a hit leaves alone (12 R275, R279). -/

namespace Sys2Proof.Machine

/-! ### Whole commands -/

/-- A command whose effect leaves nothing to serve completes in its effect. -/
theorem done_next {i : Instr} {s t : State} (hw : i.wf = true) (hx : exec i s = done s (whenWf i s t)) (hq : Calm t) (hp : t.pending = s.pending) :
    exec i s = .next t := by
  rw [hx, whenWf_of hw, done_calm s t hq, ← hp]

/-- So does a command of the COMB domains in service. -/
theorem runs_next {i : Instr} {s t : State} (hs : Serving s) (hq : Calm t) (hw : i.wf = true) (hx : exec i s = done s (whenWf i s (whenRuns s t)))
    (hp : t.pending = s.pending) : exec i s = .next t :=
  done_next hw (hx.trans (by rw [whenRuns_of (combRuns_of hs)])) hq hp

theorem quiet_next {s t : State} (h : t.pending = s.pending) : quiet s t = .next t := by
  unfold quiet
  rw [← h]

/-! ### Lists of steps -/

/-- In a list of different steps the one named j decides Q, where the others keep what it needs before it and what it has decided after it. -/
theorem foldl_decides {α : Type} {P Q : State → Prop} {f : State → α → State} {l : List α} {j : α} {s : State} (hl : l.Nodup) (hj : j ∈ l)
    (hbefore : ∀ t x, x ∈ l → x ≠ j → P t → P (f t x)) (hat : ∀ t, P t → Q (f t j)) (hafter : ∀ t x, x ∈ l → x ≠ j → Q t → Q (f t x)) (hs : P s) :
    Q (l.foldl f s) := by
  have hkeeps : ∀ (l' : List α) (t : State), (∀ x ∈ l', x ∈ l ∧ x ≠ j) → Q t → Q (l'.foldl f t) := by
    intro l'
    induction l' with
    | nil => exact fun t _ h => h
    | cons x r ih =>
      intro t hx h
      obtain ⟨hxl, hxj⟩ := hx x List.mem_cons_self
      exact ih _ (fun y hy => hx y (List.mem_cons_of_mem _ hy)) (hafter t x hxl hxj h)
  have hruns : ∀ (l' : List α) (t : State), l'.Nodup → j ∈ l' → (∀ x ∈ l', x ∈ l) → P t → Q (l'.foldl f t) := by
    intro l'
    induction l' with
    | nil => intro t _ h; cases h
    | cons x r ih =>
      intro t hn hm hsub h
      obtain ⟨hxr, hnr⟩ := List.nodup_cons.mp hn
      rw [List.foldl_cons]
      by_cases hxj : x = j
      · subst hxj
        exact hkeeps r _ (fun y hy => ⟨hsub y (List.mem_cons_of_mem _ hy), fun he => hxr (he ▸ hy)⟩) (hat t h)
      · exact ih _ hnr ((List.mem_cons.mp hm).resolve_left (Ne.symm hxj)) (fun y hy => hsub y (List.mem_cons_of_mem _ hy))
          (hbefore t x (hsub x List.mem_cons_self) hxj h)
  exact hruns l s hl hj (fun _ h => h) hs

/-! ### Bits -/

theorem bitOf_bitsToNat (l : List Bool) (i : Nat) : bitOf (bitsToNat l) i = l.getD i false := by
  induction l generalizing i with
  | nil => simp [bitsToNat, bitOf]
  | cons b r ih =>
    cases i with
    | zero => cases b <;> simp [bitsToNat, bitOf]
    | succ i =>
      rw [List.getD_cons_succ, ← ih]
      have hhalf : bitsToNat (b :: r) / 2 = bitsToNat r := by
        rw [bitsToNat]
        split <;> omega
      unfold bitOf
      rw [Nat.pow_succ', ← Nat.div_div_eq_div_mul, hhalf]

/-! ### Hits -/

theorem putFaultBit_val {s : State} {u o b x y : Nat} (v : Bool) (hb : b < 256) (ho : o < 0xB03) (hy : y < 2 ^ 24)
    (h : x ≠ u ∨ y < 256 * o ∨ 256 * o + 8 ≤ y) : (putFaultBit s u o b v).val x y = s.val x y :=
  setV_read_ne _ _ (by intro he; rw [keyOf_inj (by omega) hy] at he; omega)

/-- Recording a hit leaves every element that is neither a fault bit nor one that an event moves. -/
theorem recordHit_val {s : State} {u b x y : Nat} {k : UKind} {c : FClass} (hb : b < 256) (hy : y < 2 ^ 24) (hl : y ≠ 0x012200)
    (h : y < 0x0B0000 ∨ 0x0B1020 ≤ y) : (recordHit s u b k c).1.val x y = s.val x y := by
  have hbit : ∀ (t : State) (o : Nat), 0xB00 ≤ o → o < 0xB03 → (putFaultBit t u o b true).val x y = t.val x y := fun t o h1 h2 =>
    putFaultBit_val true hb h2 hy (.inr (by omega))
  have hpub : ∀ (t : State) (d : Bytes), (publish t u 0x0B01 d).val x y = t.val x y := fun t d =>
    publish_keeps t u 0x0B01 d x y hy (.inr ⟨hl, by omega⟩)
  have h0 : (if isLevelSource k b then putFaultBit s u 0xB01 b true else s).val x y = s.val x y := by
    split
    · exact hbit _ _ (by decide) (by decide)
    · rfl
  unfold recordHit
  dsimp only
  generalize (if isLevelSource k b then putFaultBit s u 0xB01 b true else s) = s0 at h0 ⊢
  split <;> dsimp only <;> split
  · exact h0
  · exact (hpub ..).trans ((hbit _ _ (by decide) (by decide)).trans h0)
  · exact h0
  · exact (hpub ..).trans ((hbit _ _ (by decide) (by decide)).trans h0)

/-- A hit of a detector that is not shadowed counts (12 R279). -/
theorem recordHit_counts {s : State} {u b : Nat} {k : UKind} {c : FClass} (h : shadowed s u b = false) : (recordHit s u b k c).2 = true := by
  unfold recordHit
  rw [h]
  rfl

end Sys2Proof.Machine
end

section
/-! SUPPORT. UnitCommand on an axis in no cluster (01 R30, Table 1-4): the four commands, each where it names a transition and where it names none. -/

namespace Sys2Proof.Machine

section
variable {s : State} {a : Nat} {o : Option Origin}

/-- A UnitCommand on an axis, whatever its code, is the axis's command and the answer to it. -/
theorem axisActs_next {i : Instr} {c st : Nat} {t : State} (hs : Serving s) (hq : Calm s) (ha : isAxis a = true) (hw : i.wf = wfUnit a)
    (hx : exec i s = done s (whenWf i s (unitActs s a c o))) (hc : axisCommand true s a c = (st, t)) (ht : Within s t) :
    exec i s = .next (answerSt t o st) :=
  unitActs_next hs hq (hw.trans (wf_axis ha)) hx (axisCommand_of ha hc) ht

/-! ### What each command does -/

theorem axisCommand_stop (h : s.st a = usActive) : axisCommand true s a 1 = (stOk, askStopAxis s a) := if_pos h

theorem axisCommand_stop_refused (h : s.st a ≠ usActive) : axisCommand true s a 1 = (stWrongState, s) := if_neg h

theorem axisCommand_disable (h : s.st a = usReady ∨ s.st a = usActive) :
    axisCommand true s a 2 = (stOk, sleeveFollows true (axisTo true s a usDisabled) a usDisabled) := if_pos h.symm

theorem axisCommand_enable (h : s.st a = usDisabled) (hr : enableRefusal s a = none) :
    axisCommand true s a 3 = (stOk, sleeveFollows true (setUnit true s a usReady) a usReady) := by
  simp only [axisCommand, h, hr, if_true]

theorem axisCommand_enable_refused (h : s.st a ≠ usDisabled) : axisCommand true s a 3 = (stWrongState, s) := if_neg h

theorem axisCommand_start (h : s.st a = usReady) (hr : startRefusal s a = none) : axisCommand true s a 4 = (stOk, startAxis true s a) := by
  simp only [axisCommand, h, hr, if_true]

theorem axisCommand_start_refused (h : s.st a ≠ usReady) : axisCommand true s a 4 = (stWrongState, s) := if_neg h

/-- An axis with no engine starts from the set-point that its trajectory stage shows (04 R107). -/
theorem startAxis_remote (h : isLocal a = false) :
    startAxis true s a = sleeveFollows true (setUnit true (startTraj s a) a usActive) a usActive := by
  unfold startAxis
  rw [h]
  rfl

/-- The state of an axis is not the one of the sleeve that follows it. -/
theorem sleeveFollows_st_axis {t : State} {st : Nat} (ha : isAxis a = true) (hk : sleeveOf s a = 0 ∨ isSleeve (sleeveOf s a) = true)
    (hp : t.plan = s.plan) : (sleeveFollows true t a st).st a = t.st a := by
  refine sleeveFollows_st _ _ _ _ _ ?_
  rw [sleeveOf_of_plan hp]
  exact hk.imp_right (ne_sleeve ha)

theorem startTraj_at_rest : ((startTraj s a).axis a).traj.vel = 0 ∧ ((startTraj s a).axis a).traj.acc = 0
    ∧ ((startTraj s a).axis a).follow.engaged = false := by
  simp [startTraj]

end

end Sys2Proof.Machine

namespace Sys2Proof.Proofs
open Sys2Proof.Machine

section
variable {s : State} {a : Nat} {o : Option Origin}

/-- DISABLE takes the axis out of READY or ACTIVE with everything it held (04 R107, 06 R160). -/
theorem unitDisable_leaves (hs : Serving s) (hq : Calm s) (ha : isAxis a = true) (hn : NoCluster s a)
    (hk : sleeveOf s a = 0 ∨ isSleeve (sleeveOf s a) = true) (h : s.st a = usReady ∨ s.st a = usActive) :
    Completes (.unitDisable a o) s fun t => t.st a = usDisabled ∧ (t.axis a).traj.queue = []
      ∧ (s.st a = usActive → (t.axis a).traj.run = none) ∧ (t.axis a).latch.fifo = [] ∧ (t.axis a).compare.queue = [] ∧ Apart s t := by
  have hw : Within s (sleeveFollows true (axisTo true s a usDisabled) a usDisabled) := (Within.axisTo ..).trans (.sleeveFollows ..)
  obtain ⟨hst, hqueue, hrun, hfifo, hcmp⟩ := axisTo_off s a usDisabled hn (by decide) (by decide)
  have hax : (answerSt (sleeveFollows true (axisTo true s a usDisabled) a usDisabled) o stOk).axis a = (axisTo true s a usDisabled).axis a :=
    (answerSt_axis ..).trans (axis_of_axes (sleeveFollows_axes ..) a)
  refine ⟨_, axisActs_next hs hq ha rfl rfl (axisCommand_disable h) hw, ?_, ?_, ?_, ?_, ?_, (hw.trans (.answerSt ..)).apart⟩
  · rw [answerSt_st, sleeveFollows_st_axis ha hk (Within.axisTo ..).plan, hst]
  all_goals rw [hax]; assumption

/-- ENABLE takes the axis from DISABLED to READY and leaves every axis's record as it was. -/
theorem unitEnable_readies (hs : Serving s) (hq : Calm s) (ha : isAxis a = true) (hn : NoCluster s a)
    (hk : sleeveOf s a = 0 ∨ isSleeve (sleeveOf s a) = true) (h : s.st a = usDisabled) (hr : enableRefusal s a = none) :
    Completes (.unitEnable a o) s fun t => t.st a = usReady ∧ t.axes = s.axes := by
  have hw : Within s (sleeveFollows true (setUnit true s a usReady) a usReady) := (Within.setUnit ..).trans (.sleeveFollows ..)
  refine ⟨_, axisActs_next hs hq ha rfl rfl (axisCommand_enable h hr) hw, ?_, ?_⟩
  · rw [answerSt_st, sleeveFollows_st_axis ha hk (Within.setUnit ..).plan, setUnit_st _ _ _ _ hn]
  · rw [answerSt_axes, sleeveFollows_axes, setUnit_axes _ _ _ _ hn]

/-- START of an axis that no cell's engine moves: ACTIVE, at rest, with no master engaged (04 R107; 05 Table 5-6). -/
theorem unitStart_starts (hs : Serving s) (hq : Calm s) (ha : isAxis a = true) (hn : NoCluster s a)
    (hk : sleeveOf s a = 0 ∨ isSleeve (sleeveOf s a) = true) (h : s.st a = usReady) (hr : startRefusal s a = none) (hl : isLocal a = false) :
    Completes (.unitStart a o) s fun t => t.st a = usActive ∧ (t.axis a).traj.vel = 0 ∧ (t.axis a).traj.acc = 0
      ∧ (t.axis a).follow.engaged = false := by
  have hw1 : Within s (setUnit true (startTraj s a) a usActive) := (Within.startTraj ..).trans (.setUnit ..)
  have hn1 : NoCluster (startTraj s a) a := hn.of_plan (Within.startTraj ..).plan
  have hc := axisCommand_start h hr
  rw [startAxis_remote hl] at hc
  refine ⟨_, axisActs_next hs hq ha rfl rfl hc (hw1.trans (.sleeveFollows ..)), ?_, ?_⟩
  · rw [answerSt_st, sleeveFollows_st_axis ha hk hw1.plan, setUnit_st _ _ _ _ hn1]
  · rw [answerSt_axis, axis_of_axes (sleeveFollows_axes ..) a, setUnit_axis _ _ _ _ _ hn1]
    exact startTraj_at_rest

end

/-- Settles O6: each UnitCommand where it names a transition of the axis, and its refusal where it names none. -/
theorem axisCommands : Obligations.AxisCommands := by
  intro s a o hs hq ha hn hk
  exact ⟨fun h => axisActs_next hs hq ha rfl rfl (axisCommand_stop h) (.setAxis ..),
    fun h => axisActs_next hs hq ha rfl rfl (axisCommand_stop_refused h) (.refl s),
    unitDisable_leaves hs hq ha hn hk,
    unitEnable_readies hs hq ha hn hk,
    unitStart_starts hs hq ha hn hk,
    fun h => axisActs_next hs hq ha rfl rfl (axisCommand_enable_refused h) (.refl s),
    fun h => axisActs_next hs hq ha rfl rfl (axisCommand_start_refused h) (.refl s)⟩

end Sys2Proof.Proofs
end

section
/-! SUPPORT. Two statements about the comb that states outside the plan's rules break (01 R18, R33): a state for each, and what the model makes of it. -/

namespace Sys2Proof.Proofs
open Sys2Proof.Machine

/-- A number of the dictionary after a command. -/
def numberAfter (i : Instr) (s : State) (u k : Nat) : Option Nat :=
  match exec i s with
  | .next t => some (t.n u k)
  | _ => none

theorem numberAfter_of_next {i : Instr} {s t : State} (h : exec i s = .next t) (u k : Nat) : numberAfter i s u k = some (t.n u k) := by
  unfold numberAfter
  rw [h]

/-- A device in service (17 R388), its dictionary at its defaults. -/
def deviceUp : State := { State.reset with rst := { State.reset.rst with phase := .running, nRstLow := false } }

theorem deviceUp_of {s : State} (hslots : s.slots = deviceUp.slots) (hrst : s.rst = deviceUp.rst) : Serving s ∧ Calm s := by
  refine ⟨?_, fun i => ?_, ?_, ?_⟩
  · unfold Serving; rw [hrst]; exact ⟨rfl, rfl⟩
  · unfold State.slot; rw [hslots]; rfl
  · rw [hrst]; rfl
  · rw [hrst]; rfl

/-! ### A self-test that ends while its cell drains (01 R33; 17 R384) -/

/-- Cell 3 under self-test has a role in the plan and drains; reserve cell 5 is READY. The plan has a cluster whose number is the cell's, with
cell 5 and cell 6, which is OFF, as its members. -/
def faceOnCell : State :=
  (((({ deviceUp with
    plan := some { quadrants := [0], cells := [], sleeves := [], clusters := [⟨3, 0, [.device 5, .device 6], [], 0⟩], kernels := [], sdDividers := [],
                   signature := 0 } }).setN 3 0x030000 usDisabled).setN 5 0x030000 usReady).setN 3 0x101200 1).setCell 3
    { selfTest := true, planned := { role := .netGroup } }

theorem faceOnCell_noCluster : NoCluster faceOnCell 3 := by
  have hplan : planClusters faceOnCell = [⟨3, 0, [.device 5, .device 6], [], 0⟩] := by
    unfold planClusters faceOnCell
    rw [setCell_plan, setN_eq, setN_eq, setN_eq, setV_plan, setV_plan, setV_plan]
    rfl
  intro c hc
  rw [hplan, List.mem_singleton] at hc
  subst hc
  decide

theorem faceOnCell_cell : faceOnCell.cell 3 = { selfTest := true, planned := { role := .netGroup } } := setCell_read_self ..

/-- The drain hands the role to cell 5, the cluster follows its members, and with the cluster's state goes that of cell 3. -/
theorem faceOnCell_disables : numberAfter (.selfTestDone 3 true) faceOnCell 3 0x030000 = some usDisabled := by decide +kernel

/-- Refutes O7: NoCluster keeps the tested cell from being a member, but not a cluster of the plan from bearing the cell's number, and such a
face takes the cell out of ACTIVE when the drain gives its role to a member. -/
theorem not_selfTests : ¬ Obligations.SelfTests := by
  intro h
  obtain ⟨hs, hq⟩ : Serving faceOnCell ∧ Calm faceOnCell := deviceUp_of rfl rfl
  obtain ⟨-, htested⟩ := h faceOnCell 3 hs hq rfl faceOnCell_noCluster rfl
  obtain ⟨-, hadmits, -⟩ := htested (by rw [faceOnCell_cell]) (by decide +kernel)
  obtain ⟨t, hnext, hactive, -⟩ := hadmits (by rw [faceOnCell_cell]; decide)
  have hdisabled := (numberAfter_of_next hnext 3 0x030000).symm.trans faceOnCell_disables
  rw [show t.n 3 0x030000 = usActive from hactive] at hdisabled
  exact absurd hdisabled (by decide)

/-! ### A deadline of a cell that is listed twice (01 R18, R20) -/

/-- Cell 3 is listed twice, first with a role of no units, then serving axis 0x220, whose UnitCommand has acted in the beat and has written
LateRun of the cell. -/
def listedTwice : State := { deviceUp with
  beat := { deviceUp.beat with running := true }
  cells := [(3, { work := { role := .netGroup } }), (3, { work := { role := .netGroup, units := [0x220] } })]
  writes := [{ obj := 0x301, w := { unit := 0x220, data := [] }, done := some stOk,
               undo := some { left := usOff, dict := [(keyOf 3 0x032300, .num 1, .num 0)], before := {}, after := {}, said := [] } }] }

/-- Taking the command back puts LateRun at 1, and the deadline counts from there. -/
theorem listedTwice_counts : numberAfter (.deadline 3) listedTwice 3 0x032300 = some 2 := by decide +kernel

theorem listedTwice_lateRun : listedTwice.n 3 0x032300 = 0 := by decide +kernel

/-- Refutes O5: the cell that is looked up serves no unit, but the queued command of a unit that a second entry of the cell serves is taken back
at its deadline, with what it has written of LateRun. -/
theorem not_beats : ¬ Obligations.Beats := by
  intro h
  obtain ⟨hs, hq⟩ : Serving listedTwice ∧ Calm listedTwice := deviceUp_of rfl rfl
  obtain ⟨-, -, hgate⟩ := h listedTwice hs hq
  obtain ⟨-, -, hdeadline⟩ := hgate 3 .netGroup 0 rfl rfl (by decide) rfl rfl rfl rfl rfl rfl
  obtain ⟨t, hnext, -, -, hrun, -⟩ := hdeadline rfl (by decide +kernel) (by decide +kernel) (by decide +kernel)
  have hcounted := (numberAfter_of_next hnext 3 0x032300).symm.trans listedTwice_counts
  rw [hrun, listedTwice_lateRun] at hcounted
  exact absurd hcounted (by decide)

end Sys2Proof.Proofs
end

section
/-! SUPPORT. The weave's choice of cells (01 R408; 12 R286, R289, R290): what readying a reserve cell does, and the commands that ask for it. -/

namespace Sys2Proof.Machine

theorem wf_cell {c : Nat} (h : isCell c = true) : wfCell c = true := h

/-! ### Readying a reserve cell -/

/-- The choice of a reserve cell reads the dictionary alone. -/
theorem chooseCell_of_dict {s t : State} (h : t.dict = s.dict) (c : Nat) : chooseCell t c = chooseCell s c := by
  have hst : ∀ u, t.st u = s.st u := fun u => n_of_val (val_of_dict h)
  have hd : ∀ u, draining t u = draining s u := fun u => by unfold draining; rw [n_of_val (val_of_dict h)]
  unfold chooseCell
  simp only [hst, hd]

/-- A rehousing that finds a reserve cell, with fewer than four being readied, takes it. -/
theorem startReadying_takes {s : State} {r : Rehouse} {t : Nat} (ha : activeRehousings s < 4) (hc : chooseCell s r.failed = some t) :
    startReadying s r = setUnit true { s with rehousings := s.rehousings ++ [{ r with target := some t }] } t usActive := by
  unfold startReadying
  rw [if_neg (by omega), hc]

theorem activeRehousings_erase_le (s : State) (r : Rehouse) : activeRehousings { s with rehousings := s.rehousings.erase r } ≤ activeRehousings s :=
  ((List.erase_sublist ..).filter _).length_le

theorem Calm.setRehousings {s : State} (h : Calm s) (l : List Rehouse) : Calm { s with rehousings := l } := h.of_eq rfl rfl

/-- A reserve cell in no cluster is ACTIVE once it is taken, with the rehousings as noted. -/
theorem reserveTaken {s : State} (h : Calm s) (l : List Rehouse) {t : Nat} (hn : NoCluster s t) :
    Calm (setUnit true { s with rehousings := l } t usActive) ∧ (setUnit true { s with rehousings := l } t usActive).pending = s.pending
      ∧ (setUnit true { s with rehousings := l } t usActive).st t = usActive ∧ (setUnit true { s with rehousings := l } t usActive).rehousings = l
      ∧ ∀ c, (setUnit true { s with rehousings := l } t usActive).cell c = s.cell c :=
  have hw := Within.setUnit true { s with rehousings := l } t usActive
  ⟨(h.setRehousings l).within hw, hw.pending, setUnit_st _ _ _ _ (hn.of_plan rfl), hw.rehousings, fun c => cell_congr hw.cells c⟩

/-! ### What the commands come to -/

theorem roleReassign_starts {s : State} {c : Nat} (hp : (s.cell c).planned.role ≠ .none) (hst : s.st c = usFault) :
    roleReassign s c = startReadying (s.setCell c { s.cell c with planned := {} }) { kind := .reassign, failed := c, work := (s.cell c).planned } := by
  unfold roleReassign
  rw [if_neg (by simp [hp, hst])]

theorem roleGrant_grants {s : State} {c : Nat} {r : Rehouse} (hr : waitingRole s = some r) (hst : s.st c = usReady) (hd : draining s c = false)
    (ha : activeRehousings s < 4) :
    roleGrant s c = setUnit true { s with rehousings := s.rehousings.map fun q =>
      if q == r then { r with kind := if r.kind = .reassign then .reassign else .grant, target := some c } else q } c usActive := by
  unfold roleGrant
  rw [hr]
  dsimp only
  rw [if_neg (by simp [hst, hd, ha])]

theorem queuedStart_starts {s : State} {r : Rehouse} (hr : s.rehousings.find? (fun r => r.target.isNone && !r.noCell) = some r)
    (ha : activeRehousings s < 4) : queuedStart s = startReadying { s with rehousings := s.rehousings.erase r } r := by
  unfold queuedStart
  rw [hr]
  exact if_neg (by omega)

/-- The switch of a readied rehousing waits for the beat after (12 R286, R292). -/
theorem readyingDone_eq (s : State) (c : Nat) : readyingDone s c = { s with rehousings := s.rehousings.map (fun r =>
    if r.target = some c ∧ r.readied = false then
      { r with readied := true, notBefore := if r.kind = .replacement ∨ r.kind = .drain then beatAfterNext s else s.beat.n + 1 }
    else r) } := by
  unfold readyingDone
  simp only [Bool.not_eq_true']

end Sys2Proof.Machine

namespace Sys2Proof.Proofs
open Sys2Proof.Machine

section
variable {s : State} {c t : Nat}

/-- ROLE_REASSIGN: the planned role of the failed cell goes to the nearest reserve cell. -/
theorem roleReassign_readies (hs : Serving s) (hq : Calm s) (hc : isCell c = true) (hn : ∀ u, NoCluster s u) (ha : activeRehousings s < 4)
    (hst : s.st c = usFault) (hp : (s.cell c).planned.role ≠ .none) (ht : chooseCell s c = some t) :
    Completes (.roleReassign c) s fun u => u.st t = usActive ∧ (u.cell c).planned = {}
      ∧ u.rehousings = s.rehousings ++ [{ kind := .reassign, failed := c, work := (s.cell c).planned, target := some t }] := by
  have heq := (roleReassign_starts hp hst).trans (startReadying_takes ha ((chooseCell_of_dict rfl c).trans ht))
  obtain ⟨hcalm, hpending, htaken, hnoted, hcells⟩ := reserveTaken (hq.setCell c { s.cell c with planned := {} })
    (s.rehousings ++ [{ kind := .reassign, failed := c, work := (s.cell c).planned, target := some t }]) ((hn t).of_plan rfl)
  refine ⟨roleReassign s c, runs_next hs (heq ▸ hcalm) (wf_cell hc) rfl (heq ▸ hpending), ?_⟩
  rw [heq]
  exact ⟨htaken, (congrArg CellS.planned (hcells c)).trans (congrArg CellS.planned (setCell_read_self ..)), hnoted⟩

/-- ROLE_GRANT: the READY cell is readied for the waiting role. -/
theorem roleGrant_readies {r : Rehouse} (hs : Serving s) (hq : Calm s) (hc : isCell c = true) (hn : NoCluster s c) (ha : activeRehousings s < 4)
    (hr : waitingRole s = some r) (hst : s.st c = usReady) (hd : draining s c = false) :
    Completes (.roleGrant c) s fun u => u.st c = usActive
      ∧ u.rehousings = s.rehousings.map fun q => if q == r then { r with kind := if r.kind = .reassign then .reassign else .grant, target := some c } else q := by
  have heq := roleGrant_grants hr hst hd ha
  obtain ⟨hcalm, hpending, htaken, hnoted, -⟩ := reserveTaken hq _ hn
  refine ⟨roleGrant s c, runs_next hs (heq ▸ hcalm) (wf_cell hc) rfl (heq ▸ hpending), ?_⟩
  rw [heq]
  exact ⟨htaken, hnoted⟩

/-- REHOUSING_QUEUED_START: the oldest rehousing that waits takes the nearest reserve cell. -/
theorem queuedStart_readies {r : Rehouse} (hs : Serving s) (hq : Calm s) (hn : NoCluster s t) (ha : activeRehousings s < 4)
    (hr : s.rehousings.find? (fun r => r.target.isNone && !r.noCell) = some r) (ht : chooseCell s r.failed = some t) :
    Completes .rehousingQueuedStart s fun u => u.st t = usActive ∧ u.rehousings = s.rehousings.erase r ++ [{ r with target := some t }] := by
  have heq := (queuedStart_starts hr ha).trans
    (startReadying_takes ((activeRehousings_erase_le s r).trans_lt ha) ((chooseCell_of_dict rfl _).trans ht))
  obtain ⟨hcalm, hpending, htaken, hnoted, -⟩ := reserveTaken hq (s.rehousings.erase r ++ [{ r with target := some t }]) hn
  refine ⟨queuedStart s, runs_next hs (heq ▸ hcalm) rfl rfl (heq ▸ hpending), ?_⟩
  rw [heq]
  exact ⟨htaken, hnoted⟩

end

/-- Settles O9: three ways to a reserve cell, and the end of its readying. -/
theorem weaveCommands : Obligations.WeaveCommands := by
  intro s c t hs hq hc hn ha
  refine ⟨fun hst hp ht _ => roleReassign_readies hs hq hc hn ha hst hp ht,
    fun r hr hst hd => roleGrant_readies hs hq hc (hn c) ha hr hst hd,
    fun r hr ht _ => queuedStart_readies hs hq (hn t) ha hr ht, ?_⟩
  have hnext : exec (.readyingDone c) s = .next (readyingDone s c) := runs_next hs (hq.setRehousings _) (wf_cell hc) rfl rfl
  rw [hnext, readyingDone_eq]

end Sys2Proof.Proofs
end

section
/-! SUPPORT. The field die and the seam (14 R323 to R328): what its steps leave alone, what a switch and an input come to, and the faults of its unit. -/

namespace Sys2Proof.Machine

/-! ### Steps of the die alone -/

/-- Two states that differ at most in the field die and the dictionary. -/
def DieOnly (s t : State) : Prop := ∃ d f, t = { s with dict := d, field := f }

theorem DieOnly.refl (s : State) : DieOnly s s := ⟨_, _, rfl⟩

theorem DieOnly.trans {s t u : State} (h : DieOnly s t) (g : DieOnly t u) : DieOnly s u := by
  obtain ⟨d, f, rfl⟩ := h
  obtain ⟨d', f', rfl⟩ := g
  exact ⟨d', f', rfl⟩

theorem DieOnly.setV (s : State) (u k : Nat) (v : Val) : DieOnly s (s.setV u k v) := ⟨_, _, rfl⟩
theorem DieOnly.modField (s : State) (f : FieldS → FieldS) : DieOnly s (modField s f) := ⟨_, _, rfl⟩

theorem DieOnly.setSwitch (s : State) (c : Nat) (x : SwitchS) : DieOnly s (setSwitch s c x) := by
  unfold Machine.setSwitch
  split
  · exact ⟨_, _, rfl⟩
  · exact ⟨_, _, rfl⟩

theorem DieOnly.foldl {α : Type} {f : State → α → State} (l : List α) (s : State) (h : ∀ t x, DieOnly t (f t x)) : DieOnly s (l.foldl f s) := by
  induction l generalizing s with
  | nil => exact .refl s
  | cons a r ih => exact (h s a).trans (ih _)

theorem DieOnly.calm {s t : State} (h : DieOnly s t) (hq : Calm s) : Calm t := by
  obtain ⟨d, f, rfl⟩ := h
  exact hq.of_eq rfl rfl

theorem DieOnly.pending {s t : State} (h : DieOnly s t) : t.pending = s.pending := by
  obtain ⟨d, f, rfl⟩ := h
  rfl

/-! ### Switches -/

/-- The die without its switches. -/
def bareDie (f : FieldS) : FieldS := { f with outputs := [], supplies := [] }

theorem setSwitch_dict (s : State) (c : Nat) (x : SwitchS) : (setSwitch s c x).dict = s.dict := by
  unfold setSwitch; split <;> rfl

theorem setSwitch_bareDie (s : State) (c : Nat) (x : SwitchS) : bareDie (setSwitch s c x).field = bareDie s.field := by
  unfold setSwitch; split <;> rfl

theorem setSwitch_switchOf (s : State) {c j : Nat} (x : SwitchS) (hc : 32 ≤ c) (hj : 32 ≤ j) :
    switchOf (setSwitch s c x) j = if c = j then x else switchOf s j := by
  unfold setSwitch switchOf
  by_cases h1 : c < 48 <;> by_cases h2 : j < 48 <;> simp only [h1, h2, if_true, if_false, mapGet_mapPut]
  · congr 1
    exact propext ⟨fun _ => by omega, fun _ => by omega⟩
  · rw [if_neg (by omega)]
  · rw [if_neg (by omega)]
  · congr 1
    exact propext ⟨fun _ => by omega, fun _ => by omega⟩

theorem switchOf_of_field {s t : State} (h : t.field = s.field) (j : Nat) : switchOf t j = switchOf s j := by unfold switchOf; rw [h]

/-- The command that the die has received stands outside its switches. -/
theorem commanded_of_bareDie {s t : State} (h : bareDie t.field = bareDie s.field) (j : Nat) : commanded t j = commanded s j := by
  have hc : t.field.command = s.field.command := (congrArg FieldS.command h : (bareDie t.field).command = _)
  have hs : t.field.supplyCmd = s.field.supplyCmd := (congrArg FieldS.supplyCmd h : (bareDie t.field).supplyCmd = _)
  unfold commanded
  rw [hc, hs]

/-- A switch that is off, with no retry due. -/
def switchedOff (x : SwitchS) : SwitchS := { x with on := false, retry := false }

/-- What a switch's command makes of it: off, held, or on (14 R328, R330). -/
theorem followCommand_cases (s : State) (c : Nat) :
    (commanded s c = false ∧ (followCommand s c = setSwitch s c (switchedOff (switchOf s c))
        ∨ followCommand s c = (setSwitch s c (switchedOff (switchOf s c))).setV fieldUnit (0x0D4000 + c) (.num 0)))
      ∨ (commanded s c = true ∧ (s.n fieldUnit (0x0D4000 + c) ≠ 0 ∨ (switchOf s c).retry = true) ∧ followCommand s c = s)
      ∨ (commanded s c = true ∧ followCommand s c = setSwitch s c { switchOf s c with on := true }) := by
  unfold followCommand
  dsimp only
  cases hc : commanded s c with
  | false =>
    refine .inl ⟨rfl, ?_⟩
    simp only [Bool.not_false, if_true]
    split
    · exact .inr rfl
    · exact .inl rfl
  | true =>
    simp only [Bool.not_true, Bool.false_eq_true, if_false]
    split
    · next h => exact .inr (.inl ⟨trivial, h, rfl⟩)
    · exact .inr (.inr ⟨trivial, rfl⟩)

theorem DieOnly.followCommand (s : State) (c : Nat) : DieOnly s (followCommand s c) := by
  rcases followCommand_cases s c with ⟨-, h | h⟩ | ⟨-, -, h⟩ | ⟨-, h⟩ <;> rw [h]
  · exact .setSwitch ..
  · exact (DieOnly.setSwitch ..).trans (.setV ..)
  · exact .refl s
  · exact .setSwitch ..

theorem followCommand_bareDie (s : State) (c : Nat) : bareDie (followCommand s c).field = bareDie s.field := by
  rcases followCommand_cases s c with ⟨-, h | h⟩ | ⟨-, -, h⟩ | ⟨-, h⟩ <;> rw [h]
  · exact setSwitch_bareDie ..
  · exact (congrArg bareDie (setV_field ..)).trans (setSwitch_bareDie ..)
  · exact setSwitch_bareDie ..

theorem followCommand_switchOf_ne (s : State) {c j : Nat} (hc : 32 ≤ c) (hj : 32 ≤ j) (h : c ≠ j) : switchOf (followCommand s c) j = switchOf s j := by
  rcases followCommand_cases s c with ⟨-, he | he⟩ | ⟨-, -, he⟩ | ⟨-, he⟩ <;> rw [he]
  · rw [setSwitch_switchOf _ _ hc hj, if_neg h]
  · rw [switchOf_of_field (setV_field ..), setSwitch_switchOf _ _ hc hj, if_neg h]
  · rw [setSwitch_switchOf _ _ hc hj, if_neg h]

/-- Following a command moves no ChannelState but the switch's own. -/
theorem followCommand_channel_ne (s : State) {c j : Nat} (hc : c < 52) (hj : j < 52) (h : c ≠ j) :
    (followCommand s c).n fieldUnit (0x0D4000 + j) = s.n fieldUnit (0x0D4000 + j) := by
  have hs : ∀ x, (setSwitch s c x).n fieldUnit (0x0D4000 + j) = s.n fieldUnit (0x0D4000 + j) := fun x => n_of_val (val_of_dict (setSwitch_dict ..))
  rcases followCommand_cases s c with ⟨-, he | he⟩ | ⟨-, -, he⟩ | ⟨-, he⟩ <;> rw [he]
  · exact hs _
  · exact (setV_n_ne _ _ (by intro hk; rw [keyOf_inj (by omega) (by omega)] at hk; omega)).trans (hs _)
  · exact hs _

/-- A switch that is not commanded goes off, and its retry is cancelled (14 R328, R330). -/
theorem followCommand_off {s : State} {c : Nat} (hc : 32 ≤ c) (h : commanded s c = false) :
    (switchOf (followCommand s c) c).on = false ∧ (switchOf (followCommand s c) c).retry = false := by
  have hoff : switchOf (followCommand s c) c = switchedOff (switchOf s c) := by
    rcases followCommand_cases s c with ⟨-, he | he⟩ | ⟨hon, -⟩ | ⟨hon, -⟩
    · rw [he, setSwitch_switchOf _ _ hc hc, if_pos rfl]
    · rw [he, switchOf_of_field (setV_field ..), setSwitch_switchOf _ _ hc hc, if_pos rfl]
    · rw [h] at hon; cases hon
    · rw [h] at hon; cases hon
  rw [hoff]
  exact ⟨rfl, rfl⟩

/-- A commanded switch that nothing holds goes on (14 R328). -/
theorem followCommand_on {s : State} {c : Nat} (hc : 32 ≤ c) (h : commanded s c = true) (hn : s.n fieldUnit (0x0D4000 + c) = 0)
    (hr : (switchOf s c).retry = false) : (switchOf (followCommand s c) c).on = true := by
  rcases followCommand_cases s c with ⟨hoff, -⟩ | ⟨-, hheld | hheld, -⟩ | ⟨-, he⟩
  · rw [h] at hoff; cases hoff
  · exact absurd hn hheld
  · rw [hr] at hheld; cases hheld
  · rw [he, setSwitch_switchOf _ _ hc hc, if_pos rfl]

/-! ### A list of switches that follow their commands -/

section
variable {l : List Nat} {s : State} {j : Nat}

theorem followCommands_bareDie (l : List Nat) (s : State) : bareDie (l.foldl followCommand s).field = bareDie s.field :=
  foldl_keeps (fun t => bareDie t.field) _ l s followCommand_bareDie

theorem followCommands_switchOf (hl : ∀ c ∈ l, 32 ≤ c) (hj : 32 ≤ j) (h : j ∉ l) : switchOf (l.foldl followCommand s) j = switchOf s j := by
  induction l generalizing s with
  | nil => rfl
  | cons c r ih =>
    obtain ⟨hne, hr⟩ := not_or.mp (mt List.mem_cons.mpr h)
    exact (ih (fun d hd => hl d (List.mem_cons_of_mem _ hd)) hr).trans (followCommand_switchOf_ne s (hl c List.mem_cons_self) hj (Ne.symm hne))

theorem followCommands_off (hn : l.Nodup) (hl : ∀ c ∈ l, 32 ≤ c) (hj : j ∈ l) (h : commanded s j = false) :
    (switchOf (l.foldl followCommand s) j).on = false ∧ (switchOf (l.foldl followCommand s) j).retry = false :=
  foldl_decides (P := fun t => commanded t j = false) (Q := fun t => (switchOf t j).on = false ∧ (switchOf t j).retry = false) hn hj
    (fun t c _ _ ht => (commanded_of_bareDie (followCommand_bareDie t c) j).trans ht)
    (fun _ ht => followCommand_off (hl j hj) ht)
    (fun t c hc hne ht => by rw [followCommand_switchOf_ne t (hl c hc) (hl j hj) hne]; exact ht) h

theorem followCommands_on (hn : l.Nodup) (hl : ∀ c ∈ l, 32 ≤ c ∧ c < 52) (hj : j ∈ l) (h : commanded s j = true)
    (hs : s.n fieldUnit (0x0D4000 + j) = 0) (hr : (switchOf s j).retry = false) : (switchOf (l.foldl followCommand s) j).on = true :=
  foldl_decides (P := fun t => commanded t j = true ∧ t.n fieldUnit (0x0D4000 + j) = 0 ∧ (switchOf t j).retry = false)
    (Q := fun t => (switchOf t j).on = true) hn hj
    (fun t c hc hne ⟨hcmd, hn, hr⟩ => ⟨(commanded_of_bareDie (followCommand_bareDie t c) j).trans hcmd,
      (followCommand_channel_ne t (hl c hc).2 (hl j hj).2 hne).trans hn,
      by rw [followCommand_switchOf_ne t (hl c hc).1 (hl j hj).1 hne]; exact hr⟩)
    (fun _ ⟨hcmd, hn, hr⟩ => followCommand_on (hl j hj).1 hcmd hn hr)
    (fun t c hc hne ht => by rw [followCommand_switchOf_ne t (hl c hc).1 (hl j hj).1 hne]; exact ht) ⟨h, hs, hr⟩

end

theorem switchElems_range : ∀ c ∈ switchElems, 32 ≤ c ∧ c < 52 := by decide
theorem switchElems_nodup : switchElems.Nodup := by decide
theorem output_mem_switchElems {o : Nat} (h : o < 16) : 32 + o ∈ switchElems :=
  List.mem_map.mpr ⟨o, List.mem_range.mpr (by omega), rfl⟩

theorem commanded_output (s : State) {o : Nat} (h : o < 16) : commanded s (32 + o) = bitOf s.field.command o := by
  unfold commanded
  rw [if_pos (by omega), Nat.add_sub_cancel_left]

/-! ### The seam-loss state (R324) -/

/-- One output entering the seam-loss state. -/
def looseOff (hold : Nat) (t : State) (o : Nat) : State :=
  if bitOf hold o then t else setSwitch t (32 + o) (switchedOff (switchOf t (32 + o)))

theorem seamLossState_eq (s : State) : seamLossState s =
    (List.range 16).foldl (looseOff (s.n fieldUnit 0x0D2300)) (modField s fun f => { f with seamLost := true }) := rfl

theorem DieOnly.looseOff (hold : Nat) (t : State) (o : Nat) : DieOnly t (looseOff hold t o) := by
  unfold Machine.looseOff
  split
  · exact .refl t
  · exact .setSwitch ..

theorem DieOnly.seamLossState (s : State) : DieOnly s (seamLossState s) := (DieOnly.modField ..).trans (.foldl _ _ fun _ _ => .looseOff ..)

theorem looseOff_dict (hold : Nat) (t : State) (o : Nat) : (looseOff hold t o).dict = t.dict := by
  unfold looseOff
  split
  · rfl
  · exact setSwitch_dict ..

theorem looseOff_bareDie (hold : Nat) (t : State) (o : Nat) : bareDie (looseOff hold t o).field = bareDie t.field := by
  unfold looseOff
  split
  · rfl
  · exact setSwitch_bareDie ..

theorem seamLossState_dict (s : State) : (seamLossState s).dict = s.dict :=
  (foldl_keeps State.dict _ _ _ (looseOff_dict _)).trans rfl

theorem seamLossState_bareDie (s : State) : bareDie (seamLossState s).field = { bareDie s.field with seamLost := true } :=
  (foldl_keeps (fun t => bareDie t.field) _ _ _ (looseOff_bareDie _)).trans rfl

theorem looseOff_switchOf_ne (hold : Nat) (t : State) {o j : Nat} (h : o ≠ j) : switchOf (looseOff hold t o) (32 + j) = switchOf t (32 + j) := by
  unfold looseOff
  split
  · rfl
  · rw [setSwitch_switchOf _ _ (by omega) (by omega), if_neg (by omega)]

theorem looseOff_switchOf (hold : Nat) (t : State) (o : Nat) :
    switchOf (looseOff hold t o) (32 + o) = if bitOf hold o then switchOf t (32 + o) else switchedOff (switchOf t (32 + o)) := by
  unfold looseOff
  split
  · rfl
  · rw [setSwitch_switchOf _ _ (by omega) (by omega), if_pos rfl]

/-- In the seam-loss state an output with hold stays and every other is off (R324). -/
theorem seamLossState_switchOf (s : State) {o : Nat} (h : o < 16) : switchOf (seamLossState s) (32 + o) =
    if bitOf (s.n fieldUnit 0x0D2300) o then switchOf s (32 + o) else switchedOff (switchOf s (32 + o)) := by
  rw [seamLossState_eq]
  exact foldl_decides (P := fun t => switchOf t (32 + o) = switchOf s (32 + o))
    (Q := fun t => switchOf t (32 + o) = if bitOf (s.n fieldUnit 0x0D2300) o then switchOf s (32 + o) else switchedOff (switchOf s (32 + o)))
    List.nodup_range (List.mem_range.mpr h) (fun t x _ hx ht => (looseOff_switchOf_ne _ t hx).trans ht)
    (fun t ht => by rw [looseOff_switchOf, ht]) (fun t x _ hx ht => (looseOff_switchOf_ne _ t hx).trans ht) rfl

/-- What R324 says of the outputs: those without hold go off, those with it stay. -/
def LossOutputs (s t : State) : Prop := ∀ o < 16,
  (bitOf (s.n fieldUnit 0x0D2300) o = false → (switchOf t (32 + o)).on = false)
  ∧ (bitOf (s.n fieldUnit 0x0D2300) o = true → switchOf t (32 + o) = switchOf s (32 + o))

theorem lossOutputs_of {s t : State} (h : ∀ o < 16, switchOf t (32 + o) = switchOf (seamLossState s) (32 + o)) : LossOutputs s t := by
  intro o ho
  rw [h o ho, seamLossState_switchOf s ho]
  constructor <;> intro hb <;> rw [hb]
  · rfl
  · rfl

end Sys2Proof.Machine
end

section
/-! SUPPORT. The commands of the seam and the field die (14 R323 to R328; 01 R27): a frame taken, an input sampled, the faults of the unit, and the
switch masks, each as one lemma. -/

namespace Sys2Proof.Machine

/-! ### A frame at the field die (R323 to R325, R328) -/

theorem takeDown_commands {s : State} (h : s.field.flyDown.2.2 = false) : takeDown s = switchElems.foldl followCommand
    (modField s fun x => { x with command := s.field.flyDown.1, supplyCmd := s.field.flyDown.2.1, seamLost := false }) := by
  unfold takeDown
  simp only [h, Bool.false_eq_true, false_and, if_false]

theorem takeDown_held {s : State} (h : s.field.flyDown.2.2 = true) : takeDown s = (switchElems.filter (48 ≤ ·)).foldl followCommand
    (modField (if s.field.seamLost then s else seamLossState s) fun x => { x with supplyCmd := s.field.flyDown.2.1, seamLost := true }) := by
  unfold takeDown
  cases hl : s.field.seamLost <;> simp [h]

theorem DieOnly.takeDown (s : State) : DieOnly s (takeDown s) := by
  cases h : s.field.flyDown.2.2 with
  | false =>
    rw [takeDown_commands h]
    exact (DieOnly.modField ..).trans (.foldl _ _ .followCommand)
  | true =>
    rw [takeDown_held h]
    refine DieOnly.trans ?_ ((DieOnly.modField ..).trans (.foldl _ _ .followCommand))
    split
    · exact .refl s
    · exact .seamLossState s

/-- A frame of a unit that is not in FAULT commands the switches. -/
theorem takeDown_follows {s : State} (h : s.field.flyDown.2.2 = false) :
    (takeDown s).field.command = s.field.flyDown.1 ∧ (takeDown s).field.supplyCmd = s.field.flyDown.2.1
      ∧ ∀ o < 16, (bitOf s.field.flyDown.1 o = false → (switchOf (takeDown s) (32 + o)).on = false ∧ (switchOf (takeDown s) (32 + o)).retry = false)
        ∧ (bitOf s.field.flyDown.1 o = true → s.n fieldUnit (0x0D4020 + o) = 0 → (switchOf s (32 + o)).retry = false →
            (switchOf (takeDown s) (32 + o)).on = true) := by
  rw [takeDown_commands h]
  have hbare := followCommands_bareDie switchElems
    (modField s fun x => { x with command := s.field.flyDown.1, supplyCmd := s.field.flyDown.2.1, seamLost := false })
  refine ⟨(congrArg FieldS.command hbare : (bareDie _).command = _), (congrArg FieldS.supplyCmd hbare : (bareDie _).supplyCmd = _),
    fun o ho => ⟨fun hb => ?_, fun hb hn hr => ?_⟩⟩
  · exact followCommands_off switchElems_nodup (fun c hc => (switchElems_range c hc).1) (output_mem_switchElems ho) ((commanded_output _ ho).trans hb)
  · exact followCommands_on switchElems_nodup switchElems_range (output_mem_switchElems ho) ((commanded_output _ ho).trans hb)
      (by rw [← Nat.add_assoc]; exact hn) hr

/-- A frame of a unit in FAULT commands the supplies only, and holds the outputs in the seam-loss state (R325). -/
theorem takeDown_holds {s : State} (h : s.field.flyDown.2.2 = true) :
    (takeDown s).field.seamLost = true ∧ (takeDown s).field.command = s.field.command ∧ (takeDown s).field.supplyCmd = s.field.flyDown.2.1
      ∧ (s.field.seamLost = false → LossOutputs s (takeDown s)) := by
  rw [takeDown_held h]
  have hbare := followCommands_bareDie (switchElems.filter (48 ≤ ·))
    (modField (if s.field.seamLost then s else seamLossState s) fun x => { x with supplyCmd := s.field.flyDown.2.1, seamLost := true })
  have hcommand : (if s.field.seamLost then s else seamLossState s).field.command = s.field.command := by
    split
    · rfl
    · exact (congrArg FieldS.command (seamLossState_bareDie s) : (bareDie _).command = _)
  refine ⟨(congrArg FieldS.seamLost hbare : (bareDie _).seamLost = _), (congrArg FieldS.command hbare : (bareDie _).command = _).trans hcommand,
    (congrArg FieldS.supplyCmd hbare : (bareDie _).supplyCmd = _), fun hl => lossOutputs_of fun o ho => ?_⟩
  rw [followCommands_switchOf (by decide) (by omega) (by simp; omega), hl]
  exact switchOf_of_field rfl _

/-! ### Faults of the unit -/

theorem kindOf_fieldUnit : kindOf fieldUnit = some .field := rfl

set_option maxRecDepth 100000 in
theorem seamCrc_rows : ∀ r ∈ allRows, r.stick = true → r.obj = 0x0D0300 / 256 → 0x0D0300 % 256 ≤ r.elHi := by decide +kernel

set_option maxRecDepth 100000 in
theorem seamCrc_type : ((rowOf .field (0x0D0300 / 256) (0x0D0300 % 256)).map fun r => r.ty.maxNat).getD (2 ^ 32 - 1) = 2 ^ 32 - 1 := by decide +kernel

/-- A corrected fault of the field die that is not shadowed is recorded and counted (12 R274). -/
theorem hit_field_corrected {s : State} {b n : Nat} (hc : classOf .field b = some (.corrected n)) (hn : n ≠ 0) (h : shadowed s fieldUnit b = false) :
    hit s fieldUnit b = bump (recordHit s fieldUnit b .field (.corrected n)).1 fieldUnit n := by
  have hcounts := recordHit_counts (k := .field) (c := .corrected n) h
  unfold hit
  rw [kindOf_fieldUnit]
  simp only [hc]
  generalize recordHit s fieldUnit b .field (.corrected n) = r at hcounts
  obtain ⟨s1, _ | _⟩ := r
  · cases hcounts
  · exact if_neg hn

/-- The loss of the seam that is not shadowed takes the unit to FAULT; nothing is switched by it on the near side. -/
theorem hit_seamLoss {s : State} (h : shadowed s fieldUnit 0 = false) (h1 : s.st fieldUnit ≠ usOff) (h2 : s.st fieldUnit ≠ usRetired) :
    hit s fieldUnit 0 = setUnit true (recordHit s fieldUnit 0 .field .contained).1 fieldUnit usFault := by
  have hcounts := recordHit_counts (k := .field) (c := .contained) h
  have hst : (recordHit s fieldUnit 0 .field .contained).1.st fieldUnit = s.st fieldUnit :=
    n_of_val (recordHit_val (by omega) (by omega) (by omega) (by omega))
  have hclass : classOf .field 0 = some .contained := rfl
  unfold hit
  rw [kindOf_fieldUnit]
  simp only [hclass]
  generalize recordHit s fieldUnit 0 .field .contained = r at hcounts hst
  obtain ⟨s1, _ | _⟩ := r
  · cases hcounts
  · exact if_neg (by rw [hst]; exact not_or.mpr ⟨h1, h2⟩)

/-- A fault of an input's channel is recorded on the channel, and touches neither the die nor the unit's settings. -/
theorem hit_input {s : State} {i : Nat} (hi : i < 32) : Within s (hit s fieldUnit (4 + i))
    ∧ ∀ y, 0x0D0000 ≤ y → y < 0x0D4000 → (hit s fieldUnit (4 + i)).val fieldUnit y = s.val fieldUnit y := by
  have hclass : classOf .field (4 + i) = some (.channel i) := by
    simp only [classOf]
    rw [if_neg (by omega), if_neg (by omega), if_pos (by omega), Nat.add_sub_cancel_left]
  have hrec := Within.recordHit s fieldUnit (4 + i) .field (.channel i)
  have hval : ∀ y, 0x0D0000 ≤ y → y < 0x0D4000 → (recordHit s fieldUnit (4 + i) .field (.channel i)).1.val fieldUnit y = s.val fieldUnit y :=
    fun y h1 h2 => recordHit_val (by omega) (by omega) (by omega) (by omega)
  unfold hit
  rw [kindOf_fieldUnit]
  simp only [hclass]
  generalize recordHit s fieldUnit (4 + i) .field (.channel i) = r at hrec hval
  obtain ⟨s1, _ | _⟩ := r
  · exact ⟨hrec, hval⟩
  · simp only [hitChannel, if_pos hi]
    exact ⟨hrec.trans (.setV ..), fun y h1 h2 =>
      (setV_read_ne _ _ (by intro hk; rw [keyOf_inj (by omega) (by omega)] at hk; omega)).trans (hval y h1 h2)⟩

/-! ### Inputs (R326, R327) -/

/-- An input that is not watched for an open wire takes the level that has stood for its filter time. -/
def filtered (s : State) (levels i : Nat) : Bool :=
  let x := mapGet {} s.field.inputs i
  let count := if bitOf levels i = x.level then 0 else x.count + 1
  if s.n fieldUnit (0x0D1100 + i) < count then bitOf levels i else x.level

/-- What a sample records of an input's channel touches neither the die nor the unit's settings. -/
theorem inputChannel_keeps (s : State) {i : Nat} (hi : i < 32) (opens closes : Bool) :
    let t := if opens then hit s fieldUnit (4 + i) else if closes then sourceInactive s fieldUnit (4 + i) else s
    Within s t ∧ ∀ y, 0x0D0000 ≤ y → y < 0x0D4000 → t.val fieldUnit y = s.val fieldUnit y := by
  cases opens
  · cases closes
    · exact ⟨.refl s, fun _ _ _ => rfl⟩
    · exact ⟨.putFaultBit .., fun y h1 h2 => putFaultBit_val _ (by omega) (by omega) (by omega) (.inr (by omega))⟩
  · exact hit_input hi

/-- One sample of an input: its own entry changes, and a fault of its channel may be recorded. -/
theorem inputSample_puts (s : State) (levels low : Nat) {i : Nat} (hi : i < 32) : ∃ y : FieldIn,
    (Within (modField s fun d => { d with inputs := mapPut {} d.inputs i y }) (inputSample s levels low i)
      ∧ ∀ k, 0x0D0000 ≤ k → k < 0x0D4000 → (inputSample s levels low i).val fieldUnit k = s.val fieldUnit k)
      ∧ (bitOf (s.n fieldUnit 0x0D1300) i = false → (mapGet {} s.field.inputs i).wireOpen = false → y.level = filtered s levels i) := by
  refine ⟨_, inputChannel_keeps (modField s fun d => { d with inputs := mapPut {} d.inputs i _ }) hi _ _, fun hwatch hwire => ?_⟩
  simp [hwatch, hwire, filtered]

/-- Every input is sampled once, and no other input's sample moves it (R326). -/
theorem fieldSample_level {s : State} (levels low : Nat) (hp : s.field.powered = true) {i : Nat} (hi : i < 32)
    (hwatch : bitOf (s.n fieldUnit 0x0D1300) i = false) (hwire : (mapGet {} s.field.inputs i).wireOpen = false) :
    (mapGet {} (fieldSample s levels low).field.inputs i).level = filtered s levels i := by
  have hentry : ∀ (t : State) (j : Nat), j < 32 → ∃ y : FieldIn, (inputSample t levels low j).field.inputs = mapPut {} t.field.inputs j y
      ∧ (bitOf (t.n fieldUnit 0x0D1300) j = false → (mapGet {} t.field.inputs j).wireOpen = false → y.level = filtered t levels j) := by
    intro t j hj
    obtain ⟨y, ⟨hw, -⟩, hy⟩ := inputSample_puts t levels low hj
    exact ⟨y, congrArg FieldS.inputs hw.field, hy⟩
  have hother : ∀ (t : State) (j : Nat), j < 32 → j ≠ i → mapGet {} (inputSample t levels low j).field.inputs i = mapGet {} t.field.inputs i := by
    intro t j hj hne
    obtain ⟨y, hy, -⟩ := hentry t j hj
    rw [hy, mapGet_mapPut_ne _ _ _ hne]
  have hsetting : ∀ (t : State) (j : Nat), j < 32 → ∀ k, 0x0D0000 ≤ k → k < 0x0D4000 →
      (inputSample t levels low j).n fieldUnit k = t.n fieldUnit k := by
    intro t j hj k h1 h2
    obtain ⟨y, ⟨-, hv⟩, -⟩ := inputSample_puts t levels low hj
    exact n_of_val (hv k h1 h2)
  have hrun : fieldSample s levels low = (List.range 32).foldl (fun t i => inputSample t levels low i) s := by
    unfold fieldSample
    rw [hp]
    rfl
  rw [hrun]
  refine foldl_decides (f := fun t i => inputSample t levels low i)
    (P := fun t => mapGet {} t.field.inputs i = mapGet {} s.field.inputs i ∧ t.n fieldUnit 0x0D1300 = s.n fieldUnit 0x0D1300
      ∧ t.n fieldUnit (0x0D1100 + i) = s.n fieldUnit (0x0D1100 + i))
    (Q := fun t => (mapGet {} t.field.inputs i).level = filtered s levels i)
    List.nodup_range (List.mem_range.mpr hi) (fun t j hj hne ⟨hin, hw, hf⟩ => ?_) (fun t ⟨hin, hw, hf⟩ => ?_) (fun t j hj hne ht => ?_) ⟨rfl, rfl, rfl⟩
  · have hj := List.mem_range.mp hj
    exact ⟨(hother t j hj hne).trans hin, (hsetting t j hj _ (by omega) (by omega)).trans hw, (hsetting t j hj _ (by omega) (by omega)).trans hf⟩
  · obtain ⟨y, hy, hlevel⟩ := hentry t i hi
    rw [hy, mapGet_mapPut_self, hlevel (by rw [hw]; exact hwatch) (by rw [hin]; exact hwire)]
    unfold filtered
    rw [hin, hf]
  · rw [hother t j (List.mem_range.mp hj) hne]
    exact ht

/-- Sampling leaves a calm state calm, and the queue as it is. -/
theorem fieldSample_calm {s : State} (levels low : Nat) (hq : Calm s) : Calm (fieldSample s levels low) ∧ (fieldSample s levels low).pending = s.pending := by
  unfold fieldSample
  split
  · exact ⟨hq, rfl⟩
  · refine List.foldlRecOn (motive := fun t => Calm t ∧ t.pending = s.pending) _ _ ⟨hq, rfl⟩ fun t ⟨hc, hpending⟩ i hi => ?_
    obtain ⟨y, ⟨hw, -⟩, -⟩ := inputSample_puts t levels low (List.mem_range.mp hi)
    exact ⟨((DieOnly.modField ..).calm hc).within hw, hw.pending.trans hpending⟩

/-! ### The switch masks (R328) -/

set_option maxRecDepth 100000 in
theorem maskRows_plain : ∀ o ∈ [0xD21, 0xD22], (objRowOf .field o).all (fun r => !r.jour && !r.stick) = true := by decide +kernel

theorem outputMask_bit (s : State) (set : Bool) (mask : Nat) {o : Nat} (h : o < 16) :
    bitOf ((outputMask s set mask).n fieldUnit 0x0D2000) o = if bitOf mask o then set else bitOf (s.n fieldUnit 0x0D2000) o := by
  unfold outputMask
  rw [setN_eq, setV_n_self, Int.toNat_natCast, bitOf_bitsToNat]
  simp [h]

/-- A write that makes no transaction, on a unit that no cell serves, takes effect at once. -/
theorem takeWrite_at_once {s : State} {u o : Nat} {row : ObjRow} {w : Write} (ht : journalTxn s u o row w none = none)
    (hr : ownRefusal s u o row w = none) (hu : cellServed u = false) (h1 : o ≠ 0xC0A) (h2 : o ≠ 0xC0B) (h3 : o ≠ 0x301) :
    takeWrite s u o row w = writeEffect s u o row w := by
  simp [takeWrite, ht, hr, lowerCode, h1, h2, h3, hu]

/-- A write of OutputSet or OutputClear takes effect at once and is answered. -/
theorem directWrite_mask {s : State} {o : Nat} {w : Write} {row : ObjRow} {t : State} (hs : Serving s) (hp : Passes s o w row) (hu : w.unit = fieldUnit)
    (ho : o = 0xD21 ∨ o = 0xD22) (hw : otherWrite s fieldUnit o row w = some (withOk t)) : directWrite s o w = answerSt t w.origin stOk := by
  have hnum : o < 0xC000 ∧ o ≠ 0x144 ∧ o ≠ 0x301 ∧ o ≠ 0xB00 ∧ o ≠ 0xB02 ∧ o ≠ 0xC0A ∧ o ≠ 0xC0B ∧ o ≠ 0x1011 ∧ o ≠ 0x1013 := by omega
  obtain ⟨hlow, h144, h301, hb00, hb02, hc0a, hc0b, h1011, h1013⟩ := hnum
  obtain ⟨k, hk, hobj⟩ := hp.names
  have hown := hp.own
  rw [hu] at hk hobj hown
  obtain rfl : k = .field := Option.some.inj (hk.symm.trans kindOf_fieldUnit)
  have hrow : objRowOf .field o = some row := by
    unfold objAt at hobj
    rw [if_neg (by omega)] at hobj
    exact hobj
  have hplain := maskRows_plain o (List.mem_pair.mpr ho)
  rw [hrow] at hplain
  obtain ⟨hjour, hstick⟩ : row.jour = false ∧ row.stick = false := by simpa using hplain
  have hcommon : commonWrite s fieldUnit o row w = none := by simp [commonWrite, hstick, hb00, hb02, h1011, h1013]
  have htxn : journalTxn s fieldUnit o row w none = none := by simp [journalTxn, hjour, fieldUnit]
  have heffect : writeEffect s fieldUnit o row w = withOk t := by
    unfold writeEffect
    simp only [hcommon, Option.orElse_none]
    exact congrArg (fun x => Option.getD x _) hw
  rw [directWrite_served hs hp (.inl (by rw [hu]; rfl)), hu]
  unfold writeServe
  rw [takeWrite_at_once htxn hown rfl hc0a hc0b h301, heffect, if_neg h144]
  rfl

/-! ### The near side of the seam -/

theorem b_of_val {s t : State} {x y : Nat} (h : t.val x y = s.val x y) : t.b x y = s.b x y := congrArg (fun v => valInt v != 0) h

theorem setB_b_self (s : State) (u k : Nat) (b : Bool) : (s.setB u k b).b u k = b := by
  unfold State.b
  rw [setB_eq, setV_i_self]
  cases b <;> rfl

/-- What a valid frame brings to the comb die, before the source of the seam's loss is inactive. -/
def levelsTaken (s : State) : State :=
  ((modField s fun x => { x with rxLevels := s.field.flyUp.1, rxOpen := s.field.flyUp.2.1 }).setB fieldUnit 0x0D0200 true).setN fieldUnit 0x0D2500
    s.field.flyUp.2.2

theorem DieOnly.levelsTaken (s : State) : DieOnly s (levelsTaken s) := ((DieOnly.modField ..).trans (.setV ..)).trans (.setV ..)

theorem levelsTaken_outputs (s : State) : (levelsTaken s).n fieldUnit 0x0D2500 = s.field.flyUp.2.2 := by
  unfold levelsTaken
  rw [setN_eq, setV_n_self, Int.toNat_natCast]

theorem levelsTaken_link (s : State) : (levelsTaken s).b fieldUnit 0x0D0200 = true :=
  (b_of_val (setV_read_ne _ _ (by decide))).trans (setB_b_self ..)

/-- The near side of a lost seam, before the unit's fault. -/
def linkLost (s : State) : State := (modField s fun f => { f with restoreDue := s.st fieldUnit != usOff }).setB fieldUnit 0x0D0200 false

theorem linkLost_st (s : State) : (linkLost s).st fieldUnit = s.st fieldUnit := n_of_val (setV_read_ne _ _ (by decide))

theorem linkLost_link (s : State) : (linkLost s).b fieldUnit 0x0D0200 = false := setB_b_self ..

/-- The unit's change of state with a change of the die. -/
theorem fieldUnit_moved {s t : State} (h : DieOnly s t) (hq : Calm s) (hn : NoCluster s fieldUnit) (st : Nat) :
    Calm (setUnit true t fieldUnit st) ∧ (setUnit true t fieldUnit st).pending = s.pending ∧ (setUnit true t fieldUnit st).st fieldUnit = st
      ∧ (setUnit true t fieldUnit st).field = t.field := by
  have hw := Within.setUnit true t fieldUnit st
  have hplan : t.plan = s.plan := by
    obtain ⟨d, f, rfl⟩ := h
    rfl
  exact ⟨(h.calm hq).within hw, hw.pending.trans h.pending, setUnit_st _ _ _ _ (hn.of_plan hplan), hw.field⟩

/-! ### The supply of the die (01 R27; R325) -/

theorem fieldGone_off {s : State} (hs : Serving s) (h : s.st fieldUnit ≠ usRetired) : fieldGone s = setUnit true
    (modField s fun f => { frame := f.frame, rxLevels := f.rxLevels, rxOpen := f.rxOpen, restoreDue := f.restoreDue }) fieldUnit usOff := by
  unfold fieldGone
  rw [if_pos (combRuns_of hs)]
  exact if_neg h

theorem fieldUp_wakes {s : State} (hs : Serving s) (hp : s.field.powered = false) (h : s.st fieldUnit = usOff) :
    fieldUp s = setUnit true (modField s fun f => { f with powered := true }) fieldUnit usDisabled := by
  unfold fieldUp
  rw [if_pos (combRuns_of hs)]
  unfold fieldPowerUp
  rw [hp]
  exact if_pos h

end Sys2Proof.Machine
end

section
/-! SUPPORT. The commands of the seam and the field die as whole commands (14 R323 to R328; 01 R27). -/

namespace Sys2Proof.Proofs
open Sys2Proof.Machine

section
variable {s : State}

/-- A frame that arrives has the effect of its direction (R323). -/
theorem seamFrameReceive_next {t : State} {dir valid : Bool} (hs : Serving s) (he : seamReceive s dir valid = t) (hq : Calm t)
    (hp : t.pending = s.pending) : exec (.seamFrameReceive dir valid) s = .next t := by
  subst he
  exact runs_next hs hq rfl rfl hp

theorem seamFrameSend_sends (hs : Serving s) (hp : s.field.powered = true) : exec .seamFrameSend s = .next { s with
    field := { s.field with flyDown := downFrame s, flyUp := upFrame s, frame := (s.field.frame + 1) % 65536 }
    sent := .seam false s.field.frame :: .seam true s.field.frame :: s.sent } := by
  have hsend : seamSend s = { s with
      field := { s.field with flyDown := downFrame s, flyUp := upFrame s, frame := (s.field.frame + 1) % 65536 }
      sent := .seam false s.field.frame :: .seam true s.field.frame :: s.sent } := by
    unfold seamSend
    rw [hp]
    rfl
  show quiet s (whenWf .seamFrameSend s (whenRuns s (seamSend s))) = _
  rw [whenWf_of rfl, whenRuns_of (combRuns_of hs), hsend]
  exact quiet_next rfl

/-- An invalid frame in either direction is counted (R323). -/
theorem seamFrameReceive_invalid (hs : Serving s) (hq : Calm s) (hp : s.field.powered = true) (dir : Bool) (h : shadowed s fieldUnit 1 = false) :
    Completes (.seamFrameReceive dir false) s fun t => Counts s t fieldUnit 0x0D0300 ∧ t.field = s.field := by
  have heffect : seamReceive s dir false = bump (recordHit s fieldUnit 1 .field (.corrected 0x0D0300)).1 fieldUnit 0x0D0300 := by
    unfold seamReceive
    rw [hp]
    exact hit_field_corrected rfl (by decide) h
  have hw : Within s (bump (recordHit s fieldUnit 1 .field (.corrected 0x0D0300)).1 fieldUnit 0x0D0300) := (Within.recordHit ..).trans (.bump ..)
  refine ⟨_, seamFrameReceive_next hs heffect (hq.within hw) hw.pending, fun hlt => ?_, hw.field⟩
  have hkept : (recordHit s fieldUnit 1 .field (.corrected 0x0D0300)).1.n fieldUnit 0x0D0300 = s.n fieldUnit 0x0D0300 :=
    n_of_val (recordHit_val (by omega) (by omega) (by omega) (by omega))
  rw [bump_counts _ _ _ .field (by omega) kindOf_fieldUnit seamCrc_rows (by omega) (by omega) (by rw [seamCrc_type, hkept]; exact hlt), hkept]

/-- A valid frame at the field die is taken (R323). -/
theorem seamFrameReceive_down (hs : Serving s) (hq : Calm s) (hp : s.field.powered = true) :
    exec (.seamFrameReceive true true) s = .next (takeDown s) := by
  refine seamFrameReceive_next hs ?_ ((DieOnly.takeDown s).calm hq) (DieOnly.takeDown s).pending
  unfold seamReceive
  rw [hp]
  rfl

/-- A valid frame at the comb die brings the levels (R323, R326). -/
theorem seamFrameReceive_up (hs : Serving s) (hq : Calm s) (hp : s.field.powered = true) :
    Completes (.seamFrameReceive false true) s fun t => t.field = { s.field with rxLevels := s.field.flyUp.1, rxOpen := s.field.flyUp.2.1 }
      ∧ t.n fieldUnit 0x0D2500 = s.field.flyUp.2.2 ∧ t.b fieldUnit 0x0D0200 = true := by
  have heffect : seamReceive s false true = sourceInactive (levelsTaken s) fieldUnit 0 := by
    unfold seamReceive
    rw [hp]
    rfl
  have hdie : DieOnly s (sourceInactive (levelsTaken s) fieldUnit 0) := (DieOnly.levelsTaken s).trans (.setV ..)
  have hkept : ∀ y, 0x0D0000 ≤ y → y < 2 ^ 24 → (sourceInactive (levelsTaken s) fieldUnit 0).val fieldUnit y = (levelsTaken s).val fieldUnit y :=
    fun y h1 h2 => putFaultBit_val _ (by omega) (by omega) h2 (.inr (by omega))
  refine ⟨_, seamFrameReceive_next hs heffect (hdie.calm hq) hdie.pending, rfl, ?_, ?_⟩
  · exact (n_of_val (hkept _ (by omega) (by omega))).trans (levelsTaken_outputs s)
  · exact (b_of_val (hkept _ (by omega) (by omega))).trans (levelsTaken_link s)

/-- The far side of a lost seam takes its seam-loss state (R324). -/
theorem fieldSeamLoss_loses (hp : s.field.powered = true) :
    Completes .fieldSeamLoss s fun t => t.field.seamLost = true ∧ t.dict = s.dict ∧ LossOutputs s t := by
  have heffect : fieldLoss s = seamLossState s := by
    unfold fieldLoss
    rw [hp]
    rfl
  have hnext : exec .fieldSeamLoss s = .next (seamLossState s) := by
    show quiet s (whenWf .fieldSeamLoss s (fieldLoss s)) = _
    rw [whenWf_of rfl, heffect, quiet_next (DieOnly.seamLossState s).pending]
  exact ⟨_, hnext, (congrArg FieldS.seamLost (seamLossState_bareDie s) : (bareDie _).seamLost = _), seamLossState_dict s,
    lossOutputs_of fun _ _ => rfl⟩

/-- The inputs follow their filters (R326, R327). -/
theorem fieldInputSample_filters (hs : Serving s) (hq : Calm s) (hp : s.field.powered = true) (levels low : Nat) :
    Completes (.fieldInputSample levels low) s fun t => ∀ i < 32, bitOf (s.n fieldUnit 0x0D1300) i = false →
      (mapGet {} s.field.inputs i).wireOpen = false → (mapGet {} t.field.inputs i).level = filtered s levels i := by
  obtain ⟨hcalm, hpending⟩ := fieldSample_calm levels low hq
  exact ⟨_, runs_next hs hcalm rfl rfl hpending, fun i hi hwatch hwire => fieldSample_level levels low hp hi hwatch hwire⟩

/-- Without VFIELD the die is off and its unit OFF (01 R27). -/
theorem vfieldAbsent_off (hs : Serving s) (hq : Calm s) (hn : NoCluster s fieldUnit) (h : s.st fieldUnit ≠ usRetired) :
    Completes .vfieldAbsent s fun t => t.st fieldUnit = usOff ∧ t.field.powered = false ∧ t.field.outputs = [] ∧ t.field.supplies = []
      ∧ t.field.inputs = [] := by
  obtain ⟨hcalm, hpending, hst, hfield⟩ := fieldUnit_moved
    (DieOnly.modField s fun f => { frame := f.frame, rxLevels := f.rxLevels, rxOpen := f.rxOpen, restoreDue := f.restoreDue }) hq hn usOff
  have heffect := fieldGone_off hs h
  have hnext : exec .vfieldAbsent s = .next (fieldGone s) := done_next rfl rfl (heffect ▸ hcalm) (heffect ▸ hpending)
  refine ⟨_, hnext, ?_⟩
  rw [heffect]
  exact ⟨hst, congrArg FieldS.powered hfield, congrArg FieldS.outputs hfield, congrArg FieldS.supplies hfield, congrArg FieldS.inputs hfield⟩

/-- The die comes up with everything off, its unit DISABLED (R325). -/
theorem fieldDiePowerUp_wakes (hs : Serving s) (hq : Calm s) (hn : NoCluster s fieldUnit) (hp : s.field.powered = false) (h : s.st fieldUnit = usOff) :
    Completes .fieldDiePowerUp s fun t => t.st fieldUnit = usDisabled ∧ t.field = { s.field with powered := true } := by
  obtain ⟨hcalm, hpending, hst, hfield⟩ := fieldUnit_moved (DieOnly.modField s fun f => { f with powered := true }) hq hn usDisabled
  have heffect := fieldUp_wakes hs hp h
  have hnext : exec .fieldDiePowerUp s = .next (fieldUp s) := done_next rfl rfl (heffect ▸ hcalm) (heffect ▸ hpending)
  refine ⟨_, hnext, ?_⟩
  rw [heffect]
  exact ⟨hst, hfield⟩

/-- A die without VFIELD takes no part in the seam (R323). -/
theorem seam_dark (hs : Serving s) (hq : Calm s) (hp : s.field.powered = false) :
    exec .seamFrameSend s = .next s ∧ (∀ dir valid, exec (.seamFrameReceive dir valid) s = .next s) ∧ exec .fieldSeamLoss s = .next s := by
  refine ⟨?_, fun dir valid => seamFrameReceive_next hs ?_ hq rfl, ?_⟩
  · show quiet s (whenWf .seamFrameSend s (whenRuns s (seamSend s))) = _
    have hsend : seamSend s = s := if_pos (by rw [hp]; rfl)
    rw [whenWf_of rfl, whenRuns_of (combRuns_of hs), hsend, quiet_next rfl]
  · exact if_pos (by rw [hp]; rfl)
  · show quiet s (whenWf .fieldSeamLoss s (fieldLoss s)) = _
    have hloss : fieldLoss s = s := if_pos (by rw [hp]; rfl)
    rw [whenWf_of rfl, hloss, quiet_next rfl]

/-- The near side of a lost seam puts its unit in FAULT (R324). -/
theorem seamLoss_faults (hs : Serving s) (hq : Calm s) (hn : NoCluster s fieldUnit) (h1 : s.st fieldUnit ≠ usOff) (h2 : s.st fieldUnit ≠ usRetired)
    (h : shadowed s fieldUnit 0 = false) :
    Completes .seamLoss s fun t => t.st fieldUnit = usFault ∧ t.b fieldUnit 0x0D0200 = false ∧ t.field = { s.field with restoreDue := true } := by
  have hdie : DieOnly s (linkLost s) := (DieOnly.modField ..).trans (.setV ..)
  have heffect : seamLoss s = setUnit true (recordHit (linkLost s) fieldUnit 0 .field .contained).1 fieldUnit usFault :=
    hit_seamLoss (s := linkLost s) h (linkLost_st s ▸ h1) (linkLost_st s ▸ h2)
  have hrec := Within.recordHit (linkLost s) fieldUnit 0 .field .contained
  have hw := hrec.trans (.setUnit true _ fieldUnit usFault)
  have hn1 : NoCluster (recordHit (linkLost s) fieldUnit 0 .field .contained).1 fieldUnit := hn.of_plan hrec.plan
  have hnext : exec .seamLoss s = .next (seamLoss s) := runs_next hs (heffect ▸ (hdie.calm hq).within hw) rfl rfl (heffect ▸ hw.pending)
  refine ⟨_, hnext, ?_⟩
  rw [heffect]
  refine ⟨setUnit_st _ _ _ _ hn1, ?_, ?_⟩
  · exact (b_of_val ((setUnit_val _ _ _ _ _ _ hn1 (by unfold Steady; omega)).trans
      (recordHit_val (by omega) (by omega) (by omega) (by omega)))).trans (linkLost_link s)
  · rw [hw.field]
    show { s.field with restoreDue := s.st fieldUnit != usOff } = _
    rw [bne_iff_ne.mpr h1]

/-- OutputSet sets the bits that it names and OutputClear clears them (R328). -/
theorem outputSet_sets {w : Write} {row : ObjRow} (hs : Serving s) (hq : Calm s) (hp : Passes s 0xD21 w row) (hu : w.unit = fieldUnit) :
    Completes (.outputSet w) s fun t => ∀ o < 16,
      bitOf (t.n fieldUnit 0x0D2000) o = (bitOf (s.n fieldUnit 0x0D2000) o || bitOf (leNat w.data) o) := by
  have heffect := directWrite_mask hs hp hu (.inl rfl) (t := outputMask s true (leNat w.data)) rfl
  have hw : Within s (directWrite s 0xD21 w) := heffect ▸ (Within.setV ..).trans (.answerSt ..)
  refine ⟨_, done_next hp.wf rfl (hq.within hw) hw.pending, fun o ho => ?_⟩
  rw [heffect, answerSt_n, outputMask_bit _ _ _ ho]
  cases bitOf (leNat w.data) o <;> simp

theorem outputClear_clears {w : Write} {row : ObjRow} (hs : Serving s) (hq : Calm s) (hp : Passes s 0xD22 w row) (hu : w.unit = fieldUnit) :
    Completes (.outputClear w) s fun t => ∀ o < 16,
      bitOf (t.n fieldUnit 0x0D2000) o = (bitOf (s.n fieldUnit 0x0D2000) o && !bitOf (leNat w.data) o) := by
  have heffect := directWrite_mask hs hp hu (.inr rfl) (t := outputMask s false (leNat w.data)) rfl
  have hw : Within s (directWrite s 0xD22 w) := heffect ▸ (Within.setV ..).trans (.answerSt ..)
  refine ⟨_, done_next hp.wf rfl (hq.within hw) hw.pending, fun o ho => ?_⟩
  rw [heffect, answerSt_n, outputMask_bit _ _ _ ho]
  cases bitOf (leNat w.data) o <;> simp

end

/-- Settles O52: the seam in both directions with power and without, the inputs, the switch masks and the supply. -/
theorem fieldDie : Obligations.FieldDie := by
  intro s hs hq hn
  refine ⟨fun hp => ⟨seamFrameSend_sends hs hp, seamFrameReceive_invalid hs hq hp, fun h => ⟨_, seamFrameReceive_down hs hq hp, takeDown_follows h⟩,
      fun h => ⟨_, seamFrameReceive_down hs hq hp, takeDown_holds h⟩, seamFrameReceive_up hs hq hp, fieldSeamLoss_loses hp,
      fieldInputSample_filters hs hq hp, vfieldAbsent_off hs hq hn⟩,
    fun hp => ?_, seamLoss_faults hs hq hn, fun w row hp hu => outputSet_sets hs hq hp hu, fun w row hp hu => outputClear_clears hs hq hp hu⟩
  obtain ⟨hsend, hreceive, hloss⟩ := seam_dark hs hq hp
  exact ⟨hsend, hreceive, hloss, fieldDiePowerUp_wakes hs hq hn hp⟩

end Sys2Proof.Proofs
end

section
/-! SUPPORT. COMB_PLAN_APPLY (01 R31, R33): what putting a plan in force leaves alone, and the command's three outcomes. -/

namespace Sys2Proof.Machine

/-- What an effect on cells, kernels, units and the dictionary leaves as it was: the queue, the resets, the plan, its rehousings and clusters, and
the journal. -/
structure LeavesPlan (s t : State) : Prop where
  calm : CalmSame s.slots t.slots
  pending : t.pending = s.pending
  rst : t.rst = s.rst
  plan : t.plan = s.plan
  rehousings : t.rehousings = s.rehousings
  clusters : t.clusters = s.clusters
  journal : t.journal = s.journal

theorem LeavesPlan.refl (s : State) : LeavesPlan s s := ⟨.refl _, rfl, rfl, rfl, rfl, rfl, rfl⟩

theorem LeavesPlan.trans {s t u : State} (h : LeavesPlan s t) (g : LeavesPlan t u) : LeavesPlan s u :=
  ⟨h.calm.trans g.calm, g.pending.trans h.pending, g.rst.trans h.rst, g.plan.trans h.plan, g.rehousings.trans h.rehousings,
    g.clusters.trans h.clusters, g.journal.trans h.journal⟩

theorem Within.leavesPlan {s t : State} (w : Within s t) : LeavesPlan s t :=
  ⟨w.calm, w.pending, w.rst, w.plan, w.rehousings, w.clusters, w.journal⟩

theorem LeavesPlan.setV (s : State) (u k : Nat) (v : Val) : LeavesPlan s (s.setV u k v) := (Within.setV ..).leavesPlan
theorem LeavesPlan.setCell (s : State) (c : Nat) (x : CellS) : LeavesPlan s (s.setCell c x) := ⟨.refl _, rfl, rfl, rfl, rfl, rfl, rfl⟩
theorem LeavesPlan.setKernel (s : State) (k : Nat) (x : KernelS) : LeavesPlan s (s.setKernel k x) := ⟨.refl _, rfl, rfl, rfl, rfl, rfl, rfl⟩
theorem LeavesPlan.putState (s : State) (u st : Nat) : LeavesPlan s (putState true s u st) := (Within.putState ..).leavesPlan

theorem LeavesPlan.foldl {α : Type} {f : State → α → State} (l : List α) (s : State) (h : ∀ t x, LeavesPlan t (f t x)) : LeavesPlan s (l.foldl f s) := by
  induction l generalizing s with
  | nil => exact .refl s
  | cons a r ih => exact (h s a).trans (ih _)

/-! ### The units, cells and kernels of a plan -/

theorem Within.planUnit (p : CombPlan) (s : State) (u : Nat) : Within s (planUnit p s u) := by
  unfold Machine.planUnit
  dsimp only
  split
  · exact .refl s
  · split
    · split
      · exact (Within.putFaultBit ..).trans (.setUnit ..)
      · exact .putFaultBit ..
    · split
      · exact .refl s
      · split
        · exact .axisTo ..
        · exact .putState ..

theorem LeavesPlan.planCell (p : CombPlan) (s : State) (c : Nat) : LeavesPlan s (planCell p s c) := by
  unfold Machine.planCell
  split
  · exact .setCell ..
  · split
    · exact (LeavesPlan.setCell ..).trans (.putState ..)
    · exact (LeavesPlan.setCell ..).trans (.putState ..)

theorem LeavesPlan.loadKernel (s : State) (k : KernelPlan) : LeavesPlan s (loadKernel s k) := by
  unfold Machine.loadKernel
  split
  · exact .refl s
  · exact ((LeavesPlan.foldl _ _ fun t x => .setV ..).trans (.setKernel ..)).trans (.setV ..)

/-- What the plan before is taken away with, and the new one put in force, before its cells are. -/
def unitsPlanned (s : State) (p : CombPlan) : State :=
  (planUnits s p).foldl (planUnit p) { s with plan := some p, rehousings := [], rst := { s.rst with quadrants := p.quadrants } }

theorem unitsPlanned_within (s : State) (p : CombPlan) :
    Within { s with plan := some p, rehousings := [], rst := { s.rst with quadrants := p.quadrants } } (unitsPlanned s p) :=
  .foldl _ _ _ (Within.planUnit p)

theorem applyPlan_leaves (s : State) (p : CombPlan) : LeavesPlan { unitsPlanned s p with kernels := [], clusters := [] } (applyPlan s p) := by
  have hfaces : ∀ (t : State) (c : Nat), LeavesPlan t (if (t.fault c).waiting then t else putState true t c (clusterState t c)) := by
    intro t c
    split
    · exact .refl t
    · exact .putState ..
  exact ((LeavesPlan.foldl _ _ (.planCell p)).trans ((LeavesPlan.foldl _ _ fun t k => .setV ..).trans ((LeavesPlan.setV ..).trans
    ((LeavesPlan.foldl _ _ .loadKernel).trans ((LeavesPlan.foldl _ _ hfaces).trans ((LeavesPlan.putState ..).trans
      (Within.watchReserve _).leavesPlan))))))

/-- The plan is in force, with no rehousing and no cluster's bookkeeping of the one before; the journal's queue is untouched. -/
theorem applyPlan_inForce (s : State) (p : CombPlan) : (applyPlan s p).plan = some p ∧ (applyPlan s p).rehousings = [] ∧ (applyPlan s p).clusters = []
    ∧ (applyPlan s p).journal = s.journal ∧ (applyPlan s p).pending = s.pending := by
  have hunits := unitsPlanned_within s p
  have hrest := applyPlan_leaves s p
  exact ⟨hrest.plan.trans hunits.plan, hrest.rehousings.trans hunits.rehousings, hrest.clusters, hrest.journal.trans hunits.journal,
    hrest.pending.trans hunits.pending⟩

theorem Calm.applyPlan {s : State} (h : Calm s) (p : CombPlan) : Calm (applyPlan s p) := by
  have hstart : Calm { s with plan := some p, rehousings := [], rst := { s.rst with quadrants := p.quadrants } } := ⟨h.1, h.2.1, h.2.2⟩
  have hunits : Calm (unitsPlanned s p) := hstart.within (unitsPlanned_within s p)
  have hkept := applyPlan_leaves s p
  exact Calm.of_same ⟨hunits.1, hunits.2.1, hunits.2.2⟩ hkept.calm hkept.rst

/-! ### The outcomes of the command -/

theorem journal_queue (s : State) (rs : List JRecord) (a : TxnAct) : (journal s rs a).journal.queue = s.journal.queue ++ [⟨rs, a⟩] := rfl

section
variable {s : State} {p : CombPlan} {o : Option Origin}

theorem planServe_wrongState (hs : Serving s) (h : s.st 0 ≠ usDisabled) : planServe s p o = answerSt s o stWrongState := by
  unfold planServe combPlanApply
  rw [keeperUp_of hs, if_pos h]
  rfl

theorem planServe_invalid (hs : Serving s) (h : s.st 0 = usDisabled) (hp : planOk s p = false) : planServe s p o = answerSt s o stPlanInvalid := by
  unfold planServe combPlanApply
  rw [keeperUp_of hs, if_neg (not_not.mpr h), hp]
  rfl

theorem planServe_applies (hs : Serving s) (h : s.st 0 = usDisabled) (hp : planOk s p = true)
    (hf : journalFull s [itemRecord 7 (leBytes 4 p.signature)] = false) :
    planServe s p o = journal (applyPlan s p) [itemRecord 7 (leBytes 4 p.signature)] (.reply o) := by
  unfold planServe combPlanApply
  rw [keeperUp_of hs, if_neg (not_not.mpr h), hp]
  dsimp only
  rw [hf]
  rfl

end

end Sys2Proof.Machine

namespace Sys2Proof.Proofs
open Sys2Proof.Machine

/-- Settles O8: the two refusals, and the plan in force with its signature on the way to the journal. -/
theorem planApplies : Obligations.PlanApplies := by
  intro s p o hs hq
  have hnext : Calm (planServe s p o) → (planServe s p o).pending = s.pending → exec (.combPlanApply p o) s = .next (planServe s p o) :=
    done_next rfl rfl
  refine ⟨fun h => ?_, fun h hp => ?_, fun h hp hf => ?_⟩
  · rw [planServe_wrongState hs h] at hnext
    exact hnext (hq.answer ..) (Within.answerSt ..).pending
  · rw [planServe_invalid hs h hp] at hnext
    exact hnext (hq.answer ..) (Within.answerSt ..).pending
  · obtain ⟨hplan, hrehousings, hclusters, hjournal, hpending⟩ := applyPlan_inForce s p
    rw [planServe_applies hs h hp hf] at hnext
    refine ⟨_, hnext ((hq.applyPlan p).journal ..) ((journal_pending ..).trans hpending), (journal_plan ..).trans hplan,
      (journal_rehousings ..).trans hrehousings, (journal_clusters ..).trans hclusters, ?_⟩
    rw [journal_queue, hjournal]

end Sys2Proof.Proofs
end

section
/-! SUPPORT. ARP, ICMP echo and the commissioning address (02 R36, R37), and the check values of 10 R253. -/

namespace Sys2Proof.Proofs
open Sys2Proof.Machine

section
variable {s : State}

/-- ARP is answered at the device's own address only. -/
theorem arpRequest_answers (hs : Serving s) (r : ArpRequest) (hm : r.senderMac < 2 ^ 48) (hi : r.senderIp < 2 ^ 32) (ht : r.targetIp < 2 ^ 32) :
    exec (.arpRequest r) s = .next (if ownAddr s = some r.targetIp then s.emit (.arpReply r.senderMac r.senderIp r.targetIp) else s) := by
  change quiet s (whenWf (.arpRequest r) s (whenKeeper s (arpServe s r))) = _
  have hw : (Instr.arpRequest r).wf = true := decide_eq_true ⟨hm, hi, ht⟩
  rw [whenWf_of hw, whenKeeper_of hs]
  refine quiet_next ?_
  unfold arpServe
  split <;> rfl

/-- So is an ICMP echo request that is no fragment. -/
theorem icmpEcho_answers (hs : Serving s) (e : IcmpEcho) (hi : e.src < 2 ^ 32) (ht : e.dst < 2 ^ 32) :
    exec (.icmpEchoRequest e) s = .next (if ownAddr s = some e.dst ∧ e.fragment = false then s.emit (.icmpReply e.src e.ident e.seq e.data) else s) := by
  change quiet s (whenWf (.icmpEchoRequest e) s (whenKeeper s (icmpServe s e))) = _
  have hw : (Instr.icmpEchoRequest e).wf = true := decide_eq_true ⟨hi, ht⟩
  rw [whenWf_of hw, whenKeeper_of hs]
  unfold icmpServe
  simp only [Bool.not_eq_true']
  refine quiet_next ?_
  split <;> rfl

theorem commissioningProbe_next (hs : Serving s) (a : Bool) : exec (.commissioningProbe a) s = quiet s (commissionProbe s a) := by
  change quiet s (whenWf (.commissioningProbe a) s (whenKeeper s (commissionProbe s a))) = _
  rw [whenWf_of rfl, whenKeeper_of hs]

/-- Probes concern a device with no address of its own. -/
theorem commissionProbe_addressed (h : s.ipv4 ≠ 0) (a : Bool) : commissionProbe s a = s := if_pos (.inl h)

theorem commissionProbe_unaddressed (hs : Serving s) (h : s.ipv4 = 0) (a : Bool) : commissionProbe s a =
    if a then { s with linkLocal := false }.emit (.arpProbes (commissionAddr s)) else { s with linkLocal := true } :=
  if_neg (by simp [h, hs.1])

end

/-- Settles O15: each request is answered at the own address alone, which is the applied one or the commissioning address held. -/
theorem networkAnswers : Obligations.NetworkAnswers := by
  intro s hs
  refine ⟨arpRequest_answers hs, icmpEcho_answers hs, fun h => ⟨?_, ?_⟩, fun h a => ?_, if_neg (not_not.mpr hs.1)⟩
  · rw [commissioningProbe_next hs, commissionProbe_unaddressed hs h]; rfl
  · rw [commissioningProbe_next hs, commissionProbe_unaddressed hs h]; rfl
  · rw [commissioningProbe_next hs, commissionProbe_addressed h]; rfl

/-- Settles O46: the two units, and the CRC-32C of the datagrams (02 R40), over the nine bytes, evaluated. -/
theorem checkValues : Obligations.CheckValues := by
  unfold Obligations.CheckValues
  decide +kernel

end Sys2Proof.Proofs
end

section
/-! SUPPORT. Datagrams and sessions (02 R38 to R54): what a datagram of a named kind comes to, what the service of one session comes to, and what
leaves a session slot as it is. -/

namespace Sys2Proof.Machine

/-! ### Datagrams -/

section
variable {s : State} {d : Dgram} {k sid seq : Nat} {payload : Bytes}

/-- A whole datagram of acyclic service that reaches the device is served by its kind. -/
theorem lfpCommand_carries (hs : Serving s) (hr : reaches s d = true) (hc : Carries d k sid seq payload) (hk : k ≠ mkPdOut ∧ k ≠ mkPdIn)
    (draw : OpenDraw) : lfpCommand k s d draw = acyclic s d.src ⟨k, sid, seq, payload⟩ draw := by
  obtain ⟨hphase, hup⟩ := hs
  simp [lfpCommand, lfpArrives, hc.2, hr, hphase, hup, hk]

/-- A datagram of a session, other than OPEN and PROOF. -/
theorem acyclic_session {i : Nat} {ss : Session} (hk : k ≠ mkOpen ∧ k ≠ mkProof) (h : sessionOf s d.src sid = some (i, ss)) (draw : OpenDraw) :
    acyclic s d.src ⟨k, sid, seq, payload⟩ draw = if k = mkWaggleAck then waggleAcked s i ss seq
      else if k = mkKeepalive then s else requestArrives s i ss k seq payload := by
  unfold acyclic
  rw [if_neg hk.1, if_neg hk.2, h]

end

/-! ### Little-endian bytes -/

theorem leBytes_one (n : Nat) : leBytes 1 n = [BitVec.ofNat 8 n] := rfl

/-- The first byte of a run, read back. -/
theorem fieldLE_leByte {n : Nat} (h : n < 256) (r : Bytes) : fieldLE (leBytes 1 n ++ r) 0 1 = n := by
  simp [leBytes_one, fieldLE, leNat, Nat.mod_eq_of_lt h]

/-! ### Slots -/

theorem freeSlot_spec {s : State} {i : Nat} (h : freeSlot s = some i) : s.slot i = .free ∧ i < 16 := by
  unfold freeSlot at h
  have hfree := List.find?_some h
  have hmem := List.mem_of_find?_eq_some h
  exact ⟨by simpa using hfree, List.mem_range.mp hmem⟩

/-- A slot that is put calm leaves a calm state calm. -/
theorem Calm.setSlot {s : State} (h : Calm s) (i : Nat) {x : Slot} (hx : calmSlot x = true) : Calm (s.setSlot i x) :=
  h.of_same (CalmSame.put s.slots i x (hx.trans (h.1 i).symm)) rfl

/-- Changing entries one after another leaves an entry that the change does not move. -/
theorem foldl_mapMod_get {f : Slot → Slot} {i : Nat} (l : List Nat) {m : NMap Slot} (h : f (mapGet .free m i) = mapGet .free m i) :
    mapGet .free (l.foldl (fun m j => mapMod .free m j f) m) i = mapGet .free m i := by
  induction l generalizing m with
  | nil => rfl
  | cons a r ih =>
    have hstep : mapGet .free (mapMod .free m a f) i = mapGet .free m i := by
      unfold mapMod
      rw [mapGet_mapPut]
      split
      · next ha => rw [ha, h]
      · rfl
    exact (ih (by rw [hstep, h])).trans hstep

/-- Publishing an event adds it to the lists of open sessions only. -/
theorem enqueueEvent_slot {s : State} {i : Nat} (h : ∀ ss, s.slot i ≠ .opened ss) (u c : Nat) (d : Bytes) (f : Nat) (l : List Nat) :
    (enqueueEvent s u c d f l).slot i = s.slot i := by
  refine foldl_mapMod_get l ?_
  split
  · next ss hss => exact absurd hss (h ss)
  · rfl

theorem countStick_slot (s : State) (u k i : Nat) : (countStick s u k).1.slot i = s.slot i := slot_congr (countStick_slots ..) i

theorem publishRaw_slot {s : State} {i : Nat} (h : ∀ ss, s.slot i ≠ .opened ss) (u c : Nat) (d : Bytes) :
    (publishRaw s u c d).1.slot i = s.slot i := by
  unfold publishRaw takeFaceSeq
  dsimp only
  split
  · rfl
  · split
    · exact enqueueEvent_slot h ..
    · exact countStick_slot ..

theorem publish_slot {s : State} {i : Nat} (h : ∀ ss, s.slot i ≠ .opened ss) (u c : Nat) (d : Bytes) : (publish s u c d).slot i = s.slot i := by
  have h1 := publishRaw_slot h u c d
  unfold publish
  dsimp only
  split
  · exact (publishRaw_slot (by rw [h1]; exact h) ..).trans h1
  · exact h1

/-- Counting leaves a slot in which no session is open. -/
theorem bump_slot {s : State} {i : Nat} (h : ∀ ss, s.slot i ≠ .opened ss) (u k : Nat) : (bump s u k).slot i = s.slot i := by
  have h1 := countStick_slot s u k i
  unfold bump
  dsimp only
  split
  · exact (publish_slot (by rw [h1]; exact h) ..).trans h1
  · exact h1

end Sys2Proof.Machine
end
section
/-! SUPPORT. Opening a session (02 R49, R53, R54): OPEN, PROOF and the end of an unanswered challenge. -/

namespace Sys2Proof.Machine

/-! ### AUTH_FAILED (R54) -/

/-- A failed authentication counts, is answered, and is noted against the source: nothing else. -/
theorem authFailed_eq (s : State) (src : Src) (sid : Nat) (note : Bool) : ∃ fails bars,
    authFailed s src sid note = { openFail (bump s 0 0x002100) src sid 0x18 with authFails := fails, authBars := bars } := by
  unfold authFailed
  dsimp only
  split
  · exact ⟨_, _, rfl⟩
  · split <;> exact ⟨_, _, rfl⟩

set_option maxRecDepth 100000 in
theorem authFail_rows : ∀ r ∈ allRows, r.stick = true → r.obj = 0x002100 / 256 → 0x002100 % 256 ≤ r.elHi := by decide +kernel

set_option maxRecDepth 100000 in
theorem authFail_type : ((rowOf .root (0x002100 / 256) (0x002100 % 256)).map fun r => r.ty.maxNat).getD (2 ^ 32 - 1) = 2 ^ 32 - 1 := by decide +kernel

theorem authFailed_counts (s : State) (src : Src) (sid : Nat) (note : Bool) : Counts s (authFailed s src sid note) 0 0x002100 := by
  intro hv
  obtain ⟨_, _, he⟩ := authFailed_eq s src sid note
  rw [he]
  exact bump_counts s 0 0x002100 .root (by decide) rfl authFail_rows (by decide) (by decide) (by rw [authFail_type]; exact hv)

theorem authFailed_slot {s : State} {i : Nat} (h : ∀ ss, s.slot i ≠ .opened ss) (src : Src) (sid : Nat) (note : Bool) :
    (authFailed s src sid note).slot i = s.slot i := by
  obtain ⟨_, _, he⟩ := authFailed_eq s src sid note
  rw [he]
  exact bump_slot h ..

theorem authFailed_calm {s : State} (h : Calm s) (src : Src) (sid : Nat) (note : Bool) :
    Calm (authFailed s src sid note) ∧ (authFailed s src sid note).pending = s.pending := by
  obtain ⟨_, _, he⟩ := authFailed_eq s src sid note
  rw [he]
  exact ⟨(h.bump 0 0x002100).of_eq rfl rfl, (bump_same ..).pending⟩

/-! ### What OPEN and PROOF do -/

section
variable {s : State} {i level sid : Nat} {src : Src} {draw : OpenDraw}

/-- OPEN from a source that is not barred, with a free slot and a valid draw. -/
theorem openServe_admits (hb : mapGet 0 s.authBars src.addr ≤ s.time.uptime) (hl : level ≤ 4) (hk : mapGet [] s.keys level ≠ [] ∨ level ≠ 3)
    (hf : freeSlot s = some i) (hd : drawOk s draw = true) : openServe s src (leBytes 1 level ++ [0, 0, 0]) draw =
      if mapGet [] s.keys level = [] then openIn s i level true src draw.sid
      else (s.setSlot i (.challenge level src draw.sid draw.challenge)).emit (lfpSent src mkChallenge 0 draw.sid 0 draw.challenge) := by
  have hlevel : fieldLE (leBytes 1 level ++ [0, 0, 0]) 0 1 = level := fieldLE_leByte (by omega) _
  have hshape : ¬((leBytes 1 level ++ [0, 0, 0]).length ≠ 4 ∨ !zeros (leBytes 1 level ++ [0, 0, 0]) 1 3 ∨ 4 < level) := by
    rintro (h | h | h)
    · exact h rfl
    · exact Bool.false_ne_true h
    · omega
  have hkey : ¬(mapGet [] s.keys level = [] ∧ level = 3) := fun ⟨h1, h2⟩ => hk.elim (absurd h1) (absurd h2)
  unfold openServe
  simp only [hlevel, if_neg (Nat.not_lt.mpr hb), if_neg hshape, if_neg hkey, hf, hd, Bool.not_true, Bool.false_eq_true, if_false]

/-- A new session stands in its slot, at rest, with the default subscription, and has its OPEN_OK. -/
theorem openIn_opens (keyless : Bool) : (openIn s i level keyless src sid).slot i = .opened { level := level, keyless := keyless, src := src, sid := sid }
    ∧ (openIn s i level keyless src sid).n 0 (0x002500 + i) = 0xFFFFFFFF
    ∧ (openIn s i level keyless src sid).sent = lfpSent src mkOpenOk (if keyless then 2 else 0) sid 0
        (leBytes 1 i ++ leBytes 1 level ++ leBytes 1 32 ++ leBytes 1 8) :: s.sent := by
  refine ⟨?_, (setV_n_self ..).trans rfl, ?_⟩
  · exact (emit_at_slot ..).trans ((setV_at_slot ..).trans (setSlot_read_self ..))
  · cases keyless <;> rfl

theorem openIn_calm (h : Calm s) (keyless : Bool) :
    Calm (openIn s i level keyless src sid) ∧ (openIn s i level keyless src sid).pending = s.pending :=
  ⟨(h.setSlot i (x := .opened { level := level, keyless := keyless, src := src, sid := sid }) rfl).of_eq rfl rfl, rfl⟩

/-- A PROOF of a pending challenge opens its slot or fails. -/
theorem proofServe_challenge {ch payload : Bytes} (seq : Nat) (hn : sessionOf s src sid = none) (hc : challengeBySid s sid = some (i, level, src, ch)) :
    proofServe s src sid seq payload = if payload = hmac (mapGet [] s.keys level) ch then openIn s i level false src sid
      else authFailed (s.setSlot i .free) src sid true := by
  unfold proofServe
  rw [hn, hc]
  simp only [Option.filter_some, beq_self_eq_true, if_true]

/-- A challenge that ends without its session leaves its slot free, and counts. -/
theorem challengeFails (hq : Calm s) : let t := authFailed (s.setSlot i .free) src sid true
    (Calm t ∧ t.pending = s.pending) ∧ t.slot i = .free ∧ Counts s t 0 0x002100 := by
  have hfree : (s.setSlot i .free).slot i = .free := setSlot_read_self ..
  exact ⟨authFailed_calm (hq.setSlot i rfl) .., (authFailed_slot (by rw [hfree]; nofun) ..).trans hfree, authFailed_counts (s.setSlot i .free) src sid true⟩

end
end Sys2Proof.Machine

namespace Sys2Proof.Proofs
open Sys2Proof.Machine

section
variable {s : State} {d : Dgram} {i level sid seq : Nat} {draw : OpenDraw}

theorem openSession_next {payload : Bytes} {t : State} (hs : Serving s) (hr : reaches s d = true) (hc : Carries d mkOpen sid seq payload)
    (hd : drawOk s draw = true) (he : openServe s d.src payload draw = t) (ht : Calm t ∧ t.pending = s.pending) :
    exec (.openSession d draw) s = .next t := by
  have hw : (Instr.openSession d draw).wf = true := by
    simp only [drawOk, Bool.and_eq_true, bne_iff_ne, beq_iff_eq, decide_eq_true_eq] at hd
    obtain ⟨⟨⟨⟨hsid, hlt⟩, hlen⟩, -⟩, -⟩ := hd
    exact Bool.and_eq_true_iff.mpr ⟨hc.1, decide_eq_true ⟨hsid, hlt, hlen⟩⟩
  refine done_next hw ?_ ht.1 ht.2
  rw [← he]
  exact congrArg (fun t => done s (whenWf _ s t)) (lfpCommand_carries hs hr hc (by decide) draw)

theorem proof_next {payload : Bytes} {t : State} (hs : Serving s) (hr : reaches s d = true) (hc : Carries d mkProof sid seq payload)
    (he : proofServe s d.src sid seq payload = t) (ht : Calm t ∧ t.pending = s.pending) : exec (.proof d) s = .next t := by
  refine done_next hc.1 ?_ ht.1 ht.2
  rw [← he]
  exact congrArg (fun t => done s (whenWf _ s t)) (lfpCommand_carries hs hr hc (by decide) default)

theorem challengeTimeout_next {src : Src} {ch : Bytes} {t : State} (hs : Serving s) (h : s.slot i = .challenge level src sid ch) (hi : i < 16)
    (he : authFailed (s.setSlot i .free) src sid true = t) (ht : Calm t ∧ t.pending = s.pending) : exec (.challengeTimeout i) s = .next t := by
  refine done_next (decide_eq_true hi) ?_ ht.1 ht.2
  have hx : whenKeeper s (challengeExpires s i) = t := by
    rw [whenKeeper_of hs, ← he]
    unfold challengeExpires
    rw [h]
  rw [← hx]
  rfl

end

/-- Settles O10: OPEN by the key of its level, PROOF by its code, and the challenge left unanswered. -/
theorem sessionsOpen : Obligations.SessionsOpen := by
  intro s d i sid seq level draw hs hq hl
  refine ⟨fun hr hc hb hf hd => ?_, fun ch payload hr hc hn hch hi => ⟨fun hp => ?_, fun hp => ?_⟩, fun src ch h hi => ?_⟩
  · obtain ⟨hfree, -⟩ := freeSlot_spec hf
    refine ⟨fun hk => ?_, fun hk h3 => ?_⟩
    · have he := (openServe_admits hb hl (.inl hk) hf hd).trans (if_neg hk)
      exact ⟨_, openSession_next hs hr hc hd he ⟨(hq.setSlot i rfl).emit _, rfl⟩, (emit_at_slot ..).trans (setSlot_read_self ..), rfl⟩
    · have he := (openServe_admits hb hl (.inr h3) hf hd).trans (if_pos hk)
      exact ⟨_, openSession_next hs hr hc hd he (openIn_calm hq true), openIn_opens true⟩
  · have he := (proofServe_challenge seq hn hch).trans (if_pos hp)
    obtain ⟨hslot, hmask, -⟩ := openIn_opens (s := s) (i := i) (level := level) (sid := sid) (src := d.src) false
    exact ⟨_, proof_next hs hr hc he (openIn_calm hq false), hslot, hmask⟩
  · have he := (proofServe_challenge seq hn hch).trans (if_neg hp)
    obtain ⟨hcalm, hfree⟩ := challengeFails (i := i) (src := d.src) (sid := sid) hq
    exact ⟨_, proof_next hs hr hc he hcalm, hfree⟩
  · obtain ⟨hcalm, hfree⟩ := challengeFails (i := i) (src := src) (sid := sid) hq
    exact ⟨_, challengeTimeout_next hs h hi rfl hcalm, hfree⟩

end Sys2Proof.Proofs
end

section
/-! SUPPORT. The end of a session (02 R36, R51), the service of the one request that waits (02 R42 to R44), and writes to root objects that act at
once (02 R36, R62). -/

namespace Sys2Proof.Machine

/-! ### Ending a session (R51) -/

/-- Two states that differ at most in what the end of sessions touches: slots, events, the dictionary, recorders and the JTAG port. -/
def SessionsOnly (s t : State) : Prop :=
  ∃ m d e r j, t = { s with slots := m, dict := d, events := e, recorders := r, rst := { s.rst with jtag := j } }

theorem SessionsOnly.refl (s : State) : SessionsOnly s s := ⟨_, _, _, _, _, rfl⟩

theorem SessionsOnly.trans {s t u : State} (h : SessionsOnly s t) (g : SessionsOnly t u) : SessionsOnly s u := by
  obtain ⟨m, d, e, r, j, rfl⟩ := h
  obtain ⟨m', d', e', r', j', rfl⟩ := g
  exact ⟨m', d', e', r', j', rfl⟩

theorem SessionsOnly.foldl {α : Type} {f : State → α → State} (l : List α) (s : State) (h : ∀ t x, SessionsOnly t (f t x)) :
    SessionsOnly s (l.foldl f s) := by
  induction l generalizing s with
  | nil => exact .refl s
  | cons a r ih => exact (h s a).trans (ih _)

theorem SessionsOnly.calm {s t : State} (h : SessionsOnly s t) (hq : Calm s) (hslots : ∀ i, calmSlot (t.slot i) = true) : Calm t := by
  obtain ⟨m, d, e, r, j, rfl⟩ := h
  exact ⟨hslots, hq.2.1, hq.2.2⟩

theorem SessionsOnly.pending {s t : State} (h : SessionsOnly s t) : t.pending = s.pending := by
  obtain ⟨m, d, e, r, j, rfl⟩ := h
  rfl

theorem SessionsOnly.sent {s t : State} (h : SessionsOnly s t) : t.sent = s.sent := by
  obtain ⟨m, d, e, r, j, rfl⟩ := h
  rfl

theorem SessionsOnly.network {s t : State} (h : SessionsOnly s t) :
    t.ipv4 = s.ipv4 ∧ t.netMask = s.netMask ∧ t.gateway = s.gateway ∧ t.lfpPort = s.lfpPort := by
  obtain ⟨m, d, e, r, j, rfl⟩ := h
  exact ⟨rfl, rfl, rfl, rfl⟩

/-- Streams to a session that has ended change recorders only. -/
theorem streamSessionEnded_eq (s : State) (i : Nat) : ∃ r, streamSessionEnded s i = { s with recorders := r } := by
  unfold streamSessionEnded
  refine List.foldlRecOn (motive := fun t => ∃ r : NMap RecS, t = { s with recorders := r }) _ _ ⟨s.recorders, rfl⟩ fun t ⟨r, ht⟩ k _ => ?_
  subst ht
  split <;> exact ⟨_, rfl⟩

theorem jtagSessionEnded_eq (s : State) (i : Nat) : ∃ j, jtagSessionEnded s i = { s with rst := { s.rst with jtag := j } } := by
  unfold jtagSessionEnded
  split <;> exact ⟨_, rfl⟩

section
variable {s : State} {i : Nat} {ss : Session}

/-- The end of an open session: its slot, its holds, its subscription; and what recorders and the JTAG port make of it. -/
theorem endSession_eq (h : s.slot i = .opened ss) : ∃ r j, endSession s i =
    { (releaseEvents (s.setSlot i .free) i fun _ => true).setN 0 (0x002500 + i) 0xFFFFFFFF with
      recorders := r, rst := { s.rst with jtag := j } } := by
  unfold endSession
  rw [h]
  obtain ⟨r, hr⟩ := streamSessionEnded_eq ((releaseEvents (s.setSlot i .free) i fun _ => true).setN 0 (0x002500 + i) 0xFFFFFFFF) i
  obtain ⟨j, hj⟩ := jtagSessionEnded_eq
    (streamSessionEnded ((releaseEvents (s.setSlot i .free) i fun _ => true).setN 0 (0x002500 + i) 0xFFFFFFFF) i) i
  refine ⟨r, j, hj.trans ?_⟩
  rw [hr]
  rfl

theorem endSession_none (h : ∀ ss, s.slot i ≠ .opened ss) : endSession s i = s := by
  unfold endSession
  split
  · next ss hs => exact absurd hs (h ss)
  · rfl

theorem endSession_only (s : State) (i : Nat) : SessionsOnly s (endSession s i) := by
  by_cases h : ∃ ss, s.slot i = .opened ss
  · obtain ⟨ss, h⟩ := h
    obtain ⟨r, j, he⟩ := endSession_eq h
    exact ⟨_, _, _, r, j, he⟩
  · rw [endSession_none (not_exists.mp h)]
    exact .refl s

theorem endSession_frees (h : s.slot i = .opened ss) : (endSession s i).slot i = .free := by
  obtain ⟨r, j, he⟩ := endSession_eq h
  rw [he]
  exact setSlot_read_self s i .free

theorem endSession_slot_ne {j : Nat} (h : j ≠ i) : (endSession s i).slot j = s.slot j := by
  by_cases hi : ∃ ss, s.slot i = .opened ss
  · obtain ⟨ss, hi⟩ := hi
    obtain ⟨r, x, he⟩ := endSession_eq hi
    rw [he]
    exact (setSlot_read s i .free j).trans (if_neg h.symm)
  · rw [endSession_none (not_exists.mp hi)]

/-- After it no session is open in the slot. -/
theorem endSession_closed (s : State) (i : Nat) : ∀ x, (endSession s i).slot i ≠ .opened x := by
  by_cases hi : ∃ ss, s.slot i = .opened ss
  · obtain ⟨ss, hi⟩ := hi
    rw [endSession_frees hi]
    nofun
  · rw [endSession_none (not_exists.mp hi)]
    exact not_exists.mp hi

theorem endSession_mask (h : s.slot i = .opened ss) : (endSession s i).n 0 (0x002500 + i) = 0xFFFFFFFF := by
  obtain ⟨r, j, he⟩ := endSession_eq h
  rw [he]
  exact (setV_n_self (releaseEvents (s.setSlot i .free) i fun _ => true) 0 (0x002500 + i) (0xFFFFFFFF : Nat)).trans rfl

/-- An event that is released is held by the slot no more. -/
theorem releaseEvents_holders {p : QEvent → Bool} {e : QEvent} (h : e ∈ (releaseEvents s i p).events) :
    ∃ x ∈ s.events, e.serial = x.serial ∧ (p x = true → i ∉ e.holders) := by
  simp only [releaseEvents, List.mem_filter, List.mem_map] at h
  obtain ⟨⟨x, hx, he⟩, -⟩ := h
  refine ⟨x, hx, ?_⟩
  split at he <;> subst he
  · exact ⟨rfl, fun _ => by simp⟩
  · next hp => exact ⟨rfl, fun h => absurd h hp⟩

theorem endSession_releases (h : s.slot i = .opened ss) : ∀ e ∈ (endSession s i).events, i ∉ e.holders := by
  intro e hm
  obtain ⟨r, j, he⟩ := endSession_eq h
  rw [he] at hm
  obtain ⟨-, -, -, hout⟩ := releaseEvents_holders (s := s.setSlot i .free) (p := fun _ => true) hm
  exact hout rfl

theorem endSession_calm (h : ∀ j, j ≠ i → calmSlot (s.slot j) = true) (hr : s.rst.raised = []) (hw : s.rst.swReach = none)
    (hi : s.slot i = .opened ss) : Calm (endSession s i) := by
  obtain ⟨r, j, he⟩ := endSession_eq hi
  refine ⟨fun j => ?_, by rw [he]; exact hr, by rw [he]; exact hw⟩
  by_cases hj : j = i
  · rw [hj, endSession_frees hi]; rfl
  · rw [endSession_slot_ne hj]; exact h j hj

end

/-! ### NetApply (R36) -/

/-- NetApply that no session gives ends every session. -/
theorem netApply_none (s : State) : netApply s none = (List.range 16).foldl endSession (netUp s) := by
  unfold netApply
  congr 1
  funext t i
  split
  · rfl
  · next h => rw [endSession_none (by rw [h]; nofun)]
  · next h => rw [endSession_none (by rw [h]; nofun)]

/-- The network settings in force are the stored ones, or those of the commissioning address. -/
theorem netUp_settings (s : State) : (netUp s).ipv4 = s.n 0 0x010100
    ∧ (s.n 0 0x010100 ≠ 0 → (netUp s).netMask = s.n 0 0x010200 ∧ (netUp s).gateway = s.n 0 0x010300)
    ∧ (s.n 0 0x010100 = 0 → (netUp s).netMask = 0xFFFF0000 ∧ (netUp s).gateway = 0) ∧ (netUp s).lfpPort = s.n 0 0x010000 := by
  unfold netUp
  dsimp only
  split
  · next h => exact ⟨rfl, fun hn => absurd h hn, fun _ => ⟨rfl, rfl⟩, rfl⟩
  · next h => exact ⟨rfl, fun _ => ⟨rfl, rfl⟩, fun hn => absurd hn h, rfl⟩

theorem netUp_keeps (s : State) : (netUp s).slots = s.slots ∧ (netUp s).rst = s.rst ∧ (netUp s).pending = s.pending := by
  unfold netUp
  dsimp only
  split <;> exact ⟨rfl, rfl, rfl⟩

theorem endAll_only (s : State) : SessionsOnly s ((List.range 16).foldl endSession s) := .foldl _ s fun t i => endSession_only t i

/-- Ending the session of every slot leaves none open. -/
theorem endAll_closed (s : State) {j : Nat} (hj : j < 16) : ∀ x, ((List.range 16).foldl endSession s).slot j ≠ .opened x :=
  foldl_decides (P := fun _ => True) (Q := fun t => ∀ x, t.slot j ≠ .opened x) List.nodup_range (List.mem_range.mpr hj)
    (fun _ _ _ _ _ => trivial) (fun t _ => endSession_closed t j) (fun t i _ hi h => by rw [endSession_slot_ne (Ne.symm hi)]; exact h) trivial

theorem endAll_calm {s : State} (h : Calm s) : Calm ((List.range 16).foldl endSession s) :=
  List.foldlRecOn (motive := Calm) _ _ h fun t ht i _ => (endSession_only t i).calm ht fun j => by
    by_cases hi : ∃ ss, t.slot i = .opened ss
    · obtain ⟨ss, hi⟩ := hi
      exact (endSession_calm (fun j _ => ht.1 j) ht.2.1 ht.2.2 hi).1 j
    · rw [endSession_none (not_exists.mp hi)]
      exact ht.1 j

/-! ### Root objects whose write acts at once -/

theorem replyWith_withOk (t : State) (o : Option Origin) : replyWith o (withOk t) = answerSt t o stOk := rfl

theorem answerSt_none (t : State) (n : Nat) : answerSt t none n = t := rfl

set_option maxRecDepth 100000 in
theorem applyRows_plain : ∀ o ∈ [0x104, 0x144], (objRowOf .root o).all (fun r => !r.jour && !r.stick) = true := by decide +kernel

/-- NetApply and PdMapApply act at once, and are answered; PdMapApply forms the image of the new maps. -/
theorem directWrite_apply {s : State} {o : Nat} {w : Write} {row : ObjRow} {r : Option ItemReply × State} (hs : Serving s) (hp : Passes s o w row)
    (hu : w.unit = 0) (ho : o = 0x104 ∨ o = 0x144) (hw : rootWrite s o w = some r) :
    directWrite s o w = if o = 0x144 then keepNext (replyWith w.origin r) else replyWith w.origin r := by
  obtain ⟨k, hk, hobj⟩ := hp.names
  have hown := hp.own
  rw [hu] at hk hobj hown
  obtain rfl : k = .root := (Option.some.inj hk).symm
  have hrow : objRowOf .root o = some row := by
    unfold objAt at hobj
    rw [if_neg (by omega)] at hobj
    exact hobj
  have hplain := applyRows_plain o (List.mem_pair.mpr ho)
  rw [hrow] at hplain
  simp only [Option.all_some, Bool.and_eq_true, Bool.not_eq_true'] at hplain
  obtain ⟨hjour, hstick⟩ := hplain
  have htxn : journalTxn s 0 o row w none = none := by
    rcases ho with rfl | rfl <;> simp [journalTxn, journaledCommand, hjour]
  have heffect : writeEffect s 0 o row w = r := by
    have hcommon : commonWrite s 0 o row w = none := by
      rcases ho with rfl | rfl <;> simp [commonWrite, hstick]
    simp [writeEffect, hcommon, hw]
  rw [directWrite_served hs hp (.inl (by rw [hu]; rfl)), hu]
  unfold writeServe
  rw [takeWrite_at_once htxn hown rfl (by omega) (by omega) (by omega), heffect]

/-! ### The one session that waits -/

/-- Where one session waits alone, what follows a command is its service. -/
theorem settle_serves {s t : State} {i : Nat} (hk : keeperUp s = true) (hi : i < 16) (ho : ∀ j, j ≠ i → calmSlot (s.slot j) = true)
    (ht : serveSession (serveFuel s i) s i = t) (hq : Calm t) : settle s = t := by
  have hpump : pump s = t := by
    unfold pump
    rw [hk]
    refine foldl_decides (P := fun x => x = s) (Q := fun x => x = t) List.nodup_range (List.mem_range.mpr hi)
      (fun x j _ hj hx => ?_) (fun x hx => ?_) (fun x j _ _ hx => ?_) rfl
    · subst hx
      rw [serveSession_calm _ _ _ (ho j hj), closeIfDone_calm _ _ (ho j hj)]
    · subst hx
      rw [ht, closeIfDone_calm _ _ (hq.1 i)]
    · subst hx
      rw [serveSession_calm _ _ _ (hq.1 j), closeIfDone_calm _ _ (hq.1 j)]
  unfold settle
  rw [hpump, serveRaised_calm t hq.2.1]
  unfold serveSoftware
  rw [hq.2.2]

/-- A session that one step of service leaves calm. -/
theorem serveSession_once {s t : State} {i : Nat} {ss : Session} (h : s.slot i = .opened ss) (hstep : serveStep s i = some t)
    (hq : calmSlot (t.slot i) = true) : serveSession (serveFuel s i) s i = t := by
  unfold serveFuel
  rw [h]
  unfold serveSession
  rw [hstep]
  exact serveSession_calm _ _ _ hq

section
variable {s : State} {d : Dgram} {i : Nat} {ss : Session}

/-- The expected request of a session at rest is taken (R43). -/
theorem requestArrives_at_rest (h : AtRest s d i ss) (k : Nat) (payload : Bytes) :
    requestArrives s i ss k ss.expect payload = s.setSlot i (.opened (arrived ss ⟨ss.expect, k, payload⟩)) := by
  obtain ⟨-, -, -, hheld, hready, -, -, -⟩ := h
  have hd : (ss.expect + 2 ^ 32 - ss.expect) % 2 ^ 32 = 0 := by rw [Nat.add_sub_cancel_left]; rfl
  unfold requestArrives
  simp only [hd, if_true, hready, List.nil_append]
  unfold drainHeld
  simp only [hheld, List.find?_nil]
  unfold arrived
  rw [← hheld]

/-- The kinds of request that carry a number of their session (Table 2-2). -/
def requestKinds : List Nat := [mkClose, mkRead, mkWrite, mkStage, mkCommit, mkRevoke]

theorem requestKinds_numbered : ∀ k ∈ requestKinds,
    (k ≠ mkOpen ∧ k ≠ mkProof) ∧ (k ≠ mkPdOut ∧ k ≠ mkPdIn) ∧ k ≠ mkWaggleAck ∧ k ≠ mkKeepalive := by decide

/-- A request of a session at rest whose service is one step. -/
theorem request_next {c : Instr} {k : Nat} {payload : Bytes} {t : State} (hs : Serving s) (hq : Calm s) (hr : reaches s d = true)
    (ha : AtRest s d i ss) (hc : Carries d k ss.sid ss.expect payload) (hk : k ∈ requestKinds) (hw : c.wf = wfDgram d)
    (hx : exec c s = done s (whenWf c s (lfpCommand k s d default)))
    (hstep : serveStep (s.setSlot i (.opened (arrived ss ⟨ss.expect, k, payload⟩))) i = some t) (ht : Calm t) (hp : t.pending = s.pending) :
    exec c s = .next t := by
  obtain ⟨hsess, hpd, hack, hkeep⟩ := requestKinds_numbered k hk
  have heffect : lfpCommand k s d default = s.setSlot i (.opened (arrived ss ⟨ss.expect, k, payload⟩)) := by
    rw [lfpCommand_carries hs hr hc hpd, acyclic_session hsess ha.1, if_neg hack, if_neg hkeep,
      requestArrives_at_rest ha]
  have hserved : settle (s.setSlot i (.opened (arrived ss ⟨ss.expect, k, payload⟩))) = t :=
    settle_serves (keeperUp_of hs) ha.2.2.1 (fun j hj => by rw [setSlot_read, if_neg hj.symm]; exact hq.1 j)
      (serveSession_once (setSlot_read_self ..) hstep (ht.1 i)) ht
  rw [hx, whenWf_of (hw.trans hc.1), heffect]
  unfold done
  rw [hserved]
  exact quiet_next hp

end
end Sys2Proof.Machine

namespace Sys2Proof.Proofs
open Sys2Proof.Machine

section
variable {s : State} {d : Dgram} {i : Nat} {ss : Session}

/-- KEEPALIVE only shows that its session lives. -/
theorem keepalive_next {seq : Nat} {payload : Bytes} (hs : Serving s) (hq : Calm s) (hr : reaches s d = true) (ha : AtRest s d i ss)
    (hc : Carries d mkKeepalive ss.sid seq payload) : exec (.keepalive d) s = .next s := by
  have heffect : lfpCommand mkKeepalive s d default = s := by
    rw [lfpCommand_carries hs hr hc (by decide), acyclic_session (by decide) ha.1, if_neg (by decide), if_pos rfl]
  refine done_next hc.1 ?_ hq rfl
  exact congrArg (fun t => done s (whenWf (.keepalive d) s t)) heffect

/-- The session after the reply to its CLOSE has left. -/
def closeReplied (s : State) (i : Nat) (ss : Session) : State :=
  sendReply (s.setSlot i (.opened (arrived ss ⟨ss.expect, mkClose, []⟩))) i
    { arrived ss ⟨ss.expect, mkClose, []⟩ with ready := [] } ss.expect []

theorem serveStep_close (ha : AtRest s d i ss) :
    serveStep (s.setSlot i (.opened (arrived ss ⟨ss.expect, mkClose, []⟩))) i = some (endSession (closeReplied s i ss) i) := by
  obtain ⟨-, -, -, -, -, hinflight, -, hclosing⟩ := ha
  unfold serveStep
  rw [setSlot_read_self]
  simp [arrived, hinflight, hclosing, closeRequest, closeReplied, mkClose, mkCommit, mkRevoke]

/-- CLOSE is replied to, and its session ends. -/
theorem close_ends (hs : Serving s) (hq : Calm s) (hr : reaches s d = true) (ha : AtRest s d i ss) (hc : Carries d mkClose ss.sid ss.expect []) :
    Completes (.close d) s fun t => t.slot i = .free ∧ t.n 0 (0x002500 + i) = 0xFFFFFFFF
      ∧ t.sent = lfpSent ss.src mkReply 0 ss.sid ss.expect [] :: s.sent := by
  obtain ⟨x, hopen⟩ : ∃ x, (closeReplied s i ss).slot i = .opened x := ⟨_, (emit_at_slot ..).trans (setSlot_read_self ..)⟩
  have hothers : ∀ j, j ≠ i → calmSlot ((closeReplied s i ss).slot j) = true := by
    intro j hj
    unfold closeReplied sendReply
    rw [emit_at_slot, setSlot_read, if_neg hj.symm, setSlot_read, if_neg hj.symm]
    exact hq.1 j
  have hcalm := endSession_calm hothers hq.2.1 hq.2.2 hopen
  exact ⟨_, request_next hs hq hr ha hc (by decide) rfl rfl (serveStep_close ha) hcalm (endSession_only ..).pending,
    endSession_frees hopen, endSession_mask hopen, (endSession_only ..).sent⟩

/-- A session's timeout ends it. -/
theorem sessionTimeout_ends (hs : Serving s) (hq : Calm s) (h : s.slot i = .opened ss) (hi : i < 16) :
    Completes (.sessionTimeout i) s fun t => t.slot i = .free ∧ t.n 0 (0x002500 + i) = 0xFFFFFFFF ∧ ∀ e ∈ t.events, i ∉ e.holders := by
  have hcalm := endSession_calm (fun j _ => hq.1 j) hq.2.1 hq.2.2 h
  refine ⟨endSession s i, done_next (decide_eq_true hi) ?_ hcalm (endSession_only s i).pending, endSession_frees h, endSession_mask h,
    endSession_releases h⟩
  have heffect : whenKeeper s (sessionExpires s i) = endSession s i := by
    rw [whenKeeper_of hs]
    unfold sessionExpires
    rw [h]
  rw [← heffect]
  rfl

/-- NetApply: the stored settings in force, and no session left. -/
theorem netApply_applies {w : Write} {row : ObjRow} (hs : Serving s) (hq : Calm s) (hp : Passes s 0x104 w row) (hu : w.unit = 0) (ho : w.origin = none) :
    Completes (.netApply w) s fun t => t.ipv4 = s.n 0 0x010100
      ∧ (s.n 0 0x010100 ≠ 0 → t.netMask = s.n 0 0x010200 ∧ t.gateway = s.n 0 0x010300)
      ∧ (s.n 0 0x010100 = 0 → t.netMask = 0xFFFF0000 ∧ t.gateway = 0) ∧ t.lfpPort = s.n 0 0x010000 ∧ ∀ j < 16, ∀ x, t.slot j ≠ .opened x := by
  obtain ⟨hslots, hrst, hpending⟩ := netUp_keeps s
  have hup : Calm (netUp s) := hq.of_eq hslots hrst
  have heffect : directWrite s 0x104 w = (List.range 16).foldl endSession (netUp s) := by
    have hroot : rootWrite s 0x104 w = some (withOk (netApply s w.origin)) := rfl
    rw [directWrite_apply hs hp hu (.inl rfl) hroot, if_neg (by decide), ho, netApply_none, replyWith_withOk, answerSt_none]
  have hexec : exec (.netApply w) s = done s (whenWf (.netApply w) s (directWrite s 0x104 w)) := rfl
  rw [heffect] at hexec
  have hw : (Instr.netApply w).wf = true := hp.wf
  have hnext := done_next hw hexec (endAll_calm hup) ((endAll_only _).pending.trans hpending)
  obtain ⟨hip, hmask, hgateway, hport⟩ := (endAll_only (netUp s)).network
  refine ⟨_, hnext, ?_⟩
  simp only [hip, hmask, hgateway, hport]
  obtain ⟨hip, hown, hbare, hport⟩ := netUp_settings s
  exact ⟨hip, hown, hbare, hport, fun j hj => endAll_closed (netUp s) hj⟩

end

/-- Settles O11: KEEPALIVE, CLOSE, the timeout, and NetApply given by no session. -/
theorem sessionsEnd : Obligations.SessionsEnd := by
  intro s d i ss hs hq
  exact ⟨fun hr ha => ⟨fun _ _ hc => keepalive_next hs hq hr ha hc, fun hc => close_ends hs hq hr ha hc⟩,
    fun h hi => sessionTimeout_ends hs hq h hi, fun _ _ hp hu ho => netApply_applies hs hq hp hu ho⟩

end Sys2Proof.Proofs
end

section
/-! SUPPORT. The service of a request of one item (02 R42 to R46): from its arrival at a session at rest to its REPLY, or to the queue or the
journal in which its write waits. -/

namespace Sys2Proof.Machine

/-! ### A session's slot put twice -/

theorem mapIns_mapIns {α : Type} (m : NMap α) (k : Nat) (v v' : α) : mapIns (mapIns m k v) k v' = mapIns m k v' := by
  induction m with
  | nil => simp [mapIns]
  | cons e r ih =>
    obtain ⟨a, x⟩ := e
    by_cases hlt : k < a
    · simp [mapIns, hlt]
    · by_cases heq : k = a
      · simp [mapIns, heq]
      · simp [mapIns, hlt, heq, ih]

theorem setSlot_opened_twice (s : State) (i : Nat) (x y : Session) :
    (s.setSlot i (.opened x)).setSlot i (.opened y) = s.setSlot i (.opened y) := by
  unfold State.setSlot mapPut
  simp only [reduceCtorEq, if_false, mapIns_mapIns]

/-! ### Replies -/

section
variable {s t : State} {d : Dgram} {i : Nat} {ss : Session}

/-- The session at rest with its one request of one item in service, whose item shows these types. -/
def served (ss : Session) (types : List Nat) : Session :=
  { ss with expect := (ss.expect + 1) % 2 ^ 32, inflight := [{ req := ss.expect, items := [none], types := types }] }

/-- The origin of the only item of the expected request. -/
def firstItem (i : Nat) (ss : Session) : Origin := { slot := i, sid := ss.sid, req := ss.expect, item := 0 }

theorem served_calm (hq : Calm s) (ha : AtRest s d i ss) (types : List Nat) : Calm (s.setSlot i (.opened (served ss types))) := by
  obtain ⟨-, -, -, -, hready, -, -, hclosing⟩ := ha
  exact hq.setSlot i (by simp [calmSlot, served, hready, hclosing])

/-- The answer to the only item of the request in service is its REPLY; an OK shows the type (Table 2-4). -/
theorem answer_replies {types : List Nat} {r q : ItemReply} (ha : AtRest s d i ss) (ht : t.slot i = .opened (served ss types)) (hsent : t.sent = s.sent)
    (hr : (if r.status = 0 ∧ r.type = 0 then { r with type := types.getD 0 0 } else r) = q) :
    Replied s i ss (itemBytes q) (answer t (some (firstItem i ss)) r) := by
  obtain ⟨-, -, -, -, -, hinflight, -, -⟩ := ha
  have hanswer : answer t (some (firstItem i ss)) r =
      sendReply t i { served ss types with inflight := [{ req := ss.expect, items := [some q], types := types }] } ss.expect [q] := by
    subst hr
    simp [answer, firstItem, ht, served, allItems]
  rw [hanswer]
  unfold sendReply
  rw [List.flatMap_singleton]
  refine ⟨(emit_at_slot ..).trans ((setSlot_read_self ..).trans ?_), congrArg (_ :: ·) hsent⟩
  have hdone : [({ req := ss.expect, items := [some q], types := types } : Request)].filter (fun x => x.req != ss.expect) = ss.inflight := by
    simp [hinflight]
  dsimp only
  rw [hdone]
  rfl

theorem answerSt_replies {types : List Nat} {n : Nat} (ha : AtRest s d i ss) (ht : t.slot i = .opened (served ss types)) (hsent : t.sent = s.sent)
    (hn : n ≠ 0) : Replied s i ss (itemBytes { status := n }) (answerSt t (some (firstItem i ss)) n) :=
  answer_replies ha ht hsent (if_neg fun h => hn h.1)

theorem answerSt_ok_replies {type : Nat} (ha : AtRest s d i ss) (ht : t.slot i = .opened (served ss [type])) (hsent : t.sent = s.sent) :
    Replied s i ss (itemBytes { status := stOk, type := type }) (answerSt t (some (firstItem i ss)) stOk) :=
  answer_replies ha ht hsent (if_pos ⟨rfl, rfl⟩)

/-! ### One item taken into service -/

/-- The kinds of request that carry items. -/
def itemKinds : List Nat := [mkRead, mkWrite, mkStage]

theorem itemKinds_carry : ∀ k ∈ itemKinds, k ≠ mkCommit ∧ k ≠ mkRevoke ∧ k ≠ mkClose := by decide

theorem takeItem_arrived (ha : AtRest s d i ss) (k type : Nat) (payload : Bytes) :
    takeItem (arrived ss ⟨ss.expect, k, payload⟩) ⟨ss.expect, k, payload⟩ 1 type = served ss [type] := by
  obtain ⟨-, -, -, -, hready, hinflight, hnext, -⟩ := ha
  simp [takeItem, arrived, served, hinflight, hnext, hready]

/-- With nothing in service no item waits for an earlier one. -/
theorem itemWaits_arrived (ha : AtRest s d i ss) (k : Nat) (payload : Bytes) (it : Item) (c : Checked) :
    itemWaits t i (arrived ss ⟨ss.expect, k, payload⟩) 1 k it (.ok c) = false := by
  obtain ⟨-, -, -, -, -, hinflight, hnext, -⟩ := ha
  unfold itemWaits unresolved
  cases k == mkRead <;> simp [arrived, hinflight, hnext]

/-- The request of one item that passes its checks is taken, and its item served. -/
theorem serveStep_item {k : Nat} {payload : Bytes} {it : Item} {c : Checked} (hk : k ∈ itemKinds) (ha : AtRest s d i ss)
    (hc : Accepted s i ss k payload it c) : serveStep (s.setSlot i (.opened (arrived ss ⟨ss.expect, k, payload⟩))) i =
      some (itemServe (s.setSlot i (.opened (served ss [c.row.ty.code]))) i 0 (served ss [c.row.ty.code]) ⟨ss.expect, k, payload⟩ it (.ok c)) := by
  obtain ⟨hcommit, hrevoke, hclose⟩ := itemKinds_carry k hk
  obtain ⟨hparse, hcheck⟩ := hc
  have htake := takeItem_arrived ha k c.row.ty.code payload
  have hwaits := itemWaits_arrived (t := s.setSlot i (.opened (arrived ss ⟨ss.expect, k, payload⟩))) ha k payload it c
  obtain ⟨-, -, -, -, -, -, hnext, hclosing⟩ := ha
  have hready : (arrived ss ⟨ss.expect, k, payload⟩).ready = [⟨ss.expect, k, payload⟩] := rfl
  have hclosing' : (arrived ss ⟨ss.expect, k, payload⟩).closing = false := hclosing
  have hnext' : (arrived ss ⟨ss.expect, k, payload⟩).next = 0 := hnext
  unfold serveStep
  rw [setSlot_read_self]
  simp only [hready, hclosing', hnext', hcommit, hrevoke, hclose, hparse, hcheck, hwaits, typeShown, htake, setSlot_opened_twice,
    List.getElem?_cons_zero, List.length_singleton, Bool.false_eq_true, false_and, or_self, if_false]

/-- A request that does not split into items is answered as a whole (R410). -/
theorem serveStep_malformed {k : Nat} {payload : Bytes} (hk : k ∈ itemKinds) (ha : AtRest s d i ss) (hp : parseItems (k == mkRead) payload = none) :
    serveStep (s.setSlot i (.opened (arrived ss ⟨ss.expect, k, payload⟩))) i =
      some (answerSt (s.setSlot i (.opened (served ss []))) (some (firstItem i ss)) stBadRequest) := by
  obtain ⟨hcommit, hrevoke, hclose⟩ := itemKinds_carry k hk
  obtain ⟨-, -, -, -, hready, hinflight, hnext, hclosing⟩ := ha
  unfold serveStep
  rw [setSlot_read_self]
  simp [arrived, served, firstItem, takeWhole, hclosing, hcommit, hrevoke, hclose, hp, hinflight, hready, setSlot_opened_twice]

/-! ### What the item's service does -/

/-- A READ item whose bytes fit shows the type and the bytes of its object (R45). -/
theorem itemServe_read {payload : Bytes} {it : Item} {c : Checked} {b : Bytes} (ho : it.obj ≠ 0xE21) (hb : readData t i c it = b) (hl : b.length ≤ 1444) :
    itemServe t i 0 (served ss [c.row.ty.code]) ⟨ss.expect, mkRead, payload⟩ it (.ok c) =
      answer t (some (firstItem i ss)) { status := stOk, type := c.row.ty.code, data := b } := by
  have hread : readServe t i ss.expect (served ss [c.row.ty.code]) 0 c it = ({ status := stOk, type := c.row.ty.code, data := b }, t) := by
    unfold readServe
    simp only [if_neg ho, hb]
    rw [if_neg]
    simp [served, replyUsed]
    omega
  show answer (readServe t i ss.expect (served ss [c.row.ty.code]) 0 c it).2 (some (firstItem i ss)) (readServe t i ss.expect (served ss [c.row.ty.code]) 0 c it).1 = _
  rw [hread]

/-- A WRITE item is taken as the write it makes. -/
theorem itemServe_write {payload : Bytes} {types : List Nat} {it : Item} {c : Checked} :
    itemServe t i 0 (served ss types) ⟨ss.expect, mkWrite, payload⟩ it (.ok c) = writeServe t c.store it.obj c.row (itemWrite i ss c it) := rfl

theorem itemServe_stage {payload : Bytes} {types : List Nat} {it : Item} {c : Checked} :
    itemServe t i 0 (served ss types) ⟨ss.expect, mkStage, payload⟩ it (.ok c) = replyWith (some (firstItem i ss)) (stageServe t c it (firstItem i ss)) := rfl

end

section
variable {s : State} {u o : Nat} {row : ObjRow} {w : Write}

/-- A check that a chain of checks has passed. -/
theorem ok_of_ite_error {α : Type} {p : Prop} [Decidable p] {e : Nat} {x : Except Nat α} {c : α} (h : (if p then .error e else x) = .ok c) :
    x = .ok c := by
  split at h
  · cases h
  · exact h

/-- What a WRITE item that passes its checks names is an object of its unit. -/
theorem checkItem_names {slot : Nat} {ss : Session} {it : Item} {c : Checked} (h : checkItem s slot ss .write it = .ok c) :
    ∃ k, kindOf c.store = some k ∧ objAt s c.store k it.obj = some c.row := by
  by_cases hm : itemMalformed (ReqKind.write == .stage) it = true
  · rw [checkItem, if_pos hm] at h
    cases h
  rw [checkItem, if_neg hm] at h
  cases hres : resolve s it.path with
  | bad => rw [hres] at h; cases h
  | remote cl x => rw [hres] at h; cases h
  | unit u via =>
    rw [hres] at h
    dsimp only at h
    cases hrow : (kindOf (storeOf s u it.obj)).bind (objAt s (storeOf s u it.obj) · it.obj) with
    | none => rw [hrow] at h; cases h
    | some row =>
      rw [hrow] at h
      dsimp only at h
      iterate 13 replace h := ok_of_ite_error h
      cases h
      exact Option.bind_eq_some_iff.mp hrow

theorem PlainObject.obj_ne_pdMapApply {s' : State} {k : UKind} (h : PlainObject s u o row w) (hk : kindOf u = some k) (ho : objAt s' u k o = some row) :
    o ≠ 0x144 := by
  rintro rfl
  obtain rfl := kind_of_pdMapApply ho
  exact Option.some_ne_none _ (h.1 (eq_zero_of_kindOf_root hk)).2

theorem writeServe_plain (h : PlainObject s u o row w) (hr : ownRefusal s u o row w = none) (ho : o ≠ 0x144) (hu : cellServed u = false)
    (hj : row.jour = false) : writeServe s u o row w = answerSt (plainWrite s u o row w) w.origin stOk := by
  unfold writeServe
  rw [takeWrite_plain h hr hu hj, if_neg ho, replyWith_withOk]

theorem writeServe_journaled (h : PlainObject s u o row w) (hr : ownRefusal s u o row w = none) (ho : o ≠ 0x144) (hj : row.jour = true)
    (hf : journalFull s [writeRecord u o row w] = false) : writeServe s u o row w = journal s [writeRecord u o row w] (.write o w none) := by
  unfold writeServe
  rw [takeWrite_journaled hr ((journalTxn_plain h none).trans (if_pos hj)) hf, if_neg ho]
  rfl

theorem setWrites_at_slot (s : State) (l : List QWrite) (x : Nat) : State.slot { s with writes := l } x = s.slot x := rfl

/-- A write that is not journaled, on a unit that a cell serves, waits for its cell (01 OP1). -/
theorem writeServe_queued (h : PlainObject s u o row w) (hr : ownRefusal s u o row w = none) (ho : o ≠ 0x144) (hu : cellServed u = true)
    (hj : row.jour = false) : writeServe s u o row w = { s with writes := s.writes ++ [{ obj := o, w := w }] } := by
  have ht := (journalTxn_plain h none).trans (if_neg (by rw [hj]; decide))
  obtain ⟨-, -, -, -, -, hc0a, hc0b, h301, -, -, hdrain, hreset⟩ := h
  unfold writeServe
  simp [takeWrite, ht, hr, lowerCode, hc0a, hc0b, h301, hu, hdrain, hreset, ho, replyWith]

/-- A STAGE item that nothing refuses hands its record to the journal (04 R109). -/
theorem stageServe_journals {i : Nat} {ss : Session} {it : Item} {c : Checked} {r : JRecord}
    (hrec : r = { writeRecord c.store it.obj c.row (itemWrite i ss c it) with space := 1, job := it.job, path := it.path }) (hn : c.remote = false)
    (hown : stageOwn s c.store it.obj it.data = none) (href : stageRefusal s it.job it.path it.obj it.elem it.data = none)
    (hf : journalFull s [r] = false) : stageServe s c it (firstItem i ss) =
      (none, journal s [r] (.stage it.job it.path c.store it.obj { itemWrite i ss c it with unit := c.unit })) := by
  have hfull : fullRefusal s [r] = none := by unfold fullRefusal; rw [hf]; rfl
  subst hrec
  unfold itemWrite at hfull ⊢
  unfold stageServe firstItem
  simp only [hown, href, hfull, hn, lowerCode, Bool.false_eq_true, if_false]

end
end Sys2Proof.Machine

namespace Sys2Proof.Proofs
open Sys2Proof.Machine

section
variable {s : State} {d : Dgram} {i : Nat} {ss : Session} {payload : Bytes} {it : Item} {c : Checked}

/-- READ replies with the type and the bytes of its object. -/
theorem read_replies {b : Bytes} (hs : Serving s) (hq : Calm s) (hr : reaches s d = true) (ha : AtRest s d i ss)
    (hm : Carries d mkRead ss.sid ss.expect payload) (hc : Accepted s i ss mkRead payload it c) (ho : it.obj ≠ 0xE21)
    (hb : readData (s.setSlot i (.opened (served ss [c.row.ty.code]))) i c it = b) (hl : b.length ≤ 1444) :
    Completes (.read d) s (Replied s i ss (itemBytes { status := stOk, type := c.row.ty.code, data := b })) := by
  have hstep := serveStep_item (by decide) ha hc
  rw [itemServe_read ho hb hl] at hstep
  refine ⟨_, request_next hs hq hr ha hm (by decide) rfl rfl hstep ((served_calm hq ha _).answer ..) (Within.answer ..).pending,
    answer_replies ha (setSlot_read_self ..) rfl ?_⟩
  split <;> rfl

/-- A request of items that does not split is answered BAD_REQUEST. -/
theorem malformed_replies {k : Nat} {n : Instr} (hk : k ∈ itemKinds) (hs : Serving s) (hq : Calm s) (hr : reaches s d = true) (ha : AtRest s d i ss)
    (hw : n.wf = wfDgram d) (hx : exec n s = done s (whenWf n s (lfpCommand k s d default))) (hp : parseItems (k == mkRead) payload = none)
    (hm : Carries d k ss.sid ss.expect payload) : Completes n s (Replied s i ss (itemBytes { status := stBadRequest })) := by
  have hreq : k ∈ requestKinds := (by decide : ∀ k ∈ itemKinds, k ∈ requestKinds) k hk
  exact ⟨_, request_next hs hq hr ha hm hreq hw hx (serveStep_malformed hk ha hp) ((served_calm hq ha _).answer ..) (Within.answerSt ..).pending,
    answerSt_replies ha (setSlot_read_self ..) rfl (by decide)⟩

/-- A WRITE comes to the taking of its write. -/
theorem write_next {t : State} (hs : Serving s) (hq : Calm s) (hr : reaches s d = true) (ha : AtRest s d i ss)
    (hm : Carries d mkWrite ss.sid ss.expect payload) (hc : Accepted s i ss mkWrite payload it c)
    (ht : writeServe (s.setSlot i (.opened (served ss [c.row.ty.code]))) c.store it.obj c.row (itemWrite i ss c it) = t) (hcalm : Calm t)
    (hp : t.pending = s.pending) : exec (.write d) s = .next t := by
  have hstep := serveStep_item (by decide) ha hc
  rw [itemServe_write, ht] at hstep
  exact request_next hs hq hr ha hm (by decide) rfl rfl hstep hcalm hp

section
variable (hs : Serving s) (hq : Calm s) (hr : reaches s d = true) (ha : AtRest s d i ss)
  (hm : Carries d mkWrite ss.sid ss.expect payload) (hc : Accepted s i ss mkWrite payload it c)
  (hown : ownRefusal (s.setSlot i (.opened (served ss [c.row.ty.code]))) c.store it.obj c.row (itemWrite i ss c it) = none)
  (hplain : PlainObject (s.setSlot i (.opened (served ss [c.row.ty.code]))) c.store it.obj c.row (itemWrite i ss c it))
include hs hq hr ha hm hc hown hplain

/-- A scalar with no behaviour of its own, on a unit that no cell serves, is stored and replied to. -/
theorem write_stores (hj : c.row.jour = false) (hu : cellServed c.store = false) (hsc : c.row.ty.scalar = true) :
    Completes (.write d) s fun t => Replied s i ss (itemBytes { status := stOk, type := c.row.ty.code }) t
      ∧ t.i c.store (it.obj * 256 + it.elem) = decodeNum c.row.ty it.data := by
  obtain ⟨k, hk, ho⟩ := checkItem_names hc.2
  have ht := writeServe_plain hplain hown (hplain.obj_ne_pdMapApply hk ho) hu hj
  rw [plainWrite_scalar hsc] at ht
  exact ⟨_, write_next hs hq hr ha hm hc ht (((served_calm hq ha _).setV ..).answer ..) (((Within.setV ..).trans (.answerSt ..)).pending.trans (setSlot_pending ..)),
    answerSt_ok_replies ha ((setV_at_slot ..).trans (setSlot_read_self ..)) ((setV_sent ..).trans (setSlot_sent ..)), answered_setV_i ..⟩

/-- A journaled one is handed to the journal first. -/
theorem write_journals (hj : c.row.jour = true)
    (hf : journalFull (s.setSlot i (.opened (served ss [c.row.ty.code]))) [writeRecord c.store it.obj c.row (itemWrite i ss c it)] = false) :
    Completes (.write d) s fun t => t.slot i = .opened (served ss [c.row.ty.code])
      ∧ t.journal.queue = s.journal.queue ++ [⟨[writeRecord c.store it.obj c.row (itemWrite i ss c it)], .write it.obj (itemWrite i ss c it) none⟩]
      ∧ t.dict = s.dict := by
  obtain ⟨k, hk, ho⟩ := checkItem_names hc.2
  have ht := writeServe_journaled hplain hown (hplain.obj_ne_pdMapApply hk ho) hj hf
  exact ⟨_, write_next hs hq hr ha hm hc ht ((served_calm hq ha _).journal ..) rfl, (journal_at_slot ..).trans (setSlot_read_self ..), rfl, rfl⟩

/-- One on a unit that a cell serves waits for its cell. -/
theorem write_waits (hj : c.row.jour = false) (hu : cellServed c.store = true) :
    Completes (.write d) s fun t => t.slot i = .opened (served ss [c.row.ty.code])
      ∧ t.writes = s.writes ++ [{ obj := it.obj, w := itemWrite i ss c it }] ∧ t.dict = s.dict := by
  obtain ⟨k, hk, ho⟩ := checkItem_names hc.2
  have ht := writeServe_queued hplain hown (hplain.obj_ne_pdMapApply hk ho) hu hj
  exact ⟨_, write_next hs hq hr ha hm hc ht ((served_calm hq ha _).of_eq rfl rfl) rfl, (setWrites_at_slot ..).trans (setSlot_read_self ..), rfl, rfl⟩

end

/-- STAGE hands its record to the journal. -/
theorem stage_journals {r : JRecord} (hs : Serving s) (hq : Calm s) (hr : reaches s d = true) (ha : AtRest s d i ss)
    (hm : Carries d mkStage ss.sid ss.expect payload) (hc : Accepted s i ss mkStage payload it c)
    (hrec : r = { writeRecord c.store it.obj c.row (itemWrite i ss c it) with space := 1, job := it.job, path := it.path }) (hn : c.remote = false)
    (hown : stageOwn (s.setSlot i (.opened (served ss [c.row.ty.code]))) c.store it.obj it.data = none)
    (href : stageRefusal (s.setSlot i (.opened (served ss [c.row.ty.code]))) it.job it.path it.obj it.elem it.data = none)
    (hf : journalFull (s.setSlot i (.opened (served ss [c.row.ty.code]))) [r] = false) :
    Completes (.stage d) s fun t => t.slot i = .opened (served ss [c.row.ty.code]) ∧ t.jobs = s.jobs
      ∧ t.journal.queue = s.journal.queue ++ [⟨[r], .stage it.job it.path c.store it.obj { itemWrite i ss c it with unit := c.unit }⟩] := by
  have hstep := serveStep_item (by decide) ha hc
  rw [itemServe_stage, stageServe_journals hrec hn hown href hf] at hstep
  exact ⟨_, request_next hs hq hr ha hm (by decide) rfl rfl hstep ((served_calm hq ha _).journal ..) rfl, (journal_at_slot ..).trans (setSlot_read_self ..), rfl, rfl⟩

end

/-- Settles O12: READ, the three ways of a WRITE, STAGE, and requests that do not split. -/
theorem requestsServed : Obligations.RequestsServed := by
  intro s d i ss payload it c hs hq hr ha
  refine ⟨fun hm hc ho hl => read_replies hs hq hr ha hm hc ho rfl hl, fun hm hc hown hplain => ⟨?_, ?_, ?_⟩,
    fun hm hc hn hown href hf => stage_journals hs hq hr ha hm hc rfl hn hown href hf,
    fun hp hm => malformed_replies (by decide) hs hq hr ha rfl rfl hp hm, fun hp hm => malformed_replies (by decide) hs hq hr ha rfl rfl hp hm⟩
  · exact write_stores hs hq hr ha hm hc hown hplain
  · exact write_journals hs hq hr ha hm hc hown hplain
  · exact write_waits hs hq hr ha hm hc hown hplain

end Sys2Proof.Proofs
end

section
/-! SUPPORT. Waggles (02 R55 to R59): acknowledgement, the window, repetition and the GAP of lost events. -/

namespace Sys2Proof.Machine

section
variable {s : State} {i : Nat} {ss : Session}

/-! ### Acknowledgement (R56, R58) -/

/-- The session after an acknowledgement that advances. -/
def ackedTo (ss : Session) (a : Nat) : Session := { ss with acked := a, outstanding := ss.outstanding.filter fun o => precedes32 a o.1 }

theorem waggleAcked_eq {a : Nat} (h : precedes32 ss.acked a = true) : waggleAcked s i ss a =
    releaseEvents (s.setSlot i (.opened (ackedTo ss a))) i fun e => (ss.outstanding.filter fun o => !precedes32 a o.1).any fun o => o.2 == e.serial := by
  unfold waggleAcked
  rw [h]
  rfl

/-- The events that it reaches are let go. -/
theorem waggleAcked_releases {a : Nat} {e : QEvent} (h : precedes32 ss.acked a = true) (he : e ∈ (waggleAcked s i ss a).events)
    (hr : ∃ n, (n, e.serial) ∈ ss.outstanding ∧ precedes32 a n = false) : i ∉ e.holders := by
  obtain ⟨n, hn, hreached⟩ := hr
  rw [waggleAcked_eq h] at he
  obtain ⟨x, -, hserial, hout⟩ := releaseEvents_holders he
  refine hout (List.any_eq_true.mpr ⟨(n, e.serial), List.mem_filter.mpr ⟨hn, by simp [hreached]⟩, ?_⟩)
  rw [hserial, beq_self_eq_true]

theorem waggleAcked_slot {a : Nat} (h : precedes32 ss.acked a = true) : (waggleAcked s i ss a).slot i = .opened (ackedTo ss a) := by
  rw [waggleAcked_eq h]
  exact setSlot_read_self s i (.opened (ackedTo ss a))

theorem waggleAcked_calm {a : Nat} (h : precedes32 ss.acked a = true) (hq : Calm s) (hi : s.slot i = .opened ss) :
    Calm (waggleAcked s i ss a) ∧ (waggleAcked s i ss a).pending = s.pending := by
  have hcalm : calmSlot (.opened (ackedTo ss a)) = true := (congrArg calmSlot hi).symm.trans (hq.1 i)
  rw [waggleAcked_eq h]
  exact ⟨(hq.setSlot i hcalm).of_eq rfl rfl, rfl⟩

/-! ### The window (R56) -/

/-- A number up to 32 after the last acknowledged one is in the window, and not acknowledged. -/
theorem window_open {a d : Nat} (h1 : 1 ≤ (d + 2 ^ 32 - a) % 2 ^ 32) (h32 : (d + 2 ^ 32 - a) % 2 ^ 32 ≤ 32) :
    precedes32 ((a + 32) % 2 ^ 32) d = false ∧ precedes32 a d = true := by
  unfold precedes32
  refine ⟨decide_eq_false ?_, decide_eq_true ?_⟩ <;> omega

/-- The next waggle leaves while the window lets it. -/
theorem waggleSendNext_sends {x : Nat} {rest : List Nat} {e : QEvent} (hi : s.slot i = .opened ss) (hu : ss.unsent = x :: rest)
    (he : s.events.find? (fun e => e.serial == x) = some e) (hw : precedes32 ((ss.acked + 32) % 2 ^ 32) ((ss.delivered + 1) % 2 ^ 32) = false)
    (hn : precedes32 ss.acked ((ss.delivered + 1) % 2 ^ 32) = true) : waggleSendNext s i = (s.setSlot i (.opened { ss with
        unsent := rest, delivered := (ss.delivered + 1) % 2 ^ 32, outstanding := ss.outstanding ++ [((ss.delivered + 1) % 2 ^ 32, x)] })).emit
      (lfpSent ss.src mkWaggle 0 ss.sid ((ss.delivered + 1) % 2 ^ 32) (wagglePayload e)) := by
  unfold waggleSendNext
  simp only [hi, hu, hw, he, hn, Bool.false_eq_true, if_false, if_true]

/-! ### Repetition (R56) -/

/-- The repetition of one unacknowledged waggle, whose event still stands in the queue. -/
def repeated (s : State) (ss : Session) (o : Nat × Nat) : Option Sent :=
  (s.events.find? fun e => e.serial == o.2).map fun e => lfpSent ss.src mkWaggle 1 ss.sid o.1 (wagglePayload e)

/-- One after another, what is repeated joins the log of what is sent. -/
theorem foldl_emit {α : Type} (f : α → Option Sent) (l : List α) (t : State) :
    l.foldl (fun t x => match f x with | some m => t.emit m | none => t) t = { t with sent := (l.filterMap f).reverse ++ t.sent } := by
  induction l generalizing t with
  | nil => rfl
  | cons a r ih =>
    rw [List.foldl_cons, ih]
    cases hf : f a with
    | none => rw [List.filterMap_cons_none hf]
    | some m => rw [List.filterMap_cons_some hf, List.reverse_cons, List.append_assoc]; rfl

theorem waggleResend_eq (hi : s.slot i = .opened ss) :
    waggleResend s i = { s with sent := (ss.outstanding.filterMap (repeated s ss)).reverse ++ s.sent } := by
  rw [← foldl_emit (repeated s ss) ss.outstanding s]
  unfold waggleResend
  rw [hi]
  dsimp only
  congr 1
  funext t o
  unfold repeated
  cases s.events.find? fun e => e.serial == o.2 <;> rfl

/-! ### GAP (R59) -/

/-- The queue with the GAP of one face's lost events, none of which waits any more. -/
def gapTaken (s : State) (u : Nat) (l : Lost) : State :=
  enqueueEvent { (takeFaceSeq s u).2 with lost := mapPut {} s.lost u {} } u 0x0001 (leBytes 2 l.first ++ leBytes 2 l.count) (mapGet 0 s.faceSeq u)
    (selectors s 0x0001)

/-- Up to 65,535 lost events of a face go into one GAP. -/
theorem gapsOf_one {u n : Nat} {l : Lost} (hl : mapGet {} s.lost u = l) (h1 : 1 ≤ l.count) (h2 : l.count ≤ 65535)
    (hq : queueUse s + gapBytes ≤ Config.eventQueueBytes) (hs : selectors s 0x0001 ≠ []) : gapsOf (n + 2) s u = (gapTaken s u l, true) := by
  have hmin : min l.count 65535 = l.count := Nat.min_eq_left h2
  have hpos : l.count ≠ 0 := by omega
  have hfit : ¬(Config.eventQueueBytes < queueUse s + gapBytes) := Nat.not_lt.mpr hq
  have hheld : ∀ (t : State), t.slots = s.slots → t.dict = s.dict → selectors t 0x0001 = selectors s 0x0001 := by
    intro t hslots hdict
    unfold selectors slotMask State.n State.i State.val State.slot
    rw [hslots, hdict]
  have hsome : (selectors s 0x0001).isEmpty = false := by simpa using hs
  have hfirst : gapsOf (n + 2) s u = gapsOf (n + 1) (gapTaken s u l) u := by
    rw [gapsOf]
    simp only [hl, hpos, hfit, hmin, if_false, if_true]
    rw [hheld _ rfl rfl, hsome]
    rfl
  have hnone : mapGet ({} : Lost) (gapTaken s u l).lost u = {} := mapGet_mapPut_self {} s.lost u {}
  rw [hfirst, gapsOf]
  simp only [hnone, if_true]

/-- With one face that has lost events, appending the GAPs appends its GAP. -/
theorem appendGaps_one {u : Nat} {l : Lost} (hl : s.lost = [(u, l)]) (h1 : 1 ≤ l.count) (h2 : l.count ≤ 65535)
    (hq : queueUse s + gapBytes ≤ Config.eventQueueBytes) (hs : selectors s 0x0001 ≠ []) : appendGaps s = gapTaken s u l := by
  have hget : mapGet {} s.lost u = l := by rw [hl]; simp [mapGet, mapFind]
  unfold appendGaps
  rw [hl, List.map_singleton, List.foldl_cons, List.foldl_nil, if_pos rfl, ← hl, hget, gapsOf_one hget h1 h2 hq hs]

end
end Sys2Proof.Machine

namespace Sys2Proof.Proofs
open Sys2Proof.Machine

section
variable {s : State} {i : Nat} {ss : Session}

/-- WAGGLE_ACK with a number that advances. -/
theorem waggleAck_releases {d : Dgram} {a : Nat} {payload : Bytes} (hs : Serving s) (hi : s.slot i = .opened ss) (hq : Calm s)
    (hr : reaches s d = true) (hc : Carries d mkWaggleAck ss.sid a payload) (hn : sessionOf s d.src ss.sid = some (i, ss))
    (ha : precedes32 ss.acked a = true) : Completes (.waggleAck d) s fun t => t.slot i = .opened (ackedTo ss a)
      ∧ ∀ e ∈ t.events, (∃ n, (n, e.serial) ∈ ss.outstanding ∧ precedes32 a n = false) → i ∉ e.holders := by
  have heffect : lfpCommand mkWaggleAck s d default = waggleAcked s i ss a := by
    rw [lfpCommand_carries hs hr hc (by decide), acyclic_session (by decide) hn, if_pos rfl]
  obtain ⟨hcalm, hpending⟩ := waggleAcked_calm ha hq hi
  refine ⟨waggleAcked s i ss a, done_next hc.1 ?_ hcalm hpending, waggleAcked_slot ha, fun e he => waggleAcked_releases ha he⟩
  exact congrArg (fun t => done s (whenWf (.waggleAck d) s t)) heffect

/-- The next waggle of a session leaves with the next number while the window lets it. -/
theorem waggleSend_sends {x : Nat} {rest : List Nat} {e : QEvent} (hs : Serving s) (hi : s.slot i = .opened ss) (hlt : i < 16)
    (hu : ss.unsent = x :: rest) (he : s.events.find? (fun e => e.serial == x) = some e)
    (h1 : 1 ≤ ((ss.delivered + 1) % 2 ^ 32 + 2 ^ 32 - ss.acked) % 2 ^ 32) (h32 : ((ss.delivered + 1) % 2 ^ 32 + 2 ^ 32 - ss.acked) % 2 ^ 32 ≤ 32) :
    exec (.waggleSend i) s = .next ((s.setSlot i (.opened { ss with
        unsent := rest, delivered := (ss.delivered + 1) % 2 ^ 32, outstanding := ss.outstanding ++ [((ss.delivered + 1) % 2 ^ 32, x)] })).emit
      (lfpSent ss.src mkWaggle 0 ss.sid ((ss.delivered + 1) % 2 ^ 32) (wagglePayload e))) := by
  obtain ⟨hopen, hnew⟩ := window_open h1 h32
  have hw : (Instr.waggleSend i).wf = true := decide_eq_true hlt
  change quiet s (whenWf (.waggleSend i) s (whenReady s (waggleSendNext s i))) = _
  rw [whenWf_of hw, whenReady_of hs, waggleSendNext_sends hi hu he hopen hnew]
  exact quiet_next rfl

/-- A repetition sends every unacknowledged waggle again, in order. -/
theorem waggleRepeat_resends (hs : Serving s) (hi : s.slot i = .opened ss) (hlt : i < 16) :
    exec (.waggleRepeat i) s = .next { s with sent := (ss.outstanding.filterMap (repeated s ss)).reverse ++ s.sent } := by
  have hw : (Instr.waggleRepeat i).wf = true := decide_eq_true hlt
  change quiet s (whenWf (.waggleRepeat i) s (whenReady s (waggleResend s i))) = _
  rw [whenWf_of hw, whenReady_of hs, waggleResend_eq hi]
  exact quiet_next rfl

/-- A GAP tells the events of a face that have been lost. -/
theorem gapAppend_appends {u : Nat} {l : Lost} (hs : Serving s) (hl : s.lost = [(u, l)]) (h1 : 1 ≤ l.count) (h2 : l.count ≤ 65535)
    (hq : queueUse s + gapBytes ≤ Config.eventQueueBytes) (hsel : selectors s 0x0001 ≠ []) :
    Completes .gapAppend s fun t => t.lost = [] ∧ ∃ e, t.events = s.events ++ [e] ∧ e.unit = u ∧ e.code = 0x0001
      ∧ e.data = leBytes 2 l.first ++ leBytes 2 l.count ∧ e.fseq = mapGet 0 s.faceSeq u ∧ e.holders = selectors s 0x0001 := by
  have hnext : exec .gapAppend s = .next (gapTaken s u l) := by
    change quiet s (whenWf .gapAppend s (whenReady s (appendGaps s))) = _
    rw [whenWf_of rfl, whenReady_of hs, appendGaps_one hl h1 h2 hq hsel]
    exact quiet_next rfl
  have hnone : mapPut {} s.lost u {} = [] := by rw [hl]; simp [mapPut, mapDel]
  exact ⟨_, hnext, hnone, _, rfl, rfl, rfl, rfl, rfl, rfl⟩

end

/-- Settles O13: acknowledgement, the next waggle, the repetition and the GAP. -/
theorem waggles : Obligations.Waggles := by
  intro s i ss hs hi hlt
  exact ⟨fun _ _ _ hq hr hc hn ha => waggleAck_releases hs hi hq hr hc hn ha, fun _ _ _ hu he h1 h32 => waggleSend_sends hs hi hlt hu he h1 h32,
    waggleRepeat_resends hs hi hlt, fun _ _ hl h1 h2 hq hsel => gapAppend_appends hs hl h1 h2 hq hsel⟩

end Sys2Proof.Proofs
end

section
/-! SUPPORT. PdMapApply with maps that are not valid (02 R62), and a state in which its refusal does more than answer. -/

namespace Sys2Proof.Machine

theorem keepNext_only (s : State) : ∃ b, keepNext s = { s with beat := b } := by
  unfold keepNext
  split
  · exact ⟨_, rfl⟩
  · exact ⟨s.beat, rfl⟩

theorem Calm.keepNext {s : State} (h : Calm s) : Calm (keepNext s) := by
  obtain ⟨b, he⟩ := keepNext_only s
  rw [he]
  exact h.of_eq rfl rfl

theorem keepNext_pending (s : State) : (keepNext s).pending = s.pending := by
  obtain ⟨b, he⟩ := keepNext_only s
  rw [he]

/-- A PdMapApply that is refused is answered; as after every PdMapApply, the image of maps that wait is formed where none has been. -/
theorem pdMapApply_refused {s : State} {w : Write} {row : ObjRow} (hs : Serving s) (hq : Calm s) (hp : Passes s 0x144 w row) (hu : w.unit = 0)
    (hm : mapOk s true (mapEntries s 0x140 0x142) = false) : exec (.pdMapApply w) s = .next (keepNext (answerSt s w.origin stMapInvalid)) := by
  have hroot : rootWrite s 0x144 w = some (some { status := stMapInvalid }, s) := by
    show some (pdMapApply s) = _
    unfold pdMapApply
    simp only [hm, Bool.not_false, Bool.true_or, if_true]
  have hexec : exec (.pdMapApply w) s = done s (whenWf (.pdMapApply w) s (directWrite s 0x144 w)) := rfl
  rw [directWrite_apply hs hp hu (.inr rfl) hroot, if_pos rfl] at hexec
  have hw : (Instr.pdMapApply w).wf = true := hp.wf
  exact done_next hw hexec (hq.answer ..).keepNext ((keepNext_pending _).trans (Within.answerSt ..).pending)

end Sys2Proof.Machine

namespace Sys2Proof.Proofs
open Sys2Proof.Machine

/-- A device in service whose receive map, of one entry, names object 0 with type 0; another transmit map, of one byte, waits for its cycle, and no
image of it has been formed. -/
def mapWaiting : State := { deviceUp with
  dict := [(keyOf 0 0x014200, .num 1)]
  beat := { deviceUp.beat with mapNext := some (0, [], [⟨0xFFFF, 0, 0, 2, 0⟩]) } }

/-- The write of 1 to PdMapApply, of no request. -/
def applyMaps : Write := { unit := 0, data := [1] }

/-- The row of PdMapApply. -/
def applyRow : ObjRow := (objRowOf .root 0x144).getD default

set_option maxRecDepth 100000 in
theorem applyMaps_passes : Passes mapWaiting 0x144 applyMaps applyRow := by
  have hrow : ((kindOf applyMaps.unit).bind fun k => objAt mapWaiting applyMaps.unit k 0x144) = some applyRow := by decide +kernel
  refine ⟨by decide +kernel, by decide, by decide +kernel, ?_, by decide +kernel⟩
  unfold directCheck
  rw [hrow]
  decide +kernel

set_option maxRecDepth 100000 in
theorem mapWaiting_invalid : mapOk mapWaiting true (mapEntries mapWaiting 0x140 0x142) = false := by decide +kernel

theorem mapWaiting_forms : (keepNext mapWaiting).beat.txNext = ([0], [0]) := by decide +kernel

/-- Refutes O14: the refusal of PdMapApply forms the image of maps that wait from before, where they wait with none (as a PdMapApply that came by the
receive map leaves them, `pdWrite`), so that its outcome is not the answer alone. -/
theorem not_processData : ¬ Obligations.ProcessData := by
  intro h
  obtain ⟨hs, hq⟩ : Serving mapWaiting ∧ Calm mapWaiting := deviceUp_of rfl rfl
  obtain ⟨-, happly, -⟩ := h mapWaiting hs
  obtain ⟨-, hrefused⟩ := happly applyMaps applyRow hq applyMaps_passes rfl
  have hclaimed := hrefused (.inl mapWaiting_invalid)
  rw [pdMapApply_refused hs hq applyMaps_passes rfl mapWaiting_invalid] at hclaimed
  have hsame : keepNext mapWaiting = mapWaiting := Host.Outcome.next.inj hclaimed
  have hformed := mapWaiting_forms
  rw [hsame] at hformed
  exact absurd hformed (by decide)

end Sys2Proof.Proofs
end

section
/-! SUPPORT. Stick counters (02 R69, R70): what their rows have in common, and the way of a write to one. -/

namespace Sys2Proof.Machine

/-! ### The rows of stick counters -/

/-- Objects that a rule of their own can refuse a write of (`ownRefusal`). -/
def refusingObjs : List Nat :=
  timingObjs ++ serialObjs ++ [0x501, 0x320, 0x312, 0x787, 0xF20, 0xF21, 0xF22, 0xF23, 0xF24, 0xF25, 0xF26, 0xF27, 0xF11, 0xB40, 0x1003, 0x420, 0x421,
    0x553, 0x550, 0x902, 0x930, 0xA10, 0xE01, 0xE03]

/-- Objects that a write reaches by a way of its own before it takes effect, and the words of CounterSaturation. -/
def wayObjs : List Nat := [0x010, 0x144, 0x301, 0xB00, 0xB02, 0xB10, 0xC0A, 0xC0B]

/-- A row as those of stick counters are: one object that no rule names, an unsigned number of any value that is read and written, and an element
range that no other counter of the object leaves. -/
def counterRow (r : ObjRow) : Bool :=
  r.acc == .rw && (r.ty == .u16 || r.ty == .u32) && r.rng.isEmpty && r.objHi == r.obj && (fixedSize r.obj).isNone && decide (r.obj < 0x2000 ∧ r.elHi < 256)
    && !refusingObjs.contains r.obj && !wayObjs.contains r.obj && allRows.all fun x => !(x.stick && x.obj == r.obj) || decide (r.elHi ≤ x.elHi)

set_option maxRecDepth 100000 in
theorem stick_rows_of_page : ∀ h < 0xC0, ((rowsOf (h * 256)).filter ObjRow.stick).all counterRow = true := by decide +kernel

/-- The rows that can name an object are those of its page. -/
theorem rowsOf_page (o : Nat) : rowsOf o = rowsOf (o / 256 * 256) := by
  unfold rowsOf
  rw [Nat.mul_div_cancel _ (by decide)]

/-- The facts of `counterRow` as propositions, for a counter and its element. -/
structure IsCounter (o e : Nat) (row : ObjRow) : Prop where
  acc : row.acc = .rw
  ty : row.ty = .u16 ∨ row.ty = .u32
  rng : row.rng = []
  unsized : fixedSize o = none
  obj_lt : o < 0x2000
  elem_lt : e < 256
  noRefusal : o ∉ refusingObjs
  noWay : o ∉ wayObjs
  elems : ∀ x ∈ allRows, x.stick = true → x.obj = o → e ≤ x.elHi

theorem isCounter_of_objAt {s : State} {u o e : Nat} {kd : UKind} {row : ObjRow} (ho : o < 0xC000) (hrow : objAt s u kd o = some row)
    (hst : row.stick = true) (he : e ≤ row.elHi) : IsCounter o e row := by
  have hfind : objRowOf kd o = some row := by
    unfold objAt at hrow
    rw [if_neg (by omega)] at hrow
    split at hrow
    · cases hrow
    · exact hrow
  have hmem := List.mem_of_find?_eq_some hfind
  rw [rowsOf_page] at hmem
  have hrange := List.find?_some hfind
  have hc := List.all_eq_true.mp (stick_rows_of_page (o / 256) (by omega)) row (List.mem_filter.mpr ⟨hmem, hst⟩)
  simp only [counterRow, Bool.and_eq_true, Bool.or_eq_true, Bool.not_eq_true', beq_iff_eq, decide_eq_true_eq, List.isEmpty_iff, Option.isNone_iff_eq_none,
    List.contains_eq_mem, decide_eq_false_iff_not, List.all_eq_true] at hc hrange
  obtain ⟨⟨⟨⟨⟨⟨⟨⟨hacc, hty⟩, hrng⟩, hhi⟩, hfix⟩, hlt⟩, href⟩, hway⟩, hel⟩ := hc
  obtain rfl : o = row.obj := by omega
  refine ⟨hacc, hty, hrng, hfix, hlt.1, by omega, href, hway, fun x hx hxs hxo => ?_⟩
  rcases hel x hx with h | h
  · simp [hxs, hxo] at h
  · omega

section
variable {s : State} {o e u : Nat} {row : ObjRow} {w : Write}

theorem IsCounter.scalar (h : IsCounter o e row) : row.ty.scalar = true := by
  rcases h.ty with ht | ht <;> rw [ht] <;> rfl

/-! ### Checks of a write -/

theorem rangeWords_zero (s : State) (u o : Nat) : rangeWords s u o 0 = true := by
  unfold rangeWords
  split <;> simp [show contiguousMask 0 = true by decide, show bitsOf 16 0 = [] by decide]

theorem IsCounter.typeOk (h : IsCounter o e row) (hd : w.data.length = row.ty.size) : typeOk row o 0 w.data.length = true := by
  unfold Machine.typeOk
  simp [h.unsized, h.scalar, hd]

/-- The only value in the range of a counter is 0 (R70). -/
theorem IsCounter.rangeOk (h : IsCounter o e row) (hst : row.stick = true) (s : State) (u : Nat) (b : Bytes) :
    Machine.rangeOk s u row o b = decide (decodeNum row.ty b = 0) := by
  have hr : Machine.rangeOk s u row o b = (decodeNum row.ty b == 0 && rangeWords s u o (decodeNum row.ty b)) := by
    unfold Machine.rangeOk
    rcases h.ty with ht | ht <;> simp [ht, hst, h.rng, Ty.scalar, Ty.size]
  rw [hr]
  by_cases h0 : decodeNum row.ty b = 0
  · simp [h0, rangeWords_zero]
  · simp [h0]

/-- A write to a counter comes to the check of its value. -/
theorem IsCounter.directCheck (h : IsCounter o w.elem row) {kd : UKind} (hk : kindOf u = some kd) (hrow : objAt s u kd o = some row)
    (hst : row.stick = true) (hlo : row.elLo ≤ w.elem) (hhi : w.elem ≤ row.elHi) (hoff : w.offset = 0) (hd : w.data.length = row.ty.size) :
    Machine.directCheck s u o w = if decodeNum row.ty w.data = 0 then .ok row else .error stRange := by
  have hel : ¬(w.elem < row.elLo ∨ row.elHi < w.elem) := by omega
  unfold Machine.directCheck
  simp only [hk, hrow, Option.bind_some, if_neg hel, h.acc, hoff, h.typeOk hd, h.rangeOk hst, sizeOk, h.scalar]
  by_cases h0 : decodeNum row.ty w.data = 0 <;> simp [h0]

theorem ownRefusal_none (h : o ∉ refusingObjs) (hlt : o < 0x2000) (s : State) (u : Nat) (row : ObjRow) (w : Write) : ownRefusal s u o row w = none := by
  simp only [refusingObjs, List.mem_append, List.mem_cons, List.not_mem_nil, or_false, not_or] at h
  obtain ⟨⟨htiming, hserial⟩, h⟩ := h
  have hroot : rootRefusal s o w = none := by
    have hcam : ¬(0x2000 ≤ o ∧ o < 0x2800) ∧ ¬(0x2C00 ≤ o ∧ o < 0x3000) ∧ ¬(0xF20 ≤ o ∧ o ≤ 0xF27) := by omega
    simp [rootRefusal, htiming, h, hcam]
  have hsleeve : sleeveRefusal s u o row w = none := by
    have hfeedback : o ≠ 0x500 := fun h' => hserial (h' ▸ by decide)
    simp [sleeveRefusal, hserial, h, hfeedback]
  unfold ownRefusal
  simp [hroot, hsleeve, h]

/-! ### The way of a write -/

theorem IsCounter.passes (h : IsCounter o w.elem row) {kd : UKind} (hk : kindOf w.unit = some kd) (hrow : objAt s w.unit kd o = some row)
    (hst : row.stick = true) (hlo : row.elLo ≤ w.elem) (hhi : w.elem ≤ row.elHi) (hw : wfWrite w = true) (hstore : storeOf s w.unit o = w.unit)
    (hoff : w.offset = 0) (hd : w.data.length = row.ty.size) (h0 : decodeNum row.ty w.data = 0) : Passes s o w row :=
  ⟨hw, by have := h.obj_lt; omega, hstore, (h.directCheck hk hrow hst hlo hhi hoff hd).trans (if_pos h0), ownRefusal_none h.noRefusal h.obj_lt ..⟩

/-- A write to a counter restarts it. -/
theorem IsCounter.writeEffect (h : IsCounter o e row) (hst : row.stick = true) (s : State) (u : Nat) (w : Write) :
    Machine.writeEffect s u o row w = withOk (clearStick s u (o * 256 + w.elem)) := by
  have hway := h.noWay
  simp only [wayObjs, List.mem_cons, List.not_mem_nil, or_false, not_or] at hway
  have hcommon : commonWrite s u o row w = some (withOk (clearStick s u (o * 256 + w.elem))) := by simp [commonWrite, hway, hst]
  unfold Machine.writeEffect
  rw [hcommon]
  rfl

theorem IsCounter.journalTxn (h : IsCounter o e row) (s : State) (u : Nat) (w : Write) :
    Machine.journalTxn s u o row w none = if row.jour then some ([writeRecord u o row w], .write o w none) else none := by
  have hway := h.noWay
  have href := h.noRefusal
  have hlt := h.obj_lt
  simp only [wayObjs, refusingObjs, List.mem_append, List.mem_cons, List.not_mem_nil, or_false, not_or] at hway href
  have hcam : ¬(0x2C00 ≤ o ∧ o < 0x3000) := by omega
  have hcmd : journaledCommand s o w = none := by simp [journaledCommand, hway, href, hcam]
  simp [Machine.journalTxn, hcmd, hway]

/-- One that is not journaled is cleared at once and answered, on every unit. -/
theorem IsCounter.directWrite (h : IsCounter o w.elem row) (hst : row.stick = true) (hs : Serving s) (hp : Passes s o w row) (hj : row.jour = false) :
    Machine.directWrite s o w = answerSt (clearStick s w.unit (o * 256 + w.elem)) w.origin stOk := by
  have hway := h.noWay
  simp only [wayObjs, List.mem_cons, List.not_mem_nil, or_false, not_or] at hway
  obtain ⟨-, h144, h301, -, -, -, hc0a, hc0b⟩ := hway
  rw [← replyWith_withOk, ← h.writeEffect hst]
  cases hu : cellServed w.unit with
  | true => exact directWrite_at_cell hs hp hu hj h301
  | false =>
    have ht := (h.journalTxn s w.unit w).trans (if_neg (by rw [hj]; decide))
    rw [directWrite_served hs hp (.inl hu), writeServe, takeWrite_at_once ht hp.own hu hc0a hc0b h301, if_neg h144]

/-! ### The counter after it -/

theorem bitOf_clrBit (v i : Nat) : bitOf (clrBit v i) i = false := by
  unfold clrBit
  split
  · next h =>
    have hdiv : (v - 2 ^ i) / 2 ^ i = v / 2 ^ i - 1 := by simpa using Nat.sub_mul_div v (2 ^ i) 1
    simp only [bitOf, beq_iff_eq, beq_eq_false_iff_ne] at h ⊢
    omega
  · next h => exact Bool.eq_false_iff.mpr h

/-- The counter of element k of unit u, one of kind kd, reads 0 and its bit in CounterSaturation is clear. -/
def CounterCleared (kd : UKind) (u o e : Nat) (t : State) : Prop :=
  t.n u (o * 256 + e) = 0 ∧ bitOf (t.n u (0x0B1000 + stickIndex kd o e / 32)) (stickIndex kd o e % 32) = false

theorem Within.clearStick (s : State) (u k : Nat) : Within s (clearStick s u k) := by
  unfold Machine.clearStick
  split
  · exact .refl s
  · exact (Within.setV ..).trans (.setV ..)

theorem IsCounter.cleared (h : IsCounter o e row) {kd : UKind} (hk : kindOf u = some kd) (s : State) (a : Option Origin) (n : Nat) :
    CounterCleared kd u o e (answerSt (clearStick s u (o * 256 + e)) a n) := by
  have hlt := h.obj_lt
  have helt := h.elem_lt
  have hi := (stickIndex_le kd o e h.elems).trans_lt satTotal_le
  have hne : o ≠ 0xB10 := fun h' => h.noWay (h' ▸ by decide)
  have hobj : (o * 256 + e) / 256 = o := by omega
  have helem : (o * 256 + e) % 256 = e := by omega
  have hkey : keyOf u (0x0B1000 + stickIndex kd o e / 32) ≠ keyOf u (o * 256 + e) := fun h' =>
    absurd ((keyOf_inj (by omega) (by omega)).mp h').2 (by omega)
  unfold CounterCleared clearStick
  simp only [answerSt_n, hk, hobj, helem, State.setN]
  refine ⟨?_, ?_⟩
  · rw [setV_n_ne _ _ hkey]
    exact setV_n_self ..
  · rw [setV_n_self, Int.toNat_natCast]
    exact bitOf_clrBit ..

end
end Sys2Proof.Machine

namespace Sys2Proof.Proofs
open Sys2Proof.Machine

section
variable {s : State} {o : Nat} {w : Write} {row : ObjRow} {kd : UKind}

/-- What COUNTER_CLEAR does to a counter is its write. -/
theorem counterClear_next {t : State} (hk : kindOf w.unit = some kd) (hrow : objAt s w.unit kd o = some row) (hst : row.stick = true)
    (ho : o < 65536) (hw : wfWrite w = true) (ht : directWrite s o w = t) (hcalm : Calm t) (hp : t.pending = s.pending) :
    exec (.counterClear o w) s = .next t := by
  have heffect : counterClear s o w = t := by simp [counterClear, hk, hrow, hst, ht]
  have hexec : exec (.counterClear o w) s = done s (whenWf (.counterClear o w) s (counterClear s o w)) := rfl
  rw [heffect] at hexec
  have hwf : (Instr.counterClear o w).wf = true := by
    show (decide (o < 65536) && wfWrite w) = true
    rw [hw, decide_eq_true ho]; rfl
  exact done_next hwf hexec hcalm hp

/-- Only a session at ENGINEER or SERVICE writes a counter. -/
theorem counter_levelCheck (h : IsCounter o w.elem row) (hst : row.stick = true) (slot level : Nat) (ho : o ≠ 0x025) :
    levelCheck slot level false .write row o w.elem = (level == 2 || level == 4) := by
  have hkey : o ≠ 0x010 := fun h' => h.noWay (h' ▸ by decide)
  simp [levelCheck, accAllows, h.acc, hst, ho, hkey]

/-- The effect of a journaled write, once its record has committed. -/
theorem counter_writeNow (h : IsCounter o w.elem row) (hk : kindOf w.unit = some kd) (hrow : objAt s w.unit kd o = some row) (hst : row.stick = true) :
    writeNow s w.unit o w = answerSt (clearStick s w.unit (o * 256 + w.elem)) w.origin stOk := by
  unfold writeNow
  simp only [hk, hrow, Option.bind_some, h.writeEffect hst, replyWith_withOk]

end

/-- Settles O17: who may write a counter, the refusal of every value but 0, and the clearing at once or through the journal. -/
theorem stickCounters : Obligations.StickCounters := by
  intro s o w row kd hk hrow hst hlo hhi hw ho hstore
  have hc := isCounter_of_objAt ho hrow hst hhi
  have hlt : o < 65536 := by omega
  refine ⟨fun slot level h25 => counter_levelCheck hc hst slot level h25, fun hs hq hoff hd h0 => ?_, fun hs hq hoff hd h0 => ⟨fun hj => ?_, fun hj hf => ⟨?_, ?_⟩⟩⟩
  · have hcheck := (hc.directCheck hk hrow hst hlo hhi hoff hd).trans (if_neg h0)
    exact counterClear_next hk hrow hst hlt hw (directWrite_refused hs hstore hcheck) (hq.answer ..) (Within.answerSt ..).pending
  · have hp := hc.passes hk hrow hst hlo hhi hw hstore hoff hd h0
    have hwithin := (Within.clearStick s w.unit (o * 256 + w.elem)).trans (.answerSt _ w.origin stOk)
    exact ⟨_, counterClear_next hk hrow hst hlt hw (hc.directWrite hst hs hp hj) (hq.within hwithin) hwithin.pending, hc.cleared hk ..⟩
  · have hp := hc.passes hk hrow hst hlo hhi hw hstore hoff hd h0
    have htxn := (hc.journalTxn s w.unit w).trans (if_pos hj)
    have h144 : o ≠ 0x144 := fun h' => hc.noWay (h' ▸ by decide)
    exact counterClear_next hk hrow hst hlt hw (directWrite_journaled hs hp (.inr hj) h144 htxn hf) (hq.journal ..) rfl
  · rw [counter_writeNow hc hk hrow hst]
    exact hc.cleared hk ..

end Sys2Proof.Proofs
end

section
/-! SUPPORT. What a step answers, and the cycle of the timing clock that an empty queue lets pass (03 R73, R76, R85). -/

namespace Sys2Proof.Machine

/-- Every command answers a next state: each meaning ends in `done`, `quiet` or a next state of its own. -/
theorem exec_answers (i : Instr) (s : State) : ∃ t, exec i s = .next t := by
  cases i <;> exact ⟨_, rfl⟩

theorem step_idle {s : State} (h : s.pending = []) : step s = .next (idleCycle s) := by
  unfold step
  rw [h]

theorem step_answers (s : State) : Steps s := by
  unfold Steps
  match h : s.pending with
  | [] => exact ⟨_, step_idle h⟩
  | c :: rest =>
    unfold step
    rw [h]
    exact exec_answers c _

/-! ### Messages and images that fall due in a cycle leave the clock alone -/

/-- The two counts that a cycle moves on: network time and powered time. -/
def clocks (s : State) : Nat × Nat := (s.time.counter, s.time.uptime)

theorem sendSync_clocks (s : State) (p : Nat) : clocks (sendSync s p) = clocks s := by
  unfold sendSync
  dsimp only
  split <;> rfl

/-- One kind of message, sent by each of its ports where its interval ends. -/
theorem clocks_of_sent {send : State → Nat → State} {count : TimeS → TimeS} (hsend : ∀ t p, clocks (send t p) = clocks t)
    (hcount : ∀ t, clocks (modTime t count) = clocks t) (due : Bool) (ports : List Nat) (s : State) :
    clocks (if due then modTime (ports.foldl send s) count else s) = clocks s := by
  split
  · exact (hcount _).trans (foldl_keeps clocks send ports s hsend)
  · rfl

theorem ptpDue_clocks (s : State) (a b : Nat) : clocks (ptpDue s a b) = clocks s :=
  calc clocks (ptpDue s a b)
    _ = _ := clocks_of_sent (send := sendDelayReq) (fun _ _ => rfl) (fun _ => rfl) ..
    _ = _ := clocks_of_sent (send := sendAnnounce) (fun _ _ => rfl) (fun _ => rfl) ..
    _ = clocks s := clocks_of_sent sendSync_clocks (fun _ => rfl) ..

theorem keepPast_time (s : State) : (keepPast s).time = s.time := by
  unfold keepPast
  split <;> rfl

theorem keepPast_of_still {s : State} (h : s.beat.running = false) : keepPast s = s := if_neg (by simp [h])

theorem idleCycle_clocks (s : State) : clocks (idleCycle s) = clocks (clockCycle s) := by
  unfold idleCycle
  dsimp only
  unfold clocks
  rw [keepPast_time]
  split
  · exact ptpDue_clocks ..
  · rfl

theorem idleCycle_of_still {s : State} (hphase : s.rst.phase ≠ .running) (h : s.beat.running = false) : idleCycle s = clockCycle s := by
  unfold idleCycle
  dsimp only
  rw [if_neg hphase]
  exact keepPast_of_still h

end Sys2Proof.Machine

namespace Sys2Proof.Proofs
open Sys2Proof.Machine

/-- Settles O2: by the commands' outcomes, and for an empty queue by the cycle of the clock. -/
theorem everyStepAnswers : Obligations.EveryStepAnswers := by
  intro s
  refine ⟨step_answers s, fun h => ⟨idleCycle s, step_idle h, ?_, ?_, fun hphase hstill => ?_⟩⟩
  · exact congrArg Prod.fst (idleCycle_clocks s)
  · exact congrArg Prod.snd (idleCycle_clocks s)
  · rw [idleCycle_of_still hphase hstill]
    rfl

end Sys2Proof.Proofs
end

section
/-! SUPPORT. The PTP messages that the device answers and forwards (03 R73 to R75): what each comes to where its mechanism is in use and it is heard. -/

namespace Sys2Proof.Machine

/-- A command that needs the dictionary, and whose effect nothing can wait for, completes in its effect. -/
theorem ready_next {i : Instr} {s t x : State} (hs : Serving s) (hw : i.wf = true) (he : x = t) (hx : exec i s = quiet s (whenWf i s (whenReady s x)))
    (hp : t.pending = s.pending) : exec i s = .next t := by
  rw [hx, whenWf_of hw, whenReady_of hs, he]
  exact quiet_next hp

theorem wf_port {m : PtpMsg} (h : m.port < 2) : wfPtp m = true := decide_eq_true h

section
variable {s : State} {m : PtpMsg} {t1 t2 t3 : Int}

/-- A message that is heard came over the transport in use, by which its answer leaves. -/
theorem overUdp_of_heard (h : heard s m = true) : overUdp s = m.udp := by
  unfold heard at h
  simp only [Bool.and_eq_true, beq_iff_eq] at h
  exact h.2.symm

/-! ### Link delay (R73, R74) -/

theorem pdelayReqMsg_turnaround (hp : peerDelay s = true) (hh : heard s m = true) (h2 : s.b 0 0x020700 = false) : pdelayReqMsg s m =
    s.emit (.ptp m.udp .pdelayResp m.port m.seq 0 (m.correction + ((now16 s + phyTx s m.port) - (m.stamp + phyRx s m.port)))) := by
  rw [← overUdp_of_heard hh]
  simp [pdelayReqMsg, hp, hh, h2, ptpSend]

theorem pdelayReqMsg_followUp (hp : peerDelay s = true) (hh : heard s m = true) (h2 : s.b 0 0x020700 = true) : pdelayReqMsg s m =
    (s.emit (.ptp m.udp .pdelayResp m.port m.seq (m.stamp + phyRx s m.port) 0)).emit
      (.ptp m.udp .pdelayRespFollowUp m.port m.seq (now16 s + phyTx s m.port) m.correction) := by
  rw [← overUdp_of_heard hh]
  simp [pdelayReqMsg, hp, hh, h2, ptpSend, overUdp]

/-- The link delay that a Pdelay_Resp gives: half of the round trip without the turnaround. -/
def linkDelayOf (s : State) (m : PtpMsg) (t1 t2 t3 : Int) : Int :=
  ((m.stamp + phyRx s m.port - (t1 + phyTx s m.port)) - (t3 - t2) - m.correction) / 2

theorem pdelayRespMsg_eq (hp : peerDelay s = true) (hh : heard s m = true) : pdelayRespMsg s m t1 t2 t3 =
    (modTime s fun t => { t with linkDelay := t.linkDelay.set m.port (linkDelayOf s m t1 t2 t3) }).setI 0 0x022700 (linkDelayOf s m t1 t2 t3) := by
  simp [pdelayRespMsg, hp, hh, linkDelayOf]

theorem linkDelay_shown {p : Nat} {d : Int} {v : Val} (hp : p < 2) (hlen : s.time.linkDelay.length = 2) :
    linkDelay ((modTime s fun t => { t with linkDelay := t.linkDelay.set p d }).setV 0 0x022700 v) p = d := by
  unfold linkDelay
  rw [setV_time, modTime_time, List.getD_eq_getElem?_getD, List.getElem?_set_self (by omega), Option.getD_some]

/-! ### Path delay (R73) -/

theorem delayReqMsg_eq (hr : s.n 0 0x020200 = 2) (he : s.n 0 0x020600 = 1) (hh : heard s m = true) :
    delayReqMsg s m = s.emit (.ptp m.udp .delayResp m.port m.seq (m.stamp + phyRx s m.port) m.correction) := by
  rw [← overUdp_of_heard hh]
  simp [delayReqMsg, hr, he, hh, ptpSend]

theorem delayRespMsg_eq (hr : s.n 0 0x020200 = 2) (he : s.n 0 0x020600 = 1) (hm : fromMaster s m = true) : delayRespMsg s m t1 t2 t3 =
    s.setI 0 0x022700 (((t2 + phyRx s m.port - t1) + (m.origin - (t3 + phyTx s m.port)) - m.correction) / 2) := by
  simp [delayRespMsg, hr, he, hm]

/-! ### Forwarding (R74) -/

theorem forwardMsg_eq {residence : Nat} (hr : s.n 0 0x020200 ≠ 2) : forwardMsg s m residence = s.emit (.ptp m.udp .forwarded (1 - m.port) m.seq m.origin
    (m.correction + (residence + phyTx s (1 - m.port) - phyRx s m.port) + linkDelay s m.port)) := if_neg hr

end

end Sys2Proof.Machine

namespace Sys2Proof.Proofs
open Sys2Proof.Machine

/-- A Pdelay_Resp gives the link delay of its port, and shows it. -/
theorem pdelayResp_measures {s : State} {m : PtpMsg} {t1 t2 t3 : Int} (hs : Serving s) (hport : m.port < 2) (hh : heard s m = true)
    (hp : peerDelay s = true) (hlen : s.time.linkDelay.length = 2) : Completes (.pdelayResp m t1 t2 t3) s fun t =>
      linkDelay t m.port = linkDelayOf s m t1 t2 t3 ∧ t.i 0 0x022700 = linkDelay t m.port ∧ t.time.counter = s.time.counter := by
  have hnext : exec (.pdelayResp m t1 t2 t3) s = _ := ready_next hs (wf_port hport) (pdelayRespMsg_eq hp hh) rfl rfl
  have hdelay := linkDelay_shown (v := .num (linkDelayOf s m t1 t2 t3)) (d := linkDelayOf s m t1 t2 t3) hport hlen
  exact ⟨_, hnext, hdelay, (setV_i_self ..).trans hdelay.symm, rfl⟩

/-- Settles O19: each message where its mechanism is in use. -/
theorem ptpMessages : Obligations.PtpMessages := by
  intro s m t1 t2 t3 residence hs hport hh
  have hw := wf_port hport
  exact ⟨fun hp h2 => ready_next hs hw (pdelayReqMsg_turnaround hp hh h2) rfl rfl,
    fun hp h2 => ready_next hs hw (pdelayReqMsg_followUp hp hh h2) rfl rfl,
    fun hp hlen => pdelayResp_measures hs hport hh hp hlen,
    fun hr he => ready_next hs hw (delayReqMsg_eq hr he hh) rfl rfl,
    fun hr he hm => ready_next hs hw (delayRespMsg_eq hr he hm) rfl rfl,
    fun hr => ready_next hs hw (forwardMsg_eq hr) rfl rfl⟩

end Sys2Proof.Proofs
end

section
/-! SUPPORT. The servo and the time states (03 R77 to R79): what a change of the time state leaves alone, a step of the counter, and one update. -/

namespace Sys2Proof.Machine

/-! ### What leaves waiting requests and resets as they are -/

/-- No session becomes less calm, no reset is raised, and the queue stays. -/
structure Undisturbed (s t : State) : Prop where
  calm : CalmSame s.slots t.slots
  rst : t.rst = s.rst
  pending : t.pending = s.pending

theorem Undisturbed.refl (s : State) : Undisturbed s s := ⟨.refl _, rfl, rfl⟩

theorem Undisturbed.trans {s t u : State} (h : Undisturbed s t) (g : Undisturbed t u) : Undisturbed s u :=
  ⟨h.calm.trans g.calm, g.rst.trans h.rst, g.pending.trans h.pending⟩

theorem Within.undisturbed {s t : State} (w : Within s t) : Undisturbed s t := ⟨w.calm, w.rst, w.pending⟩

theorem Undisturbed.modTime (s : State) (f : TimeS → TimeS) : Undisturbed s (modTime s f) := ⟨.refl _, rfl, rfl⟩

theorem Calm.undisturbed {s t : State} (h : Calm s) (u : Undisturbed s t) : Calm t := h.of_same u.calm u.rst

/-! ### The observers of the servo -/

/-- The settings and the status of network time, from ClockRole to StepCount; TimeState stands before them and HoldoverCount after. -/
def TimeObject (k : Nat) : Prop := 0x020200 ≤ k ∧ k < 0x022B00

/-- t is s but for what is told and counted of it: events, TimeState and HoldoverCount, and the histories of the servo. -/
structure Observes (s t : State) : Prop where
  undisturbed : Undisturbed s t
  beat : t.beat = s.beat
  time : ∃ h a b l, t.time = { s.time with freqHistory := h, lockRun := a, unlockRun := b, largeReported := l }
  val : ∀ k, TimeObject k → t.val 0 k = s.val 0 k

theorem Observes.refl (s : State) : Observes s s := ⟨.refl s, rfl, ⟨_, _, _, _, rfl⟩, fun _ _ => rfl⟩

theorem Observes.trans {s t u : State} (h : Observes s t) (g : Observes t u) : Observes s u := by
  obtain ⟨_, _, _, _, ht⟩ := h.time
  obtain ⟨_, _, _, _, hu⟩ := g.time
  exact ⟨h.undisturbed.trans g.undisturbed, g.beat.trans h.beat, ⟨_, _, _, _, by rw [hu, ht]⟩, fun k hk => (g.val k hk).trans (h.val k hk)⟩

/-- What changes no object of network time, and nothing outside a unit's change of state. -/
theorem Within.observes {s t : State} (w : Within s t) (h : ∀ k, TimeObject k → t.val 0 k = s.val 0 k) : Observes s t :=
  ⟨w.undisturbed, w.beat, ⟨_, _, _, _, w.time⟩, h⟩

theorem Observes.publish (s : State) (u c : Nat) (d : Bytes) : Observes s (publish s u c d) :=
  (Within.publish ..).observes fun k hk => by
    obtain ⟨h1, h2⟩ := hk
    exact publish_keeps _ _ _ _ _ _ (by omega) (.inr ⟨by omega, by omega⟩)

/-- A change of the histories alone. -/
theorem Observes.history {s : State} {f : TimeS → TimeS}
    (h : ∃ h a b l, f s.time = { s.time with freqHistory := h, lockRun := a, unlockRun := b, largeReported := l }) : Observes s (modTime s f) :=
  ⟨.modTime .., rfl, h, fun _ _ => rfl⟩

theorem Observes.n {s t : State} (h : Observes s t) {k : Nat} (hk : TimeObject k) : t.n 0 k = s.n 0 k := n_of_val (h.val k hk)
theorem Observes.i {s t : State} (h : Observes s t) {k : Nat} (hk : TimeObject k) : t.i 0 k = s.i 0 k := i_of_val (h.val k hk)

/-! Of time they leave everything but those histories. -/

section
variable {s t : State} (h : Observes s t)
include h

theorem Observes.counter : t.time.counter = s.time.counter := by obtain ⟨_, _, _, _, ht⟩ := h.time; rw [ht]
theorem Observes.integ : t.time.integ = s.time.integ := by obtain ⟨_, _, _, _, ht⟩ := h.time; rw [ht]
theorem Observes.freq : t.time.freq = s.time.freq := by obtain ⟨_, _, _, _, ht⟩ := h.time; rw [ht]
theorem Observes.master : t.time.master = s.time.master := by obtain ⟨_, _, _, _, ht⟩ := h.time; rw [ht]
theorem Observes.syncWait : t.time.syncWait = s.time.syncWait := by obtain ⟨_, _, _, _, ht⟩ := h.time; rw [ht]

end

/-! ### Counters of network time -/

/-- The counters of time: StepCount, HoldoverCount and PpsInCount. -/
def timeCounters : List Nat := [0x022A00, 0x022B00, 0x024300]

set_option maxRecDepth 100000 in
theorem timeCounter_rows : ∀ k ∈ timeCounters, ∀ r ∈ allRows, r.stick = true → r.obj = k / 256 → k % 256 ≤ r.elHi := by decide +kernel

set_option maxRecDepth 100000 in
theorem timeCounter_type : ∀ k ∈ timeCounters, ((rowOf .root (k / 256) (k % 256)).map fun r => r.ty.maxNat).getD (2 ^ 32 - 1) = 2 ^ 32 - 1 := by
  decide +kernel

theorem timeCounter_range : ∀ k ∈ timeCounters, 0x022A00 ≤ k ∧ k ≤ 0x024300 := by decide

theorem bump_timeCounter (s : State) {k : Nat} (hk : k ∈ timeCounters) : Counts s (bump s 0 k) 0 k := by
  intro hv
  obtain ⟨h1, h2⟩ := timeCounter_range k hk
  exact bump_counts s 0 k .root (by omega) rfl (timeCounter_rows k hk) (by omega) (by omega) (by rw [timeCounter_type k hk]; exact hv)

theorem bump_timeCounter_val (s : State) {k y : Nat} (hk : k ∈ timeCounters) (hy : 0x020000 ≤ y ∧ y < 0x030000) (hne : y ≠ k) :
    (bump s 0 k).val 0 y = s.val 0 y := by
  obtain ⟨h1, h2⟩ := timeCounter_range k hk
  exact bump_keeps s 0 k 0 y (by omega) (by omega) (timeCounter_rows k hk) (.inr hne) ⟨by omega, by omega⟩

/-- An event counted between two states is counted between any two in which the counter reads as it does in those. -/
theorem Counts.of_n {s s' t t' : State} {u k : Nat} (h : Counts s t u k) (hs : s.n u k = s'.n u k) (ht : t'.n u k = t.n u k) : Counts s' t' u k := by
  intro hv
  rw [ht, ← hs]
  exact h (hs ▸ hv)

/-! ### Time states (R79, Table 3-2) -/

/-- Entering a state that is not the present one, before the runs of updates start anew. -/
def stateEntered (s : State) (st : Nat) : State :=
  publish (s.setN 0 0x020100 st) 0 0x0201 (leBytes 1 (timeState s) ++ leBytes 1 st)

theorem setTimeState_same {s : State} {st : Nat} (h : timeState s = st) : setTimeState s st = s := if_pos h

theorem setTimeState_enters {s : State} {st : Nat} (h : timeState s ≠ st) : setTimeState s st =
    modTime (if st = 3 then bump (stateEntered s st) 0 0x022B00 else stateEntered s st) fun t => { t with lockRun := 0, unlockRun := 0 } := if_neg h

theorem stateEntered_val (s : State) (st : Nat) {k : Nat} (hk : 0x020100 < k ∧ k < 0x030000) : (stateEntered s st).val 0 k = s.val 0 k := by
  obtain ⟨h1, h2⟩ := hk
  refine (publish_keeps _ _ _ _ _ _ (by omega) (.inr ⟨by omega, by omega⟩)).trans (setV_read_ne _ _ ?_)
  rw [Ne, keyOf_inj (by omega) (by omega)]
  omega

theorem stateEntered_state (s : State) (st : Nat) : timeState (stateEntered s st) = st := by
  have hkept := publish_keeps (s.setN 0 0x020100 st) 0 0x0201 (leBytes 1 (timeState s) ++ leBytes 1 st) 0 0x020100 (by omega) (.inr ⟨by omega, by omega⟩)
  rw [timeState, stateEntered, n_of_val hkept, setN_eq, setV_n_self, Int.toNat_natCast]

theorem Observes.setTimeState (s : State) (st : Nat) : Observes s (setTimeState s st) := by
  by_cases h : timeState s = st
  · rw [setTimeState_same h]
    exact .refl s
  rw [setTimeState_enters h]
  have hentered : Observes s (stateEntered s st) := ((Within.setV ..).trans (.publish ..)).observes fun k ⟨h1, h2⟩ => stateEntered_val s st ⟨by omega, by omega⟩
  refine .trans ?_ (.history ⟨_, _, _, _, rfl⟩)
  split
  · exact hentered.trans ((Within.bump ..).observes fun k ⟨h1, h2⟩ => bump_timeCounter_val _ (by decide) ⟨by omega, by omega⟩ (by omega))
  · exact hentered

theorem setTimeState_state (s : State) (st : Nat) : timeState (setTimeState s st) = st := by
  by_cases h : timeState s = st
  · rw [setTimeState_same h, h]
  rw [setTimeState_enters h]
  show timeState (if st = 3 then bump (stateEntered s st) 0 0x022B00 else stateEntered s st) = st
  split
  · exact (n_of_val (bump_timeCounter_val _ (by decide) ⟨by omega, by omega⟩ (by omega))).trans (stateEntered_state s st)
  · exact stateEntered_state s st

/-- Entering HOLDOVER is counted. -/
theorem setTimeState_holdover {s : State} (h : timeState s ≠ 3) : Counts s (setTimeState s 3) 0 0x022B00 := by
  rw [setTimeState_enters h, if_pos rfl]
  exact (bump_timeCounter (stateEntered s 3) (by decide)).of_n (n_of_val (stateEntered_val s 3 ⟨by omega, by omega⟩)) (modTime_at_n ..)

/-! ### A step of the counter (R78) -/

/-- The counter at its new value, with what has been placed on the clock, before the step is counted and told. -/
def stepPlaced (s : State) (c : Int) : State :=
  let n := (c % counterMod).toNat
  let t := shiftPlaced (modTime s fun x => { x with counter := n })
    ((n / Config.counterPerQuantum : Nat) - (s.time.counter / Config.counterPerQuantum : Nat))
  { t with beat := { t.beat with restart := true } }

theorem stepTo_eq (s : State) (c : Int) : stepTo s c = publish (bump (stepPlaced s c) 0 0x022A00) 0 0x0202
    (leBytesI 8 (rhe ((c - s.time.counter : Int) / (Config.counterPerNs : Nat) : Rat))) := rfl

theorem stepPlaced_dict (s : State) (c : Int) : (stepPlaced s c).dict = s.dict := rfl

theorem stepPlaced_time (s : State) (c : Int) : (stepPlaced s c).time = { s.time with counter := (c % counterMod).toNat } := rfl

theorem stepPlaced_restart (s : State) (c : Int) : (stepPlaced s c).beat.restart = true := rfl

theorem Undisturbed.stepPlaced (s : State) (c : Int) : Undisturbed s (stepPlaced s c) := ⟨.refl _, rfl, rfl⟩

theorem Within.stepTo (s : State) (c : Int) : Within (stepPlaced s c) (stepTo s c) := by
  rw [stepTo_eq]
  exact (Within.bump ..).trans (.publish ..)

theorem Undisturbed.stepTo (s : State) (c : Int) : Undisturbed s (stepTo s c) := (stepPlaced s c).trans (Within.stepTo s c).undisturbed

/-- Of time a step changes the counter alone. -/
theorem stepTo_time (s : State) (c : Int) : (stepTo s c).time = { s.time with counter := (c % counterMod).toNat } :=
  (Within.stepTo s c).time.trans (stepPlaced_time s c)

theorem stepTo_restart (s : State) (c : Int) : (stepTo s c).beat.restart = true :=
  (congrArg BeatS.restart (Within.stepTo s c).beat).trans (stepPlaced_restart s c)

theorem stepTo_counts (s : State) (c : Int) : Counts s (stepTo s c) 0 0x022A00 := by
  rw [stepTo_eq]
  exact (bump_timeCounter (stepPlaced s c) (by decide)).of_n (n_of_val (val_of_dict (stepPlaced_dict s c)))
    (n_of_val (publish_keeps _ _ _ _ _ _ (by omega) (.inr ⟨by omega, by omega⟩)))

theorem stepTo_val (s : State) (c : Int) {k : Nat} (hk : 0x020000 ≤ k ∧ k < 0x030000) (hne : k ≠ 0x022A00) : (stepTo s c).val 0 k = s.val 0 k := by
  rw [stepTo_eq]
  exact (publish_keeps _ _ _ _ _ _ (by omega) (.inr ⟨by omega, by omega⟩)).trans
    ((bump_timeCounter_val _ (by decide) hk hne).trans (val_of_dict (stepPlaced_dict s c)))

/-! ### One update of the servo (R77) -/

/-- What an update that steps the counter comes to, before it is told and counted. -/
def servoStepped (s : State) (theta : Int) : State :=
  modTime (stepTo (s.setI 0 0x022600 theta) ((s.time.counter : Int) - theta * 65536)) fun t => { t with integ := 0, largeReported := false }

/-- The integrator after an update that steers, held in its limit. -/
def servoInteg (s : State) (theta : Int) (ts : Rat) : Rat :=
  let lim := ((s.n 0 0x022200 : Nat) : Rat) * ts / 1000000000
  max (-lim) (min lim (s.time.integ + fRat b32s (s.n 0 0x022100) * ((theta : Rat) / 65536)))

/-- The adjustment that it sets, held in FreqLimit. -/
def servoFreq (s : State) (theta : Int) (ts : Rat) : Rat :=
  let fl : Rat := (s.n 0 0x022200 : Nat)
  max (-fl) (min fl (-(fRat b32s (s.n 0 0x022000) * ((theta : Rat) / 65536) + servoInteg s theta ts) / ts * 1000000000))

/-- What an update that steers comes to, before it is told and counted. -/
def servoSteered (s : State) (theta : Int) (ts : Rat) : State :=
  setFreq (modTime (s.setI 0 0x022600 theta) fun t => { t with integ := servoInteg s theta ts }) (servoFreq s theta ts)

/-- The offset is above StepThreshold. -/
def offsetLarge (s : State) (theta : Int) : Bool := decide ((s.n 0 0x022300 : Rat) < |(theta : Rat) / 65536|)

/-- OFFSET_LARGE, once for each excursion. -/
def tellLarge (t : State) (large reported : Bool) (theta : Int) : State :=
  if large && !reported then publish (modTime t fun x => { x with largeReported := true }) 0 0x0203 (leBytesI 8 (rhe ((theta : Rat) / 65536)))
  else modTime t fun x => { x with largeReported := large }

/-- The adjustment in force joins the history, and the runs of small and large offsets count on. -/
def runsCounted (t : State) (lt : Rat) (theta : Int) : State :=
  modTime t fun x => { x with
    freqHistory := (x.freq :: x.freqHistory).take 16
    lockRun := if |(theta : Rat) / 65536| < lt then x.lockRun + 1 else 0
    unlockRun := if 4 * lt < |(theta : Rat) / 65536| then x.unlockRun + 1 else 0 }

/-- The moves between ACQUIRING and LOCKED that the runs ask for. -/
def lockMoves (t : State) : State :=
  if timeState t = 1 ∧ 16 ≤ t.time.lockRun then setTimeState t 2
  else if timeState t = 2 ∧ 4 ≤ t.time.unlockRun then setTimeState t 1
  else t

theorem servo_eq (s : State) (theta : Int) (ts : Rat) : servo s theta ts =
    lockMoves (runsCounted (if offsetLarge s theta && !stepBarred s then servoStepped s theta
      else tellLarge (servoSteered s theta ts) (offsetLarge s theta) s.time.largeReported theta) (s.n 0 0x022400 : Nat) theta) := rfl

theorem Observes.tellLarge (t : State) (large reported : Bool) (theta : Int) : Observes t (tellLarge t large reported theta) := by
  unfold Machine.tellLarge
  split
  · exact (Observes.history ⟨_, _, _, _, rfl⟩).trans (.publish ..)
  · exact .history ⟨_, _, _, _, rfl⟩

theorem Observes.runsCounted (t : State) (lt : Rat) (theta : Int) : Observes t (runsCounted t lt theta) := .history ⟨_, _, _, _, rfl⟩

theorem Observes.lockMoves (t : State) : Observes t (lockMoves t) := by
  unfold Machine.lockMoves
  split
  · exact .setTimeState ..
  · split
    · exact .setTimeState ..
    · exact .refl t

/-- An update steps the counter above StepThreshold, with no sleeve ACTIVE, and steers the frequency otherwise; the rest is told and counted. -/
theorem servo_cases (s : State) (theta : Int) (ts : Rat) :
    (offsetLarge s theta = true ∧ stepBarred s = false ∧ Observes (servoStepped s theta) (servo s theta ts))
    ∨ ((offsetLarge s theta = false ∨ stepBarred s = true) ∧ Observes (servoSteered s theta ts) (servo s theta ts)) := by
  rw [servo_eq]
  by_cases h : (offsetLarge s theta && !stepBarred s) = true
  · rw [if_pos h]
    rw [Bool.and_eq_true, Bool.not_eq_true'] at h
    exact .inl ⟨h.1, h.2, (Observes.runsCounted ..).trans (.lockMoves _)⟩
  · rw [if_neg h]
    rw [Bool.and_eq_true, Bool.not_eq_true', not_and_or, Bool.not_eq_true, Bool.not_eq_false] at h
    exact .inr ⟨h, ((Observes.tellLarge ..).trans (.runsCounted ..)).trans (.lockMoves _)⟩

theorem Undisturbed.servoStepped (s : State) (theta : Int) : Undisturbed s (servoStepped s theta) :=
  ((Within.setV ..).undisturbed.trans (.stepTo ..)).trans (.modTime ..)

theorem Undisturbed.setFreq (s : State) (f : Rat) : Undisturbed s (setFreq s f) := (Undisturbed.modTime ..).trans (Within.setV ..).undisturbed

theorem Undisturbed.servoSteered (s : State) (theta : Int) (ts : Rat) : Undisturbed s (servoSteered s theta ts) :=
  ((Within.setV ..).undisturbed.trans (.modTime ..)).trans (.setFreq ..)

theorem Undisturbed.servo (s : State) (theta : Int) (ts : Rat) : Undisturbed s (servo s theta ts) := by
  obtain ⟨-, -, h⟩ | ⟨-, h⟩ := servo_cases s theta ts
  · exact (servoStepped s theta).trans h.undisturbed
  · exact (servoSteered s theta ts).trans h.undisturbed

theorem servoStepped_time (s : State) (theta : Int) : (servoStepped s theta).time = { s.time with
    counter := (((s.time.counter : Int) - theta * 65536) % counterMod).toNat, integ := 0, largeReported := false } := by
  rw [servoStepped, modTime_time, stepTo_time]
  rfl

theorem servoSteered_time (s : State) (theta : Int) (ts : Rat) : ∃ a, (servoSteered s theta ts).time = { s.time with
    integ := servoInteg s theta ts, freq := servoFreq s theta ts, adjust := a } := ⟨_, rfl⟩

/-- A Sync that waits goes on waiting through an update. -/
theorem servo_syncWait (s : State) (theta : Int) (ts : Rat) : (servo s theta ts).time.syncWait = s.time.syncWait := by
  obtain ⟨-, -, h⟩ | ⟨-, h⟩ := servo_cases s theta ts
  · rw [h.syncWait, servoStepped_time]
  · obtain ⟨_, ht⟩ := servoSteered_time s theta ts
    rw [h.syncWait, ht]

/-- Both kinds of update show the offset. -/
theorem servoStepped_offset (s : State) (theta : Int) : (servoStepped s theta).i 0 0x022600 = theta := by
  rw [servoStepped, modTime_at_i, i_of_val (stepTo_val _ _ ⟨by omega, by omega⟩ (by omega)), setI_eq, setV_i_self]

theorem servoSteered_offset (s : State) (theta : Int) (ts : Rat) : (servoSteered s theta ts).i 0 0x022600 = theta :=
  (setV_i_ne _ _ (by decide)).trans (setV_i_self ..)

theorem servoSteered_freqAdjust (s : State) (theta : Int) (ts : Rat) : (servoSteered s theta ts).i 0 0x022800 = rhe (servoFreq s theta ts) := setV_i_self ..

theorem servoStepped_counts (s : State) (theta : Int) : Counts s (servoStepped s theta) 0 0x022A00 :=
  (stepTo_counts (s.setI 0 0x022600 theta) _).of_n (setV_n_ne _ _ (by decide)) (modTime_at_n ..)

theorem servoStepped_restart (s : State) (theta : Int) : (servoStepped s theta).beat.restart = true :=
  (congrArg BeatS.restart (modTime_beat ..)).trans (stepTo_restart ..)

theorem offsetLarge_false {s : State} {theta : Int} (h : |(theta : Rat) / 65536| ≤ (s.n 0 0x022300 : Rat)) : offsetLarge s theta = false :=
  decide_eq_false (not_lt.mpr h)

/-- One update of the servo is as R77 has it. -/
theorem servo_disciplines (s : State) (theta : Int) : Disciplined s (servo s theta (syncIntervalNs s)) theta := by
  obtain ⟨hlarge, hfree, h⟩ | ⟨hsteers, h⟩ := servo_cases s theta (syncIntervalNs s)
  · refine ⟨(h.i ⟨by omega, by omega⟩).trans (servoStepped_offset ..), fun _ _ => ⟨?_, ?_, ?_, ?_⟩, fun hno => ?_⟩
    · rw [h.counter, servoStepped_time]
      rfl
    · rw [h.integ, servoStepped_time]
    · rw [h.beat, servoStepped_restart]
    · exact (servoStepped_counts s theta).of_n rfl (h.n ⟨by omega, by omega⟩)
    · rcases hno with hno | hno
      · exact absurd (offsetLarge_false hno) (by rw [hlarge]; decide)
      · exact absurd hno (by rw [hfree]; decide)
  · obtain ⟨_, ht⟩ := servoSteered_time s theta (syncIntervalNs s)
    refine ⟨(h.i ⟨by omega, by omega⟩).trans (servoSteered_offset ..), fun hl hb => ?_, fun _ => ⟨?_, ?_, ?_, ?_, h.beat⟩⟩
    · rcases hsteers with hno | hno
      · exact absurd hl (of_decide_eq_false hno)
      · exact absurd hno (by rw [hb]; decide)
    · rw [h.counter, ht]
    · rw [h.integ, ht]
      rfl
    · rw [h.freq, ht]
      rfl
    · exact (h.i ⟨by omega, by omega⟩).trans (servoSteered_freqAdjust ..)

/-! ### Offsets from a Sync (R73, R75, R77) -/

section
variable {s : State} {m y : PtpMsg}

theorem syncOffset_of (h : timeState s ≠ 3) (origin correction : Int) : syncOffset s m origin correction =
    servo s (m.stamp + phyRx s m.port - origin - correction - pathDelay s m.port) (syncIntervalNs s) := by
  unfold syncOffset
  rw [if_neg h]

theorem syncMsg_waits (hm : fromMaster s m = true) (h2 : m.twoStep = true) : syncMsg s m = modTime s fun t => { t with syncWait := some m } := by
  simp [syncMsg, hm, h2]

theorem syncMsg_disciplines (hm : fromMaster s m = true) (h2 : m.twoStep = false) : syncMsg s m = syncOffset s m m.origin m.correction := by
  simp [syncMsg, hm, h2]

/-- The time without a Sync that waits. -/
def noWait (s : State) : State := modTime s fun x => { x with syncWait := none }

theorem followUpMsg_disciplines (hm : fromMaster s m = true) (hy : s.time.syncWait = some y) (hseq : y.seq = m.seq) (hport : y.port = m.port) :
    followUpMsg s m = syncOffset (noWait s) y m.origin (y.correction + m.correction) := by
  simp [noWait, followUpMsg, hy, hm, hseq, hport]

theorem phyRx_noWait (s : State) (p : Nat) : phyRx (noWait s) p = phyRx s p := by simp [phyRx, noWait]

theorem pathDelay_noWait (s : State) (p : Nat) : pathDelay (noWait s) p = pathDelay s p := by simp [pathDelay, linkDelay, noWait]

theorem timeState_noWait (s : State) : timeState (noWait s) = timeState s := modTime_at_n ..

/-- No offset and no update reads the Sync that waits. -/
theorem syncOffset_noWait (h : timeState s ≠ 3) (origin correction : Int) : syncOffset (noWait s) m origin correction =
    servo (noWait s) (m.stamp + phyRx s m.port - origin - correction - pathDelay s m.port) (syncIntervalNs (noWait s)) := by
  rw [syncOffset_of ((timeState_noWait s).trans_ne h), phyRx_noWait, pathDelay_noWait]

theorem Disciplined.of_noWait {t : State} {theta : Int} (h : Disciplined (noWait s) t theta) : Disciplined s t theta := h

end

end Sys2Proof.Machine

namespace Sys2Proof.Proofs
open Sys2Proof.Machine

/-- A command whose effect leaves waiting requests and resets as they are completes in its effect. -/
theorem settled_next {i : Instr} {s t x : State} (hq : Calm s) (hw : i.wf = true) (he : x = t) (hx : exec i s = done s (whenWf i s x))
    (hu : Undisturbed s t) : exec i s = .next t :=
  done_next hw (he ▸ hx) (hq.undisturbed hu) hu.pending

/-- So does one that needs the dictionary, in service. -/
theorem ready_settled {i : Instr} {s t x : State} (hs : Serving s) (hq : Calm s) (hw : i.wf = true) (he : x = t)
    (hx : exec i s = done s (whenWf i s (whenReady s x))) (hu : Undisturbed s t) : exec i s = .next t :=
  settled_next hq hw ((whenReady_of hs).trans he) hx hu

/-- Settles O18: the Sync that waits, the Sync and the Follow_Up that make an update. -/
theorem networkTimeServo : Obligations.NetworkTimeServo := by
  intro s m hs hq hport hm hstate
  have hw := wf_port hport
  refine ⟨fun h2 => ready_settled hs hq hw (syncMsg_waits hm h2) rfl (.modTime ..), fun h2 => ?_, fun y hy hseq hp => ?_⟩
  · have he := (syncMsg_disciplines hm h2).trans (syncOffset_of hstate ..)
    exact ⟨_, ready_settled hs hq hw he rfl (.servo ..), servo_disciplines .., servo_syncWait ..⟩
  · have he := (followUpMsg_disciplines hm hy hseq hp).trans (syncOffset_noWait hstate ..)
    have hd := (servo_disciplines (noWait s) (y.stamp + phyRx s y.port - m.origin - (y.correction + m.correction) - pathDelay s y.port)).of_noWait
    exact ⟨_, ready_settled hs hq hw he rfl ((Undisturbed.modTime ..).trans (.servo ..)), hd, servo_syncWait ..⟩

end Sys2Proof.Proofs
end

section
/-! SUPPORT. The first Announce, the loss of Syncs, writes to the time of day and to timing objects, and the pulses of the second (03 R73, R78, R79, R82,
R89): what each comes to. -/

namespace Sys2Proof.Machine

section
variable {s : State}

/-! ### The selection of a master (R73) -/

/-- The master taken, before the time state follows. -/
def masterTaken (s : State) (a : Announce) : State :=
  (modTime s fun t => { t with master := some a, syncWait := none, announceAt := t.uptime }).setBs 0 0x022900 (leBytes 8 a.identity).reverse

theorem masterTaken_state (s : State) (a : Announce) : timeState (masterTaken s a) = timeState s := setV_n_ne _ _ (by decide)

theorem Undisturbed.masterTaken (s : State) (a : Announce) : Undisturbed s (masterTaken s a) := (Undisturbed.modTime ..).trans (Within.setV ..).undisturbed

/-- FREE_RUN ends in ACQUIRING (Table 3-2). -/
def leaveFreeRun (t : State) : State := if timeState t = 0 then setTimeState t 1 else t

theorem Observes.leaveFreeRun (t : State) : Observes t (leaveFreeRun t) := by
  unfold Machine.leaveFreeRun
  split
  · exact .setTimeState ..
  · exact .refl t

theorem leaveFreeRun_state (t : State) : timeState (leaveFreeRun t) = if timeState t = 0 then 1 else timeState t := by
  unfold leaveFreeRun
  split
  · exact setTimeState_state ..
  · rfl

/-- Where no master is selected, an Announce of the domain and the transport in use selects its own. -/
theorem announceMsg_selects {a : Announce} (hd : a.domain = s.n 0 0x020400) (hu : a.udp = overUdp s) (hm : s.time.master = none)
    (hr : s.n 0 0x020200 ≠ 1) : announceMsg s a = leaveFreeRun (masterTaken s a) := by
  unfold announceMsg
  rw [if_neg (by simp [hd, hu]), hm]
  exact (if_neg (by simp)).trans (if_neg fun h => hr h.1)

/-! ### HOLDOVER (R79) -/

/-- The mean of the last adjustments put in force, where there are any. -/
def meanHeld (s : State) : State := if s.time.freqHistory.isEmpty then s else setFreq s (s.time.freqHistory.sum / (s.time.freqHistory.length : Nat))

theorem Undisturbed.meanHeld (s : State) : Undisturbed s (meanHeld s) := by
  unfold Machine.meanHeld
  split
  · exact .refl s
  · exact .setFreq ..

theorem meanHeld_freq (h : s.time.freqHistory ≠ []) : (meanHeld s).time.freq = s.time.freqHistory.sum / (s.time.freqHistory.length : Nat) := by
  unfold meanHeld
  rw [if_neg (by simpa using h)]
  rfl

theorem meanHeld_keeps (s : State) : (meanHeld s).time.counter = s.time.counter ∧ (meanHeld s).time.master = s.time.master := by
  unfold meanHeld
  split <;> exact ⟨rfl, rfl⟩

theorem meanHeld_n (s : State) {k : Nat} (hk : k < 2 ^ 24) (hne : k ≠ 0x022800) : (meanHeld s).n 0 k = s.n 0 k := by
  unfold meanHeld
  split
  · rfl
  · refine setV_n_ne _ _ ?_
    rw [Ne, keyOf_inj (by omega) hk]
    omega

theorem Observes.enterHoldover (s : State) : Observes (meanHeld s) (enterHoldover s) := .setTimeState ..

theorem enterHoldover_state (s : State) : timeState (enterHoldover s) = 3 := setTimeState_state ..

theorem enterHoldover_counts (h : timeState s = 2) : Counts s (enterHoldover s) 0 0x022B00 := by
  have hbefore : timeState (meanHeld s) = 2 := (meanHeld_n s (by omega) (by omega)).trans h
  exact (setTimeState_holdover (by omega)).of_n (meanHeld_n s (by omega) (by omega)) rfl

theorem enterHoldover_keeps (s : State) : (enterHoldover s).time.counter = s.time.counter ∧ (enterHoldover s).time.master = s.time.master := by
  obtain ⟨hcounter, hmaster⟩ := meanHeld_keeps s
  exact ⟨(Observes.enterHoldover s).counter.trans hcounter, (Observes.enterHoldover s).master.trans hmaster⟩

/-- The adjustment in HOLDOVER is the mean of the last ones. -/
theorem enterHoldover_freq (h : s.time.freqHistory ≠ []) :
    (enterHoldover s).time.freq = s.time.freqHistory.sum / (s.time.freqHistory.length : Nat) := (Observes.enterHoldover s).freq.trans (meanHeld_freq h)

theorem Undisturbed.enterHoldover (s : State) : Undisturbed s (enterHoldover s) := (meanHeld s).trans (Observes.enterHoldover s).undisturbed

/-! ### Lost Syncs (R79, Table 3-2) -/

/-- The announce timeout ends the selection of the master. -/
def unselected (t : State) : State := modTime t fun x => { x with master := none, syncWait := none }

theorem syncLost_locked (h : timeState s = 2) : syncLost s = if announceLost s then unselected (enterHoldover s) else enterHoldover s := by
  unfold syncLost
  rw [if_pos h]
  rfl

theorem syncLost_other (h : timeState s ≠ 2) : syncLost s = if announceLost s then unselected s else s := by
  unfold syncLost
  rw [if_neg h]
  rfl

/-! ### Writes to the root by a way of their own (R78, R82) -/

theorem root_row {o : Nat} {w : Write} {row : ObjRow} (hp : Passes s o w row) (hu : w.unit = 0) (ho : o < 0xC000) : objRowOf .root o = some row := by
  obtain ⟨k, hk, hobj⟩ := hp.names
  rw [hu] at hk hobj
  obtain rfl : k = .root := (Option.some.inj hk).symm
  unfold objAt at hobj
  rw [if_neg (by omega)] at hobj
  exact hobj

set_option maxRecDepth 100000 in
theorem timeOfDay_row : (objRowOf .root 0x245).all (fun r => !r.jour && !r.stick) = true := by decide +kernel

set_option maxRecDepth 100000 in
theorem timingRows_journaled : ∀ o ∈ timingObjs, (objRowOf .root o).all ObjRow.jour = true := by decide +kernel

/-- TimeOfDaySet acts at once and is answered. -/
theorem directWrite_timeOfDay {w : Write} {row : ObjRow} (hs : Serving s) (hp : Passes s 0x245 w row) (hu : w.unit = 0) :
    directWrite s 0x245 w = answerSt (timeOfDay s (leNat w.data)).2 w.origin (timeOfDay s (leNat w.data)).1 := by
  have hplain := timeOfDay_row
  have hown := hp.own
  rw [root_row hp hu (by decide)] at hplain
  rw [hu] at hown
  simp only [Option.all_some, Bool.and_eq_true, Bool.not_eq_true'] at hplain
  obtain ⟨hjour, hstick⟩ := hplain
  have htxn : journalTxn s 0 0x245 row w none = none := by simp [journalTxn, journaledCommand, hjour]
  have heffect : writeEffect s 0 0x245 row w = withStatus (timeOfDay s (leNat w.data)) := by
    have hcommon : commonWrite s 0 0x245 row w = none := by simp [commonWrite, hstick]
    have hroot : rootWrite s 0x245 w = some (withStatus (timeOfDay s (leNat w.data))) := rfl
    simp [writeEffect, hcommon, hroot]
  rw [directWrite_served hs hp (.inl (by rw [hu]; rfl)), hu]
  unfold writeServe
  rw [takeWrite_at_once htxn hown rfl (by decide) (by decide) (by decide), heffect, if_neg (by decide)]
  rfl

theorem timingObj_range : ∀ o ∈ timingObjs, 0x230 ≤ o ∧ o ≤ 0x237 := by decide

/-- A timing object goes to the journal. -/
theorem directWrite_timing {o : Nat} {w : Write} {row : ObjRow} (ho : o ∈ timingObjs) (hs : Serving s) (hp : Passes s o w row) (hu : w.unit = 0)
    (hf : journalFull s [writeRecord 0 o row w] = false) : directWrite s o w = journal s [writeRecord 0 o row w] (.write o w none) := by
  obtain ⟨hlo, hhi⟩ := timingObj_range o ho
  have hjour := timingRows_journaled o ho
  rw [root_row hp hu (by omega), Option.all_some] at hjour
  have hcmd : journaledCommand s o w = none := by
    unfold journaledCommand
    dsimp only
    rw [if_neg (by omega), if_neg (by omega), if_neg (by omega), if_neg (by omega)]
  have hnum : o ≠ 0x301 ∧ o ≠ 0xC0A ∧ o ≠ 0xC0B := by omega
  have htxn : journalTxn s w.unit o row w none = some ([writeRecord 0 o row w], .write o w none) := by
    simp [journalTxn, hu, hcmd, hjour, hnum]
  exact directWrite_journaled hs hp (.inr hjour) (by omega) htxn hf

theorem timeOfDay_barred (h : stepBarred s = true) (ns : Nat) : timeOfDay s ns = (stWrongState, s) := if_pos h

/-- The counter set to the time of day. -/
def daySet (s : State) (ns : Nat) : State := modTime (stepTo s (ns * Config.counterPerNs : Nat)) fun t => { t with todSet := true }

theorem timeOfDay_steps (h : stepBarred s = false) (ns : Nat) : timeOfDay s ns = (stOk, daySet s ns) := by simp [timeOfDay, h, daySet]

theorem toNat_mod_counterMod (n : Nat) : ((n : Int) % counterMod).toNat = n % 2 ^ 96 := by
  unfold counterMod
  rw [← Int.natCast_mod, Int.toNat_natCast]

theorem daySet_counter (s : State) (ns : Nat) : (daySet s ns).time.counter = ns * Config.counterPerNs % 2 ^ 96 := by
  rw [daySet, modTime_time, stepTo_time]
  exact toNat_mod_counterMod _

theorem daySet_todSet (s : State) (ns : Nat) : (daySet s ns).time.todSet = true := by rw [daySet, modTime_time]

theorem daySet_restart (s : State) (ns : Nat) : (daySet s ns).beat.restart = true := (congrArg BeatS.restart (modTime_beat ..)).trans (stepTo_restart ..)

theorem daySet_counts (s : State) (ns : Nat) : Counts s (daySet s ns) 0 0x022A00 := (stepTo_counts s _).of_n rfl (modTime_at_n ..)

theorem Undisturbed.daySet (s : State) (ns : Nat) : Undisturbed s (daySet s ns) := (Undisturbed.stepTo ..).trans (.modTime ..)

/-! ### Pulses of the second (R89) -/

/-- An edge on PPS_IN stamped and counted. -/
def edgeTaken (s : State) (stamp : Nat) : State := bump (s.setN 0 0x024200 (stamp / Config.quantaPerNs)) 0 0x024300

theorem ppsIn_follower (h : s.n 0 0x020200 ≠ 1) (stamp : Nat) : ppsIn s stamp = edgeTaken s stamp := if_neg fun hr => h hr.1

theorem Within.edgeTaken (s : State) (stamp : Nat) : Within s (edgeTaken s stamp) := (Within.setV ..).trans (.bump ..)

theorem edgeTaken_stamp (s : State) (stamp : Nat) : (edgeTaken s stamp).n 0 0x024200 = stamp / Config.quantaPerNs := by
  rw [edgeTaken, n_of_val (bump_timeCounter_val _ (by decide) ⟨by omega, by omega⟩ (by omega)), setN_eq, setV_n_self, Int.toNat_natCast]

theorem edgeTaken_counts (s : State) (stamp : Nat) : Counts s (edgeTaken s stamp) 0 0x024300 :=
  (bump_timeCounter (s.setN 0 0x024200 (stamp / Config.quantaPerNs)) (by decide)).of_n (setV_n_ne _ _ (by decide)) rfl

end

end Sys2Proof.Machine

namespace Sys2Proof.Proofs
open Sys2Proof.Machine

section
variable {s : State}

/-- The first Announce of the domain selects its master and ends FREE_RUN. -/
theorem announce_selects (hs : Serving s) (hq : Calm s) {a : Announce} (hport : a.port < 2) (hd : a.domain = s.n 0 0x020400) (hu : a.udp = overUdp s)
    (hm : s.time.master = none) (hr : s.n 0 0x020200 ≠ 1) : Completes (.announce a) s fun t =>
      t.time.master = some a ∧ t.bs 0 0x022900 = (leBytes 8 a.identity).reverse ∧ (timeState s = 0 → timeState t = 1)
      ∧ (timeState s ≠ 0 → timeState t = timeState s) ∧ t.time.counter = s.time.counter := by
  have ho := Observes.leaveFreeRun (masterTaken s a)
  have hstate := leaveFreeRun_state (masterTaken s a)
  rw [masterTaken_state] at hstate
  refine ⟨_, ready_settled hs hq (decide_eq_true hport) (announceMsg_selects hd hu hm hr) rfl ((Undisturbed.masterTaken s a).trans ho.undisturbed),
    ho.master, ?_, fun h => ?_, fun h => ?_, ho.counter⟩
  · exact (congrArg valRaw (ho.val 0x022900 ⟨by omega, by omega⟩)).trans (setV_bs_self ..)
  · rw [hstate, if_pos h]
  · rw [hstate, if_neg h]

/-- Lost Syncs end LOCKED in HOLDOVER, at the mean of the last adjustments. -/
theorem syncTimeout_holds (hs : Serving s) (h : timeState s = 2) : Completes .syncTimeout s fun t => timeState t = 3 ∧ Counts s t 0 0x022B00
    ∧ t.time.counter = s.time.counter ∧ (s.time.freqHistory ≠ [] → t.time.freq = s.time.freqHistory.sum / (s.time.freqHistory.length : Nat))
    ∧ t.time.master = if announceLost s then none else s.time.master := by
  have hstate := enterHoldover_state s
  have hcounts := enterHoldover_counts h
  obtain ⟨hcounter, hmaster⟩ := enterHoldover_keeps s
  have hnext {t : State} (he : syncLost s = t) (hp : t.pending = s.pending) : exec .syncTimeout s = .next t := ready_next hs rfl he rfl hp
  have hpending := (Undisturbed.enterHoldover s).pending
  have hlost := syncLost_locked h
  cases hl : announceLost s with
  | true =>
    rw [hl, if_pos rfl] at hlost
    exact ⟨unselected (enterHoldover s), hnext hlost hpending, hstate, hcounts, hcounter, enterHoldover_freq, rfl⟩
  | false =>
    rw [hl, if_neg Bool.false_ne_true] at hlost
    exact ⟨enterHoldover s, hnext hlost hpending, hstate, hcounts, hcounter, enterHoldover_freq, hmaster⟩

/-- TimeOfDaySet steps the counter. -/
theorem timeOfDaySet_steps (hs : Serving s) (hq : Calm s) {w : Write} {row : ObjRow} (hp : Passes s 0x245 w row) (hu : w.unit = 0)
    (hb : stepBarred s = false) : Completes (.timeOfDaySet w) s fun t => t.time.counter = leNat w.data * Config.counterPerNs % 2 ^ 96
      ∧ t.time.todSet = true ∧ t.beat.restart = true ∧ Counts s t 0 0x022A00 := by
  have ha := Within.answerSt (daySet s (leNat w.data)) w.origin stOk
  refine ⟨_, settled_next hq hp.wf ((directWrite_timeOfDay hs hp hu).trans (by rw [timeOfDay_steps hb])) rfl
    ((Undisturbed.daySet ..).trans ha.undisturbed), ?_, ?_, ?_, (daySet_counts s _).of_n rfl (answerSt_n ..)⟩
  · rw [ha.time, daySet_counter]
  · rw [ha.time, daySet_todSet]
  · rw [ha.beat, daySet_restart]

theorem timeOfDaySet_refused (hs : Serving s) (hq : Calm s) {w : Write} {row : ObjRow} (hp : Passes s 0x245 w row) (hu : w.unit = 0)
    (hb : stepBarred s = true) : exec (.timeOfDaySet w) s = .next (answerSt s w.origin stWrongState) :=
  settled_next hq hp.wf ((directWrite_timeOfDay hs hp hu).trans (by rw [timeOfDay_barred hb])) rfl (Within.answerSt ..).undisturbed

theorem timingObjectWrite_journals (hs : Serving s) (hq : Calm s) {o : Nat} (ho : o ∈ timingObjs) {w : Write} {row : ObjRow} (hp : Passes s o w row)
    (hu : w.unit = 0) (hf : journalFull s [writeRecord 0 o row w] = false) :
    exec (.timingObjectWrite o w) s = .next (journal s [writeRecord 0 o row w] (.write o w none)) := by
  have hown : timingWrite s o w = directWrite s o w := if_pos (by simp [ho])
  exact settled_next hq (wf_objectWrite hp.wf hp.obj_lt) (hown.trans (directWrite_timing ho hs hp hu hf)) rfl ⟨.refl _, rfl, rfl⟩

end

/-- Settles O20: the selection of a master, its loss, the time of day, a timing object, and the two pulses of the second. -/
theorem timeStates : Obligations.TimeStates := by
  intro s hs hq
  refine ⟨fun a hport hd hu hm hr => announce_selects hs hq hport hd hu hm hr, syncTimeout_holds hs,
    fun h hl => ready_next hs rfl ((syncLost_other h).trans (if_neg (by simp [hl]))) rfl rfl,
    fun h hl => ready_next hs rfl ((syncLost_other h).trans (if_pos hl)) rfl rfl,
    fun w row hp hu => ⟨timeOfDaySet_steps hs hq hp hu, timeOfDaySet_refused hs hq hp hu⟩,
    fun o ho w row hp hu hf => timingObjectWrite_journals hs hq ho hp hu hf,
    ready_next hs rfl rfl rfl (by split <;> rfl), fun stamp hr => ?_⟩
  have hw := Within.edgeTaken s stamp
  exact ⟨_, ready_settled hs hq rfl (ppsIn_follower hr stamp) rfl hw.undisturbed, edgeTaken_stamp .., edgeTaken_counts s stamp, hw.time⟩

end Sys2Proof.Proofs
end

section
/-! SUPPORT. The objects of an axis whose writes act on its stages or its engine (04 R96, R105; 05 R130; 07 R177, R186): the way of such a write, and what
each one comes to. -/

namespace Sys2Proof.Machine

/-! ### The way of a write to an axis -/

/-- SegmentAppend, QueueCommand, PhaseTrimAdd, TorqueOffsetClear and BankSwapRequest. -/
def axisActObjs : List Nat := [0x606, 0x641, 0x710, 0x712, 0x811]

set_option maxRecDepth 100000 in
theorem axisActRows_plain : ∀ o ∈ axisActObjs, ∀ k ∈ kAxes, (objRowOf k o).all (fun r => !r.jour && !r.stick) = true := by decide +kernel

theorem kind_of_axis {a : Nat} {k : UKind} (ha : isAxis a = true) (hk : kindOf a = some k) : k ∈ kAxes := by
  simp only [isAxis, decide_eq_true_eq] at ha
  have hlocal : (0x200 ≤ a ∧ a ≤ 0x21F) ∨ (0x220 ≤ a ∧ a ≤ 0x31F) ∨ (0x320 ≤ a ∧ a ≤ 0x39F) := by omega
  unfold kindOf at hk
  rw [if_neg (by omega), if_neg (by omega), if_neg (by omega)] at hk
  rcases hlocal with h | h | h
  · rw [if_pos h] at hk; cases hk; decide
  · rw [if_neg (by omega), if_pos h] at hk; cases hk; decide
  · rw [if_neg (by omega), if_neg (by omega), if_pos h] at hk; cases hk; decide

section
variable {s : State} {o : Nat} {w : Write} {row : ObjRow}

theorem axisActObj_num (ho : o ∈ axisActObjs) : o < 0xB00 ∧ o ≠ 0x301 :=
  (by decide : ∀ o ∈ axisActObjs, o < 0xB00 ∧ o ≠ 0x301) o ho

/-- The row of such an object is neither a journaled one nor a counter's. -/
theorem axisActRow_plain (hp : Passes s o w row) (ha : isAxis w.unit = true) (ho : o ∈ axisActObjs) : row.jour = false ∧ row.stick = false := by
  obtain ⟨hlow, -⟩ := axisActObj_num ho
  obtain ⟨k, hk, hobj⟩ := hp.names
  have haxis := kind_of_axis ha hk
  have hface : (k == UKind.cluster) = false := (by decide : ∀ k ∈ kAxes, (k == UKind.cluster) = false) k haxis
  have hplain := axisActRows_plain o ho k haxis
  unfold objAt at hobj
  rw [if_neg (by omega), hface, Bool.false_and, Bool.false_and, if_neg Bool.false_ne_true] at hobj
  simpa [hobj] using hplain

theorem writeEffect_axis {x : Option ItemReply × State} (ha : isAxis w.unit = true) (ho : o < 0xB00) (hst : row.stick = false)
    (hx : axisWrite s w.unit o row w = some x) : writeEffect s w.unit o row w = x := by
  have hcommon : commonWrite s w.unit o row w = none := by
    unfold commonWrite
    rw [if_neg (by omega), hst, if_neg Bool.false_ne_true, if_neg (by omega), if_neg (by omega)]
  have hown : (isAxis w.unit || isCluster w.unit) = true := by rw [ha, Bool.true_or]
  unfold writeEffect
  rw [hcommon, Option.orElse_none, if_neg (isAxis_ne_zero ha), if_pos hown, hx]
  rfl

/-- The write acts at once, and its status is its answer. -/
theorem directWrite_axis {st : Nat} {t : State} (hs : Serving s) (hp : Passes s o w row) (ha : isAxis w.unit = true) (ho : o ∈ axisActObjs)
    (hx : axisWrite s w.unit o row w = some (withStatus (st, t))) : directWrite s o w = answerSt t w.origin st := by
  obtain ⟨hlow, h301⟩ := axisActObj_num ho
  obtain ⟨hjour, hstick⟩ := axisActRow_plain hp ha ho
  have hserved : cellServed w.unit = true := by unfold cellServed; rw [ha]; rfl
  rw [directWrite_at_cell hs hp hserved hjour h301, writeEffect_axis ha hlow hstick hx]
  rfl

end

/-! ### What the writes do -/

section
variable {s : State} {a : Nat}

theorem segmentAppend_takes {b : Bytes} (h : s.st a = usReady ∨ s.st a = usActive) (hq : queueCount s a < 64) (hl : b.length = 64)
    (hb : segmentOk s a b = true) : segmentAppend s a b = (stOk, s.setAxis a { s.axis a with traj := { (s.axis a).traj with
        queue := (s.axis a).traj.queue ++ [readSegment b], held := true, dry := false } }) := by
  unfold segmentAppend
  rw [if_neg fun hn => h.elim hn.1 hn.2, if_neg (Nat.not_le.mpr hq), if_neg (by simp [hl, hb])]

theorem segmentAppend_wrongState {b : Bytes} (hr : s.st a ≠ usReady) (ha : s.st a ≠ usActive) : segmentAppend s a b = (stWrongState, s) :=
  if_pos ⟨hr, ha⟩

/-- FLUSH: every segment of the queue goes. -/
theorem axisWrite_flush (row : ObjRow) (o : Option Origin) : axisWrite s a 0x712 row { unit := a, data := leBytes 1 1, origin := o } =
    some (withOk (s.setAxis a { s.axis a with traj := { (s.axis a).traj with queue := [] } })) := by
  have hcode : leNat (leBytes 1 1) = 1 := by decide
  show some (withOk (queueCommand s a (leNat (leBytes 1 1)))) = _
  rw [hcode, queueCommand, if_pos rfl, queueFlush, emptyQueue]

/-- ABORT of an ACTIVE axis: the queue goes, and the stage is asked to stop. -/
theorem axisWrite_abort (row : ObjRow) (o : Option Origin) (h : s.st a = usActive) :
    axisWrite s a 0x712 row { unit := a, data := leBytes 1 2, origin := o } =
      some (withOk (s.setAxis a { s.axis a with traj := { (s.axis a).traj with queue := [], abortAsked := true } })) := by
  have hcode : leNat (leBytes 1 2) = 2 := by decide
  show some (withOk (queueCommand s a (leNat (leBytes 1 2)))) = _
  rw [hcode, queueCommand, if_neg (by decide), queueAbort, if_pos h]

theorem bankRequest_engine {v : Nat} (h : v = 1 ∨ v = 2) :
    bankRequest s a v = modEngine (s.setN a 0x064100 v) a fun g => { g with bankRequest := some (v - 1) } := if_pos h

theorem Within.modEngine (s : State) (a : Nat) (f : AxisEngine → AxisEngine) : Within s (modEngine s a f) := .setAxis ..

theorem modEngine_n (s : State) (a : Nat) (f : AxisEngine → AxisEngine) (u k : Nat) : (modEngine s a f).n u k = s.n u k := setAxis_at_n ..

theorem modEngine_engine (s : State) (a : Nat) (f : AxisEngine → AxisEngine) : ((modEngine s a f).axis a).engine = f (s.axis a).engine := by
  rw [modEngine, setAxis_read_self]

end
end Sys2Proof.Machine

namespace Sys2Proof.Proofs
open Sys2Proof.Machine

section
variable {s : State} {w : Write} {row : ObjRow}

/-- A command that is such a write of an axis completes in its effect, answered. -/
theorem axisWrite_next {i : Instr} {o st : Nat} {t : State} (hs : Serving s) (hq : Calm s) (hp : Passes s o w row) (ha : isAxis w.unit = true)
    (ho : o ∈ axisActObjs) (hw : i.wf = true) (hi : exec i s = done s (whenWf i s (directWrite s o w)))
    (hx : axisWrite s w.unit o row w = some (withStatus (st, t))) (ht : Within s t) : exec i s = .next (answerSt t w.origin st) :=
  settled_next hq hw (directWrite_axis hs hp ha ho hx) hi (ht.trans (.answerSt ..)).undisturbed

theorem segmentAppend_next {st : Nat} {t : State} (hs : Serving s) (hq : Calm s) (ha : isAxis w.unit = true) (hp : Passes s 0x710 w row)
    (h : segmentAppend s w.unit w.data = (st, t)) (ht : Within s t) : exec (.segmentAppend w) s = .next (answerSt t w.origin st) :=
  axisWrite_next hs hq hp ha (by decide) hp.wf rfl (congrArg (fun r => some (withStatus r)) h) ht

/-- BankSwapRequest asks the engine for the bank (07 R177). -/
theorem bankSwapRequest_asks (hs : Serving s) (hq : Calm s) (ha : isAxis w.unit = true) (hp : Passes s 0x641 w row)
    (hv : leNat w.data = 1 ∨ leNat w.data = 2) : Completes (.bankSwapRequest w) s fun t => t.n w.unit 0x064100 = leNat w.data
      ∧ (t.axis w.unit).engine = { (s.axis w.unit).engine with bankRequest := some (leNat w.data - 1) } := by
  have hx : axisWrite s w.unit 0x641 row w = some (withOk (bankRequest s w.unit (leNat w.data))) := rfl
  rw [bankRequest_engine hv] at hx
  refine ⟨_, axisWrite_next hs hq hp ha (by decide) hp.wf rfl hx ((Within.setV ..).trans (.modEngine ..)), ?_, ?_⟩
  · rw [answerSt_n, modEngine_n, setN_eq, setV_n_self, Int.toNat_natCast]
  · rw [answerSt_axis, modEngine_engine, setN_eq, setV_at_axis]

end

/-- Settles O21: each write goes by its axis's own effect and is answered. -/
theorem axisWrites : Obligations.AxisWrites := by
  rintro s w row a hs hq ha rfl
  have hunit := wf_axis ha
  refine ⟨fun hp hst hroom hlen hok => segmentAppend_next hs hq ha hp (segmentAppend_takes hst hroom hlen hok) (.setAxis ..),
    fun hp hr hact => segmentAppend_next hs hq ha hp (segmentAppend_wrongState hr hact) (.refl s), fun o hp => ?_, fun o hp hact => ?_, fun hp => ?_,
    fun o hp => ?_, fun hp hv => bankSwapRequest_asks hs hq ha hp hv⟩
  · exact axisWrite_next hs hq hp ha (by decide) hunit rfl (axisWrite_flush ..) (.setAxis ..)
  · exact axisWrite_next hs hq hp ha (by decide) hunit rfl (axisWrite_abort _ o hact) (.setAxis ..)
  · exact axisWrite_next hs hq hp ha (by decide) hp.wf rfl rfl (.setV ..)
  · exact axisWrite_next hs hq hp ha (by decide) ha rfl rfl (.setAxis ..)

end Sys2Proof.Proofs
end

section
/-! SUPPORT. A datagram that does not reach the device (02 R36), and a pending commit that a REVOKE sent to another address leaves as it is (04 R117). -/

namespace Sys2Proof.Machine

theorem lfpCommand_unreached {s : State} {d : Dgram} (h : reaches s d = false) (k : Nat) (draw : OpenDraw) : lfpCommand k s d draw = s := by
  have harrives : lfpArrives s d draw = s := by
    unfold lfpArrives
    rw [h, if_pos (.inr rfl)]
  unfold lfpCommand
  rw [harrives]
  split
  · exact ite_self s
  · rfl

end Sys2Proof.Machine

namespace Sys2Proof.Proofs
open Sys2Proof.Machine

theorem revoke_unreached {s : State} {d : Dgram} (hq : Calm s) (hw : wfDgram d = true) (h : reaches s d = false) : exec (.revoke d) s = .next s :=
  done_next hw (congrArg (fun t => done s (whenWf (.revoke d) s t)) (lfpCommand_unreached h mkRevoke default)) hq rfl

/-- A session of level ENGINEER with nothing held and nothing in service. -/
def commitHost : Session := { level := 2, src := ⟨9, 10⟩, sid := 4242, expect := 17 }

/-- Job 3, to fire about a second after the device's counter of 0. -/
def commitWaiting : Commit := { job := 3, trigger := 0, dir := 0, master := 0, timeT := 2 ^ 30, posP := 0, beat := 0, guard := 1000 }

/-- A device in service at address 10.0.0.9 with that session and that commit pending. -/
def commitPending : State := State.setSlot { deviceUp with ipv4 := 0x0A000009, commit := some commitWaiting } 15 (.opened commitHost)

theorem commitPending_serves : Serving commitPending ∧ Calm commitPending := by
  obtain ⟨hs, hq⟩ := deviceUp_of (s := { deviceUp with ipv4 := 0x0A000009, commit := some commitWaiting }) rfl rfl
  exact ⟨hs, hq.setSlot 15 rfl⟩

/-- The session's REVOKE of job 3, sent to 10.0.0.10. -/
def strayRevoke : Dgram :=
  ⟨⟨9, 10⟩, ⟨0x0A00000A, commitPending.lfpPort⟩, false, lfpBytes mkRevoke 0 commitHost.sid commitHost.expect (leBytes 1 3 ++ [0, 0, 0])⟩

set_option maxRecDepth 100000 in
theorem strayRevoke_carries : Carries strayRevoke mkRevoke commitHost.sid commitHost.expect (leBytes 1 3 ++ [0, 0, 0]) :=
  ⟨by decide, by decide +kernel⟩

theorem commitPending_atRest : AtRest commitPending strayRevoke 15 commitHost :=
  ⟨by decide +kernel, setSlot_read_self .., by decide, rfl, rfl, rfl, rfl, rfl⟩

theorem commitPending_inTime : commitPending.q + commitWaiting.guard < commitPending.beatStart (triggerBeat commitPending commitWaiting.timeT) := by
  decide +kernel

theorem strayRevoke_unreached : reaches commitPending strayRevoke = false := by decide +kernel

/-- Refutes O25: nothing asks that the REVOKE reach the device, and one in time that a host sends to another address takes no commit away. -/
theorem not_jobCommits : ¬ Obligations.JobCommits := by
  intro h
  obtain ⟨hs, hq⟩ := commitPending_serves
  obtain ⟨-, hrevoke, -⟩ := h commitPending strayRevoke 15 commitHost (leBytes 1 3 ++ [0, 0, 0]) hs hq
  obtain ⟨t, hnext, hgone, -⟩ :=
    hrevoke commitWaiting commitPending_atRest rfl rfl rfl (by decide) strayRevoke_carries commitPending_inTime
  have hstays := revoke_unreached hq strayRevoke_carries.1 strayRevoke_unreached
  obtain rfl : commitPending = t := Host.Outcome.next.inj (hstays.symm.trans hnext)
  exact Option.some_ne_none commitWaiting hgone

end Sys2Proof.Proofs
end

section
/-! SUPPORT. CamCommand (05 R133, R134): the transaction of one that the table may take, and the refusals of SEAL and ERASE. -/

namespace Sys2Proof.Machine

/-! ### A refusal that is the unit's own (02 Table 2-5) -/

section
variable {s : State} {o e : Nat} {w : Write} {row : ObjRow}

theorem lowerCode_fullRefusal (h : e ≤ stJournalFull) (s : State) (txn : Option (List JRecord × TxnAct)) :
    lowerCode (some e) (txn.bind fun t => fullRefusal s t.1) = some e := by
  cases txn with
  | none => rfl
  | some t =>
    show lowerCode (some e) (fullRefusal s t.1) = some e
    unfold fullRefusal
    split
    · exact congrArg some (Nat.min_eq_left h)
    · rfl

/-- A refusal of the unit's own whose code is not above JOURNAL_FULL is given whether or not the journal has room. -/
theorem takeWrite_refused {u : Nat} (hr : ownRefusal s u o row w = some e) (he : e ≤ stJournalFull) (port : Option Nat) :
    takeWrite s u o row w port = (some { status := e }, s) := by
  simp only [takeWrite, hr, lowerCode_fullRefusal he]

/-- On a unit that no cell serves, such a refusal is the whole outcome of a write given by itself. -/
theorem directWrite_ownRefused (hs : Serving s) (hu : storeOf s w.unit o = w.unit) (hc : directCheck s w.unit o w = .ok row)
    (hcell : cellServed w.unit = false) (ho : o ≠ 0x144) (hr : ownRefusal s w.unit o row w = some e) (he : e ≤ stJournalFull) :
    directWrite s o w = answerSt s w.origin e := by
  unfold directWrite writeServe
  simp only [keeperUp_of hs, hu, hc, hcell, takeWrite_refused hr he, if_neg ho, Bool.not_true, Bool.false_and, Bool.false_eq_true, if_false]
  rfl

end

/-! ### CamCommand of table n -/

section
variable {s : State} {n : Nat} {row : ObjRow} {w : Write}

/-- The object is in no other range that the root's rules name. -/
theorem rootRefusal_camCommand (hn : n < 1024) (s : State) (w : Write) : rootRefusal s (0x2C00 + n) w = camRefusal s n (leNat w.data) := by
  have htiming : ¬(timingObjs.contains (0x2C00 + n) = true ∨ 0x2C00 + n = 0x320) := by
    simp only [timingObjs, List.contains_eq_mem, List.mem_cons, List.not_mem_nil, or_false, decide_eq_true_eq]
    omega
  unfold rootRefusal
  rw [if_neg htiming, if_neg (by omega), if_neg (by omega), if_neg (by omega), if_pos (by omega), Nat.add_sub_cancel_left]

theorem journaledCommand_camCommand (hn : n < 1024) (s : State) (w : Write) :
    journaledCommand s (0x2C00 + n) w = some (camRecords s n (leNat w.data), .write (0x2C00 + n) w none) := by
  unfold journaledCommand
  rw [if_neg (by omega), if_neg (by omega), if_neg (by omega), if_pos (by omega), Nat.add_sub_cancel_left]

/-- One whose checks pass hands the table's records to the keeper. -/
theorem directWrite_camCommand (hs : Serving s) (hn : n < 1024) (hu : w.unit = 0) (hp : Passes s (0x2C00 + n) w row)
    (hf : journalFull s (camRecords s n (leNat w.data)) = false) :
    directWrite s (0x2C00 + n) w = journal s (camRecords s n (leNat w.data)) (.write (0x2C00 + n) w none) := by
  have htxn : journalTxn s w.unit (0x2C00 + n) row w none = some (camRecords s n (leNat w.data), .write (0x2C00 + n) w none) := by
    rw [hu, journalTxn, if_pos rfl, journaledCommand_camCommand hn]
    rfl
  exact directWrite_journaled hs hp (.inl (by rw [hu]; rfl)) (by omega) htxn hf

/-- One that the table's state or its use forbids is answered with the refusal. -/
theorem directWrite_camRefused {e : Nat} (hs : Serving s) (hn : n < 1024) (hu : w.unit = 0) (hc : directCheck s 0 (0x2C00 + n) w = .ok row)
    (hr : camRefusal s n (leNat w.data) = some e) (he : e ≤ stJournalFull) : directWrite s (0x2C00 + n) w = answerSt s w.origin e := by
  rw [← rootRefusal_camCommand hn s w] at hr
  rw [← hu] at hc
  refine directWrite_ownRefused hs (by rw [hu]; rfl) hc (by rw [hu]; rfl) (by omega) ?_ he
  rw [hu]
  exact hr

/-- Only an OPEN table is sealed (R133). -/
theorem camRefusal_seal (h : camState s n ≠ 1) : camRefusal s n 2 = some 0x21 := if_pos h

/-- A table in use is not erased (R134). -/
theorem camRefusal_erase (h : tableInUse s n = true) : camRefusal s n 3 = some 0x23 := if_pos h

end
end Sys2Proof.Machine

namespace Sys2Proof.Proofs
open Sys2Proof.Machine

section
variable {s : State} {i : Instr} {n c : Nat} {row : ObjRow} {o : Option Origin}

/-- A command of table n that writes such a code completes in its transaction. -/
theorem camCommand_journals (hs : Serving s) (hq : Calm s) (hn : n < 1024) (hw : i.wf = decide (n < 1024))
    (hi : exec i s = done s (whenWf i s (directCommand s 0 (0x2C00 + n) 1 c o))) (hc : leNat (leBytes 1 c) = c)
    (hp : Passes s (0x2C00 + n) { unit := 0, data := leBytes 1 c, origin := o } row) (hf : journalFull s (camRecords s n c) = false) :
    exec i s = .next (journal s (camRecords s n c) (.write (0x2C00 + n) { unit := 0, data := leBytes 1 c, origin := o } none)) := by
  have hserve := directWrite_camCommand hs hn rfl hp ((congrArg (fun v => journalFull s (camRecords s n v)) hc).trans hf)
  rw [hc] at hserve
  rw [hi, whenWf_of (hw.trans (decide_eq_true hn)), directCommand, hserve]
  exact done_journal hq _ _

/-- One that the table does not take completes in its refusal. -/
theorem camCommand_refused {e : Nat} (hs : Serving s) (hq : Calm s) (hn : n < 1024) (hw : i.wf = decide (n < 1024))
    (hi : exec i s = done s (whenWf i s (directCommand s 0 (0x2C00 + n) 1 c o))) (hc : leNat (leBytes 1 c) = c)
    (hk : directCheck s 0 (0x2C00 + n) { unit := 0, data := leBytes 1 c, origin := o } = .ok row) (hr : camRefusal s n c = some e)
    (he : e ≤ stJournalFull) : exec i s = .next (answerSt s o e) :=
  settled_next hq (hw.trans (decide_eq_true hn)) (directWrite_camRefused hs hn rfl hk ((congrArg (camRefusal s n) hc).trans hr) he) hi
    (Within.answerSt ..).undisturbed

end

/-- Settles O26: OPEN, SEAL and ERASE through the journal, SEAL of a table that is not OPEN, and ERASE of one in use. -/
theorem camCommands : Obligations.CamCommands := by
  intro s n o row hs hq hn
  refine ⟨fun hp hf => ?_, fun hp hf => ?_, fun hp hf => ?_, fun hc hst => ?_, fun hc huse => ?_⟩
  · exact camCommand_journals hs hq hn rfl rfl (by decide) hp hf
  · exact camCommand_journals hs hq hn rfl rfl (by decide) hp hf
  · exact camCommand_journals hs hq hn rfl rfl (by decide) hp hf
  · exact camCommand_refused hs hq hn rfl rfl (by decide) hc (camRefusal_seal hst) (by decide)
  · exact camCommand_refused hs hq hn rfl rfl (by decide) hc (camRefusal_erase huse) (by decide)

end Sys2Proof.Proofs
end

section
/-! SUPPORT. The latch and compare stages of an axis (06): what a change of either half leaves alone, the counters of the stages and of the timing
outputs, and a command of the stages as a whole. -/

namespace Sys2Proof.Machine

/-! ### The halves of an axis -/

section
variable (s : State) (a : Nat)

theorem modLatch_self (f : AxisLatch → AxisLatch) : (modLatch s a f).axis a = { s.axis a with latch := f (s.axis a).latch } := setAxis_read_self ..

theorem modLatch_ne (f : AxisLatch → AxisLatch) {x : Nat} (h : a ≠ x) : (modLatch s a f).axis x = s.axis x :=
  (setAxis_read ..).trans (if_neg h)

@[simp] theorem modLatch_at_n (f : AxisLatch → AxisLatch) (x k : Nat) : (modLatch s a f).n x k = s.n x k := rfl

theorem Within.modLatch (f : AxisLatch → AxisLatch) : Within s (modLatch s a f) := .setAxis ..

theorem modCompare_self (f : AxisCompare → AxisCompare) : (modCompare s a f).axis a = { s.axis a with compare := f (s.axis a).compare } :=
  setAxis_read_self ..

@[simp] theorem modCompare_at_n (f : AxisCompare → AxisCompare) (x k : Nat) : (modCompare s a f).n x k = s.n x k := rfl
@[simp] theorem modCompare_at_pin (f : AxisCompare → AxisCompare) (p : Nat) : (modCompare s a f).pin p = s.pin p := rfl

@[simp] theorem modCompare_sent (f : AxisCompare → AxisCompare) : (modCompare s a f).sent = s.sent := rfl

theorem Within.modCompare (f : AxisCompare → AxisCompare) : Within s (modCompare s a f) := .setAxis ..

end

/-! ### Counters -/

/-- The counters of an axis's stages: entries outside the window (R149) and targets missed (R155). -/
def stageCounters : List Nat := [0x090C00, 0x093800]

set_option maxRecDepth 100000 in
theorem stageCounter_rows : ∀ k ∈ stageCounters, ∀ r ∈ allRows, r.stick = true → r.obj = k / 256 → k % 256 ≤ r.elHi := by decide +kernel

set_option maxRecDepth 100000 in
theorem stageCounter_type : ∀ k ∈ stageCounters, ∀ kd ∈ kAxes, ((rowOf kd (k / 256) (k % 256)).map fun r => r.ty.maxNat).getD (2 ^ 32 - 1) = 2 ^ 32 - 1 := by
  decide +kernel

theorem stageCounter_range : ∀ k ∈ stageCounters, 0x090C00 ≤ k ∧ k ≤ 0x093800 := by decide

theorem kindOf_axis {a : Nat} (ha : isAxis a = true) : ∃ kd ∈ kAxes, kindOf a = some kd := by
  cases hk : kindOf a with
  | some kd => exact ⟨kd, kind_of_axis ha hk, rfl⟩
  | none =>
    simp only [isAxis, decide_eq_true_eq] at ha
    unfold kindOf at hk
    repeat' split at hk
    all_goals first | contradiction | omega

theorem bump_stageCounter (s : State) {a k : Nat} (ha : isAxis a = true) (hk : k ∈ stageCounters) : Counts s (bump s a k) a k := by
  intro hv
  obtain ⟨kd, haxis, hkind⟩ := kindOf_axis ha
  obtain ⟨h1, h2⟩ := stageCounter_range k hk
  exact bump_counts s a k kd (by omega) hkind (stageCounter_rows k hk) (by omega) (by omega) (by rw [stageCounter_type k hk kd haxis]; exact hv)

set_option maxRecDepth 100000 in
theorem squeezeCount_type : ∀ p < 16, ((rowOf .root 0x923 p).map fun r => r.ty.maxNat).getD (2 ^ 32 - 1) = 2 ^ 32 - 1 := by decide +kernel

/-- A moved edge of a timing output is counted at the output (R157). -/
theorem bump_squeezeCount (s : State) {p : Nat} (hp : p < 16) : Counts s (bump s 0 (0x092300 + p)) 0 (0x092300 + p) := by
  intro hv
  have hobj : (0x092300 + p) / 256 = 0x923 ∧ (0x092300 + p) % 256 = p := by omega
  refine bump_counts s 0 (0x092300 + p) .root (by omega) rfl (squeezeCount_rows p hp) (by omega) (by omega) ?_
  rw [hobj.1, hobj.2, squeezeCount_type p hp]
  exact hv

/-! ### A command of the stages -/

/-- A command of the COMB domains whose effect nothing can wait for completes in its effect, in service. -/
theorem runsQuiet_next {i : Instr} {s t x : State} (hs : Serving s) (hw : i.wf = true) (he : x = t)
    (hx : exec i s = quiet s (whenWf i s (whenRuns s x))) (hp : t.pending = s.pending) : exec i s = .next t := by
  rw [hx, whenWf_of hw, whenRuns_of (combRuns_of hs), he]
  exact quiet_next hp

end Sys2Proof.Machine
end

section
/-! SUPPORT. The latch of an axis (06 R145 to R151): an edge on an input, and the entry that the first waiting edge becomes. -/

namespace Sys2Proof.Machine

/-! ### An edge on an input (R145, R146) -/

/-- The edge, as it waits at an axis. -/
def waitingEdge (i : Nat) (level : Bool) (stamp : Nat) : LatchEdge := ⟨stamp / 8 * 8, i, !level⟩

/-- One axis takes the edge, if it selects the input and the edge. -/
def offerEdge (i : Nat) (level : Bool) (stamp : Nat) (s : State) (a : Nat) : State :=
  if takesEdge s a i level then modLatch s a fun l => { l with edges := insertEdge (waitingEdge i level stamp) l.edges } else s

/-- Every live axis is offered the edge. -/
def offerEdges (s : State) (i : Nat) (level : Bool) (stamp : Nat) : State := (liveAxes s).foldl (offerEdge i level stamp) s

section
variable (s : State) (a i : Nat) (level : Bool) (stamp : Nat)

theorem Within.offerEdge : Within s (offerEdge i level stamp s a) := by
  unfold Machine.offerEdge
  split
  · exact .modLatch ..
  · exact .refl s

theorem Within.offerEdges : Within s (offerEdges s i level stamp) := .foldl _ _ _ fun t b => .offerEdge t b i level stamp

theorem offerEdge_dict : (offerEdge i level stamp s a).dict = s.dict := by
  unfold offerEdge
  split <;> rfl

theorem takesEdge_of_dict {s t : State} (h : t.dict = s.dict) : takesEdge t a i level = takesEdge s a i level := by
  have hn : ∀ k, t.n a k = s.n a k := fun k => n_of_val (val_of_dict h)
  simp only [takesEdge, hn]

theorem offerEdge_self : (offerEdge i level stamp s a).axis a = if takesEdge s a i level = true then
    { s.axis a with latch := { (s.axis a).latch with edges := insertEdge (waitingEdge i level stamp) (s.axis a).latch.edges } } else s.axis a := by
  unfold offerEdge
  split
  · exact modLatch_self ..
  · rfl

theorem offerEdge_ne {b : Nat} (h : b ≠ a) : (offerEdge i level stamp s b).axis a = s.axis a := by
  unfold offerEdge
  split
  · exact modLatch_ne _ _ _ h
  · rfl

/-- Of the axes in a list, each offered the edge once, those that take it have it among their edges; no other axis changes. -/
theorem foldl_offerEdge_axis {l : List Nat} (hl : l.Nodup) (s : State) : (l.foldl (offerEdge i level stamp) s).axis a =
    if a ∈ l ∧ takesEdge s a i level = true then
      { s.axis a with latch := { (s.axis a).latch with edges := insertEdge (waitingEdge i level stamp) (s.axis a).latch.edges } }
    else s.axis a := by
  induction l generalizing s with
  | nil => simp
  | cons b r ih =>
    obtain ⟨hb, hr⟩ := List.nodup_cons.mp hl
    rw [List.foldl_cons, ih hr, takesEdge_of_dict a i level (offerEdge_dict s b i level stamp)]
    by_cases hba : b = a
    · subst hba
      simp [hb, offerEdge_self]
    · have hab : a ≠ b := Ne.symm hba
      simp [offerEdge_ne s a i level stamp hba, hab]

end

theorem liveAxes_nodup (s : State) : (liveAxes s).Nodup := (List.nodup_range.sublist (List.drop_sublist ..)).filter _

section
variable {s : State} {a i : Nat} {level : Bool} (stamp : Nat)

theorem offerEdges_taken (hlive : a ∈ liveAxes s) (h : takesEdge s a i level = true) : (offerEdges s i level stamp).axis a =
    { s.axis a with latch := { (s.axis a).latch with edges := insertEdge (waitingEdge i level stamp) (s.axis a).latch.edges } } := by
  rw [offerEdges, foldl_offerEdge_axis a i level stamp (liveAxes_nodup s), if_pos ⟨hlive, h⟩]

theorem offerEdges_other (h : a ∉ liveAxes s ∨ takesEdge s a i level = false) : (offerEdges s i level stamp).axis a = s.axis a := by
  rw [offerEdges, foldl_offerEdge_axis a i level stamp (liveAxes_nodup s), if_neg]
  rintro ⟨hlive, htakes⟩
  exact h.elim (· hlive) fun hf => Bool.false_ne_true (hf.symm.trans htakes)

end

/-- The edge waits at its input for the filter to decide it. -/
def holdEdge (s : State) (i stamp : Nat) : State :=
  { s with latchIns := mapPut {} s.latchIns i { mapGet {} s.latchIns i with cand := some stamp } }

section
variable {s : State} {i stamp : Nat} {level : Bool}

theorem holdEdge_input : mapGet {} (holdEdge s i stamp).latchIns i = { mapGet {} s.latchIns i with cand := some stamp } := mapGet_mapPut_self ..

theorem holdEdge_axis (a : Nat) : (holdEdge s i stamp).axis a = s.axis a := rfl

theorem holdEdge_pending : (holdEdge s i stamp).pending = s.pending := rfl

/-- An edge on an input with no undecided edge waits at the axes, and at the input for the filter to decide it. -/
theorem latchEdge_waits (hc : (mapGet {} s.latchIns i).cand = none) (hl : latchLevel s i ≠ level) :
    latchEdge s i level stamp = holdEdge (offerEdges s i level stamp) i (stamp / 8 * 8) := by
  have hput : ∀ t : State, t.latchIns = s.latchIns →
      { t with latchIns := mapPut {} t.latchIns i { mapGet {} s.latchIns i with cand := some (stamp / 8 * 8) } } = holdEdge t i (stamp / 8 * 8) :=
    fun t ht => by rw [holdEdge, ht]
  unfold latchEdge
  rw [if_neg hl]
  split
  next c hsome => cases hc.symm.trans hsome
  next => exact hput (offerEdges s i level stamp) (Within.offerEdges ..).latchIns

theorem latchEdge_same (h : latchLevel s i = level) : latchEdge s i level stamp = s := if_pos h

/-- The present level of an input turns when an edge begins to wait there. -/
theorem latchLevel_turned {t : State} {stamp : Nat} (hc : (mapGet {} s.latchIns i).cand = none) (hl : latchLevel s i ≠ level)
    (ht : mapGet {} t.latchIns i = { mapGet {} s.latchIns i with cand := some stamp }) : latchLevel t i = level := by
  unfold latchLevel at hl ⊢
  simp only [hc, ht, Option.isSome_none, Option.isSome_some, Bool.bne_false, Bool.bne_true] at hl ⊢
  exact Bool.not_eq.mpr hl

end

/-! ### The entry (R147 to R151) -/

/-- The entry that an edge becomes whose position is p (Table 6-2). -/
def edgeEntry (s : State) (a : Nat) (e : LatchEdge) (lp : LatchPos) (p : Int) : LatchEntry := {
  stamp := e.stamp / 8, position := wrapPos (m16 s a) p, turns := wrapTurns (m16 s a) p, seq := (s.n a 0x090900 + 1) % 2 ^ 32, input := e.input,
  falling := e.falling, flags := if lp.long then 2 else 0 }

section
variable {s : State} {a : Nat} {e : LatchEdge} {rest : List LatchEdge} {lp : LatchPos} {p : Int}

theorem latchInsert_enters (he : (s.axis a).latch.edges = e :: rest) (hd : inputsDecided s a e.stamp = true) (hlp : latchPos s a e.stamp = some lp)
    (hp : lp.pos = some p) (hw : inWindow s a (wrapPos (m16 s a) p) = true) (hroom : (s.axis a).latch.fifo.length < 64) :
    latchInsert s a = modLatch ((modLatch s a fun l => { l with edges := rest }).setN a 0x090900 ((s.n a 0x090900 + 1) % 2 ^ 32)) a
      fun l => { l with fifo := l.fifo ++ [edgeEntry s a e lp p] } := by
  have hfifo : (((modLatch s a fun l => { l with edges := rest }).setN a 0x090900 ((s.n a 0x090900 + 1) % 2 ^ 32)).axis a).latch.fifo.length < 64 := by
    rw [setN_eq, setV_at_axis, modLatch_self]
    exact hroom
  unfold latchInsert
  simp only [he, hd, hlp, hp, hw, hfifo, if_true, Bool.not_true, Bool.and_false, Bool.false_eq_true, if_false, Option.isNone_some, Nat.zero_add,
    Option.map_some, Option.getD_some]
  rfl

theorem latchInsert_outside (he : (s.axis a).latch.edges = e :: rest) (hd : inputsDecided s a e.stamp = true) (hlp : latchPos s a e.stamp = some lp)
    (hp : lp.pos = some p) (hw : inWindow s a (wrapPos (m16 s a) p) = false) :
    latchInsert s a = bump (modLatch s a fun l => { l with edges := rest }) a 0x090C00 := by
  unfold latchInsert
  simp [he, hd, hlp, hp, hw]

end
end Sys2Proof.Machine

namespace Sys2Proof.Proofs
open Sys2Proof.Machine

theorem latchEdge_next {s : State} {i stamp : Nat} {level : Bool} {t : State} (hs : Serving s) (hi : i < 16) (he : latchEdge s i level stamp = t)
    (hp : t.pending = s.pending) : exec (.latchEdge i level stamp) s = .next t :=
  runsQuiet_next hs (decide_eq_true hi) he rfl hp

theorem latchEntryInsert_next {s : State} {a : Nat} {t : State} (hs : Serving s) (ha : isAxis a = true) (he : latchInsert s a = t)
    (hp : t.pending = s.pending) : exec (.latchEntryInsert a) s = .next t :=
  runsQuiet_next hs ha he rfl hp

/-- Settles O22: an edge that turns its input, one that does not, and the first waiting edge inside and outside the window. -/
theorem latches : Obligations.Latches := by
  intro s i stamp level hs hi
  refine ⟨fun hc hl => ?_, fun hl => latchEdge_next hs hi (latchEdge_same hl) rfl, fun a e rest lp p ha he hd hlp hp => ⟨fun hw hroom => ?_, fun hw => ?_⟩⟩
  · have hins : (offerEdges s i level stamp).latchIns = s.latchIns := (Within.offerEdges ..).latchIns
    have hin := holdEdge_input (s := offerEdges s i level stamp) (i := i) (stamp := stamp / 8 * 8)
    rw [hins] at hin
    exact ⟨_, latchEdge_next hs hi (latchEdge_waits hc hl) (holdEdge_pending.trans (Within.offerEdges ..).pending), hin, latchLevel_turned hc hl hin,
      fun a ha ht => (holdEdge_axis a).trans (offerEdges_taken stamp ha ht), fun a ha => (holdEdge_axis a).trans (offerEdges_other stamp ha)⟩
  · refine ⟨_, latchEntryInsert_next hs ha (latchInsert_enters he hd hlp hp hw hroom)
      (((Within.modLatch ..).trans (.setV ..)).trans (.modLatch ..)).pending, ?_, ?_⟩
    · rw [modLatch_at_n, setN_eq, setV_n_self, Int.toNat_natCast]
    · rw [modLatch_self, setN_eq, setV_at_axis, modLatch_self]
      rfl
  · have hb := bump_same (modLatch s a fun l => { l with edges := rest }) a 0x090C00
    refine ⟨_, latchEntryInsert_next hs ha (latchInsert_outside he hd hlp hp hw) hb.pending, ?_,
      (bump_stageCounter _ ha (by decide : 0x090C00 ∈ stageCounters)).of_n (modLatch_at_n ..) rfl⟩
    rw [axis_congr hb.axes, modLatch_self]

end Sys2Proof.Proofs
end

section
/-! SUPPORT. Compare targets (06 R153 to R155, R158): the commands that write them, and the insertion of a published target. -/

namespace Sys2Proof.Machine

/-! ### The way of a write to the compare stage -/

/-- CompareAppend, CompareCommand and CompareStatus. -/
def compareObjs : List Nat := [0x933, 0x935, 0x936]

set_option maxRecDepth 100000 in
theorem compareRows_plain : ∀ o ∈ compareObjs, ∀ k ∈ kAxes, (objRowOf k o).all (fun r => !r.jour && !r.stick) = true := by decide +kernel

section
variable {s : State} {o : Nat} {w : Write} {row : ObjRow}

/-- The row that a write to an axis names is that of its object on the axis's kind. -/
theorem Passes.axisRow (hp : Passes s o w row) (ha : isAxis w.unit = true) (ho : o < 0xC000) : ∃ k ∈ kAxes, objRowOf k o = some row := by
  obtain ⟨k, hk, hobj⟩ := hp.names
  have haxis := kind_of_axis ha hk
  have hface : (k == UKind.cluster) = false := (by decide : ∀ k ∈ kAxes, (k == UKind.cluster) = false) k haxis
  unfold objAt at hobj
  rw [if_neg (Nat.not_le.mpr ho), hface, Bool.false_and, Bool.false_and, if_neg Bool.false_ne_true] at hobj
  exact ⟨k, haxis, hobj⟩

/-- The write acts at once, and its status is its answer. -/
theorem directWrite_compare {st : Nat} {t : State} (hs : Serving s) (hp : Passes s o w row) (ha : isAxis w.unit = true) (ho : o ∈ compareObjs)
    (hx : axisWrite s w.unit o row w = some (withStatus (st, t))) : directWrite s o w = answerSt t w.origin st := by
  obtain ⟨hlow, h301⟩ := (by decide : ∀ o ∈ compareObjs, o < 0xB00 ∧ o ≠ 0x301) o ho
  obtain ⟨k, haxis, hrow⟩ := hp.axisRow ha (by omega)
  have hplain := compareRows_plain o ho k haxis
  rw [hrow, Option.all_some, Bool.and_eq_true, Bool.not_eq_true', Bool.not_eq_true'] at hplain
  obtain ⟨hjour, hstick⟩ := hplain
  have hserved : cellServed w.unit = true := by unfold cellServed; rw [ha]; rfl
  rw [directWrite_at_cell hs hp hserved hjour h301, writeEffect_axis ha hlow hstick hx]
  rfl

end

/-! ### What the commands do -/

section
variable {s : State} {a : Nat}

theorem compareAppend_takes {b : Bytes} (h : s.st a = usReady ∨ s.st a = usActive) (hroom : targetsHeld s a < 256) (hpin : (readTarget b).pin < 16)
    (hown : s.n 0 (0x092000 + (readTarget b).pin) = a) (hm : m16 s a = 0) (hact : (readTarget b).action < 3) :
    compareAppend s a b = (stOk, s.setAxis a { s.axis a with compare := { (s.axis a).compare with
      published := (s.axis a).compare.published ++ [(readTarget b, s.beat.n)] } }) := by
  have hplace : ¬(16 ≤ (readTarget b).pin ∨ s.n 0 (0x092000 + (readTarget b).pin) ≠ a) := fun h => h.elim (Nat.not_le.mpr hpin) (· hown)
  have hvalid : ¬((m16 s a ≠ 0 ∧ ¬(0 ≤ (readTarget b).pos ∧ (readTarget b).pos < m16 s a)) ∨ 3 < (readTarget b).action
      ∨ ((readTarget b).action = 3 ∧ (readTarget b).width < 320)) := by
    rw [hm]
    omega
  unfold compareAppend
  rw [if_neg fun hn => h.elim hn.1 hn.2, if_neg (Nat.not_le.mpr hroom), if_neg hplace, if_neg hvalid]
  rfl

theorem Within.compareFlush (s : State) (a : Nat) : Within s (compareFlush s a) := (Within.modCompare ..).trans (.publish ..)

theorem compareFlush_compare (s : State) (a : Nat) :
    ((compareFlush s a).axis a).compare = { (s.axis a).compare with queue := [], published := [] } := by
  rw [compareFlush, axis_congr (publish_same ..).axes, modCompare_self]

theorem stickyClear_n (s : State) (u o e v : Nat) : (stickyClear s u o e v).n u (o * 256 + e) =
    bitsToNat ((List.range 32).map fun i => bitOf (s.n u (o * 256 + e)) i && !bitOf v i) := by
  rw [stickyClear, setN_eq, setV_n_self, Int.toNat_natCast]

/-! ### The insertion of a target (R154, R155) -/

/-- The state with the first published target taken. -/
def targetTaken (s : State) (a : Nat) (rest : List (Target × Nat)) : State := modCompare s a fun c => { c with published := rest }

section
variable {g : Target} {n : Nat} {rest : List (Target × Nat)} {x : AxisSample}

/-- On a linear axis a target ahead of its reference sample takes its place in the queue. -/
theorem compareInsert_ahead (hp : (s.axis a).compare.published = (g, n) :: rest)
    (hx : (compareSamples s a).find? (fun x => decide (x.beat ≤ n)) = some x) (hm : m16 s a = 0) (hd : 0 < aheadOf s a x.pos g) :
    compareInsert s a = modCompare (targetTaken s a rest) a fun c => { c with queue := insertTarget (aheadOf s a x.pos) g c.queue } := by
  unfold compareInsert
  simp only [hp, hx, hm, if_true, if_neg (Int.not_le.mpr hd)]
  rfl

/-- One that the axis has passed is missed. -/
theorem compareInsert_passed (hp : (s.axis a).compare.published = (g, n) :: rest)
    (hx : (compareSamples s a).find? (fun x => decide (x.beat ≤ n)) = some x) (hm : m16 s a = 0) (hd : aheadOf s a x.pos g ≤ 0) :
    compareInsert s a = missed (targetTaken s a rest) a g 0 := by
  unfold compareInsert
  simp only [hp, hx, hm, if_true, if_pos hd]
  rfl

end

section
variable (s a) (g : Target) (cause : Nat)

theorem Within.missed : Within s (missed s a g cause) := ((Within.setV ..).trans (.bump ..)).trans (.publish ..)

theorem missed_axis : (missed s a g cause).axis a = s.axis a :=
  axis_congr ((publish_same ..).axes.trans ((bump_same ..).axes.trans (setV_axes ..))) a

/-- The event of a missed target leaves the elements of the stages as they are. -/
theorem missed_n {k : Nat} (hk : 0x090000 ≤ k ∧ k < 0x0A0000) :
    (missed s a g cause).n a k = (bump (s.setN a 0x093600 (setBit (s.n a 0x093600) 0)) a 0x093800).n a k :=
  n_of_val (publish_keeps _ _ _ _ _ _ (by omega) (.inr (by omega)))

theorem missed_status : (missed s a g cause).n a 0x093600 = setBit (s.n a 0x093600) 0 := by
  rw [missed_n s a g cause (by omega),
    n_of_val (bump_keeps _ a 0x093800 a 0x093600 (by omega) (by omega) (stageCounter_rows _ (by decide)) (.inr (by omega)) (by omega)),
    setN_eq, setV_n_self, Int.toNat_natCast]

theorem missed_counts (ha : isAxis a = true) : Counts s (missed s a g cause) a 0x093800 := by
  refine (bump_stageCounter _ ha (by decide : 0x093800 ∈ stageCounters)).of_n ?_ (missed_n s a g cause (by omega))
  exact setV_n_ne _ _ (by unfold keyOf; omega)

end
end
end Sys2Proof.Machine

namespace Sys2Proof.Proofs
open Sys2Proof.Machine

/-- A command that writes the compare stage of an axis completes in its effect, answered. -/
theorem compareWrite_next {s : State} {w : Write} {row : ObjRow} {i : Instr} {o st : Nat} {t : State} (hs : Serving s) (hq : Calm s) (hp : Passes s o w row)
    (ha : isAxis w.unit = true) (ho : o ∈ compareObjs) (hw : i.wf = true) (hi : exec i s = done s (whenWf i s (directWrite s o w)))
    (hx : axisWrite s w.unit o row w = some (withStatus (st, t))) (ht : Within s t) : exec i s = .next (answerSt t w.origin st) :=
  settled_next hq hw (directWrite_compare hs hp ha ho hx) hi (ht.trans (.answerSt ..)).undisturbed

theorem compareTargetInsert_next {s : State} {a : Nat} {t : State} (hs : Serving s) (ha : isAxis a = true) (he : compareInsert s a = t)
    (hw : Within s t) : exec (.compareTargetInsert a) s = .next t :=
  runsQuiet_next hs ha he rfl hw.pending

/-- Settles O23: an append, the insertion of a target ahead of the axis and of one behind it, FLUSH, and the clearing of sticky bits. -/
theorem compareTargets : Obligations.CompareTargets := by
  intro s a hs ha
  refine ⟨?_, fun g n rest x hp hx hm => ⟨fun hd => ?_, fun hd => ?_⟩, fun o row hq hp => ?_, ?_⟩
  · rintro w row hq rfl hp hst hroom hpin hown hm hact
    have htakes := congrArg (fun r => some (withStatus r)) (compareAppend_takes hst hroom hpin hown hm hact)
    exact compareWrite_next hs hq hp ha (by decide) hp.wf rfl htakes (.setAxis ..)
  · refine ⟨_, compareTargetInsert_next hs ha (compareInsert_ahead hp hx hm hd) ((Within.modCompare ..).trans (.modCompare ..)), ?_, rfl⟩
    rw [modCompare_self, targetTaken, modCompare_self]
  · refine ⟨_, compareTargetInsert_next hs ha (compareInsert_passed hp hx hm hd) ((Within.modCompare ..).trans (.missed ..)), ?_, ?_, ?_⟩
    · rw [missed_axis, targetTaken, modCompare_self]
    · rw [missed_status, targetTaken, modCompare_at_n]
    · exact (missed_counts _ a g 0 ha).of_n (modCompare_at_n ..) rfl
  · exact ⟨_, compareWrite_next hs hq hp ha (by decide) ha rfl rfl (.compareFlush s a),
      (congrArg AxisS.compare (answerSt_axis ..)).trans (compareFlush_compare s a)⟩
  · rintro w row hq rfl - hp
    exact ⟨_, compareWrite_next hs hq hp ha (by decide) hp.wf rfl rfl (.setV ..), (answerSt_n ..).trans (stickyClear_n s w.unit 0x936 0 _)⟩

end Sys2Proof.Proofs
end

section
/-! SUPPORT. The timing outputs (06 R152, R156, R157): where an edge leaves the device, and the edges of a firing and of a pulse's end. -/

namespace Sys2Proof.Machine

/-! ### The instant of an edge (R157) -/

section
variable {s t : State} {p : Nat}

theorem pinGrid_of_dict (h : t.dict = s.dict) (x : Nat) : pinGrid t p x = pinGrid s p x := by
  unfold pinGrid
  rw [n_of_val (val_of_dict h)]

theorem pinInstant_of (h : t.dict = s.dict) (hl : (t.pin p).lastEdge = (s.pin p).lastEdge) (x : Nat) : pinInstant t p x = pinInstant s p x := by
  unfold pinInstant
  rw [pinGrid_of_dict h, hl, n_of_val (val_of_dict h)]

/-- An edge comes 20 ns after the one before it at the earliest. -/
theorem pinInstant_spaced {l : Nat} (hl : (s.pin p).lastEdge = some l) (x : Nat) : l + 320 ≤ pinInstant s p x := by
  unfold pinInstant
  simp only [hl]
  split
  · assumption
  · split <;> omega

/-- With a calibrated delay line an edge that is far enough from the one before it leaves at its instant. -/
theorem pinInstant_calibrated (hc : s.n (0x101 + 8 * (p / 4)) 0x045000 = 0) {x : Nat}
    (hl : (s.pin p).lastEdge = none ∨ ∃ l, (s.pin p).lastEdge = some l ∧ l + 320 ≤ x) : pinInstant s p x = x := by
  have hgrid : pinGrid s p x = x := if_pos hc
  unfold pinInstant
  rw [hgrid]
  rcases hl with hnone | ⟨l, hsome, hfar⟩
  · simp only [hnone]
  · simp only [hsome, if_pos hfar]

end

/-! ### Placing an edge -/

/-- The state with an edge placed on a pin, due at an instant. -/
def edgePlaced (s : State) (p t : Nat) (level : Bool) : State :=
  ((if pinGrid s p t < pinInstant s p t then bump s 0 (0x092300 + p) else s).setPin p { s.pin p with
    level := level, lastEdge := some (pinInstant s p t), edges := (s.pin p).edges + 1 }).emit (.gtp p level (pinInstant s p t))

theorem placeEdge_turns {s : State} {p : Nat} {level : Bool} (h : (s.pin p).level ≠ level) (t : Nat) :
    placeEdge s p t level = (pinInstant s p t, edgePlaced s p t level) := if_neg h

section
variable (s : State) (p t : Nat) (level : Bool)

/-- Counting a moved edge changes nothing but the dictionary and the events. -/
theorem movedEdge_same : SameButEvents s (if pinGrid s p t < pinInstant s p t then bump s 0 (0x092300 + p) else s) := by
  split
  · exact bump_same ..
  · exact .refl s

theorem Within.edgePlaced : Within s (edgePlaced s p t level) := by
  unfold Machine.edgePlaced
  split
  · exact ((Within.bump ..).trans (.setPin ..)).trans (.emit ..)
  · exact (Within.setPin ..).trans (.emit ..)

theorem edgePlaced_pin : (edgePlaced s p t level).pin p = { s.pin p with
    level := level, lastEdge := some (pinInstant s p t), edges := (s.pin p).edges + 1 } := setPin_read_self ..

theorem edgePlaced_sent : (edgePlaced s p t level).sent = .gtp p level (pinInstant s p t) :: s.sent :=
  congrArg (Sent.gtp p level (pinInstant s p t) :: ·) (movedEdge_same s p t).sent

theorem edgePlaced_axes : (edgePlaced s p t level).axes = s.axes := (movedEdge_same s p t).axes

/-- An edge that the spacing moves is counted. -/
theorem edgePlaced_counts (hp : p < 16) (h : pinGrid s p t < pinInstant s p t) : Counts s (edgePlaced s p t level) 0 (0x092300 + p) := by
  unfold edgePlaced
  rw [if_pos h]
  exact bump_squeezeCount s hp

end

theorem pinUpTo_none {s : State} {p t : Nat} (hs : ∀ e ∈ (s.pin p).scheduled, t < e.1) (he : ∀ e ∈ (s.pin p).pulseEnds, t < e) : pinUpTo t s p = s := by
  have hsched : (s.pin p).scheduled.filter (fun e => decide (e.1 ≤ t)) = [] :=
    List.filter_eq_nil_iff.mpr fun e h => by simpa using hs e h
  have hends : (s.pin p).pulseEnds.filter (fun e => decide (e ≤ t)) = [] :=
    List.filter_eq_nil_iff.mpr fun e h => by simpa using he e h
  unfold pinUpTo
  rw [if_pos (by rw [hsched, hends]; rfl)]

/-! ### A firing, and the end of a pulse (R156, R157) -/

/-- The acknowledgement of a firing whose edge has left at an instant (R158). -/
def fireAck (f : Firing) (t : Nat) : FireAck := { tag := f.target.tag, time := t, late := f.late, report := f.target.report }

/-- The state with the first firing of an axis taken. -/
def firingTaken (s : State) (a : Nat) (rest : List Firing) : State := modCompare s a fun c => { c with firing := rest }

theorem firingTaken_grid (s : State) (a p t : Nat) (rest : List Firing) : pinGrid (firingTaken s a rest) p t = pinGrid s p t := pinGrid_of_dict rfl t

theorem firingTaken_instant (s : State) (a p t : Nat) (rest : List Firing) : pinInstant (firingTaken s a rest) p t = pinInstant s p t :=
  pinInstant_of rfl rfl t

section
variable {s : State} {a p : Nat} {f : Firing} {rest : List Firing}

/-- An edge of a set target is not the one too many, where the pin's edges and all its pulse ends leave room for it. -/
theorem pinFull_set {x : PinS} {level : Bool} (ha : f.target.action = 0) (h : x.edges + x.pulseEnds.length < 64) : pinFull s x f level = false := by
  have hends := List.length_filter_le (fun e => decide (e < s.beat.base + s.beat.period)) x.pulseEnds
  have hact : ¬(f.target.action = 3 ∧ f.time + f.target.width < s.beat.base + s.beat.period) := by omega
  unfold pinFull
  simp only [if_neg hact, decide_eq_false_iff_not]
  split <;> omega

theorem compareFire_early (hf : (s.axis a).compare.firing = f :: rest) (h : s.q < f.time) : compareFire s a = s := by
  unfold compareFire
  simp only [hf, if_pos h]

/-- A firing that sets the low pin which its axis owns and drives puts its edge there and is acknowledged. -/
theorem compareFire_sets (hf : (s.axis a).compare.firing = f :: rest) (hq : f.time ≤ s.q) (hpin : f.target.pin = p) (hown : s.n 0 (0x092000 + p) = a)
    (hdriven : pinDriven s p = true) (hroom : (s.pin p).edges + (s.pin p).pulseEnds.length < 64) (hs : ∀ e ∈ (s.pin p).scheduled, f.time < e.1)
    (he : ∀ e ∈ (s.pin p).pulseEnds, f.time < e) (hlow : (s.pin p).level = false) (hact : f.target.action = 0) :
    compareFire s a = modCompare (edgePlaced (firingTaken s a rest) p f.time true) a
      fun c => { c with acks := c.acks ++ [fireAck f (pinInstant s p f.time)] } := by
  have hfull : pinFull (firingTaken s a rest) ((firingTaken s a rest).pin p) f true = false := pinFull_set hact hroom
  have hlevel : ((firingTaken s a rest).pin p).level ≠ true := by rw [firingTaken, modCompare_at_pin, hlow]; decide
  have hplace := placeEdge_turns hlevel f.time
  have hdrives : (firingTaken s a rest).n 0 (0x092000 + p) = a ∧ pinDriven (firingTaken s a rest) p = true := ⟨hown, hdriven⟩
  unfold compareFire
  simp only [hf, if_neg (Nat.not_lt.mpr hq), hpin, pinUpTo_none hs he, hact]
  rw [← firingTaken, hfull, if_neg (by simp)]
  simp only [if_pos hdrives, hplace, firingTaken_instant]
  rw [if_neg (by simp)]
  rfl

end

/-- The state with the first pulse end of a pin taken. -/
def pulseTaken (s : State) (p : Nat) (rest : List Nat) : State := s.setPin p { s.pin p with pulseEnds := rest }

section
variable (s : State) (p : Nat) (rest : List Nat) (t : Nat)

theorem pulseTaken_pin : (pulseTaken s p rest).pin p = { s.pin p with pulseEnds := rest } := setPin_read_self ..

theorem pulseTaken_grid : pinGrid (pulseTaken s p rest) p t = pinGrid s p t := pinGrid_of_dict (setPin_dict ..) t

theorem pulseTaken_instant : pinInstant (pulseTaken s p rest) p t = pinInstant s p t := by
  have hlast : ((pulseTaken s p rest).pin p).lastEdge = (s.pin p).lastEdge := by rw [pulseTaken_pin]
  exact pinInstant_of (setPin_dict ..) hlast t

end

theorem pulseEnd_falls {s : State} {p e : Nat} {rest : List Nat} (he : (s.pin p).pulseEnds = e :: rest) (hq : e ≤ s.q) (hhigh : (s.pin p).level = true) :
    pulseEnd s p = edgePlaced (pulseTaken s p rest) p e false := by
  have hlevel : ((pulseTaken s p rest).pin p).level ≠ false := by rw [pulseTaken_pin, hhigh]; decide
  unfold pulseEnd
  simp only [he, if_neg (Nat.not_lt.mpr hq)]
  exact congrArg Prod.snd (placeEdge_turns hlevel e)

end Sys2Proof.Machine

namespace Sys2Proof.Proofs
open Sys2Proof.Machine

section
variable {s t : State} {a p : Nat}

theorem compareFire_next (hs : Serving s) (ha : isAxis a = true) (he : compareFire s a = t) (hw : Within s t) : exec (.compareFire a) s = .next t :=
  runsQuiet_next hs ha he rfl hw.pending

theorem pulseEnd_next (hs : Serving s) (hp : p < 16) (he : pulseEnd s p = t) (hw : Within s t) : exec (.pulseEnd p) s = .next t :=
  runsQuiet_next hs (decide_eq_true hp) he rfl hw.pending

end

/-- Settles O24: a firing whose instant has come and one whose instant has not, the end of a pulse, and the instants of edges. -/
theorem timingOutputs : Obligations.TimingOutputs := by
  rintro s a p _ hs ha rfl hp
  refine ⟨fun f rest hf hq hpin hown hdriven hroom hsched hends hlow hact => ?_, fun f rest hf h => compareFire_next hs ha (compareFire_early hf h) (.refl s),
    fun e rest he hq hhigh => ?_, fun t l hl => pinInstant_spaced hl t, fun t hc hl => pinInstant_calibrated hc hl⟩
  · refine ⟨_, compareFire_next hs ha (compareFire_sets hf hq hpin hown hdriven hroom hsched hends hlow hact)
      (((Within.modCompare ..).trans (.edgePlaced ..)).trans (.modCompare ..)), ?_, ?_, fun hmoved => ?_, ?_⟩
    · rw [modCompare_at_pin, edgePlaced_pin, firingTaken_instant, firingTaken, modCompare_at_pin]
    · rw [modCompare_sent, edgePlaced_sent, firingTaken_instant, firingTaken, modCompare_sent]
    · rw [← firingTaken_grid s a p f.time rest, ← firingTaken_instant s a p f.time rest] at hmoved
      exact (edgePlaced_counts _ p f.time true hp hmoved).of_n (modCompare_at_n ..) (modCompare_at_n ..)
    · rw [modCompare_self, axis_congr (edgePlaced_axes ..), firingTaken, modCompare_self]
      rfl
  · refine ⟨_, pulseEnd_next hs hp (pulseEnd_falls he hq hhigh) ((Within.setPin ..).trans (.edgePlaced ..)), ?_, ?_, ?_, fun hmoved => ?_⟩
    · rw [edgePlaced_pin, pulseTaken_instant, pulseTaken_pin]
    · rw [edgePlaced_sent, pulseTaken_instant, pulseTaken, setPin_sent]
    · rw [edgePlaced_axes, pulseTaken, setPin_axes]
    · rw [← pulseTaken_grid s p rest, ← pulseTaken_instant s p rest] at hmoved
      exact (edgePlaced_counts _ p e false hp hmoved).of_n (setPin_at_n ..) rfl

end Sys2Proof.Proofs
end

section
/-! SUPPORT. The PWM half of a sleeve and hits on a sleeve (08 R206 to R210; 12 R274 to R279): what they leave alone, a corrected hit, and a contained one
with its way to the bound axis. -/

namespace Sys2Proof.Machine

/-! ### The PWM half -/

section
variable (s : State) (k : Nat) (f : SleevePwm → SleevePwm)

theorem modPwm_pwm : ((modPwm s k f).sleeve k).pwm = f (s.sleeve k).pwm := congrArg SleeveS.pwm (setSleeve_read_self ..)

/-- What a change leaves alone of the PWM half that it changes it leaves alone of every sleeve's. -/
theorem modPwm_view {β : Type} (g : SleevePwm → β) (h : ∀ p, g (f p) = g p) (x : Nat) :
    g ((modPwm s k f).sleeve x).pwm = g (s.sleeve x).pwm := by
  by_cases hx : k = x
  · subst hx
    rw [modPwm_pwm, h]
  · rw [modPwm, setSleeve_read, if_neg hx]

@[simp] theorem modPwm_at_n (x y : Nat) : (modPwm s k f).n x y = s.n x y := rfl
@[simp] theorem modPwm_at_st (x : Nat) : (modPwm s k f).st x = s.st x := rfl
@[simp] theorem modPwm_outbox : (modPwm s k f).outbox = s.outbox := rfl
@[simp] theorem modPwm_faults : (modPwm s k f).faults = s.faults := rfl

theorem Within.modPwm : Within s (modPwm s k f) := .setSleeve ..

end

/-- Every gate-on interval has ended by an instant (08 R207). -/
def GatesEnded (t : Nat) (p : SleevePwm) : Prop := ∀ f ∈ p.phases, ∀ i ∈ f.hi.on ++ f.lo.on, i.2 ≤ t

theorem gateCut_ended {t : Nat} {g : GateS} {i : Nat × Nat} (h : i ∈ (gateCut t g).on) : i.2 ≤ t := by
  obtain ⟨j, -, rfl⟩ := List.mem_map.mp h
  exact Nat.min_le_right ..

theorem gatesOff_ended (t : Nat) (p : SleevePwm) : GatesEnded t (gatesOff t p) := by
  intro f hf i hi
  obtain ⟨f, -, rfl⟩ := List.mem_map.mp hf
  exact (List.mem_append.mp hi).elim gateCut_ended gateCut_ended

theorem hem_ended (s : State) (u : Nat) : GatesEnded s.q ((hem s u).sleeve u).pwm := by
  unfold hem
  rw [setSleeve_read_self]
  exact gatesOff_ended s.q (s.sleeve u).pwm

/-! ### Objects and counters of a sleeve -/

/-- UnitState, and the objects of a sleeve (08 Table 8-8, 09). -/
def SleeveObject (y : Nat) : Prop := 0x030000 ≤ y ∧ y < 0x060000

/-- The counters of pulses, trips, delay lines and pads of a sleeve (08 Table 8-8). -/
def pwmCounters : List Nat := [0x043200, 0x043300, 0x043400, 0x044400, 0x045100, 0x045200]

set_option maxRecDepth 100000 in
theorem pwmCounter_rows : ∀ c ∈ pwmCounters, ∀ r ∈ allRows, r.stick = true → r.obj = c / 256 → c % 256 ≤ r.elHi := by decide +kernel

set_option maxRecDepth 100000 in
theorem pwmCounter_type : ∀ c ∈ pwmCounters, ((rowOf .sleeve (c / 256) (c % 256)).map fun r => r.ty.maxNat).getD (2 ^ 32 - 1) = 2 ^ 32 - 1 := by
  decide +kernel

theorem pwmCounter_range : ∀ c ∈ pwmCounters, 0x043200 ≤ c ∧ c ≤ 0x045200 := by decide

theorem kindOf_sleeve {k : Nat} (hk : isSleeve k = true) : kindOf k = some .sleeve := by
  simp only [isSleeve, decide_eq_true_eq] at hk
  unfold kindOf
  rw [if_neg (by omega), if_neg (by omega), if_pos hk]

theorem bump_pwmCounter (s : State) {k c : Nat} (hk : isSleeve k = true) (hc : c ∈ pwmCounters) : Counts s (bump s k c) k c := by
  intro hv
  obtain ⟨h1, h2⟩ := pwmCounter_range c hc
  exact bump_counts s k c .sleeve (by omega) (kindOf_sleeve hk) (pwmCounter_rows c hc) (by omega) (by omega) (by rw [pwmCounter_type c hc]; exact hv)

theorem bump_sleeveObject (s : State) {u c x y : Nat} (hc : c ∈ pwmCounters) (hy : SleeveObject y) (hne : y ≠ c) : (bump s u c).n x y = s.n x y := by
  obtain ⟨h1, h2⟩ := pwmCounter_range c hc
  obtain ⟨h3, h4⟩ := hy
  exact n_of_val (bump_keeps s u c x y (by omega) (by omega) (pwmCounter_rows c hc) (.inr hne) ⟨by omega, by omega⟩)

theorem setN_sleeveObject (s : State) {u c x y n : Nat} (hc : c < 2 ^ 24) (hy : SleeveObject y) (hne : x ≠ u ∨ y ≠ c) : (s.setN u c n).n x y = s.n x y := by
  obtain ⟨h1, h2⟩ := hy
  exact setV_n_ne _ _ (by intro he; rw [keyOf_inj hc (by omega)] at he; omega)

theorem setN_n_self (s : State) (u c n : Nat) : (s.setN u c n).n u c = n := by
  rw [setN_eq, setV_n_self, Int.toNat_natCast]

/-! ### Recording a hit (12 R275, R279) -/

section
variable (s : State) (u b : Nat) (kd : UKind) (c : FClass)

theorem recordHit_same : SameButEvents s (recordHit s u b kd c).1 := by
  have h0 : SameButEvents s (if isLevelSource kd b then putFaultBit s u 0xB01 b true else s) := by
    split
    · exact .setV ..
    · exact .refl s
  unfold recordHit
  dsimp only
  generalize (if isLevelSource kd b then putFaultBit s u 0xB01 b true else s) = s0 at h0 ⊢
  split <;> dsimp only <;> split
  · exact h0
  · exact (h0.trans (.setV ..)).trans (publish_same ..)
  · exact h0
  · exact (h0.trans (.setV ..)).trans (publish_same ..)

theorem recordHit_snd : (recordHit s u b kd c).2 = !(shadowed s u b && c != .fatal) := by
  unfold recordHit
  dsimp only
  split
  · next h => rw [h]; rfl
  · next h => rw [eq_false_of_ne_true h]; rfl

end

theorem recordHit_sleeveObject {s : State} {u b x y : Nat} {kd : UKind} {c : FClass} (hb : b < 256) (hy : SleeveObject y) :
    (recordHit s u b kd c).1.n x y = s.n x y := by
  obtain ⟨h1, h2⟩ := hy
  exact n_of_val (recordHit_val hb (by omega) (by omega) (by omega))

theorem shadowed_of {s t : State} (hf : t.faults = s.faults) (ht : t.time = s.time) (u b : Nat) : shadowed t u b = shadowed s u b := by
  unfold shadowed
  rw [fault_congr hf, ht]

/-- t is s but for events told, fault bits, and counters of sleeves. -/
structure Noted (s t : State) : Prop where
  same : SameButEvents s t
  calm : CalmSame s.slots t.slots
  object : ∀ x y, SleeveObject y → y ∉ pwmCounters → t.n x y = s.n x y

section
variable {s t u : State}

theorem Noted.refl (s : State) : Noted s s := ⟨.refl s, .refl _, fun _ _ _ _ => rfl⟩

theorem Noted.trans (h : Noted s t) (g : Noted t u) : Noted s u :=
  ⟨h.same.trans g.same, h.calm.trans g.calm, fun x y hy hc => (g.object x y hy hc).trans (h.object x y hy hc)⟩

theorem Noted.within (h : Noted s t) : Within s t := .of_events h.same h.calm

theorem Noted.bump (s : State) (k : Nat) {c : Nat} (hc : c ∈ pwmCounters) : Noted s (bump s k c) :=
  ⟨bump_same .., bump_calm _ _ _, fun _ _ hy hn => bump_sleeveObject _ hc hy fun h => hn (h ▸ hc)⟩

theorem Noted.recordHit (s : State) (u : Nat) {b : Nat} (kd : UKind) (c : FClass) (hb : b < 256) : Noted s (recordHit s u b kd c).1 :=
  ⟨recordHit_same .., (Within.recordHit ..).calm, fun _ _ hy _ => recordHit_sleeveObject hb hy⟩

end

/-! ### A corrected hit -/

theorem hit_sleeve {s : State} {k : Nat} (hk : isSleeve k = true) (b : Nat) : hit s k b = hitSleeve s k b := by
  unfold hit
  rw [kindOf_sleeve hk]

section
variable {s : State} {u b n : Nat} (hc : classOf .sleeve b = some (.corrected n))
include hc

theorem hitSleeve_corrected : hitSleeve s u b =
    if shadowed s u b then (recordHit s u b .sleeve (.corrected n)).1 else bump (recordHit s u b .sleeve (.corrected n)).1 u n := by
  have hsnd := recordHit_snd s u b .sleeve (.corrected n)
  unfold hitSleeve
  simp only [hc]
  generalize recordHit s u b .sleeve (.corrected n) = r at hsnd ⊢
  obtain ⟨s1, counts⟩ := r
  obtain rfl : counts = !shadowed s u b := hsnd.trans (by rw [show (FClass.corrected n != .fatal) = true from rfl, Bool.and_true])
  cases shadowed s u b <;> rfl

theorem Noted.hitSleeve (hb : b < 256) (hn : n ∈ pwmCounters) : Noted s (hitSleeve s u b) := by
  have hrec := Noted.recordHit s u .sleeve (.corrected n) hb
  rw [hitSleeve_corrected hc]
  split
  · exact hrec
  · exact hrec.trans (.bump _ u hn)

theorem hitSleeve_corrected_counts (hu : isSleeve u = true) (hb : b < 256) (hn : n ∈ pwmCounters) (h : shadowed s u b = false) :
    Counts s (hitSleeve s u b) u n := by
  obtain ⟨h1, h2⟩ := pwmCounter_range n hn
  rw [hitSleeve_corrected hc, h, if_neg Bool.false_ne_true]
  exact (bump_pwmCounter _ hu hn).of_n (recordHit_sleeveObject hb ⟨by omega, by omega⟩) rfl

end

/-! ### A unit's change of state tells the sessions only -/

theorem putState_outbox (s : State) (u st : Nat) : (putState true s u st).outbox = s.outbox := by
  have hidle : ∀ t : State, ((ownedPins t u).foldl pinIdle t).outbox = t.outbox := fun t =>
    ownedIdle_keeps State.outbox t u (fun _ _ _ => setPin_outbox ..) (fun _ _ => emit_outbox ..) fun _ _ _ => (bump_same ..).outbox
  have hsay : ∀ (t : State) (c : Nat) (d : Bytes), (say true t u c d).outbox = t.outbox := fun _ _ _ => (publish_same ..).outbox
  have hsaid := (hsay (s.setN u 0x030000 st) 0x0003 (leBytes 1 (s.st u) ++ leBytes 1 st)).trans (setV_outbox ..)
  unfold putState
  split
  · rfl
  · dsimp only
    split
    · exact (noteHit_keeps State.outbox _ _ fun _ _ _ => setRec_outbox ..).trans
        ((bump_same ..).outbox.trans (by split; exacts [hsaid, (hidle _).trans hsaid]))
    · split
      · exact hsaid
      · exact (hidle _).trans hsaid

theorem setUnit_outbox {s : State} {u : Nat} (st : Nat) (h : NoCluster s u) : (setUnit true s u st).outbox = s.outbox :=
  setUnit_keeps State.outbox true s u st h (putState_outbox ..) (fun _ _ _ => putState_outbox ..) (fun _ _ _ => setFault_outbox ..)
    fun _ _ => (publish_same ..).outbox

/-! ### A contained hit -/

/-- The sleeve in FAULT, its pins in the hem state, after a contained hit. -/
def sleeveFaulted (s : State) (u b : Nat) : State := hem (setUnit true (recordHit s u b .sleeve .contained).1 u usFault) u

section
variable (s : State) (u b : Nat)

theorem Within.sleeveFaulted : Within s (sleeveFaulted s u b) := ((Within.recordHit ..).trans (.setUnit ..)).trans (.hem ..)

theorem sleeveFaulted_ended : GatesEnded s.q ((sleeveFaulted s u b).sleeve u).pwm := by
  have htime := ((Within.recordHit s u b .sleeve .contained).trans (.setUnit true _ u usFault)).time
  have h := hem_ended (setUnit true (recordHit s u b .sleeve .contained).1 u usFault) u
  unfold State.q at h ⊢
  rwa [htime] at h

end

section
variable {s : State} {u b : Nat} (hn : NoCluster s u)
include hn

theorem sleeveFaulted_st : (sleeveFaulted s u b).st u = usFault :=
  (setSleeve_at_n ..).trans (setUnit_st _ _ _ _ (hn.of_plan (recordHit_same ..).plan))

theorem sleeveFaulted_outbox : (sleeveFaulted s u b).outbox = s.outbox :=
  (setUnit_outbox usFault (hn.of_plan (recordHit_same ..).plan)).trans (recordHit_same ..).outbox

theorem sleeveFaulted_n {x y : Nat} (hb : b < 256) (hy : SleeveObject y) (hst : y ≠ 0x030000) : (sleeveFaulted s u b).n x y = s.n x y := by
  have hsteady : Steady y := by obtain ⟨h1, h2⟩ := hy; unfold Steady; omega
  exact (n_of_val (setUnit_val _ _ _ _ _ _ (hn.of_plan (recordHit_same ..).plan) hsteady)).trans (recordHit_sleeveObject hb hy)

end

/-- A contained hit: recorded only, where it is shadowed or the sleeve is OFF or RETIRED; else the sleeve is in FAULT, and where it is no trip the
bound axis is hit. -/
theorem hitSleeve_contained {s : State} {u b : Nat} (hb : b < 256) (hc : classOf .sleeve b = some .contained) : hitSleeve s u b =
    if shadowed s u b = true ∨ s.st u = usOff ∨ s.st u = usRetired then (recordHit s u b .sleeve .contained).1
    else if axisOf s u = 0 ∨ b ≤ 2 then sleeveFaulted s u b else hitAxis (sleeveFaulted s u b) (axisOf s u) 1 := by
  have hsnd := recordHit_snd s u b .sleeve .contained
  have haxis : axisOf (sleeveFaulted s u b) u = axisOf s u := axisOf_of_plan (Within.sleeveFaulted s u b).plan u
  have hst : (recordHit s u b .sleeve .contained).1.st u = s.st u := recordHit_sleeveObject hb ⟨by decide, by decide⟩
  unfold sleeveFaulted at haxis ⊢
  unfold hitSleeve
  simp only [hc]
  generalize recordHit s u b .sleeve .contained = r at hsnd hst haxis ⊢
  obtain ⟨s1, counts⟩ := r
  obtain rfl : counts = !shadowed s u b := hsnd.trans (by rw [show (FClass.contained != .fatal) = true from rfl, Bool.and_true])
  simp only at hst haxis
  cases shadowed s u b
  · simp only [Bool.not_false, hst, haxis, Bool.false_eq_true, false_or, ite_or]
  · rfl

/-! ### What moves no unit's state -/

section
variable (now : Bool) (s : State) (a : Nat)

theorem say_st (u c : Nat) (d : Bytes) (x : Nat) : (say now s u c d).st x = s.st x :=
  say_keeps (fun t => t.st x) now s u c d (n_of_val (publish_keeps _ _ _ _ _ _ (by omega) (.inr (by omega)))) (later_at_n ..)

theorem abortRun_st (c x : Nat) : (abortRun now s a c).st x = s.st x := by
  unfold abortRun
  split
  · rfl
  · exact (say_st ..).trans ((setN_sleeveObject _ (by decide) ⟨by decide, by decide⟩ (.inr (by decide))).trans
      (setN_sleeveObject _ (by decide) ⟨by decide, by decide⟩ (.inr (by decide))))

theorem leaveActive_st (x : Nat) : (leaveActive now s a).st x = s.st x := abortRun_st ..

set_option maxRecDepth 100000 in
theorem latchLoss_rows : ∀ r ∈ allRows, r.stick = true → r.obj = 0x090A00 / 256 → 0x090A00 % 256 ≤ r.elHi := by decide +kernel

theorem bumpN_latchLoss_st (n x : Nat) : (bumpN s a 0x090A00 n).st x = s.st x := by
  induction n generalizing s with
  | zero => rfl
  | succ n ih =>
    exact (ih _).trans (n_of_val (bump_keeps s a 0x090A00 x 0x030000 (by omega) (by omega) latchLoss_rows (.inr (by omega)) (by omega)))

theorem dropLatchCompare_st (x : Nat) : (dropLatchCompare now s a).st x = s.st x := by
  unfold dropLatchCompare
  dsimp only
  generalize (if now then (s.axis a).latch.fifo else (s.axis a).latch.fifo.filter fun e => !e.intake) = gone
  have hdropped := bumpN_latchLoss_st (s.setAxis a { s.axis a with
    latch := { fifo := if now then [] else (s.axis a).latch.fifo.filter LatchEntry.intake }
    compare := { (s.axis a).compare with queue := [], published := [] } }) a gone.length x
  split <;> split
  · exact hdropped
  · exact (say_st ..).trans hdropped
  · exact (say_st ..).trans hdropped
  · exact (say_st ..).trans ((say_st ..).trans hdropped)

end

/-! ### Clusters with a member in FAULT (01 R27) -/

theorem memberStates_mem {s : State} {c : ClusterPlan} {u : Nat} (h : Member.device u ∈ c.members) : s.st u ∈ memberStates s c := by
  obtain ⟨i, hi, hu⟩ := List.mem_iff_getElem.mp h
  exact List.mem_map.mpr ⟨(.device u, i), by rw [List.mem_zipIdx_iff_getElem?]; simp [hi, hu], rfl⟩

theorem faceState_fault {l : List Nat} (h : usFault ∈ l) : faceState l = usFault := if_pos (List.any_eq_true.mpr ⟨usFault, h, rfl⟩)

/-- A unit in FAULT stays there while a unit goes to FAULT. -/
theorem putState_fault_stays {s : State} {k : Nat} (now : Bool) (u : Nat) (h : s.st k = usFault) : (putState now s u usFault).st k = usFault := by
  by_cases hk : k = u
  · subst hk
    exact putState_st ..
  · exact (putState_st_ne _ _ _ _ _ hk).trans h

/-- The face of a cluster with a member in FAULT goes to FAULT, and no unit in FAULT leaves it. -/
theorem followFace_fault {s : State} {c : ClusterPlan} {u : Nat} (now : Bool) (hc : Member.device u ∈ c.members) (hu : s.st u = usFault)
    (hw : (s.fault c.cluster).waiting = false) :
    (followFace now s c).st c.cluster = usFault ∧ ∀ k, s.st k = usFault → (followFace now s c).st k = usFault := by
  have hface : faceState (memberStates s c) = usFault := faceState_fault (hu ▸ memberStates_mem hc)
  unfold followFace
  rw [hw, if_neg Bool.false_ne_true]
  dsimp only
  rw [hface]
  refine ⟨putState_st .., fun k hk => putState_fault_stays now _ ?_⟩
  split
  · exact (leaveActive_st ..).trans hk
  · exact hk

theorem followFaces_fault {s : State} {u k : Nat} (now : Bool) (n : Nat) (hu : s.st u = usFault) (hk : s.st k = usFault) :
    (followFaces now n s u).st k = usFault := by
  induction n generalizing s u with
  | zero => exact hk
  | succ n ih =>
    unfold followFaces
    split
    · exact hk
    · next c hc =>
      have hmem : Member.device u ∈ c.members := by simpa using List.find?_some hc
      cases hw : (s.fault c.cluster).waiting with
      | true => exact hk
      | false =>
        obtain ⟨hface, hkeeps⟩ := followFace_fault now hmem hu hw
        exact ih hface (hkeeps k hk)

theorem watchReserve_st (s : State) (x : Nat) : (watchReserve s).st x = s.st x :=
  watchReserve_keeps (fun t => t.st x) s (fun _ _ _ => setFault_at_n ..) fun _ _ => n_of_val (publish_keeps _ _ _ _ _ _ (by omega) (.inr (by omega)))

/-- Whatever clusters it stands in, a unit that goes to FAULT takes no other unit but the root out of it. -/
theorem setUnit_fault_stays {s : State} {k : Nat} (now : Bool) (u : Nat) (h0 : k ≠ 0) (hk : s.st k = usFault) : (setUnit now s u usFault).st k = usFault := by
  have hfaces := followFaces_fault now 31 (putState_st now s u usFault) (putState_fault_stays now u hk)
  have hroot : ∀ st, (putState now (followFaces now 31 (putState now s u usFault) u) 0 st).st k = usFault := fun st =>
    (putState_st_ne _ _ _ _ _ h0).trans hfaces
  unfold setUnit
  dsimp only
  split
  · rw [watchReserve_st]
    split
    · exact hroot _
    · exact hfaces
  · split
    · exact hroot _
    · exact hfaces

/-! ### The bound axis's hit (12 R276, R277) -/

theorem axisTo_fault_stays {s : State} {k : Nat} (now : Bool) (a : Nat) (h0 : k ≠ 0) (hk : s.st k = usFault) : (axisTo now s a usFault).st k = usFault := by
  have hne : usFault ≠ usActive ∧ usFault ≠ usReady := by decide
  unfold axisTo
  dsimp only
  rw [if_pos hne, if_pos hne]
  refine setUnit_fault_stays now a h0 ((dropLatchCompare_st ..).trans ?_)
  split
  · exact (leaveActive_st ..).trans hk
  · exact hk

theorem sleeveFollows_fault_stays {s : State} {k : Nat} (now : Bool) (a st : Nat) (hk : s.st k = usFault) : (sleeveFollows now s a st).st k = usFault := by
  by_cases h : k = sleeveOf s a
  · have hkept : sleeveFollows now s a st = s := by
      unfold sleeveFollows
      exact if_pos (.inr (.inl (h ▸ hk)))
    rw [hkept, hk]
  · exact (sleeveFollows_st _ _ _ _ _ (.inr h)).trans hk

/-- What a safe-stop request changes: groups of the veil and shadows. -/
theorem requestSafeStop_keeps {β : Type} (g : State → β) (hg : ∀ t i x, g (t.setGroup i x) = g t) (hf : ∀ t i x, g (t.setFault i x) = g t)
    (s : State) (a : Nat) (controlled : Bool) : g (requestSafeStop s a controlled) = g s := by
  unfold requestSafeStop
  refine foldl_keeps g _ _ _ fun t i => ?_
  refine (foldl_keeps g _ _ _ fun t x => ?_).trans (hg ..)
  dsimp only
  split
  · exact hf ..
  · exact (hf ..).trans (hf ..)

theorem Undisturbed.requestSafeStop (s : State) (a : Nat) (controlled : Bool) : Undisturbed s (requestSafeStop s a controlled) :=
  ⟨.of_eq (requestSafeStop_keeps State.slots (fun _ _ _ => setGroup_slots ..) (fun _ _ _ => setFault_slots ..) ..),
    requestSafeStop_keeps State.rst (fun _ _ _ => setGroup_rst ..) (fun _ _ _ => setFault_rst ..) ..,
    requestSafeStop_keeps State.pending (fun _ _ _ => setGroup_pending ..) (fun _ _ _ => setFault_pending ..) ..⟩

theorem requestSafeStop_st (s : State) (a x : Nat) (controlled : Bool) : (requestSafeStop s a controlled).st x = s.st x :=
  requestSafeStop_keeps (fun t => t.st x) (fun _ _ _ => setGroup_at_n ..) (fun _ _ _ => setFault_at_n ..) ..

/-- t leaves waiting requests and resets of s as they are, and every unit in FAULT but the root there. -/
def FaultsStay (s t : State) : Prop := Undisturbed s t ∧ ∀ k, k ≠ 0 → s.st k = usFault → t.st k = usFault

theorem FaultsStay.refl (s : State) : FaultsStay s s := ⟨.refl s, fun _ _ h => h⟩

theorem FaultsStay.trans {s t u : State} (h : FaultsStay s t) (g : FaultsStay t u) : FaultsStay s u :=
  ⟨h.1.trans g.1, fun k h0 hk => g.2 k h0 (h.2 k h0 hk)⟩

theorem FaultsStay.of_st {s t : State} (h : Undisturbed s t) (hst : ∀ x, t.st x = s.st x) : FaultsStay s t := ⟨h, fun k _ hk => (hst k).trans hk⟩

theorem FaultsStay.setAxis (s : State) (a : Nat) (x : AxisS) : FaultsStay s (s.setAxis a x) :=
  .of_st (Within.setAxis ..).undisturbed fun _ => setAxis_at_n ..

theorem FaultsStay.requestSafeStop (s : State) (a : Nat) (controlled : Bool) : FaultsStay s (requestSafeStop s a controlled) :=
  .of_st (.requestSafeStop ..) fun _ => requestSafeStop_st ..

theorem FaultsStay.axisTo (s : State) (a : Nat) : FaultsStay s (axisTo true s a usFault) :=
  ⟨(Within.axisTo ..).undisturbed, fun _ h0 hk => axisTo_fault_stays true a h0 hk⟩

theorem FaultsStay.sleeveFollows (s : State) (a st : Nat) : FaultsStay s (sleeveFollows true s a st) :=
  ⟨(Within.sleeveFollows ..).undisturbed, fun _ _ hk => sleeveFollows_fault_stays true a st hk⟩

theorem FaultsStay.ite {s t u : State} {c : Prop} [Decidable c] (h : FaultsStay s t) (g : FaultsStay s u) : FaultsStay s (if c then t else u) := by
  split
  · exact h
  · exact g

theorem FaultsStay.axisFault (s : State) (a : Nat) (controlled : Bool) : FaultsStay s (axisFault s a controlled) := by
  unfold Machine.axisFault
  refine .ite (.refl s) (.ite ?_ ?_) <;> dsimp only
  · exact .ite (.refl s) ((FaultsStay.setAxis ..).trans (.requestSafeStop ..))
  · exact (((FaultsStay.axisTo ..).trans (.ite (.setAxis ..) (.refl _))).trans (.ite (.sleeveFollows ..) (.refl _))).trans
      (.ite (.requestSafeStop ..) (.refl _))

theorem FaultsStay.hitAxis (s : State) (a : Nat) {b : Nat} (hb : b < 256) : FaultsStay s (hitAxis s a b) := by
  have hrec := FaultsStay.of_st (Within.recordHit s a b ((kindOf a).getD .virtAxis) .contained).undisturbed
    fun _ => recordHit_sleeveObject hb ⟨by decide, by decide⟩
  unfold Machine.hitAxis
  generalize recordHit s a b ((kindOf a).getD .virtAxis) .contained = r at hrec ⊢
  obtain ⟨s1, _ | _⟩ := r
  · exact hrec
  · exact hrec.trans (.axisFault ..)

/-- A contained hit that is not shadowed puts a powered sleeve in FAULT, where the hit of its axis leaves it. -/
theorem hitSleeve_faults {s : State} {u b : Nat} (hk : isSleeve u = true) (hn : NoCluster s u) (hb : b < 256) (hc : classOf .sleeve b = some .contained)
    (h : shadowed s u b = false) (h1 : s.st u ≠ usOff) (h2 : s.st u ≠ usRetired) :
    Undisturbed s (hitSleeve s u b) ∧ (hitSleeve s u b).st u = usFault := by
  have hfaulted := (Within.sleeveFaulted s u b).undisturbed
  have hst := sleeveFaulted_st (b := b) hn
  have h0 : u ≠ 0 := by rintro rfl; exact absurd hk (by decide)
  rw [hitSleeve_contained hb hc, h, if_neg (by simp [h1, h2])]
  split
  · exact ⟨hfaulted, hst⟩
  · obtain ⟨hu, hstays⟩ := FaultsStay.hitAxis (sleeveFaulted s u b) (axisOf s u) (b := 1) (by decide)
    exact ⟨hfaulted.trans hu, hstays u h0 hst⟩

end Sys2Proof.Machine
end

section
/-! SUPPORT. Trips of a sleeve (08 R205 to R209; 09 R232): what a source that is taken notes before its hit, and the way of a write of TripClear. -/

namespace Sys2Proof.Machine

/-! ### A source that is taken (R206, R207) -/

/-- The source is active and latched and counted, and every gate is off. -/
def tripNoted (s : State) (k bit : Nat) : State :=
  modPwm ((bump (s.setN k 0x044000 (setBit (s.n k 0x044000) bit)) k 0x044400).setN k 0x044100 (setBit (s.n k 0x044100) bit)) k
    fun p => { gatesOff s.q p with clearing := false }

/-- A source that was not latched is told at the next commit. -/
def tripTold (s : State) (k bit : Nat) : State :=
  if bitOf (s.n k 0x044100) bit then tripNoted s k bit else (tripNoted s k bit).later k 0x0401 [BitVec.ofNat 8 (2 ^ bit)]

section
variable (s : State) (k bit : Nat)

theorem Within.tripNoted : Within s (tripNoted s k bit) := (((Within.setV ..).trans (.bump ..)).trans (.setV ..)).trans (.modPwm ..)

theorem Within.tripTold : Within s (tripTold s k bit) := by
  unfold Machine.tripTold
  split
  · exact .tripNoted ..
  · exact (Within.tripNoted ..).trans (.later ..)

theorem tripTold_n (x y : Nat) : (tripTold s k bit).n x y = (tripNoted s k bit).n x y := by
  unfold tripTold
  split
  · rfl
  · exact later_at_n ..

theorem tripNoted_sources : (tripNoted s k bit).n k 0x044000 = setBit (s.n k 0x044000) bit := by
  rw [tripNoted, modPwm_at_n, setN_sleeveObject _ (by decide) ⟨by decide, by decide⟩ (.inr (by decide)),
    bump_sleeveObject _ (by decide) ⟨by decide, by decide⟩ (by decide), setN_n_self]

theorem tripNoted_latch : (tripNoted s k bit).n k 0x044100 = setBit (s.n k 0x044100) bit := by
  rw [tripNoted, modPwm_at_n, setN_n_self]

/-- Of the sleeve's objects a trip notes its source, its latch and its count only. -/
theorem tripNoted_n {x y : Nat} (hy : SleeveObject y) (h : y ≠ 0x044000 ∧ y ≠ 0x044100 ∧ y ≠ 0x044400) : (tripNoted s k bit).n x y = s.n x y := by
  obtain ⟨hsources, hlatch, hcount⟩ := h
  rw [tripNoted, modPwm_at_n, setN_sleeveObject _ (by decide) hy (.inr hlatch), bump_sleeveObject _ (by decide) hy hcount,
    setN_sleeveObject _ (by decide) hy (.inr hsources)]

theorem tripNoted_counts (hk : isSleeve k = true) : Counts s (tripNoted s k bit) k 0x044400 := by
  have hcounts := bump_pwmCounter (s.setN k 0x044000 (setBit (s.n k 0x044000) bit)) hk (by decide : 0x044400 ∈ pwmCounters)
  refine hcounts.of_n (setN_sleeveObject _ (by decide) ⟨by decide, by decide⟩ (.inr (by decide))) ?_
  rw [tripNoted, modPwm_at_n, setN_sleeveObject _ (by decide) ⟨by decide, by decide⟩ (.inr (by decide))]

theorem tripTold_ended : GatesEnded s.q ((tripTold s k bit).sleeve k).pwm := by
  have hended : GatesEnded s.q ((tripNoted s k bit).sleeve k).pwm := by
    unfold tripNoted
    rw [modPwm_pwm]
    exact gatesOff_ended s.q _
  unfold tripTold
  split
  · exact hended
  · rwa [later_at_sleeve]

theorem tripNoted_outbox : (tripNoted s k bit).outbox = s.outbox := by
  rw [tripNoted, modPwm_outbox, setN_eq, setV_outbox, (bump_same ..).outbox, setN_eq, setV_outbox]

theorem tripNoted_faults : (tripNoted s k bit).faults = s.faults := by
  rw [tripNoted, modPwm_faults, setN_eq, setV_faults, (bump_same ..).faults, setN_eq, setV_faults]

theorem tripTold_shadowed (b : Nat) : shadowed (tripTold s k bit) k b = shadowed s k b := by
  refine shadowed_of ?_ (Within.tripTold s k bit).time k b
  unfold tripTold
  split
  · exact tripNoted_faults ..
  · rw [later_faults, tripNoted_faults]

end

section
variable {s : State} {k bit : Nat}

theorem tripIn_takes (h1 : s.st k ≠ usOff) (h2 : bitOf (s.n k 0x044000) bit = false) : tripIn s k bit = hit (tripTold s k bit) k bit := by
  have hlatch : (bump (s.setN k 0x044000 (setBit (s.n k 0x044000) bit)) k 0x044400).n k 0x044100 = s.n k 0x044100 :=
    (bump_sleeveObject _ (by decide) ⟨by decide, by decide⟩ (by decide)).trans
      (setN_sleeveObject _ (by decide) ⟨by decide, by decide⟩ (.inr (by decide)))
  unfold tripIn
  rw [if_neg (by simp [h1, h2])]
  dsimp only
  rw [hlatch]
  rfl

theorem tripIn_idle (h : s.st k = usOff ∨ bitOf (s.n k 0x044000) bit = true) : tripIn s k bit = s := if_pos h

/-- The sources of trips are contained ones of the sleeve (R208). -/
theorem classOf_trip : ∀ bit ≤ 2, classOf .sleeve bit = some .contained := by decide

/-- The hit of a trip is recorded; where it counts, the sleeve is in FAULT. -/
theorem hit_trip (hk : isSleeve k = true) (hb : bit ≤ 2) : hit s k bit =
    if shadowed s k bit = true ∨ s.st k = usOff ∨ s.st k = usRetired then (recordHit s k bit .sleeve .contained).1 else sleeveFaulted s k bit := by
  rw [hit_sleeve hk, hitSleeve_contained (by omega) (classOf_trip bit hb)]
  simp only [hb, or_true, if_true]

theorem Within.hit_trip (hk : isSleeve k = true) (hb : bit ≤ 2) : Within s (hit s k bit) := by
  rw [Machine.hit_trip hk hb]
  split
  · exact .recordHit ..
  · exact .sleeveFaulted ..

/-- Beside UnitState it leaves the sleeve's objects as they are, and what is told at the next commit; no gate turns on. -/
theorem hit_trip_keeps (hk : isSleeve k = true) (hb : bit ≤ 2) (hn : NoCluster s k) :
    (∀ y, SleeveObject y → y ≠ 0x030000 → (hit s k bit).n k y = s.n k y) ∧ (hit s k bit).outbox = s.outbox
      ∧ (GatesEnded s.q (s.sleeve k).pwm → GatesEnded s.q ((hit s k bit).sleeve k).pwm) := by
  rw [hit_trip hk hb]
  split
  · have hsame := recordHit_same s k bit .sleeve .contained
    refine ⟨fun y hy _ => recordHit_sleeveObject (by omega) hy, hsame.outbox, fun h => ?_⟩
    rwa [sleeve_congr hsame.sleeves]
  · exact ⟨fun y hy hst => sleeveFaulted_n hn (by omega) hy hst, sleeveFaulted_outbox hn, fun _ => sleeveFaulted_ended s k bit⟩

theorem Within.tripIn (hk : isSleeve k = true) (hb : bit ≤ 2) : Within s (tripIn s k bit) := by
  by_cases h : s.st k = usOff ∨ bitOf (s.n k 0x044000) bit = true
  · rw [tripIn_idle h]
    exact .refl s
  · obtain ⟨h1, h2⟩ := not_or.mp h
    rw [tripIn_takes h1 (eq_false_of_ne_true h2)]
    exact (Within.tripTold ..).trans (.hit_trip hk hb)

/-- What a source that is taken comes to (R206 to R208). -/
theorem tripIn_tripped (hk : isSleeve k = true) (hb : bit ≤ 2) (hn : NoCluster s k) (h1 : s.st k ≠ usOff) (h2 : bitOf (s.n k 0x044000) bit = false) :
    Tripped s k bit (tripIn s k bit) := by
  have hn' := hn.of_plan (Within.tripTold s k bit).plan
  have hq : (tripTold s k bit).q = s.q := by unfold State.q; rw [(Within.tripTold s k bit).time]
  obtain ⟨hkept, houtbox, hended⟩ := hit_trip_keeps hk hb hn'
  rw [hq] at hended
  have hobject : ∀ y, SleeveObject y → y ≠ 0x030000 → (hit (tripTold s k bit) k bit).n k y = (tripNoted s k bit).n k y :=
    fun y hy hst => (hkept y hy hst).trans (tripTold_n ..)
  rw [tripIn_takes h1 h2]
  refine ⟨?_, ?_, ?_, hended (tripTold_ended s k bit), fun hlatch => ?_, fun hsh hret => ?_⟩
  · rw [hobject _ ⟨by decide, by decide⟩ (by decide), tripNoted_sources]
  · rw [hobject _ ⟨by decide, by decide⟩ (by decide), tripNoted_latch]
  · exact (tripNoted_counts s k bit hk).of_n rfl (hobject _ ⟨by decide, by decide⟩ (by decide))
  · rw [houtbox, tripTold, hlatch, if_neg Bool.false_ne_true, ← tripNoted_outbox s k bit]
    rfl
  · have hst : (tripTold s k bit).st k = s.st k := (tripTold_n ..).trans (tripNoted_n s k bit ⟨by decide, by decide⟩ (by decide))
    have hcounts : ¬(shadowed (tripTold s k bit) k bit = true ∨ (tripTold s k bit).st k = usOff ∨ (tripTold s k bit).st k = usRetired) := by
      rw [tripTold_shadowed, hst]
      simp [hsh, h1, hret]
    rw [hit_trip hk hb, if_neg hcounts]
    exact sleeveFaulted_st hn'

/-! ### Arrivals and decisions -/

theorem tripBit_le (src : TripSource) : tripBit src ≤ 2 := by cases src <;> decide

/-- A source reaches the sleeve unless it is a level that the pin's filter has not accepted (R205). -/
theorem tripArrives_in {src : TripSource} {stamp : Nat} (h : src = .pin → stamp + s.n k 0x044300 * 1000 ≤ s.q) :
    tripArrives s k ⟨src, stamp⟩ = tripIn s k (tripBit src) := if_neg fun hn => Nat.not_lt.mpr (h hn.1) hn.2

theorem tripArrives_filtered {stamp : Nat} (h : s.q < stamp + s.n k 0x044300 * 1000) : tripArrives s k ⟨.pin, stamp⟩ = s := if_pos ⟨rfl, h⟩

theorem tripArrives_idle {x : TripInput} (h : s.st k = usOff ∨ bitOf (s.n k 0x044000) (tripBit x.source) = true) : tripArrives s k x = s := by
  unfold tripArrives
  rw [tripIn_idle h, ite_self]

theorem ocDetect_decides {b1 b2 : List Bool} (h : ocDecides s k b1 b2 = true) : ocDetect s k b1 b2 = tripIn s k 1 := if_pos h

theorem ocDetect_idle {b1 b2 : List Bool} (h : ocDecides s k b1 b2 = false ∨ s.st k = usOff ∨ bitOf (s.n k 0x044000) 1 = true) :
    ocDetect s k b1 b2 = s := by
  unfold ocDetect
  rcases h with h | h
  · rw [h, if_neg Bool.false_ne_true]
  · rw [tripIn_idle h, ite_self]

theorem tripOut_active (h : bitOf (s.n k 0x044000) bit = true) : tripOut s k bit =
    putFaultBit (s.setN k 0x044000 (clrBit (s.n k 0x044000) bit)) k 0xB01 bit false := if_pos h

/-! ### TripClear (R209) -/

theorem tripClear_taken (h : s.n k 0x044000 = 0) : tripClear s k = (stOk, modPwm s k fun p => { p with clearing := true }) := if_neg (not_not.mpr h)

theorem tripClear_refused (h : s.n k 0x044000 ≠ 0) : tripClear s k = (stTripActive, s) := if_pos h

theorem tripCleared_clears (h : (s.sleeve k).pwm.clearing = true) :
    tripCleared s k = ((modPwm s k fun p => { p with clearing := false }).setN k 0x044100 0).later k 0x0402 [] := if_pos h

set_option maxRecDepth 100000 in
theorem tripClearRow_plain : (objRowOf .sleeve 0x442).all (fun r => !r.jour && !r.stick) = true := by decide +kernel

/-- A write of TripClear acts at once, and its status is its answer. -/
theorem directWrite_tripClear {w : Write} {row : ObjRow} {st : Nat} {t : State} (hs : Serving s) (hk : isSleeve w.unit = true) (hp : Passes s 0x442 w row)
    (hx : tripClear s w.unit = (st, t)) : directWrite s 0x442 w = answerSt t w.origin st := by
  obtain ⟨kd, hkind, hobj⟩ := hp.names
  obtain rfl : .sleeve = kd := Option.some.inj ((kindOf_sleeve hk).symm.trans hkind)
  have hrow : objRowOf .sleeve 0x442 = some row := hobj
  obtain ⟨hjour, hstick⟩ : row.jour = false ∧ row.stick = false := by simpa [hrow] using tripClearRow_plain
  have hserved : cellServed w.unit = true := by unfold cellServed; rw [hk, Bool.or_true]
  have hrange := hk
  simp only [isSleeve, decide_eq_true_eq] at hrange
  have haxis : (isAxis w.unit || isCluster w.unit) = false := by simp only [isAxis, isCluster, Bool.or_eq_false_iff, decide_eq_false_iff_not]; omega
  have hcommon : commonWrite s w.unit 0x442 row w = none := by simp [commonWrite, hstick]
  have heffect : writeEffect s w.unit 0x442 row w = withStatus (st, t) := by
    unfold writeEffect
    rw [hcommon, Option.orElse_none, if_neg (by omega), haxis, if_neg Bool.false_ne_true, if_pos hk]
    exact congrArg withStatus hx
  rw [directWrite_at_cell hs hp hserved hjour (by decide), heffect]
  rfl

end

end Sys2Proof.Machine

namespace Sys2Proof.Proofs
open Sys2Proof.Machine

/-- A command of the COMB domains whose effect leaves waiting requests and resets as they are completes in its effect, in service. -/
theorem runs_settled {i : Instr} {s t x : State} (hs : Serving s) (hq : Calm s) (hw : i.wf = true) (he : x = t)
    (hx : exec i s = done s (whenWf i s (whenRuns s x))) (hu : Undisturbed s t) : exec i s = .next t :=
  settled_next hq hw ((whenRuns_of (combRuns_of hs)).trans he) hx hu

section
variable {s : State} {k : Nat} (hs : Serving s) (hq : Calm s) (hk : isSleeve k = true)
include hs hq hk

theorem trip_next {x : TripInput} {t : State} (he : tripArrives s k x = t) (hw : Within s t) : exec (.trip k x) s = .next t :=
  runs_settled hs hq hk he rfl hw.undisturbed

theorem ocDetect_next {b1 b2 : List Bool} {t : State} (he : ocDetect s k b1 b2 = t) (hw : Within s t) : exec (.ocDetect k b1 b2) s = .next t :=
  runs_settled hs hq hk he rfl hw.undisturbed

theorem tripClear_next {w : Write} {row : ObjRow} {st : Nat} {t : State} (hu : w.unit = k) (hp : Passes s 0x442 w row) (hx : tripClear s k = (st, t))
    (hw : Within s t) : exec (.tripClear w) s = .next (answerSt t w.origin st) := by
  subst hu
  exact settled_next hq hp.wf (directWrite_tripClear hs hk hp hx) rfl (hw.trans (.answerSt ..)).undisturbed

end

/-- Settles O27: a source that is taken and one that is not, its end, TripClear in both cases, the valley after it, and the comparator. -/
theorem trips : Obligations.Trips := by
  intro s k src hs hq hk hn
  have hsrc := tripBit_le src
  refine ⟨fun stamp h1 h2 hpin => ?_, fun stamp h => trip_next hs hq hk (tripArrives_filtered h) (.refl s),
    fun stamp h => trip_next hs hq hk (tripArrives_idle h) (.refl s), fun h => ?_, fun w row hu hp => ⟨fun h => ?_, fun h => ?_⟩, fun h => ?_,
    fun b1 b2 => ⟨fun hd h1 h2 => ?_, fun h => ocDetect_next hs hq hk (ocDetect_idle h) (.refl s)⟩⟩
  · exact ⟨_, trip_next hs hq hk (tripArrives_in hpin) (.tripIn hk hsrc), tripIn_tripped hk hsrc hn h1 h2⟩
  · exact runs_settled hs hq hk (tripOut_active h) rfl ((Within.setV ..).trans (.putFaultBit ..)).undisturbed
  · exact tripClear_next hs hq hk hu hp (tripClear_taken h) (.modPwm ..)
  · exact tripClear_next hs hq hk hu hp (tripClear_refused h) (.refl s)
  · exact runs_settled hs hq hk (tripCleared_clears h) rfl (((Within.modPwm ..).trans (.setV ..)).trans (.later ..)).undisturbed
  · exact ⟨_, ocDetect_next hs hq hk (ocDetect_decides hd) (.tripIn hk (by decide)), tripIn_tripped hk (by decide) hn h1 h2⟩

end Sys2Proof.Proofs
end

section
/-! SUPPORT. The update of a sleeve (08 R194, R195, R197): the duties that it takes, and the delay lines of the bank at a valley. -/

namespace Sys2Proof.Machine

/-! ### Placing references and gates -/

/-- t is s with references and gates of sleeves placed, and pulses counted that were lengthened or freewheeled over. -/
structure PlacesOnly (s t : State) : Prop where
  within : Within s t
  object : ∀ x y, SleeveObject y → y ∉ pwmCounters → t.n x y = s.n x y
  pwm : ∀ x, { (t.sleeve x).pwm with phases := [] } = { (s.sleeve x).pwm with phases := [] }

section
variable {s t u : State}

theorem PlacesOnly.refl (s : State) : PlacesOnly s s := ⟨.refl s, fun _ _ _ _ => rfl, fun _ => rfl⟩

theorem PlacesOnly.trans (h : PlacesOnly s t) (g : PlacesOnly t u) : PlacesOnly s u :=
  ⟨h.within.trans g.within, fun x y hy hc => (g.object x y hy hc).trans (h.object x y hy hc), fun x => (g.pwm x).trans (h.pwm x)⟩

theorem PlacesOnly.ite {c : Prop} [Decidable c] (h : PlacesOnly s t) (g : PlacesOnly s u) : PlacesOnly s (if c then t else u) := by
  split
  · exact h
  · exact g

theorem PlacesOnly.foldl {α : Type} {f : State → α → State} (l : List α) (s : State) (h : ∀ t x, PlacesOnly t (f t x)) : PlacesOnly s (l.foldl f s) := by
  induction l generalizing s with
  | nil => exact .refl s
  | cons a r ih => exact (h s a).trans (ih _)

theorem PlacesOnly.bump (s : State) (k : Nat) {c : Nat} (hc : c ∈ pwmCounters) : PlacesOnly s (bump s k c) :=
  ⟨.bump .., (Noted.bump s k hc).object, fun x => by rw [sleeve_congr (bump_same ..).sleeves]⟩

theorem PlacesOnly.bumpN (s : State) (k : Nat) {c : Nat} (hc : c ∈ pwmCounters) (n : Nat) : PlacesOnly s (bumpN s k c n) := by
  induction n generalizing s with
  | zero => exact .refl s
  | succ n ih => exact (PlacesOnly.bump s k hc).trans (ih _)

theorem PlacesOnly.modPwm (s : State) (k : Nat) {f : SleevePwm → SleevePwm} (h : ∀ p, { f p with phases := [] } = { p with phases := [] }) :
    PlacesOnly s (modPwm s k f) :=
  ⟨.modPwm .., fun _ _ _ _ => modPwm_at_n .., modPwm_view s k f (fun p => { p with phases := [] }) h⟩

theorem PlacesOnly.setPhase (s : State) (k x : Nat) (f : PhaseS) : PlacesOnly s (setPhase s k x f) := .modPwm s k fun _ => rfl

theorem PlacesOnly.followRef (s : State) (k x : Nat) (high : Bool) (now : Nat) : PlacesOnly s (followRef s k x high now) := by
  unfold Machine.followRef
  dsimp only
  generalize (if high = true then ((s.sleeve k).pwm.phases.getD x {}).hi else ((s.sleeve k).pwm.phases.getD x {}).lo) = g
  split
  · exact .ite (.refl s) (.ite ((PlacesOnly.setPhase ..).trans (.bump _ _ (by decide))) (.setPhase ..))
  · exact .refl s

end

/-! ### The duties of an update instant (R195; 01 R19) -/

/-- The references that an update at an instant adds to a phase, and the gates that follow them. -/
def placePhase (k t : Nat) (old : List Nat) (valley starts : Bool) (s : State) (x : Nat) : State :=
  let q := (s.sleeve k).pwm
  let f := q.phases.getD x {}
  let highs := nextHighs (updateMode s k) (carrierQ s k) q.valley t (q.duty.getD x half32) (old.getD x half32) valley starts f.highs
  followRef (followRef (setPhase s k x { f with highs := highs }) k x true t) k x false t

theorem PlacesOnly.placePhase (k t : Nat) (old : List Nat) (valley starts : Bool) (s : State) (x : Nat) :
    PlacesOnly s (placePhase k t old valley starts s x) :=
  ((PlacesOnly.setPhase ..).trans (.followRef ..)).trans (.followRef ..)

/-- The duties that have fallen due by an instant. -/
def dueDuties (s : State) (k t : Nat) : List (Nat × List Nat) := (s.sleeve k).pwm.held.filter fun h => decide (h.1 ≤ t)

/-- The PWM half with the duties of an update instant taken. -/
def dutiesLoaded (s : State) (k t : Nat) (p : SleevePwm) : SleevePwm :=
  let q := (s.sleeve k).pwm
  let valley := isValley s k t
  let active := decide (s.st k = usActive)
  let fresh := active && !(dueDuties s k t).isEmpty
  let use := if fresh then (dueDuties s k t).getLast?.getD (q.dutyTick, q.duty) else (q.dutyTick, q.duty)
  let stale := if fresh then 0 else if active && q.loaded && valley then q.stale + (if updateMode s k = 2 then 2 else 1) else q.stale
  { p with
    held := p.held.filter fun h => decide (t < h.1)
    dutyTick := use.1, duty := use.2, lastUpdate := some t, stale := stale
    freewheel := active && q.loaded && !fresh && (q.freewheel || (valley && decide (3 ≤ stale)))
    loaded := p.loaded || fresh
    valley := if valley then t else t - carrierQ s k / 2
    currents := [s.n k 0x054800, s.n k 0x054801, s.n k 0x054802] }

/-- Taking the duties changes them, and of a sleeve that freewheels the gates. -/
theorem takeDuties_places (s : State) (k t : Nat) : PlacesOnly (modPwm s k (dutiesLoaded s k t)) (takeDuties s k t).1 :=
  .ite (.ite ((PlacesOnly.modPwm _ k (f := gatesOff t) fun _ => rfl).trans (.bumpN _ k (c := 0x043400) (by decide) _))
    (.modPwm _ k (f := gatesOff t) fun _ => rfl)) (.refl _)

/-- An ACTIVE sleeve takes the last duties that are due, and its stale count starts again. -/
theorem dutiesLoaded_fresh {s : State} {k t : Nat} {d : Nat × List Nat} (hd : (dueDuties s k t).getLast? = some d) (hst : s.st k = usActive) (p : SleevePwm) :
    (dutiesLoaded s k t p).duty = d.2 ∧ (dutiesLoaded s k t p).stale = 0 ∧ (dutiesLoaded s k t p).loaded = true
      ∧ (dutiesLoaded s k t p).freewheel = false := by
  have hdue : (dueDuties s k t).isEmpty = false := by
    cases h : dueDuties s k t with
    | nil => rw [h] at hd; cases hd
    | cons a r => rfl
  simp [dutiesLoaded, hdue, hst, hd]

theorem closeInterval_cases (s : State) (k t : Nat) :
    closeInterval s k t = s ∨ ∃ r, closeInterval s k t = modPwm s k fun p => { p with record := r } := by
  unfold closeInterval
  split
  · exact .inl rfl
  · split
    · exact .inl rfl
    · exact .inr ⟨_, rfl⟩

/-! ### Delay lines at a valley (R197) -/

section
variable (s : State) (first want : Nat)

theorem Within.putCal : Within s (putCal s first want) := .foldl _ _ _ fun _ _ => .setV ..

/-- Every sleeve of the bank reads the state of its delay lines. -/
theorem putCal_n {i : Nat} (hi : i < 8) : (putCal s first want).n (first + i) 0x045000 = want := by
  unfold putCal
  refine foldl_decides (f := fun t j => t.setN (first + j) 0x045000 want) (P := fun _ => True) (Q := fun t => t.n (first + i) 0x045000 = want)
    List.nodup_range (List.mem_range.mpr hi) (fun _ _ _ _ _ => trivial) (fun t _ => setN_n_self ..) (fun t j _ hne ht => ?_) trivial
  exact (setN_sleeveObject t (by decide) ⟨by decide, by decide⟩ (.inl (by omega))).trans ht

/-- The bank whose lines are calibrated again returns to steps of 62.5 ps. -/
def bankRestored : State :=
  modPwm ((putCal s first 0).later first 0x0403 (leBytes 1 ((first - 0x101) / 8) ++ leBytes 1 1)) first fun p => { p with calDue := false }

theorem Within.bankRestored : Within s (bankRestored s first) := ((Within.putCal ..).trans (.later ..)).trans (.modPwm ..)

theorem bankRestored_n {i : Nat} (hi : i < 8) : (bankRestored s first).n (first + i) 0x045000 = 0 :=
  (modPwm_at_n ..).trans ((later_at_n ..).trans (putCal_n s first 0 hi))

end

section
variable (s : State) (k t : Nat)

/-- The valley of a sleeve: its bank is restored where that is due, and delay lines of the sleeve change roles. -/
theorem valleyLines_roles : ∃ l : SleevePwm → List Bool, valleyLines s k t = modPwm (if (s.sleeve (bankFirst k)).pwm.calDue then bankRestored s (bankFirst k) else s) k
    fun p => { p with lines := l p } := by
  unfold valleyLines bankRestored
  exact ⟨_, rfl⟩

theorem Within.valleyLines : Within s (valleyLines s k t) := by
  obtain ⟨l, h⟩ := valleyLines_roles s k t
  rw [h]
  split
  · exact (Within.bankRestored ..).trans (.modPwm ..)
  · exact .modPwm ..

theorem valleyLines_n (hcal : (s.sleeve (bankFirst k)).pwm.calDue = true) {i : Nat} (hi : i < 8) : (valleyLines s k t).n (bankFirst k + i) 0x045000 = 0 := by
  obtain ⟨l, h⟩ := valleyLines_roles s k t
  rw [h, hcal, if_pos rfl, modPwm_at_n, bankRestored_n _ _ hi]

/-- A valley changes no duty of any sleeve. -/
theorem valleyLines_view {β : Type} (g : SleevePwm → β) (hg : ∀ p l c, g { p with lines := l, calDue := c } = g p) (x : Nat) :
    g ((valleyLines s k t).sleeve x).pwm = g (s.sleeve x).pwm := by
  have hrestored : g ((bankRestored s (bankFirst k)).sleeve x).pwm = g (s.sleeve x).pwm := by
    refine (modPwm_view _ _ _ g (fun p => hg p p.lines false) x).trans ?_
    rw [later_at_sleeve]
    exact congrArg (fun y : SleeveS => g y.pwm) (foldl_keeps (fun t => t.sleeve x) _ _ s fun _ _ => setV_at_sleeve ..)
  obtain ⟨l, h⟩ := valleyLines_roles s k t
  rw [h]
  refine (modPwm_view _ _ _ g (fun p => hg p _ p.calDue) x).trans ?_
  split
  · exact hrestored
  · rfl

end

/-! ### The update -/

/-- An update instant is taken: the interval that it ends is recorded, the duties are loaded, and at a valley the delay lines change roles. -/
def instantTaken (s : State) (k t : Nat) : State :=
  if isValley s k t then valleyLines (takeDuties (closeInterval s k t) k t).1 k t else (takeDuties (closeInterval s k t) k t).1

/-- At an update instant that is not taken yet. -/
theorem carrierUpdate_takes {s : State} {k t : Nat} (h1 : s.st k ≠ usOff) (ht : lastInstant s k = t) (h2 : t ≤ s.q)
    (h3 : (s.sleeve k).pwm.lastUpdate ≠ some t) : PlacesOnly (instantTaken s k t) (carrierUpdate s k) := by
  subst ht
  unfold carrierUpdate
  rw [if_neg (by simp [h1, h2])]
  dsimp only
  rw [if_neg h3]
  exact .ite (.refl _) (.foldl _ _ fun u x => .placePhase k _ _ _ _ u x)

theorem PlacesOnly.view {β : Type} {g : SleevePwm → β} {s t : State} (h : PlacesOnly s t) (hg : ∀ p l, g { p with phases := l } = g p) (x : Nat) :
    g (t.sleeve x).pwm = g (s.sleeve x).pwm :=
  (hg _ []).symm.trans ((congrArg g (h.pwm x)).trans (hg _ []))

section
variable (s : State) (k t : Nat)

theorem Within.takeDuties : Within s (takeDuties s k t).1 := (Within.modPwm ..).trans (takeDuties_places s k t).within

theorem Within.closeInterval : Within s (closeInterval s k t) := by
  obtain h | ⟨r, h⟩ := closeInterval_cases s k t <;> rw [h]
  · exact .refl s
  · exact .modPwm ..

theorem closeInterval_n (x y : Nat) : (closeInterval s k t).n x y = s.n x y := by
  obtain h | ⟨r, h⟩ := closeInterval_cases s k t <;> rw [h]
  exact modPwm_at_n ..

theorem closeInterval_view {β : Type} (g : SleevePwm → β) (hg : ∀ p r, g { p with record := r } = g p) (x : Nat) :
    g ((closeInterval s k t).sleeve x).pwm = g (s.sleeve x).pwm := by
  obtain h | ⟨r, h⟩ := closeInterval_cases s k t <;> rw [h]
  exact modPwm_view _ _ _ g (fun _ => hg ..) x

theorem Within.instantTaken : Within s (instantTaken s k t) := by
  have hload := (Within.closeInterval s k t).trans (.takeDuties _ k t)
  unfold Machine.instantTaken
  split
  · exact hload.trans (.valleyLines ..)
  · exact hload

/-- What an update instant leaves of a sleeve's duties. -/
theorem instantTaken_view {β : Type} (g : SleevePwm → β) (hphases : ∀ p l, g { p with phases := l } = g p)
    (hlines : ∀ p l c, g { p with lines := l, calDue := c } = g p) :
    g ((instantTaken s k t).sleeve k).pwm = g (dutiesLoaded (closeInterval s k t) k t ((closeInterval s k t).sleeve k).pwm) := by
  have hload := (takeDuties_places (closeInterval s k t) k t).view hphases k
  rw [modPwm_pwm] at hload
  unfold instantTaken
  split
  · exact (valleyLines_view _ k t g hlines k).trans hload
  · exact hload

theorem takeDuties_calDue (x : Nat) : ((takeDuties s k t).1.sleeve x).pwm.calDue = (s.sleeve x).pwm.calDue :=
  ((takeDuties_places s k t).view (g := SleevePwm.calDue) (fun _ _ => rfl) x).trans (modPwm_view s k (dutiesLoaded s k t) SleevePwm.calDue (fun _ => rfl) x)

end

section
variable {s : State} {k t : Nat} (h1 : s.st k ≠ usOff) (ht : lastInstant s k = t) (h2 : t ≤ s.q) (h3 : (s.sleeve k).pwm.lastUpdate ≠ some t)
include h1 ht h2 h3

theorem Within.carrierUpdate : Within s (carrierUpdate s k) := (Within.instantTaken s k t).trans (carrierUpdate_takes h1 ht h2 h3).within

/-- The duties of the instant are taken from those held (R195). -/
theorem carrierUpdate_loads : ((carrierUpdate s k).sleeve k).pwm.lastUpdate = some t
    ∧ ((carrierUpdate s k).sleeve k).pwm.held = (s.sleeve k).pwm.held.filter (fun h => decide (t < h.1))
    ∧ ∀ d, (dueDuties s k t).getLast? = some d → s.st k = usActive → ((carrierUpdate s k).sleeve k).pwm.duty = d.2
        ∧ ((carrierUpdate s k).sleeve k).pwm.stale = 0 ∧ ((carrierUpdate s k).sleeve k).pwm.loaded = true
        ∧ ((carrierUpdate s k).sleeve k).pwm.freewheel = false := by
  have hview : ∀ {β : Type} (g : SleevePwm → β), (∀ p l, g { p with phases := l } = g p) → (∀ p l c, g { p with lines := l, calDue := c } = g p) →
      g ((carrierUpdate s k).sleeve k).pwm = g (dutiesLoaded (closeInterval s k t) k t ((closeInterval s k t).sleeve k).pwm) :=
    fun g hphases hlines => ((carrierUpdate_takes h1 ht h2 h3).view hphases k).trans (instantTaken_view s k t g hphases hlines)
  have hheld := closeInterval_view s k t SleevePwm.held (fun _ _ => rfl) k
  refine ⟨hview SleevePwm.lastUpdate (fun _ _ => rfl) (fun _ _ _ => rfl), ?_, fun d hd hst => ?_⟩
  · rw [hview SleevePwm.held (fun _ _ => rfl) (fun _ _ _ => rfl), dutiesLoaded, hheld]
  · have hdue : dueDuties (closeInterval s k t) k t = dueDuties s k t := by unfold dueDuties; rw [hheld]
    obtain ⟨hduty, hstale, hloaded, hfree⟩ := dutiesLoaded_fresh ((congrArg List.getLast? hdue).trans hd) ((closeInterval_n ..).trans hst)
      ((closeInterval s k t).sleeve k).pwm
    exact ⟨(hview SleevePwm.duty (fun _ _ => rfl) (fun _ _ _ => rfl)).trans hduty, (hview SleevePwm.stale (fun _ _ => rfl) (fun _ _ _ => rfl)).trans hstale,
      (hview SleevePwm.loaded (fun _ _ => rfl) (fun _ _ _ => rfl)).trans hloaded,
      (hview SleevePwm.freewheel (fun _ _ => rfl) (fun _ _ _ => rfl)).trans hfree⟩

/-- At a valley a bank whose lines are calibrated again returns to steps of 62.5 ps (R197). -/
theorem carrierUpdate_restores (hv : isValley s k t = true) (hcal : (s.sleeve (bankFirst k)).pwm.calDue = true) {i : Nat} (hi : i < 8) :
    (carrierUpdate s k).n (bankFirst k + i) 0x045000 = 0 := by
  have hdue := (takeDuties_calDue (closeInterval s k t) k t (bankFirst k)).trans
    ((closeInterval_view s k t SleevePwm.calDue (fun _ _ => rfl) (bankFirst k)).trans hcal)
  rw [(carrierUpdate_takes h1 ht h2 h3).object _ _ ⟨by decide, by decide⟩ (by decide), instantTaken, if_pos hv]
  exact valleyLines_n _ k t hdue hi

end

end Sys2Proof.Machine
end

section
/-! SUPPORT. The pulses of a sleeve (08 R200 to R202): what becomes of one whose complement's gate has not been on. -/

namespace Sys2Proof.Machine

/-! ### Gates of a phase -/

/-- The gate that a decision is about. -/
def gateOf (f : PhaseS) (high : Bool) : GateS := if high then f.hi else f.lo

theorem gateOf_putGate (f : PhaseS) (high : Bool) (g : GateS) : gateOf (putGate f high g) high = g := by cases high <;> rfl

theorem gateOf_putGate_not (f : PhaseS) (high : Bool) (g : GateS) : gateOf (putGate f (!high) g) high = gateOf f high := by cases high <;> rfl

theorem if_gate_on (f : PhaseS) (high : Bool) : (if high then f.hi.on else f.lo.on) = (gateOf f high).on := by cases high <;> rfl

/-! ### The decision (R201) -/

/-- A pulse of phase f, number x, falls to be decided: its reference turns on at ron and off at roff, it is neither decided yet nor does it continue
another, and the gate of its complement has not been on. -/
structure PulseDue (s : State) (k x : Nat) (high : Bool) (ron roff : Nat) (f : PhaseS) : Prop where
  modulates : modulates s k = true
  phase : (s.sleeve k).pwm.phases[x]? = some f
  on : pulseOn f high s.q = some ron
  off : refOff s k x high ron = roff
  undecided : (gateOf f high).ron ≠ some ron
  apart : (gateOf f high).through = false
  length : ron < roff
  other : (gateOf f (!high)).on = []

section
variable {s : State} {k x ron roff : Nat} {high : Bool} {f : PhaseS} (h : PulseDue s k x high ron roff f)
include h

theorem pulseDecide_due : pulseDecide s k x high =
    if (minPulse s k : Int) ≤ (roff : Int) - ron - deadTime s k ∧ 0 < (roff : Int) - ron - deadTime s k then
      setPhase s k x (putGate f high (gatePulse s k (gateOf f high) ron (ron + deadTime s k) roff true false))
    else if stretches s k then
      if minPulse s k = 0 then setPhase s k x (putGate f high (noPulse (gateOf f high) ron))
      else bump (setPhase s k x (putGate f high
        (gatePulse s k (gateOf f high) ron (ron + deadTime s k) (ron + deadTime s k + minPulse s k) false true))) k 0x043300
    else bump (setPhase s k x (putGate (putGate f high (noPulse (gateOf f high) ron)) (!high) (gateOf f (!high)))) k 0x043200 := by
  obtain ⟨hmod, hphase, hon, hoff, hundecided, hapart, hlength, hother⟩ := h
  have hget : (s.sleeve k).pwm.phases.getD x {} = f := by rw [List.getD_eq_getElem?_getD, hphase, Option.getD_some]
  have hcomplement : (if high then f.lo else f.hi) = gateOf f (!high) := by cases high <;> rfl
  have hstays : staysOn s k x high ron (gateOf f (!high)) = gateOf f (!high) := by unfold staysOn; rw [hother]
  unfold pulseDecide
  rw [hmod, Bool.not_true, if_neg Bool.false_ne_true]
  dsimp only
  rw [hget, hon]
  dsimp only
  rw [hoff, hcomplement, hstays, ← gateOf, if_neg (not_or.mpr ⟨hundecided, Nat.not_le.mpr hlength⟩), hapart, if_neg Bool.false_ne_true, hother]
  dsimp only
  split
  · next hlong =>
    obtain ⟨hmin, hpos⟩ := hlong
    rw [if_neg (by omega), decide_eq_false (by omega), if_neg Bool.false_ne_true, Nat.max_eq_left (by omega)]
  · rfl

/-- A pulse long enough passes, with its dead time. -/
theorem pulseDecide_passes (hmin : (minPulse s k : Int) ≤ (roff : Int) - ron - deadTime s k) (hpos : 0 < (roff : Int) - ron - deadTime s k) :
    pulseDecide s k x high = setPhase s k x (putGate f high (gatePulse s k (gateOf f high) ron (ron + deadTime s k) roff true false)) :=
  (pulseDecide_due h).trans (if_pos ⟨hmin, hpos⟩)

/-- One too short is dropped: no gate turns on. -/
theorem pulseDecide_drops (hshort : (roff : Int) - ron - deadTime s k < minPulse s k) (hmode : stretches s k = false) : pulseDecide s k x high =
    bump (setPhase s k x (putGate (putGate f high (noPulse (gateOf f high) ron)) (!high) (gateOf f (!high)))) k 0x043200 := by
  rw [pulseDecide_due h, if_neg (by omega), hmode, if_neg Bool.false_ne_true]

/-- In stretch mode it lasts the least time of a pulse. -/
theorem pulseDecide_stretches (hshort : (roff : Int) - ron - deadTime s k < minPulse s k) (hmode : stretches s k = true) (hpos : 0 < minPulse s k) :
    pulseDecide s k x high = bump (setPhase s k x (putGate f high
      (gatePulse s k (gateOf f high) ron (ron + deadTime s k) (ron + deadTime s k + minPulse s k) false true))) k 0x043300 := by
  rw [pulseDecide_due h, if_neg (by omega), hmode, if_pos rfl, if_neg (by omega)]

end

theorem setPhase_phases (s : State) (k x : Nat) (f : PhaseS) : ((setPhase s k x f).sleeve k).pwm.phases = (s.sleeve k).pwm.phases.set x f :=
  congrArg SleevePwm.phases (modPwm_pwm ..)

/-- A phase put where the view of its gates is the same leaves that view of all phases. -/
theorem map_set_same {α β : Type} {g : α → β} {l : List α} {i : Nat} {a b : α} (hl : l[i]? = some a) (h : g b = g a) : (l.set i b).map g = l.map g := by
  obtain ⟨hi, rfl⟩ := List.getElem?_eq_some_iff.mp hl
  rw [List.map_set, h, ← List.getElem_map g (h := by rwa [List.length_map]), List.set_getElem_self]

/-- The counter of a decided pulse, and the phases behind it. -/
theorem bump_setPhase {s : State} {k c : Nat} (hk : isSleeve k = true) (hc : c ∈ pwmCounters) (x : Nat) (f : PhaseS) :
    Within s (bump (setPhase s k x f) k c) ∧ Counts s (bump (setPhase s k x f) k c) k c
      ∧ ((bump (setPhase s k x f) k c).sleeve k).pwm.phases = (s.sleeve k).pwm.phases.set x f := by
  refine ⟨(Within.modPwm ..).trans (.bump ..), (bump_pwmCounter _ hk hc).of_n (modPwm_at_n ..) rfl, ?_⟩
  rw [sleeve_congr (bump_same ..).sleeves, setPhase_phases]

end Sys2Proof.Machine
end

section
/-! SUPPORT. Delay lines that cannot be calibrated, and pads that read back wrong (08 R197, R210; log entry 31). -/
namespace Sys2Proof.Machine

/-! ### The loss of a delay line (R197) -/

theorem delayCal_restores {s : State} {bank : Nat} (h1 : s.st (0x101 + 8 * bank) ≠ usOff) (h2 : s.n (0x101 + 8 * bank) 0x045000 ≠ 0) :
    delayCal s bank true = modPwm s (0x101 + 8 * bank) fun p => { p with calDue := true } := by
  unfold delayCal
  dsimp only
  rw [if_neg h1, if_pos rfl, if_neg h2]

/-- The bank on the 2 ns grid, before its sleeves count the loss. -/
def bankCoarse (s : State) (first : Nat) : State := putCal (modPwm s first fun p => { p with calDue := false }) first 1

/-- Every sleeve of the bank counts the loss. -/
def bankCounts (s : State) (first : Nat) : State := (List.range 8).foldl (fun t i => hit t (first + i) 10) (bankCoarse s first)

theorem delayCal_loses {s : State} {bank : Nat} (h1 : s.st (0x101 + 8 * bank) ≠ usOff) (h2 : s.n (0x101 + 8 * bank) 0x045000 = 0) :
    delayCal s bank false = (bankCounts s (0x101 + 8 * bank)).later (0x101 + 8 * bank) 0x0403 (leBytes 1 bank ++ leBytes 1 0) := by
  unfold delayCal
  dsimp only
  rw [if_neg h1, if_neg Bool.false_ne_true, h2, if_neg (by decide)]
  rfl

theorem classOf_delayLoss : classOf .sleeve 10 = some (.corrected 0x045100) := by decide

section
variable (s : State) {bank : Nat} (hb : bank < 4)
include hb

theorem bankSleeve {i : Nat} (hi : i < 8) : isSleeve (0x101 + 8 * bank + i) = true := decide_eq_true (by omega)

/-- The loss is told, recorded and counted, and nothing else changes. -/
theorem Noted.bankCounts : Noted (bankCoarse s (0x101 + 8 * bank)) (bankCounts s (0x101 + 8 * bank)) := by
  refine List.foldlRecOn (motive := Noted (bankCoarse s (0x101 + 8 * bank))) _ _ (.refl _) fun t ht i hi => ?_
  rw [hit_sleeve (bankSleeve hb (List.mem_range.mp hi))]
  exact ht.trans (.hitSleeve classOf_delayLoss (by decide) (by decide))

end

theorem Within.bankCoarse (s : State) (first : Nat) : Within s (bankCoarse s first) := (Within.modPwm ..).trans (.putCal ..)

theorem bankCoarse_outbox (s : State) (first : Nat) : (bankCoarse s first).outbox = s.outbox :=
  (foldl_keeps State.outbox _ _ _ fun _ _ => setV_outbox ..).trans (modPwm_outbox ..)

/-! ### Pads (R210) -/

/-- The pad's mismatch is that of the carrier period in progress. -/
def padMarked (s : State) (k pin : Nat) : State := modPwm s k fun p => { p with mismatch := p.mismatch.set pin (some (periodStart s k)) }

theorem classOf_mismatch : classOf .sleeve 3 = some (.corrected 0x045200) := by decide

theorem classOf_mismatchTwice : classOf .sleeve 4 = some .contained := by decide

section
variable {s : State} {k pin : Nat} {level : Bool}

theorem readback_right (h : padLevel s k pin s.q = level) : readback s k pin level = s := if_pos (.inr (.inl h))

theorem readback_wrong (h1 : s.st k ≠ usOff) (hlevel : padLevel s k pin s.q ≠ level) (hstable : padStable s k pin s.q = true) : readback s k pin level =
    if ((s.sleeve k).pwm.mismatch.getD pin none).map (· + carrierQ s k) = some (periodStart s k) then hit (hit (padMarked s k pin) k 3) k 4
    else hit (padMarked s k pin) k 3 := by
  unfold readback
  rw [if_neg (by simp [h1, hlevel, hstable])]
  rfl

/-- A mismatch that is not of the period before is marked and counted only. -/
theorem readback_once (h1 : s.st k ≠ usOff) (hlevel : padLevel s k pin s.q ≠ level) (hstable : padStable s k pin s.q = true)
    (hlast : ∀ v, (s.sleeve k).pwm.mismatch.getD pin none = some v → v + carrierQ s k ≠ periodStart s k) :
    readback s k pin level = hit (padMarked s k pin) k 3 := by
  rw [readback_wrong h1 hlevel hstable, if_neg]
  intro h
  obtain ⟨v, hv, he⟩ := Option.map_eq_some_iff.mp h
  exact hlast v hv he

/-- One of the period before is a fault. -/
theorem readback_twice {v : Nat} (h1 : s.st k ≠ usOff) (hlevel : padLevel s k pin s.q ≠ level) (hstable : padStable s k pin s.q = true)
    (hlast : (s.sleeve k).pwm.mismatch.getD pin none = some v) (hv : v + carrierQ s k = periodStart s k) :
    readback s k pin level = hit (hit (padMarked s k pin) k 3) k 4 := by
  rw [readback_wrong h1 hlevel hstable, if_pos]
  rw [hlast, Option.map_some, hv]

theorem padMarked_shadowed (b : Nat) : shadowed (padMarked s k pin) k b = shadowed s k b := shadowed_of rfl rfl k b

theorem Noted.hit_mismatch (hk : isSleeve k = true) (t : State) : Noted t (hit t k 3) := by
  rw [hit_sleeve hk]
  exact .hitSleeve classOf_mismatch (by decide) (by decide)

theorem hit_mismatch_counts (hk : isSleeve k = true) {t : State} (h : shadowed t k 3 = false) : Counts t (hit t k 3) k 0x045200 := by
  rw [hit_sleeve hk]
  exact hitSleeve_corrected_counts classOf_mismatch hk (by decide) (by decide) h

end

end Sys2Proof.Machine
end

section
/-! SUPPORT. The commands of the PWM half as whole commands (08 R194 to R202, R210). -/

namespace Sys2Proof.Proofs
open Sys2Proof.Machine

section
variable {s : State} {k : Nat} (hs : Serving s) (hk : isSleeve k = true)
include hs hk

/-! ### The update -/

theorem carrierUpdate_next {t : Nat} (h1 : s.st k ≠ usOff) (ht : lastInstant s k = t) (h2 : t ≤ s.q) (h3 : (s.sleeve k).pwm.lastUpdate ≠ some t) :
    exec (.carrierUpdate k) s = .next (carrierUpdate s k) :=
  runsQuiet_next hs hk rfl rfl (Within.carrierUpdate h1 ht h2 h3).pending

/-! ### Pulses -/

section
variable {x ron roff : Nat} {high : Bool} {f : PhaseS}

theorem pulseDecision_next {t : State} (hx : x < 3) (he : pulseDecide s k x high = t) (hp : t.pending = s.pending) :
    exec (.pulseDecision k x high) s = .next t :=
  runsQuiet_next hs (Bool.and_eq_true_iff.mpr ⟨hk, decide_eq_true hx⟩) he rfl hp

/-- A pulse that is too short, in drop mode: it is counted, and its gate stays as it is. -/
theorem pulseDecision_drops (hx : x < 3) (h : PulseDue s k x high ron roff f) (hshort : (roff : Int) - ron - deadTime s k < minPulse s k)
    (hmode : stretches s k = false) : Completes (.pulseDecision k x high) s fun t => Counts s t k 0x043200
      ∧ (t.sleeve k).pwm.phases.map (fun f => if high then f.hi.on else f.lo.on) = (s.sleeve k).pwm.phases.map fun f => if high then f.hi.on else f.lo.on := by
  obtain ⟨hw, hcounts, hphases⟩ := bump_setPhase (s := s) hk (by decide : 0x043200 ∈ pwmCounters) x
    (putGate (putGate f high (noPulse (gateOf f high) ron)) (!high) (gateOf f (!high)))
  refine ⟨_, pulseDecision_next hs hk hx (pulseDecide_drops h hshort hmode) hw.pending, hcounts, ?_⟩
  rw [hphases]
  refine map_set_same h.phase ?_
  rw [if_gate_on, if_gate_on, gateOf_putGate_not, gateOf_putGate]
  rfl

/-- In stretch mode it is counted, and lasts the least time of a pulse. -/
theorem pulseDecision_stretches (hx : x < 3) (h : PulseDue s k x high ron roff f) (hshort : (roff : Int) - ron - deadTime s k < minPulse s k)
    (hmode : stretches s k = true) (hpos : 0 < minPulse s k) : Completes (.pulseDecision k x high) s fun t => Counts s t k 0x043300
      ∧ (t.sleeve k).pwm.phases = (s.sleeve k).pwm.phases.set x (putGate f high
        (gatePulse s k (gateOf f high) ron (ron + deadTime s k) (ron + deadTime s k + minPulse s k) false true)) := by
  obtain ⟨hw, hcounts, hphases⟩ := bump_setPhase (s := s) hk (by decide : 0x043300 ∈ pwmCounters) x (putGate f high
    (gatePulse s k (gateOf f high) ron (ron + deadTime s k) (ron + deadTime s k + minPulse s k) false true))
  exact ⟨_, pulseDecision_next hs hk hx (pulseDecide_stretches h hshort hmode hpos) hw.pending, hcounts, hphases⟩

end

/-! ### Pads -/

section
variable {pin : Nat} {level : Bool} (hq : Calm s) (hpin : pin < 6)
include hq hpin

theorem readback_next {t : State} (he : readback s k pin level = t) (hu : Undisturbed s t) : exec (.readback k pin level) s = .next t :=
  runs_settled hs hq (Bool.and_eq_true_iff.mpr ⟨hk, decide_eq_true hpin⟩) he rfl hu

variable (h1 : s.st k ≠ usOff) (hlevel : padLevel s k pin s.q ≠ level) (hstable : padStable s k pin s.q = true)
include h1 hlevel hstable

/-- A pad that reads back wrong is marked and counted. -/
theorem readback_marks (hlast : ∀ v, (s.sleeve k).pwm.mismatch.getD pin none = some v → v + carrierQ s k ≠ periodStart s k) (hsh : shadowed s k 3 = false) :
    Completes (.readback k pin level) s fun t =>
      (t.sleeve k).pwm = { (s.sleeve k).pwm with mismatch := (s.sleeve k).pwm.mismatch.set pin (some (periodStart s k)) } ∧ Counts s t k 0x045200 := by
  have hnoted := Noted.hit_mismatch hk (padMarked s k pin)
  refine ⟨_, readback_next hs hk hq hpin (readback_once h1 hlevel hstable hlast) ((Within.modPwm ..).trans hnoted.within).undisturbed, ?_, ?_⟩
  · rw [sleeve_congr hnoted.same.sleeves, padMarked, modPwm_pwm]
  · exact (hit_mismatch_counts hk ((padMarked_shadowed 3).trans hsh)).of_n (modPwm_at_n ..) rfl

/-- One that does so in the carrier period after another puts its sleeve in FAULT. -/
theorem readback_faults {v : Nat} (hlast : (s.sleeve k).pwm.mismatch.getD pin none = some v) (hv : v + carrierQ s k = periodStart s k)
    (hsh : shadowed s k 4 = false) (hn : NoCluster s k) (h2 : s.st k ≠ usRetired) : Completes (.readback k pin level) s fun t => t.st k = usFault := by
  have hnoted := Noted.hit_mismatch hk (padMarked s k pin)
  have hmarked : Within s (hit (padMarked s k pin) k 3) := (Within.modPwm ..).trans hnoted.within
  have hst : (hit (padMarked s k pin) k 3).st k = s.st k := (hnoted.object k 0x030000 ⟨by decide, by decide⟩ (by decide)).trans (modPwm_at_st ..)
  have hshadow : shadowed (hit (padMarked s k pin) k 3) k 4 = false :=
    (shadowed_of hnoted.same.faults hnoted.same.time k 4).trans ((padMarked_shadowed 4).trans hsh)
  obtain ⟨hu, hfault⟩ := hitSleeve_faults hk (hn.of_plan hmarked.plan) (by decide) classOf_mismatchTwice hshadow (hst ▸ h1) (hst ▸ h2)
  have he := (readback_twice h1 hlevel hstable hlast hv).trans (hit_sleeve hk 4)
  exact ⟨_, readback_next hs hk hq hpin he (hmarked.undisturbed.trans hu), hfault⟩

end
end

/-! ### Delay lines -/

section
variable {s : State} {bank : Nat} (hs : Serving s) (hq : Calm s) (hb : bank < 4) (h1 : s.st (0x101 + 8 * bank) ≠ usOff)
include hs hq hb h1

theorem delayCal_calibrated (h2 : s.n (0x101 + 8 * bank) 0x045000 ≠ 0) :
    exec (.delayCal bank true) s = .next (modPwm s (0x101 + 8 * bank) fun p => { p with calDue := true }) :=
  runs_settled hs hq (decide_eq_true hb) (delayCal_restores h1 h2) rfl (Within.modPwm ..).undisturbed

/-- The loss of a delay line moves the bank to the 2 ns grid, told on its first sleeve (R197; log entry 31). -/
theorem delayCal_lost (h2 : s.n (0x101 + 8 * bank) 0x045000 = 0) : Completes (.delayCal bank false) s fun t =>
    (∀ i < 8, t.n (0x101 + 8 * bank + i) 0x045000 = 1) ∧ t.outbox = s.outbox ++ [⟨0x101 + 8 * bank, 0x0403, [BitVec.ofNat 8 bank, 0]⟩] := by
  have hnoted := Noted.bankCounts s hb
  refine ⟨_, runs_settled hs hq (decide_eq_true hb) (delayCal_loses h1 h2) rfl
    (((Within.bankCoarse ..).trans hnoted.within).trans (.later ..)).undisturbed, fun i hi => ?_, ?_⟩
  · rw [later_at_n, hnoted.object _ _ ⟨by decide, by decide⟩ (by decide), bankCoarse, putCal_n _ _ _ hi]
  · rw [State.later, hnoted.same.outbox, bankCoarse_outbox]
    rfl

end

/-- Settles O28: the duties and the valley of an update, the three fates of a pulse, the delay lines of a bank, and the pads. -/
theorem modulation : Obligations.Modulation := by
  intro s k hs hk
  refine ⟨fun _ t h1 _ ht h2 h3 => ?_,
    fun _ t hst _ ht h2 h3 hv hcal => ?_, fun x high ron roff f hx hmod hphase hon hoff hundecided hapart hlength hother => ?_,
    fun bank hb hq h1 => ⟨delayCal_calibrated hs hq hb h1, delayCal_lost hs hq hb h1⟩, fun pin level hpin hq h1 hstable =>
      ⟨fun h => readback_next hs hk hq hpin (readback_right h) (.refl s), fun hlevel => readback_marks hs hk hq hpin h1 hlevel hstable,
        fun v hlevel hlast hv hsh hn h2 => readback_faults hs hk hq hpin h1 hlevel hstable hlast hv hsh hn h2⟩⟩
  · obtain ⟨hlast, hheld, hloads⟩ := carrierUpdate_loads h1 ht h2 h3
    -- the statement's filter takes in the clause about the duties behind it, which holds
    exact ⟨_, carrierUpdate_next hs hk h1 ht h2 h3, hlast, hheld.trans (List.filter_congr fun d _ =>
      decide_eq_decide.mpr ⟨fun hd => ⟨decide_eq_true hd, hloads⟩, fun hd => of_decide_eq_true hd.1⟩)⟩
  · have h1 : s.st k ≠ usOff := by rw [hst]; decide
    exact ⟨_, carrierUpdate_next hs hk h1 ht h2 h3, fun i hi => carrierUpdate_restores h1 ht h2 h3 hv hcal hi⟩
  · have hcomplement : (gateOf f (!high)).on = [] := by cases high <;> exact hother
    have hdue : PulseDue s k x high ron roff f := ⟨hmod, hphase, hon, hoff, hundecided, hapart, hlength, hcomplement⟩
    exact ⟨fun hmin hpos => pulseDecision_next hs hk hx (pulseDecide_passes hdue hmin hpos) rfl, pulseDecision_drops hs hk hx hdue,
      pulseDecision_stretches hs hk hx hdue⟩

end Sys2Proof.Proofs
end

section
/-! SUPPORT. The feedback half of a sleeve (09): what a change of it leaves alone, the counters of the chapter, and hits that only count. -/

namespace Sys2Proof.Machine

/-! ### The feedback half -/

section
variable (s : State) (k : Nat) (f : SleeveFb → SleeveFb)

theorem modFb_fb : ((modFb s k f).sleeve k).fb = f (s.sleeve k).fb := congrArg SleeveS.fb (setSleeve_read_self ..)

/-- What a change leaves alone of the feedback half that it changes it leaves alone of every sleeve's. -/
theorem modFb_view {β : Type} (g : SleeveFb → β) (h : ∀ p, g (f p) = g p) (x : Nat) :
    g ((modFb s k f).sleeve x).fb = g (s.sleeve x).fb := by
  by_cases hx : k = x
  · subst hx
    rw [modFb_fb, h]
  · rw [modFb, setSleeve_read, if_neg hx]

@[simp] theorem modFb_at_val (x y : Nat) : (modFb s k f).val x y = s.val x y := rfl
@[simp] theorem modFb_at_n (x y : Nat) : (modFb s k f).n x y = s.n x y := rfl
@[simp] theorem modFb_at_i (x y : Nat) : (modFb s k f).i x y = s.i x y := rfl
@[simp] theorem modFb_at_bs (x y : Nat) : (modFb s k f).bs x y = s.bs x y := rfl

theorem Within.modFb : Within s (modFb s k f) := .setSleeve ..

end

/-! ### Counters -/

/-- The counters of index edges, illegal transitions, bad frames, losses, stuck streams and dropped edges of a sleeve (09 R236). -/
def fbCounters : List Nat := [0x052700, 0x052A00, 0x052B00, 0x052D00, 0x054A00, 0x055400]

set_option maxRecDepth 100000 in
theorem fbCounter_rows : ∀ c ∈ fbCounters, ∀ r ∈ allRows, r.stick = true → r.obj = c / 256 → c % 256 ≤ r.elHi := by decide +kernel

set_option maxRecDepth 100000 in
theorem fbCounter_type : ∀ c ∈ fbCounters, ((rowOf .sleeve (c / 256) (c % 256)).map fun r => r.ty.maxNat).getD (2 ^ 32 - 1) = 2 ^ 32 - 1 := by
  decide +kernel

theorem fbCounter_range : ∀ c ∈ fbCounters, 0x052700 ≤ c ∧ c ≤ 0x055400 := by decide

theorem bump_fbCounter (s : State) {k c : Nat} (hk : isSleeve k = true) (hc : c ∈ fbCounters) : Counts s (bump s k c) k c := by
  intro hv
  obtain ⟨h1, h2⟩ := fbCounter_range c hc
  exact bump_counts s k c .sleeve (by omega) (kindOf_sleeve hk) (fbCounter_rows c hc) (by omega) (by omega) (by rw [fbCounter_type c hc]; exact hv)

theorem setV_sleeveObject (s : State) {u c x y : Nat} (v : Val) (hc : c < 2 ^ 24) (hy : SleeveObject y) (hne : y ≠ c) :
    (s.setV u c v).val x y = s.val x y := by
  obtain ⟨h1, h2⟩ := hy
  exact setV_read_ne _ _ (by intro he; rw [keyOf_inj hc (by omega)] at he; omega)

/-- t is s but for events told, fault bits, and one counter of sleeves. -/
structure CountsOnly (c : Nat) (s t : State) : Prop where
  same : SameButEvents s t
  calm : CalmSame s.slots t.slots
  val : ∀ x y, SleeveObject y → y ≠ c → t.val x y = s.val x y

section
variable {s t u : State} {k b c : Nat}

theorem CountsOnly.trans (h : CountsOnly c s t) (g : CountsOnly c t u) : CountsOnly c s u :=
  ⟨h.same.trans g.same, h.calm.trans g.calm, fun x y hy hne => (g.val x y hy hne).trans (h.val x y hy hne)⟩

theorem CountsOnly.within (h : CountsOnly c s t) : Within s t := .of_events h.same h.calm

theorem CountsOnly.fb (h : CountsOnly c s t) (x : Nat) : (t.sleeve x).fb = (s.sleeve x).fb := by rw [sleeve_congr h.same.sleeves]

theorem CountsOnly.bump (s : State) (k : Nat) (hc : c ∈ fbCounters) : CountsOnly c s (bump s k c) := by
  refine ⟨bump_same .., bump_calm _ _ _, fun x y hy hne => ?_⟩
  obtain ⟨h1, h2⟩ := fbCounter_range c hc
  obtain ⟨h3, h4⟩ := hy
  exact bump_keeps s k c x y (by omega) (by omega) (fbCounter_rows c hc) (.inr hne) ⟨by omega, by omega⟩

theorem CountsOnly.recordHit (s : State) (u : Nat) (kd : UKind) (cl : FClass) (hb : b < 256) : CountsOnly c s (recordHit s u b kd cl).1 :=
  ⟨recordHit_same .., (Within.recordHit ..).calm, fun _ _ hy _ => by obtain ⟨h1, h2⟩ := hy; exact recordHit_val hb (by omega) (by omega) (by omega)⟩

/-! ### Corrected hits (12 R274, R275) -/

/-- The corrected sources of the chapter: illegal transitions (R216) and bad frames (R225). -/
theorem classOf_feedback : classOf .sleeve 5 = some (.corrected 0x052A00) ∧ classOf .sleeve 7 = some (.corrected 0x052B00) := by decide

section
variable (hk : isSleeve k = true) (hb : b < 256) (hcl : classOf .sleeve b = some (.corrected c)) (hc : c ∈ fbCounters)
include hk hb hcl hc

theorem CountsOnly.hit : CountsOnly c s (hit s k b) := by
  have hrec : CountsOnly c s (Machine.recordHit s k b .sleeve (.corrected c)).1 := .recordHit s k _ _ hb
  rw [hit_sleeve hk, hitSleeve_corrected hcl]
  split
  · exact hrec
  · exact hrec.trans (.bump _ k hc)

theorem hit_counts (h : shadowed s k b = false) : Counts s (hit s k b) k c := by
  obtain ⟨h1, h2⟩ := fbCounter_range c hc
  rw [hit_sleeve hk, hitSleeve_corrected hcl, h, if_neg Bool.false_ne_true]
  exact (bump_fbCounter _ hk hc).of_n (recordHit_sleeveObject hb ⟨by omega, by omega⟩) rfl

end
end

end Sys2Proof.Machine
end

section
/-! SUPPORT. What is formed from a sample (09 R214, R227 to R229, R234, R235) leaves the count alone; and one count (R213, R215). -/

namespace Sys2Proof.Machine

/-- The settings of the decoder, its state, and the position (09 R213, R236). -/
def CountObject (y : Nat) : Prop := 0x050000 ≤ y ∧ y < 0x052400

/-- t is s but for what is formed from a sample: speeds, measured positions, the samples of the axis, and the divider with its pins. -/
structure Forms (s t : State) : Prop where
  within : Within s t
  val : ∀ x y, CountObject y → t.val x y = s.val x y
  levels : ∀ x, ((t.sleeve x).fb.a, (t.sleeve x).fb.b) = ((s.sleeve x).fb.a, (s.sleeve x).fb.b)

section
variable {s t u : State}

theorem Forms.refl (s : State) : Forms s s := ⟨.refl s, fun _ _ _ => rfl, fun _ => rfl⟩

theorem Forms.trans (h : Forms s t) (g : Forms t u) : Forms s u :=
  ⟨h.within.trans g.within, fun x y hy => (g.val x y hy).trans (h.val x y hy), fun x => (g.levels x).trans (h.levels x)⟩

theorem Forms.foldl {α : Type} {f : State → α → State} (l : List α) (s : State) (h : ∀ t x, Forms t (f t x)) : Forms s (l.foldl f s) := by
  induction l generalizing s with
  | nil => exact .refl s
  | cons a r ih => exact (h s a).trans (ih _)

theorem Forms.modFb (s : State) (k : Nat) {f : SleeveFb → SleeveFb}
    (h : ∀ p, ((f p).a, (f p).b) = (p.a, p.b) := by intro _; rfl) : Forms s (modFb s k f) :=
  ⟨.modFb .., fun _ _ _ => rfl, modFb_view s k f (fun p => (p.a, p.b)) h⟩

theorem Forms.setV (s : State) (x : Nat) {c : Nat} (v : Val) (hlo : 0x052400 ≤ c := by decide) (hhi : c < 2 ^ 24 := by decide) :
    Forms s (s.setV x c v) :=
  ⟨.setV .., fun _ _ hy => by obtain ⟨h1, h2⟩ := hy; exact setV_sleeveObject s v hhi ⟨by omega, by omega⟩ (by omega), fun _ => rfl⟩

theorem Forms.setAxis (s : State) (a : Nat) (x : AxisS) : Forms s (s.setAxis a x) := ⟨.setAxis .., fun _ _ _ => rfl, fun _ => rfl⟩

theorem Forms.setPin (s : State) (p : Nat) (x : PinS) : Forms s (s.setPin p x) := ⟨.setPin .., fun _ _ _ => rfl, fun _ => rfl⟩

theorem Forms.bumpN (s : State) (k n : Nat) : Forms s (bumpN s k 0x055400 n) := by
  induction n generalizing s with
  | zero => exact .refl s
  | succ n ih =>
    have hcounts : CountsOnly 0x055400 s (bump s k 0x055400) := .bump s k (by decide)
    exact Forms.trans ⟨hcounts.within, fun x y hy => by obtain ⟨h1, h2⟩ := hy; exact hcounts.val x y ⟨by omega, by omega⟩ (by omega),
      fun x => by rw [hcounts.fb]⟩ (ih _)

end

/-! ### The parts of a sample -/

section
variable (s : State) (k : Nat)

theorem Forms.putMeasured (p : Int) : Forms s (putMeasured s k p) := by
  unfold Machine.putMeasured
  dsimp only
  split
  · exact .refl s
  · exact (Forms.setV s _ _).trans (.setV _ _ _)

theorem Forms.speedBeat (t : Nat) : Forms s (speedBeat s k t) := by
  unfold Machine.speedBeat
  obtain ⟨v, frame⟩ := speedFreq s k
  dsimp only
  exact ((Forms.modFb s k).trans (.setV _ _ _)).trans (.setV _ _ _)

theorem Forms.divSchedule (t : Nat) (up : Bool) (e : Nat) : Forms s (divSchedule s k t up e) := by
  unfold Machine.divSchedule
  refine Forms.foldl _ _ fun u j => ?_
  dsimp only
  exact Forms.setPin ..

theorem Forms.divRun (t : Nat) (fp : Int) (was : Option Int × Int × Int × Nat) : Forms s (divRun s k t fp was) := by
  obtain ⟨prev, carry, rem, dropped⟩ := was
  unfold Machine.divRun
  dsimp only
  split
  · exact (Forms.setV s _ _).trans (.modFb _ _)
  · split
    · exact ((Forms.setV s _ _).trans (.bumpN ..)).trans (.modFb _ _)
    · exact (((Forms.setV s _ _).trans (.bumpN ..)).trans (.modFb _ _)).trans (.divSchedule ..)

theorem Forms.divAmend (t : Nat) (p : Int) : Forms s (divAmend s k t p) := by
  unfold Machine.divAmend
  split
  · exact .modFb _ _
  · exact (Forms.foldl _ _ fun _ _ => .setPin ..).trans (.divRun ..)

theorem Forms.amendSample (d : Int) (stamp : Nat) : Forms s (amendSample s k d stamp) := by
  unfold Machine.amendSample
  dsimp only
  split
  · exact .refl s
  · refine Forms.trans ?_ (.divAmend ..)
    have hmeasured : ∀ p, Forms s (Machine.putMeasured (Machine.modFb s k fun f => { f with tickPos := p }) k p) := fun _ =>
      (Forms.modFb s k).trans (.putMeasured ..)
    split
    · split
      · exact hmeasured _
      · split
        · exact (((hmeasured _).trans (.modFb _ _)).trans (.setV _ _ _)).trans (.speedBeat ..)
        · exact ((((hmeasured _).trans (.modFb _ _)).trans (.setV _ _ _)).trans (.speedBeat ..)).trans (.setAxis ..)
    · exact hmeasured _

end

/-- An edge that is not stamped before the sample of the tick in progress changes nothing that was formed from it. -/
theorem amendSample_later {s : State} {k stamp : Nat} {d : Int} (h : (s.sleeve k).fb.tickTime ≤ stamp) : amendSample s k d stamp = s :=
  if_pos (.inl h)

end Sys2Proof.Machine
end

section
/-! SUPPORT. Counting (09 R213, R215 to R218): a position as it is stored, one count, an illegal transition, and an index edge. -/

namespace Sys2Proof.Machine

/-! ### Positions (R213) -/

section
variable (s : State) (k : Nat) (p : Int)

theorem Within.putCounts : Within s (putCounts s k p) := (Within.setV ..).trans (.setV ..)

theorem putCounts_single : (putCounts s k p).i k 0x052100 = p % fbCpr s k :=
  (setV_i_ne _ _ (by unfold keyOf; omega)).trans (setV_i_self ..)

theorem putCounts_turns : (putCounts s k p).i k 0x052200 = wrapI 64 (p / fbCpr s k) := setV_i_self ..

theorem putCounts_val {x y : Nat} (hy : SleeveObject y) (h : y ≠ 0x052100 ∧ y ≠ 0x052200) : (putCounts s k p).val x y = s.val x y :=
  (setV_sleeveObject _ _ (by decide) hy h.2).trans (setV_sleeveObject _ _ (by decide) hy h.1)

@[simp] theorem putCounts_sleeve (x : Nat) : (putCounts s k p).sleeve x = s.sleeve x := by
  rw [putCounts, setI_eq, setV_at_sleeve, setI_eq, setV_at_sleeve]

theorem putFb_position : (putFb s k p).i k 0x052300 = posSat p := setV_i_self ..

@[simp] theorem putFb_sleeve (x : Nat) : (putFb s k p).sleeve x = s.sleeve x := by
  rw [putFb, setI_eq, setV_at_sleeve]

theorem putFb_val {x y : Nat} (hy : SleeveObject y) (h : y ≠ 0x052300) : (putFb s k p).val x y = s.val x y :=
  setV_sleeveObject _ _ (by decide) hy h

end

theorem fbCounts_of_val {s t : State} {k : Nat} (hcpr : t.val k 0x050100 = s.val k 0x050100) (hsingle : t.val k 0x052100 = s.val k 0x052100)
    (hturns : t.val k 0x052200 = s.val k 0x052200) : fbCounts t k = fbCounts s k := by
  unfold fbCounts fbCpr
  rw [i_of_val hcpr, i_of_val hsingle, i_of_val hturns]

/-! ### One count (R213, R215) -/

/-- The direction of a count under CountDirection. -/
def turned (s : State) (k : Nat) (dir : Int) : Int := if s.b k 0x050200 then -dir else dir

/-- The count moved, with its stamped edge, before the sample of the tick is amended. -/
def countMoved (s : State) (k : Nat) (d : Int) (stamp : Nat) : State :=
  let s1 := putCounts s k (fbCounts s k + d)
  modFb (putFb s1 k (fbCounts s1 k * 65536)) k fun f => { f with
    edges := (stamp / 8 * 8, d) :: f.edges
    edgesSeen := min 2 (f.edgesSeen + 1)
    illegal := if fbCounts s k / fbCpr s k = (fbCounts s k + d) / fbCpr s k then f.illegal else 0 }

section
variable (s : State) (k : Nat) (d dir : Int) (stamp : Nat)

theorem moveCount_amends : moveCount s k dir stamp = amendSample (countMoved s k (turned s k dir) stamp) k (turned s k dir) (stamp / 8 * 8) := rfl

theorem Within.countMoved : Within s (countMoved s k d stamp) := by
  unfold Machine.countMoved
  exact ((Within.putCounts ..).trans (.setV ..)).trans (.modFb ..)

theorem countMoved_val {x y : Nat} (hy : SleeveObject y) (h : y ≠ 0x052300) :
    (countMoved s k d stamp).val x y = (putCounts s k (fbCounts s k + d)).val x y := by
  unfold countMoved
  rw [modFb_at_val, putFb_val _ _ _ hy h]

theorem countMoved_fbCounts : fbCounts (countMoved s k d stamp) k = fbCounts (putCounts s k (fbCounts s k + d)) k :=
  fbCounts_of_val (countMoved_val _ _ _ _ ⟨by decide, by decide⟩ (by decide)) (countMoved_val _ _ _ _ ⟨by decide, by decide⟩ (by decide))
    (countMoved_val _ _ _ _ ⟨by decide, by decide⟩ (by decide))

theorem countMoved_single : (countMoved s k d stamp).i k 0x052100 = (fbCounts s k + d) % fbCpr s k := by
  rw [i_of_val (countMoved_val s k d stamp ⟨by decide, by decide⟩ (by decide)), putCounts_single]

theorem countMoved_turns : (countMoved s k d stamp).i k 0x052200 = wrapI 64 ((fbCounts s k + d) / fbCpr s k) := by
  rw [i_of_val (countMoved_val s k d stamp ⟨by decide, by decide⟩ (by decide)), putCounts_turns]

theorem countMoved_position : (countMoved s k d stamp).i k 0x052300 = posSat (fbCounts (countMoved s k d stamp) k * 65536) := by
  rw [countMoved_fbCounts]
  unfold countMoved
  rw [modFb_at_i, putFb_position]

theorem countMoved_fb : ((countMoved s k d stamp).sleeve k).fb = { (s.sleeve k).fb with
    edges := (stamp / 8 * 8, d) :: (s.sleeve k).fb.edges
    edgesSeen := min 2 ((s.sleeve k).fb.edgesSeen + 1)
    illegal := if fbCounts s k / fbCpr s k = (fbCounts s k + d) / fbCpr s k then (s.sleeve k).fb.illegal else 0 } := by
  unfold countMoved
  rw [modFb_fb, putFb_sleeve, putCounts_sleeve]

theorem Within.moveCount : Within s (moveCount s k dir stamp) := (Within.countMoved s k _ stamp).trans (Forms.amendSample _ k _ _).within

theorem moveCount_levels : ((moveCount s k dir stamp).sleeve k).fb.a = (s.sleeve k).fb.a ∧ ((moveCount s k dir stamp).sleeve k).fb.b = (s.sleeve k).fb.b := by
  have hlevels := (Forms.amendSample (countMoved s k (turned s k dir) stamp) k (turned s k dir) (stamp / 8 * 8)).levels k
  rw [countMoved_fb] at hlevels
  exact Prod.mk.inj hlevels

/-- The sample that is amended keeps the count, so the position has moved by one (R213). -/
theorem moveCount_moved : Moved s (moveCount s k dir stamp) k dir stamp := by
  have hforms := Forms.amendSample (countMoved s k (turned s k dir) stamp) k (turned s k dir) (stamp / 8 * 8)
  have hkept : ∀ y, CountObject y → (moveCount s k dir stamp).val k y = (countMoved s k (turned s k dir) stamp).val k y := hforms.val k
  have hcounts : fbCounts (moveCount s k dir stamp) k = fbCounts (countMoved s k (turned s k dir) stamp) k :=
    fbCounts_of_val (hkept _ ⟨by decide, by decide⟩) (hkept _ ⟨by decide, by decide⟩) (hkept _ ⟨by decide, by decide⟩)
  refine ⟨?_, ?_, ?_, fun hlate => ?_⟩
  · exact (i_of_val (hkept _ ⟨by decide, by decide⟩)).trans (countMoved_single ..)
  · exact (i_of_val (hkept _ ⟨by decide, by decide⟩)).trans (countMoved_turns ..)
  · rw [hcounts]
    exact (i_of_val (hkept _ ⟨by decide, by decide⟩)).trans (countMoved_position ..)
  · rw [moveCount_amends, amendSample_later (by rwa [countMoved_fb]), countMoved_fb]
    rfl

end

/-- Levels that were taken before the count do not matter to it. -/
theorem Moved.of_modFb {s t : State} {k stamp : Nat} {dir : Int} {f : SleeveFb → SleeveFb} (h : Moved (modFb s k f) t k dir stamp)
    (htick : ∀ p, (f p).tickTime = p.tickTime) (hedges : ∀ p, (f p).edges = p.edges) : Moved s t k dir stamp := by
  obtain ⟨hsingle, hturns, hposition, hedge⟩ := h
  rw [modFb_fb, htick, hedges] at hedge
  exact ⟨hsingle, hturns, hposition, hedge⟩

/-! ### Illegal transitions (R216) -/

/-- An illegal transition that is counted and moves nothing. -/
def transitionCounted (s : State) (k : Nat) : State := modFb (hit s k 5) k fun f => { f with illegal := f.illegal + 1 }

section
variable {s : State} {k : Nat} (hk : isSleeve k = true)
include hk

theorem CountsOnly.hit_illegal : CountsOnly 0x052A00 s (Machine.hit s k 5) := .hit hk (by decide) classOf_feedback.1 (by decide)

theorem transitionCounted_illegal : ((transitionCounted s k).sleeve k).fb.illegal = (s.sleeve k).fb.illegal + 1 := by
  rw [transitionCounted, modFb_fb, (CountsOnly.hit_illegal hk).fb]

theorem illegalStep_within (h : (s.sleeve k).fb.illegal + 1 ≤ s.n k 0x050400) : illegalStep s k = transitionCounted s k := by
  have hlimit : ¬s.n k 0x050400 < ((transitionCounted s k).sleeve k).fb.illegal := by
    rw [transitionCounted_illegal hk]
    omega
  exact if_neg hlimit

theorem Within.transitionCounted : Within s (transitionCounted s k) := (CountsOnly.hit_illegal hk).within.trans (.modFb ..)

theorem transitionCounted_val {y : Nat} (hy : SleeveObject y) (h : y ≠ 0x052A00) : (transitionCounted s k).val k y = s.val k y :=
  (CountsOnly.hit_illegal hk).val k y hy h

theorem transitionCounted_counts (h : shadowed s k 5 = false) : Counts s (transitionCounted s k) k 0x052A00 :=
  (hit_counts hk (by decide) classOf_feedback.1 (by decide) h).of_n rfl (modFb_at_n ..)

end

/-! ### Edges -/

/-- The levels after a quadrature edge are taken. -/
def quadTaken (s : State) (k : Nat) (a b : Bool) : State := modFb s k fun f => { f with a := a, b := b }

/-- The levels after a Hall step are taken, and a Hall state has been seen. -/
def hallTaken (s : State) (k : Nat) (a b c : Bool) : State := modFb s k fun f => { f with a := a, b := b, c := c, hallSeen := true }

theorem Within.quadTaken (s : State) (k : Nat) (a b : Bool) : Within s (quadTaken s k a b) := .modFb ..

theorem Within.hallTaken (s : State) (k : Nat) (a b c : Bool) : Within s (hallTaken s k a b c) := .modFb ..

theorem quadTaken_fb (s : State) (k : Nat) (a b : Bool) : ((quadTaken s k a b).sleeve k).fb = { (s.sleeve k).fb with a := a, b := b } := modFb_fb ..

section
variable {s : State} {k stamp : Nat} {a b c : Bool}

theorem fbPowered_of (h : s.st k ≠ usOff) : fbPowered s k = true := bne_iff_ne.mpr h

/-- An edge that the filter has not accepted does nothing (R215). -/
theorem countEdge_filtered (h : filterPassed s k stamp = false) : countEdge s k a b stamp = s := if_pos (.inr (by rw [h]; rfl))

theorem hallStep_filtered (h : filterPassed s k stamp = false) : hallStep s k a b c stamp = s := if_pos (.inr (by rw [h]; rfl))

theorem indexEdge_filtered (h : filterPassed s k stamp = false) : indexEdge s k stamp = s := if_pos (.inr (.inr (.inr (by rw [h]; rfl))))

section
variable (h1 : s.st k ≠ usOff) (hf : filterPassed s k stamp = true)
include h1 hf

section
variable (hkind : fbKind s k = 1)
include hkind

/-- The levels that a quadrature edge leaves are taken, and its step decides the rest (R215, R216). -/
theorem countEdge_forward (h : (quadPhase a b + 4 - quadPhase (s.sleeve k).fb.a (s.sleeve k).fb.b) % 4 = 1) :
    countEdge s k a b stamp = moveCount (quadTaken s k a b) k 1 stamp := by
  simp [countEdge, quadTaken, hf, hkind, fbPowered_of h1, h]

theorem countEdge_back (h : (quadPhase a b + 4 - quadPhase (s.sleeve k).fb.a (s.sleeve k).fb.b) % 4 = 3) :
    countEdge s k a b stamp = moveCount (quadTaken s k a b) k (-1) stamp := by
  simp [countEdge, quadTaken, hf, hkind, fbPowered_of h1, h]

theorem countEdge_across (h : (quadPhase a b + 4 - quadPhase (s.sleeve k).fb.a (s.sleeve k).fb.b) % 4 = 2) :
    countEdge s k a b stamp = illegalStep (quadTaken s k a b) k := by
  simp [countEdge, quadTaken, hf, hkind, fbPowered_of h1, h]

theorem indexEdge_captures (h : s.n k 0x050500 = 1) : indexEdge s k stamp = bump (s.setI k 0x052600 (fbAt s k stamp)) k 0x052700 :=
  if_neg (by simp [hf, hkind, fbPowered_of h1, h])

end

section
variable (hkind : fbKind s k = 2) {m n : Nat} (hn : hallPhase a b c = some n)
include hkind hn

theorem hallStep_first (hseen : (s.sleeve k).fb.hallSeen = false) (h : s.n k 0x052000 = 1) :
    hallStep s k a b c stamp = (hallTaken s k a b c).setN k 0x052000 2 := by
  simp [hallStep, hallTaken, hf, hkind, fbPowered_of h1, hn, hseen, h]

variable (hseen : (s.sleeve k).fb.hallSeen = true) (hm : hallPhase (s.sleeve k).fb.a (s.sleeve k).fb.b (s.sleeve k).fb.c = some m)
include hseen hm

theorem hallStep_forward (h : (n + 6 - m) % 6 = 1) :
    hallStep s k a b c stamp = moveCount (hallTaken s k a b c) k 1 stamp := by
  simp [hallStep, hallTaken, hf, hkind, fbPowered_of h1, hn, hseen, hm, h]

theorem hallStep_back (h : (n + 6 - m) % 6 = 5) :
    hallStep s k a b c stamp = moveCount (hallTaken s k a b c) k (-1) stamp := by
  simp [hallStep, hallTaken, hf, hkind, fbPowered_of h1, hn, hseen, hm, h]

end
end
end

end Sys2Proof.Machine
end

section
/-! SUPPORT. Loss of the feedback (09 R226) and a stuck stream (R233): the state that a fault leaves, and its hit on a sleeve with no bound axis. -/

namespace Sys2Proof.Machine

/-! ### The state LOST (R226) -/

/-- The feedback is LOST, which is counted, and told at the next commit, where it was not LOST before. -/
def feedbackLost (s : State) (k cause : Nat) : State :=
  if s.n k 0x052000 = 4 then s
  else (bump ((s.setN k 0x052000 4).setN k 0x052400 0) k 0x052D00).later k 0x0501 [BitVec.ofNat 8 cause]

section
variable (s : State) (k cause : Nat)

theorem feedbackFault_loses {bit : Nat} (h : shadowed s k bit = false) : feedbackFault s k cause bit = hit (feedbackLost s k cause) k bit := by
  unfold feedbackFault feedbackLost
  rw [h]
  by_cases hlost : s.n k 0x052000 = 4
  · rw [if_pos (.inl hlost), if_pos hlost]
  · rw [if_neg (by simp [hlost]), if_neg hlost]

theorem Within.feedbackLost : Within s (feedbackLost s k cause) := by
  unfold Machine.feedbackLost
  split
  · exact .refl s
  · exact (((Within.setV ..).trans (.setV ..)).trans (.bump ..)).trans (.later ..)

theorem feedbackLost_faults : (feedbackLost s k cause).faults = s.faults := by
  unfold feedbackLost
  split
  · rfl
  · rw [later_faults, (bump_same ..).faults, setN_eq, setV_faults, setN_eq, setV_faults]

theorem feedbackLost_state : (feedbackLost s k cause).n k 0x052000 = 4 := by
  unfold feedbackLost
  split
  · assumption
  · rw [later_at_n, n_of_val ((CountsOnly.bump _ k (by decide : 0x052D00 ∈ fbCounters)).val _ _ ⟨by decide, by decide⟩ (by decide)),
      setN_sleeveObject _ (by decide) ⟨by decide, by decide⟩ (.inr (by decide)), setN_n_self]

/-- Beside the state, the speed and the count of losses, the sleeve's objects stay. -/
theorem feedbackLost_n {x y : Nat} (hy : SleeveObject y) (h : y ≠ 0x052000 ∧ y ≠ 0x052400 ∧ y ≠ 0x052D00) : (feedbackLost s k cause).n x y = s.n x y := by
  obtain ⟨hstate, hspeed, hlosses⟩ := h
  unfold feedbackLost
  split
  · rfl
  · rw [later_at_n, n_of_val ((CountsOnly.bump _ k (by decide : 0x052D00 ∈ fbCounters)).val _ _ hy hlosses),
      setN_sleeveObject _ (by decide) hy (.inr hspeed), setN_sleeveObject _ (by decide) hy (.inr hstate)]

end

/-! ### A contained hit with no bound axis (12 R276) -/

section
variable {s : State} {k b : Nat} (hk : isSleeve k = true) (hb : b < 256) (hcl : classOf .sleeve b = some .contained) (ha : axisOf s k = 0)
include hk hb hcl ha

theorem hit_unbound : hit s k b =
    if shadowed s k b = true ∨ s.st k = usOff ∨ s.st k = usRetired then (recordHit s k b .sleeve .contained).1 else sleeveFaulted s k b := by
  rw [hit_sleeve hk, hitSleeve_contained hb hcl]
  simp only [ha, true_or, if_true]

theorem Within.hit_unbound : Within s (hit s k b) := by
  rw [Machine.hit_unbound hk hb hcl ha]
  split
  · exact .recordHit ..
  · exact .sleeveFaulted ..

variable (hn : NoCluster s k)
include hn

/-- Beside UnitState it leaves the sleeve's objects as they are. -/
theorem hit_unbound_n {y : Nat} (hy : SleeveObject y) (hst : y ≠ 0x030000) : (hit s k b).n k y = s.n k y := by
  rw [hit_unbound hk hb hcl ha]
  split
  · exact recordHit_sleeveObject hb hy
  · exact sleeveFaulted_n hn hb hy hst

theorem hit_unbound_faults (h : shadowed s k b = false) (h1 : s.st k ≠ usOff) (h2 : s.st k ≠ usRetired) : (hit s k b).st k = usFault := by
  rw [hit_unbound hk hb hcl ha, if_neg (by simp [h, h1, h2])]
  exact sleeveFaulted_st hn

end

/-! ### A stuck stream (R233) -/

theorem classOf_stuck : classOf .sleeve 9 = some .contained := by decide

/-- A stuck stream is counted, and the feedback LOST, before its hit. -/
def streamLost (s : State) (k : Nat) : State := feedbackLost (bump s k 0x054A00) k 2

section
variable {s : State} {k : Nat}

theorem streamStuck_hits {bits : List Bool} (h1 : s.st k ≠ usOff) (hlen : bits.length = 64)
    (hlevel : bits.all (fun x => x) = true ∨ bits.all (fun x => !x) = true) (h : shadowed s k 9 = false) :
    streamStuck s k bits = hit (streamLost s k) k 9 := by
  have hstuck : (bits.all id || bits.all fun x => !x) = true := (Bool.or_eq_true _ _).mpr hlevel
  unfold streamStuck
  dsimp only
  rw [List.take_of_length_le hlen.le, hstuck, fbPowered_of h1, hlen, h, if_neg (by simp)]
  exact feedbackFault_loses _ _ _ ((shadowed_of (bump_same ..).faults (bump_same ..).time k 9).trans h)

theorem Within.streamLost (s : State) (k : Nat) : Within s (streamLost s k) := (Within.bump ..).trans (.feedbackLost ..)

theorem streamLost_shadowed (b : Nat) : shadowed (streamLost s k) k b = shadowed s k b :=
  shadowed_of ((feedbackLost_faults ..).trans (bump_same ..).faults) (Within.streamLost s k).time k b

theorem streamLost_st : (streamLost s k).st k = s.st k :=
  (feedbackLost_n _ _ _ ⟨by decide, by decide⟩ (by decide)).trans
    (n_of_val ((CountsOnly.bump s k (by decide : 0x054A00 ∈ fbCounters)).val _ _ ⟨by decide, by decide⟩ (by decide)))

theorem streamLost_counts (hk : isSleeve k = true) : Counts s (streamLost s k) k 0x054A00 :=
  (bump_fbCounter s hk (by decide : 0x054A00 ∈ fbCounters)).of_n rfl (feedbackLost_n _ _ _ ⟨by decide, by decide⟩ (by decide))

end

end Sys2Proof.Machine

namespace Sys2Proof.Proofs
open Sys2Proof.Machine

section
variable {s : State} {k stamp : Nat} {a b c : Bool} (hs : Serving s) (hq : Calm s) (hk : isSleeve k = true)
include hs hq hk

theorem countEdge_next {t : State} (he : countEdge s k a b stamp = t) (hw : Within s t) : exec (.countEdge k a b stamp) s = .next t :=
  runs_settled hs hq hk he rfl hw.undisturbed

theorem hallStep_next {t : State} (he : hallStep s k a b c stamp = t) (hw : Within s t) : exec (.hallStep k a b c stamp) s = .next t :=
  runs_settled hs hq hk he rfl hw.undisturbed

/-- A count of a quadrature encoder, once its edge has been read. -/
theorem countEdge_moves {dir : Int} (he : countEdge s k a b stamp = moveCount (quadTaken s k a b) k dir stamp) :
    Completes (.countEdge k a b stamp) s fun t => Moved s t k dir stamp ∧ (t.sleeve k).fb.a = a ∧ (t.sleeve k).fb.b = b := by
  have hlevels := moveCount_levels (quadTaken s k a b) k dir stamp
  rw [quadTaken_fb] at hlevels
  exact ⟨_, countEdge_next hs hq hk he ((Within.quadTaken ..).trans (.moveCount ..)),
    (moveCount_moved ..).of_modFb (fun _ => rfl) fun _ => rfl, hlevels⟩

theorem hallStep_moves {dir : Int}
    (he : hallStep s k a b c stamp = moveCount (hallTaken s k a b c) k dir stamp) :
    Completes (.hallStep k a b c stamp) s fun t => Moved s t k dir stamp :=
  ⟨_, hallStep_next hs hq hk he ((Within.hallTaken ..).trans (.moveCount ..)), (moveCount_moved ..).of_modFb (fun _ => rfl) fun _ => rfl⟩

/-- An illegal transition within the limit. -/
theorem countEdge_illegal (he : countEdge s k a b stamp = illegalStep (quadTaken s k a b) k)
    (hlimit : (s.sleeve k).fb.illegal + 1 ≤ s.n k 0x050400) (hsh : shadowed s k 5 = false) : Completes (.countEdge k a b stamp) s fun t =>
      t.i k 0x052300 = s.i k 0x052300 ∧ (t.sleeve k).fb.illegal = (s.sleeve k).fb.illegal + 1 ∧ Counts s t k 0x052A00 ∧ t.st k = s.st k := by
  have hsame : ((quadTaken s k a b).sleeve k).fb.illegal = (s.sleeve k).fb.illegal := by rw [quadTaken_fb]
  have hcounted := he.trans (illegalStep_within hk (by rwa [hsame]))
  refine ⟨_, countEdge_next hs hq hk hcounted ((Within.quadTaken ..).trans (.transitionCounted hk)), ?_, ?_, ?_, ?_⟩
  · exact i_of_val (transitionCounted_val hk ⟨by decide, by decide⟩ (by decide))
  · rw [transitionCounted_illegal hk, hsame]
  · exact (transitionCounted_counts (s := quadTaken s k a b) hk ((shadowed_of rfl rfl k 5).trans hsh)).of_n rfl rfl
  · exact n_of_val (transitionCounted_val hk ⟨by decide, by decide⟩ (by decide))

theorem sdStreamStuck_faults {bits : List Bool} (h1 : s.st k ≠ usOff) (hlen : bits.length = 64)
    (hlevel : bits.all (fun x => x) = true ∨ bits.all (fun x => !x) = true) (hn : NoCluster s k) (ha : axisOf s k = 0) (hsh : shadowed s k 9 = false) :
    Completes (.sdStreamStuck k bits) s fun t => Counts s t k 0x054A00 ∧ t.n k 0x052000 = 4 ∧ (s.st k ≠ usRetired → t.st k = usFault) := by
  have hlost := Within.streamLost s k
  have ha' : axisOf (streamLost s k) k = 0 := (axisOf_of_plan hlost.plan k).trans ha
  have hkept : ∀ y, SleeveObject y → y ≠ 0x030000 → (hit (streamLost s k) k 9).n k y = (streamLost s k).n k y := fun y hy hst =>
    hit_unbound_n hk (by decide) classOf_stuck ha' (hn.of_plan hlost.plan) hy hst
  refine ⟨_, runs_settled hs hq ((Bool.and_eq_true _ _).mpr ⟨hk, decide_eq_true hlen⟩) (streamStuck_hits h1 hlen hlevel hsh) rfl
    (hlost.trans (.hit_unbound hk (by decide) classOf_stuck ha')).undisturbed, ?_, ?_, fun h2 => ?_⟩
  · exact (streamLost_counts hk).of_n rfl (hkept _ ⟨by decide, by decide⟩ (by decide))
  · exact (hkept _ ⟨by decide, by decide⟩ (by decide)).trans (feedbackLost_state ..)
  · refine hit_unbound_faults hk (by decide) classOf_stuck ha' (hn.of_plan hlost.plan) ((streamLost_shadowed 9).trans hsh) ?_ ?_
    · rwa [streamLost_st]
    · rwa [streamLost_st]

end

/-- The position before an index edge is captured, and the position stays. -/
theorem indexEdge_next {s : State} {k stamp : Nat} (hs : Serving s) (hk : isSleeve k = true)
    (he : indexEdge s k stamp = bump (s.setI k 0x052600 (fbAt s k stamp)) k 0x052700) :
    Completes (.indexEdge k stamp) s fun t => t.i k 0x052600 = fbAt s k stamp ∧ Counts s t k 0x052700 ∧ t.i k 0x052300 = s.i k 0x052300 := by
  have hcounts : CountsOnly 0x052700 (s.setI k 0x052600 (fbAt s k stamp)) (bump (s.setI k 0x052600 (fbAt s k stamp)) k 0x052700) := .bump _ k (by decide)
  refine ⟨_, runsQuiet_next hs hk he rfl ((Within.setV ..).trans hcounts.within).pending, ?_, ?_, ?_⟩
  · exact (i_of_val (hcounts.val _ _ ⟨by decide, by decide⟩ (by decide))).trans (setV_i_self ..)
  · exact (bump_fbCounter _ hk (by decide)).of_n (n_of_val (setV_sleeveObject _ _ (by decide) ⟨by decide, by decide⟩ (by decide))) rfl
  · exact (i_of_val (hcounts.val _ _ ⟨by decide, by decide⟩ (by decide))).trans
      (i_of_val (setV_sleeveObject _ _ (by decide) ⟨by decide, by decide⟩ (by decide)))

/-- Settles O29: the steps of a quadrature and of a Hall encoder, an edge that the filter holds back, an index edge, and a stuck stream. -/
theorem countedFeedback : Obligations.CountedFeedback := by
  intro s k a b c stamp hs hq hk h1
  refine ⟨fun hf hkind h => countEdge_moves hs hq hk (countEdge_forward h1 hf hkind h), fun hf hkind h => countEdge_moves hs hq hk (countEdge_back h1 hf hkind h),
    fun hf hkind h hlimit hsh => countEdge_illegal hs hq hk (countEdge_across h1 hf hkind h) hlimit hsh, fun m n hf hkind hseen hm hn =>
      ⟨fun h => hallStep_moves hs hq hk (hallStep_forward h1 hf hkind hn hseen hm h), fun h => hallStep_moves hs hq hk (hallStep_back h1 hf hkind hn hseen hm h)⟩,
    fun n hf hkind hseen hn h => ?_, fun hf => ⟨countEdge_next hs hq hk (countEdge_filtered hf) (.refl s), hallStep_next hs hq hk (hallStep_filtered hf) (.refl s), ?_⟩,
    fun hf hkind h => indexEdge_next hs hk (indexEdge_captures h1 hf hkind h), fun bits hlen hlevel hn ha hsh => sdStreamStuck_faults hs hq hk h1 hlen hlevel hn ha hsh⟩
  · exact ⟨_, hallStep_next hs hq hk (hallStep_first h1 hf hkind hn hseen h) ((Within.hallTaken ..).trans (.setV ..)), setN_n_self ..,
      i_of_val (setV_sleeveObject _ _ (by decide) ⟨by decide, by decide⟩ (by decide))⟩
  · exact runsQuiet_next hs hk (indexEdge_filtered hf) rfl rfl

end Sys2Proof.Proofs
end

section
/-! SUPPORT. Serial encoders (09 R219 to R225): when a transaction starts, and what an SSI frame, a register reply and a timeout leave. -/

namespace Sys2Proof.Machine

/-! ### The start of a transaction (R219, R220, R223, R224) -/

section
variable {s : State} {k : Nat}

theorem serialStart_idle (h : serialDue s k = false) : serialStart s k = s := if_pos (.inr (.inr (by rw [h]; rfl)))

section
variable (h1 : s.st k ≠ usOff) (hdue : serialDue s k = true) (hfree : (s.sleeve k).fb.started = none)
include h1 hdue hfree

theorem serialStart_ssi (hkind : fbKind s k = 3) :
    serialStart s k = (modFb s k fun f => { f with started := some s.q }).emit (.serial k []) := by
  simp [serialStart, fbPowered_of h1, hdue, hfree, hkind]

theorem serialStart_position (hkind : fbKind s k = 4) (hreg : (s.sleeve k).fb.register = none) :
    serialStart s k = (modFb s k fun f => { f with started := some s.q }).emit (.serial k [0x1E]) := by
  simp [serialStart, fbPowered_of h1, hdue, hfree, hkind, hreg]

theorem serialStart_register {c a d : Nat} {o : Option Origin} (hkind : fbKind s k = 4) (hreg : (s.sleeve k).fb.register = some (c, a, d, o)) :
    serialStart s k = (modFb s k fun f => { f with
      started := some s.q
      registerRuns := true
      crc := fspCrc ((registerRequest c a d).take ((registerRequest c a d).length - 2)) }).emit (.serial k (registerRequest c a d)) := by
  simp [serialStart, fbPowered_of h1, hdue, hfree, hkind, hreg]

end
end

/-! ### SSI frames (R219, R224, R225) -/

/-- A frame of turn and single-turn bits only, binary, answers the transaction that runs since ts. -/
structure PlainFrame (s : State) (k ts : Nat) (bits : List Bool) : Prop where
  powered : s.st k ≠ usOff
  started : (s.sleeve k).fb.started = some ts
  kind : fbKind s k = 3
  noStatus : s.n k 0x050900 = 0
  noCheck : s.n k 0x050A00 = 0
  binary : s.b k 0x050B00 = false
  length : bits.length = s.n k 0x050700 + s.n k 0x050800

theorem ssiFields_plain {tb sb : Nat} {bits : List Bool} (h : bits.length = tb + sb) :
    ssiFields tb sb 0 false bits = (bitsMsb (bits.take tb), bitsMsb (bits.drop tb), 0, 0) := by
  have hall : bits.take (tb + sb) = bits := List.take_of_length_le h.le
  have hrest : bits.drop (tb + sb) = [] := List.drop_of_length_le h.le
  simp [ssiFields, hall, hrest, bitsMsb]

section
variable {s : State} {k ts : Nat} {bits : List Bool} (h : PlainFrame s k ts bits)
include h

/-- Such a frame is good where the line was high before it and its single-turn value lies within the turn. -/
theorem ssiFrame_plain (idleHigh : Bool) : ssiFrame s k idleHigh bits =
    if idleHigh = false ∨ fbCpr s k ≤ bitsMsb (bits.drop (s.n k 0x050700)) then badFrame s k false
    else acceptFrame s k (bitsMsb (bits.take (s.n k 0x050700))) (bitsMsb (bits.drop (s.n k 0x050700))) ts := by
  have hbits : bits.length = ssiBits s k := by
    unfold ssiBits
    rw [h.noStatus, h.noCheck]
    exact h.length
  unfold ssiFrame
  simp [h.started, h.kind, hbits, fbPowered_of h.powered, h.noStatus, h.noCheck, h.binary, ssiFields_plain h.length]

end

/-- The position of a frame, stored, with the frame as the latest accepted one. -/
def frameTaken (s : State) (k : Nat) (p last : Int) (ts : Nat) : State :=
  modFb ((putCounts s k p).setN k 0x052800 0) k fun f => { f with
    frames := ({ pos := p * 65536, time := ts } :: f.frames).take 160
    lastField := some last
    started := none }

/-- An accepted frame makes the feedback VALID where it was ACQUIRING or STALE (R225). -/
def frameValid (s : State) (k : Nat) : State := if s.n k 0x052000 = 1 ∨ s.n k 0x052000 = 3 then s.setN k 0x052000 2 else s

/-- The position of a first frame: its turn field, where there is one, and its single-turn value (R224). -/
def firstPosition (s : State) (k : Nat) (turn single : Int) : Int := (if s.n k 0x050700 ≠ 0 then turn else 0) * fbCpr s k + single

theorem acceptFrame_first {s : State} {k : Nat} (hfirst : (s.sleeve k).fb.lastField = none) (hdir : s.b k 0x050200 = false) (turn single : Int) (ts : Nat) :
    acceptFrame s k turn single ts =
      frameValid (frameTaken s k (firstPosition s k turn single) (if s.n k 0x050700 ≠ 0 then turn else single) ts) k := by
  unfold acceptFrame
  simp only [hfirst, hdir, Bool.false_eq_true, if_false]
  rfl

section
variable (s : State) (k : Nat) (p last : Int) (ts : Nat)

theorem Within.frameTaken : Within s (frameTaken s k p last ts) := by
  unfold Machine.frameTaken
  exact ((Within.putCounts ..).trans (.setV ..)).trans (.modFb ..)

theorem frameTaken_fb : ((frameTaken s k p last ts).sleeve k).fb = { (s.sleeve k).fb with
    frames := ({ pos := p * 65536, time := ts } :: (s.sleeve k).fb.frames).take 160
    lastField := some last
    started := none } := by
  unfold frameTaken
  rw [modFb_fb, setN_eq, setV_at_sleeve, putCounts_sleeve]

theorem frameTaken_run : (frameTaken s k p last ts).n k 0x052800 = 0 := by
  unfold frameTaken
  rw [modFb_at_n, setN_n_self]

theorem frameTaken_state : (frameTaken s k p last ts).n k 0x052000 = s.n k 0x052000 := by
  unfold frameTaken
  rw [modFb_at_n, setN_sleeveObject _ (by decide) ⟨by decide, by decide⟩ (.inr (by decide)), n_of_val (putCounts_val _ _ _ ⟨by decide, by decide⟩ (by decide))]

theorem Within.frameValid : Within s (frameValid s k) := by
  unfold Machine.frameValid
  split
  · exact .setV ..
  · exact .refl s

theorem frameValid_fb : ((frameValid s k).sleeve k).fb = (s.sleeve k).fb := by
  unfold frameValid
  split
  · rw [setN_eq, setV_at_sleeve]
  · rfl

theorem frameValid_run : (frameValid s k).n k 0x052800 = s.n k 0x052800 := by
  unfold frameValid
  split
  · exact setN_sleeveObject _ (by decide) ⟨by decide, by decide⟩ (.inr (by decide))
  · rfl

theorem frameValid_state (h : s.n k 0x052000 = 1 ∨ s.n k 0x052000 = 3) : (frameValid s k).n k 0x052000 = 2 := by
  unfold frameValid
  rw [if_pos h, setN_n_self]

end

/-! ### Bad frames (R225) -/

/-- The run of bad frames is one longer, and VALID feedback is STALE. -/
def runExtended (s : State) (k : Nat) : State :=
  let s1 := s.setN k 0x052800 (min 255 (s.n k 0x052800 + 1))
  if s1.n k 0x052000 = 2 then s1.setN k 0x052000 3 else s1

/-- The transaction has ended, and the bad frame is counted. -/
def frameCounted (s : State) (k : Nat) : State := hit (modFb s k fun f => { f with started := none }) k 7

theorem badFrame_extends (s : State) (k : Nat) : badFrame s k false =
    if min 255 ((frameCounted s k).n k 0x052800 + 1) = s.n k 0x051100 + 1 then modFb (runExtended (frameCounted s k) k) k fun f => { f with lostDue := true }
    else runExtended (frameCounted s k) k := rfl

section
variable (s : State) (k : Nat)

theorem Within.runExtended : Within s (runExtended s k) := by
  unfold Machine.runExtended
  dsimp only
  split
  · exact (Within.setV ..).trans (.setV ..)
  · exact .setV ..

theorem runExtended_sleeve : (runExtended s k).sleeve k = s.sleeve k := by
  unfold runExtended
  dsimp only
  split
  · rw [setN_eq, setV_at_sleeve, setN_eq, setV_at_sleeve]
  · rw [setN_eq, setV_at_sleeve]

theorem runExtended_run : (runExtended s k).n k 0x052800 = min 255 (s.n k 0x052800 + 1) := by
  unfold runExtended
  dsimp only
  split
  · rw [setN_sleeveObject _ (by decide) ⟨by decide, by decide⟩ (.inr (by decide)), setN_n_self]
  · exact setN_n_self ..

theorem runExtended_state (h : s.n k 0x052000 = 2) : (runExtended s k).n k 0x052000 = 3 := by
  unfold runExtended
  dsimp only
  rw [if_pos ((setN_sleeveObject _ (by decide) ⟨by decide, by decide⟩ (.inr (by decide))).trans h), setN_n_self]

theorem runExtended_n {y : Nat} (hy : SleeveObject y) (h : y ≠ 0x052000 ∧ y ≠ 0x052800) : (runExtended s k).n k y = s.n k y := by
  obtain ⟨hstate, hrun⟩ := h
  unfold runExtended
  dsimp only
  split
  · rw [setN_sleeveObject _ (by decide) hy (.inr hstate), setN_sleeveObject _ (by decide) hy (.inr hrun)]
  · exact setN_sleeveObject _ (by decide) hy (.inr hrun)

/-- Whether or not the loss is due at the next sample, a bad frame leaves the same objects, frames and transaction. -/
theorem badFrame_view {β : Type} (g : State → β) (hg : ∀ t : State, g (modFb t k fun f => { f with lostDue := true }) = g t) :
    g (badFrame s k false) = g (runExtended (frameCounted s k) k) := by
  rw [badFrame_extends]
  split
  · exact hg _
  · rfl

end

section
variable {s : State} {k : Nat} (hk : isSleeve k = true)
include hk

theorem CountsOnly.frameCounted : CountsOnly 0x052B00 (modFb s k fun f => { f with started := none }) (frameCounted s k) :=
  .hit hk (by decide) classOf_feedback.2 (by decide)

theorem frameCounted_fb : ((frameCounted s k).sleeve k).fb = { (s.sleeve k).fb with started := none } := by
  rw [(CountsOnly.frameCounted hk).fb, modFb_fb]

theorem frameCounted_n {y : Nat} (hy : SleeveObject y) (h : y ≠ 0x052B00) : (frameCounted s k).n k y = s.n k y :=
  n_of_val ((CountsOnly.frameCounted hk).val k y hy h)

theorem frameCounted_counts (h : shadowed s k 7 = false) : Counts s (frameCounted s k) k 0x052B00 :=
  (hit_counts (s := modFb s k fun f => { f with started := none }) hk (by decide) classOf_feedback.2 (by decide) ((shadowed_of rfl rfl k 7).trans h)).of_n
    rfl rfl

theorem Within.badFrame : Within s (badFrame s k false) := by
  have hextended : Within s (Machine.runExtended (Machine.frameCounted s k) k) :=
    ((Within.modFb ..).trans (CountsOnly.frameCounted hk).within).trans (.runExtended ..)
  rw [badFrame_extends]
  split
  · exact hextended.trans (.modFb ..)
  · exact hextended

theorem badFrame_frames : ((badFrame s k false).sleeve k).fb.frames = (s.sleeve k).fb.frames ∧ ((badFrame s k false).sleeve k).fb.started = none := by
  have hview := badFrame_view s k (fun t => ((t.sleeve k).fb.frames, (t.sleeve k).fb.started)) fun t => by rw [modFb_fb]
  rw [runExtended_sleeve, frameCounted_fb hk] at hview
  exact Prod.mk.inj hview

theorem badFrame_run : (badFrame s k false).n k 0x052800 = min 255 (s.n k 0x052800 + 1) := by
  rw [badFrame_view s k (fun t => t.n k 0x052800) fun _ => rfl, runExtended_run, frameCounted_n hk ⟨by decide, by decide⟩ (by decide)]

theorem badFrame_counts (h : shadowed s k 7 = false) : Counts s (badFrame s k false) k 0x052B00 :=
  (frameCounted_counts hk h).of_n rfl
    ((badFrame_view s k (fun t => t.n k 0x052B00) fun _ => rfl).trans (runExtended_n _ _ ⟨by decide, by decide⟩ (by decide)))

theorem badFrame_state (h : s.n k 0x052000 = 2) : (badFrame s k false).n k 0x052000 = 3 :=
  (badFrame_view s k (fun t => t.n k 0x052000) fun _ => rfl).trans
    (runExtended_state _ _ ((frameCounted_n hk ⟨by decide, by decide⟩ (by decide)).trans h))

end

end Sys2Proof.Machine
end

section
/-! SUPPORT. Register transactions of FSP (09 R221 to R223): what ends one, and the way of a write of FspRegisterRequest. -/

namespace Sys2Proof.Machine

/-! ### The end of a transaction (R223) -/

/-- The outcome, the status byte and the data, with no transaction left. -/
def registerEnded (s : State) (k outcome status data : Nat) : State :=
  modFb (s.setBs k 0x051500 (leBytes 1 outcome ++ leBytes 1 status ++ leBytes 4 data)) k fun f => { f with register := none, registerRuns := false, started := none }

section
variable (s : State) (k outcome status data : Nat)

/-- What ends the transaction, with the reply to the write that has asked for it. -/
theorem registerEnd_cases : registerEnd s k outcome status data = registerEnded s k outcome status data
    ∨ ∃ o, registerEnd s k outcome status data = answerSt (registerEnded s k outcome status data) o stOk := by
  unfold registerEnd registerEnded
  dsimp only
  cases (s.sleeve k).fb.register with
  | none => exact .inl rfl
  | some r => exact .inr ⟨r.2.2.2, rfl⟩

theorem Within.registerEnded : Within s (registerEnded s k outcome status data) := by
  unfold Machine.registerEnded
  exact (Within.setV ..).trans (.modFb ..)

theorem Within.registerEnd : Within s (registerEnd s k outcome status data) := by
  obtain he | ⟨o, he⟩ := registerEnd_cases s k outcome status data
  · rw [he]
    exact .registerEnded ..
  · rw [he]
    exact (Within.registerEnded ..).trans (.answerSt ..)

/-- The reply leaves the dictionary and the sleeves as they are. -/
theorem registerEnd_reply : (registerEnd s k outcome status data).dict = (registerEnded s k outcome status data).dict
    ∧ (registerEnd s k outcome status data).sleeves = (registerEnded s k outcome status data).sleeves := by
  obtain he | ⟨o, he⟩ := registerEnd_cases s k outcome status data
  · rw [he]
    exact ⟨rfl, rfl⟩
  · rw [he]
    exact ⟨answerSt_dict .., answerSt_sleeves ..⟩

theorem registerEnd_outcome : (registerEnd s k outcome status data).bs k 0x051500 = leBytes 1 outcome ++ leBytes 1 status ++ leBytes 4 data := by
  obtain ⟨hdict, -⟩ := registerEnd_reply s k outcome status data
  refine (congrArg valRaw (val_of_dict hdict)).trans ?_
  exact (modFb_at_bs ..).trans (setV_bs_self ..)

theorem registerEnd_frees : ((registerEnd s k outcome status data).sleeve k).fb.register = none
    ∧ ((registerEnd s k outcome status data).sleeve k).fb.started = none := by
  obtain ⟨-, hsleeves⟩ := registerEnd_reply s k outcome status data
  rw [sleeve_congr hsleeves, registerEnded, modFb_fb]
  exact ⟨rfl, rfl⟩

end

/-! ### Replies and timeouts (R220, R221) -/

section
variable {s : State} {k ts : Nat} (h1 : s.st k ≠ usOff) (hkind : fbKind s k = 4) (hstart : (s.sleeve k).fb.started = some ts)
  (hruns : (s.sleeve k).fb.registerRuns = true)
include h1 hkind hstart hruns

/-- A whole and undamaged reply to a register read ends its transaction with what it carries. -/
theorem fspReply_read {a d : Nat} {o : Option Origin} {b : Bytes} (hreg : (s.sleeve k).fb.register = some (3, a, d, o)) (hlen : b.length = 7)
    (hcrc : fieldLE b 5 2 = fspCrc (b.take 5)) :
    fspReply s k b true = registerEnd (modFb s k fun f => { f with crc := fspCrc (b.take 5) }) k 0 (fieldLE b 0 1) (fieldLE b 1 4) := by
  simp [fspReply, hstart, hkind, fbPowered_of h1, hruns, hreg, hlen, hcrc]

theorem fspTimeout_register : fspTimeout s k = registerEnd s k 1 0 0 := by
  simp [fspTimeout, hstart, hkind, fbPowered_of h1, hruns]

end

/-! ### FspRegisterRequest (R223) -/

theorem registerWrite_taken {s : State} {k : Nat} {w : Write} (hst : s.st k ≠ usActive) (hkind : fbKind s k = 4)
    (hfree : (s.sleeve k).fb.register = none) (hc : fieldLE w.data 0 1 = 3 ∨ fieldLE w.data 0 1 = 4) : registerWrite s k w =
    (stOk, modFb s k fun f => { f with register := some (fieldLE w.data 0 1, fieldLE w.data 1 1, fieldLE w.data 2 4, w.origin) }) := by
  have hcommand : ¬(fieldLE w.data 0 1 ≠ 3 ∧ fieldLE w.data 0 1 ≠ 4) := fun h => hc.elim h.1 h.2
  unfold registerWrite
  rw [if_neg hst, if_neg hcommand, if_neg (by simp [hkind, hfree])]

set_option maxRecDepth 100000 in
theorem registerRow_plain : (objRowOf .sleeve 0x514).all (fun r => !r.jour && !r.stick) = true := by decide +kernel

/-- A write of an object of a sleeve that is neither journaled nor a stick counter has the effect and the reply of its own. -/
theorem directWrite_sleeve {s : State} {o : Nat} {w : Write} {row : ObjRow} {r : Option ItemReply × State} (hs : Serving s) (hk : isSleeve w.unit = true)
    (hp : Passes s o w row) (hlow : o < 0xB00) (h301 : o ≠ 0x301) (hplain : (objRowOf .sleeve o).all (fun r => !r.jour && !r.stick) = true)
    (hx : sleeveWrite s w.unit o row w = some r) : directWrite s o w = replyWith w.origin r := by
  obtain ⟨kd, hkind, hobj⟩ := hp.names
  obtain rfl : .sleeve = kd := Option.some.inj ((kindOf_sleeve hk).symm.trans hkind)
  have hrow : objRowOf .sleeve o = some row := by
    rwa [objAt, if_neg (by omega), if_neg (by simp)] at hobj
  obtain ⟨hjour, hstick⟩ : row.jour = false ∧ row.stick = false := by simpa [hrow] using hplain
  have hrange : 0x101 ≤ w.unit ∧ w.unit ≤ 0x120 := by simpa [isSleeve] using hk
  have haxis : (isAxis w.unit || isCluster w.unit) = false := by simp only [isAxis, isCluster, Bool.or_eq_false_iff, decide_eq_false_iff_not]; omega
  have hcommon : commonWrite s w.unit o row w = none := by
    unfold commonWrite
    rw [if_neg (by omega), hstick, if_neg Bool.false_ne_true, if_neg (by omega), if_neg (by omega)]
  have heffect : writeEffect s w.unit o row w = r := by
    unfold writeEffect
    rw [hcommon, Option.orElse_none, if_neg (by omega), haxis, if_neg Bool.false_ne_true, if_pos hk, hx]
    rfl
  rw [directWrite_at_cell hs hp (by rw [cellServed, hk, Bool.or_true]) hjour h301, heffect]

/-- An accepted write of FspRegisterRequest waits for its transaction, without a reply. -/
theorem directWrite_register {s t : State} {w : Write} {row : ObjRow} (hs : Serving s) (hk : isSleeve w.unit = true) (hp : Passes s 0x514 w row)
    (hx : registerWrite s w.unit w = (stOk, t)) : directWrite s 0x514 w = t := by
  have hwrite : sleeveWrite s w.unit 0x514 row w = some (none, t) := by
    show some (if (registerWrite s w.unit w).1 = stOk then none else _, (registerWrite s w.unit w).2) = _
    rw [hx]
    rfl
  exact directWrite_sleeve hs hk hp (by decide) (by decide) registerRow_plain hwrite

end Sys2Proof.Machine

namespace Sys2Proof.Proofs
open Sys2Proof.Machine

section
variable {s : State} {k : Nat} (hs : Serving s) (hq : Calm s) (hk : isSleeve k = true)
include hs hk

theorem serialStart_next {t : State} (he : serialStart s k = t) (hp : t.pending = s.pending) : exec (.serialTransactionStart k) s = .next t :=
  runsQuiet_next hs hk he rfl hp

include hq

theorem ssiFrame_next {idleHigh : Bool} {bits : List Bool} {t : State} (he : ssiFrame s k idleHigh bits = t) (hw : Within s t) :
    exec (.ssiFrame k idleHigh bits) s = .next t :=
  runs_settled hs hq hk he rfl hw.undisturbed

theorem fspReply_next {b : Bytes} {ok : Bool} {t : State} (he : fspReply s k b ok = t) (hw : Within s t) : exec (.fspReply k b ok) s = .next t :=
  runs_settled hs hq hk he rfl hw.undisturbed

theorem fspTimeout_next {t : State} (he : fspTimeout s k = t) (hw : Within s t) : exec (.fspTimeout k) s = .next t :=
  runs_settled hs hq hk he rfl hw.undisturbed

section
variable {ts : Nat} {bits : List Bool} (hplain : PlainFrame s k ts bits)
include hplain

/-- A good first frame. -/
theorem ssiFrame_accepted (hdir : s.b k 0x050200 = false) (hin : bitsMsb (bits.drop (s.n k 0x050700)) < fbCpr s k)
    (hfirst : (s.sleeve k).fb.lastField = none) : Completes (.ssiFrame k true bits) s fun t =>
      (t.sleeve k).fb.frames.head? = some { pos := firstPosition s k (bitsMsb (bits.take (s.n k 0x050700))) (bitsMsb (bits.drop (s.n k 0x050700))) * 65536, time := ts }
        ∧ (t.sleeve k).fb.started = none ∧ t.n k 0x052800 = 0 ∧ (s.n k 0x052000 = 1 ∨ s.n k 0x052000 = 3 → t.n k 0x052000 = 2) := by
  have hgood := ssiFrame_plain hplain true
  rw [if_neg (by simp [hin]), acceptFrame_first hfirst hdir] at hgood
  refine ⟨_, ssiFrame_next hs hq hk hgood ((Within.frameTaken ..).trans (.frameValid ..)), ?_, ?_, ?_, fun hstate => ?_⟩
  · rw [frameValid_fb, frameTaken_fb]
    rfl
  · rw [frameValid_fb, frameTaken_fb]
  · rw [frameValid_run, frameTaken_run]
  · refine frameValid_state _ _ ?_
    rwa [frameTaken_state]

/-- A frame before which the line was not high. -/
theorem ssiFrame_bad (hsh : shadowed s k 7 = false) : Completes (.ssiFrame k false bits) s fun t =>
    (t.sleeve k).fb.frames = (s.sleeve k).fb.frames ∧ (t.sleeve k).fb.started = none ∧ t.n k 0x052800 = min 255 (s.n k 0x052800 + 1)
      ∧ Counts s t k 0x052B00 ∧ (s.n k 0x052000 = 2 → t.n k 0x052000 = 3) := by
  have hbad := ssiFrame_plain hplain false
  rw [if_pos (.inl rfl)] at hbad
  obtain ⟨hframes, hstarted⟩ := badFrame_frames hk (s := s)
  exact ⟨_, ssiFrame_next hs hq hk hbad (.badFrame hk), hframes, hstarted, badFrame_run hk, badFrame_counts hk hsh, badFrame_state hk⟩

end

end

/-- A command that ends a register transaction. -/
theorem registerEnd_completes {i : Instr} {s s1 : State} {k outcome status data : Nat} (hx : exec i s = .next (registerEnd s1 k outcome status data)) :
    Completes i s fun t => t.bs k 0x051500 = leBytes 1 outcome ++ leBytes 1 status ++ leBytes 4 data ∧ (t.sleeve k).fb.register = none
      ∧ (t.sleeve k).fb.started = none :=
  ⟨_, hx, registerEnd_outcome .., registerEnd_frees ..⟩

theorem fspRegisterRequest_next {s t : State} {w : Write} {row : ObjRow} (hs : Serving s) (hq : Calm s) (hk : isSleeve w.unit = true)
    (hp : Passes s 0x514 w row) (hx : registerWrite s w.unit w = (stOk, t)) (hw : Within s t) : exec (.fspRegisterRequest w) s = .next t :=
  settled_next hq hp.wf (directWrite_register hs hk hp hx) rfl hw.undisturbed

/-- Settles O30: the start of each kind of transaction, a good and a bad SSI frame, the ends of a register transaction, and its request. -/
theorem serialEncoders : Obligations.SerialEncoders := by
  intro s k hs hq hk h1
  refine ⟨fun hdue hfree hkind => serialStart_next hs hk (serialStart_ssi h1 hdue hfree hkind) rfl,
    fun hdue => serialStart_next hs hk (serialStart_idle hdue) rfl,
    fun hdue hfree hkind hreg => serialStart_next hs hk (serialStart_position h1 hdue hfree hkind hreg) rfl,
    fun c a d o hdue hfree hkind hreg => serialStart_next hs hk (serialStart_register h1 hdue hfree hkind hreg) rfl,
    fun ts bits hstart hkind hstatus hcheck hgray hlen hdir => ?_, fun ts c a d o b hstart hkind hruns hreg => ⟨fun hc hlen hcrc => ?_, ?_⟩,
    fun w row hu hp hst hkind hfree hc => ?_⟩
  · have hplain : PlainFrame s k ts bits := ⟨h1, hstart, hkind, hstatus, hcheck, hgray, hlen⟩
    exact ⟨fun hin hfirst => ssiFrame_accepted hs hq hk hplain hdir hin hfirst, ssiFrame_bad hs hq hk hplain⟩
  · subst hc
    exact registerEnd_completes (fspReply_next hs hq hk (fspReply_read h1 hkind hstart hruns hreg hlen hcrc) ((Within.modFb ..).trans (.registerEnd ..)))
  · exact registerEnd_completes (fspTimeout_next hs hq hk (fspTimeout_register h1 hkind hstart hruns) (.registerEnd ..))
  · subst hu
    exact fspRegisterRequest_next hs hq hk hp (registerWrite_taken hst hkind hfree hc) (.modFb ..)

end Sys2Proof.Proofs
end

section
/-! SUPPORT. The words of a kernel's instructions (10 R239, Tables 10-1 and 10-2): the fields of a word are those it was put together from, so each
instruction is what its word decodes to. -/

namespace Sys2Proof.Machine

/-- The fields of a REG word (10 Table 10-1). -/
structure RegFields (x : W32) (op d a b c f : Nat) : Prop where
  op : wField x.toNat 24 8 = op
  d : wField x.toNat 19 5 = d
  a : wField x.toNat 14 5 = a
  b : wField x.toNat 9 5 = b
  c : wField x.toNat 4 5 = c
  f : wField x.toNat 0 4 = f

/-- The fields of an IMM word. -/
structure ImmFields (x : W32) (op d : Nat) (imm : BitVec 19) : Prop where
  op : wField x.toNat 24 8 = op
  d : wField x.toNat 19 5 = d
  imm : BitVec.ofNat 19 (wField x.toNat 0 19) = imm

/-- The fields of a PTR word. -/
structure PtrFields (x : W32) (op d p mode : Nat) (off : BitVec 14) : Prop where
  op : wField x.toNat 24 8 = op
  d : wField x.toNat 19 5 = d
  p : wField x.toNat 16 3 = p
  mode : wField x.toNat 14 2 = mode
  off : BitVec.ofNat 14 (wField x.toNat 0 14) = off

/-- A word and the instruction of some kernel that it stands for. -/
def Encodes (w : Nat) (i : Instr) : Prop := w < 2 ^ 32 ∧ ∃ k, kernelDecode k (BitVec.ofNat 32 w) = some i

/-- A REG word encodes an instruction to which every word of its fields decodes. -/
theorem regWord_encodes {op d a b c f : Nat} {i : Instr} (h : ∀ x, RegFields x op d a b c f → ∃ k, kernelDecode k x = some i)
    (ho : op < 256 := by omega) (hd : d < 32 := by omega) (ha : a < 32 := by omega) (hb : b < 32 := by omega) (hc : c < 32 := by omega)
    (hf : f < 16 := by omega) : Encodes (regWord op d a b c f) i := by
  have hw := Laws.Encoding.reg_word op d a b c f ho hd ha hb hc hf
  refine ⟨hw, h _ ?_⟩
  unfold regWord at hw
  constructor <;> rw [BitVec.toNat_ofNat] <;> unfold wField regWord <;> omega

theorem immWord_encodes {op d : Nat} {imm : BitVec 19} {i : Instr} (h : ∀ x, ImmFields x op d imm → ∃ k, kernelDecode k x = some i)
    (ho : op < 256 := by omega) (hd : d < 32 := by omega) : Encodes (immWord op d imm) i := by
  have hw := Laws.Encoding.imm_word op d imm ho hd
  refine ⟨hw, h _ ?_⟩
  unfold immWord at hw
  constructor
  · rw [BitVec.toNat_ofNat]; unfold wField immWord; omega
  · rw [BitVec.toNat_ofNat]; unfold wField immWord; omega
  · apply BitVec.eq_of_toNat_eq; rw [BitVec.toNat_ofNat, BitVec.toNat_ofNat]; unfold wField immWord; omega

theorem ptrWord_encodes {op d p mode : Nat} {off : BitVec 14} {i : Instr}
    (h : ∀ x, PtrFields x op d p mode off → ∃ k, kernelDecode k x = some i) (ho : op < 256 := by omega) (hd : d < 32 := by omega)
    (hp : p < 8 := by omega) (hm : mode < 4 := by omega) : Encodes (ptrWord op d p mode off) i := by
  have hw := Laws.Encoding.ptr_word op d p mode off ho hd hp hm
  refine ⟨hw, h _ ?_⟩
  unfold ptrWord at hw
  constructor
  iterate 4
    rw [BitVec.toNat_ofNat]; unfold wField ptrWord; omega
  · apply BitVec.eq_of_toNat_eq; rw [BitVec.toNat_ofNat, BitVec.toNat_ofNat]; unfold wField ptrWord; omega

@[simp] theorem regOf_val {m : Nat} (v : Fin m) : regOf m v = some v := dif_pos v.isLt

theorem mode_ne_of_wf {m : Fin 4} (h : wfMode m = true) : m.val ≠ 3 := fun hm => bne_iff_ne.mp h (Fin.ext hm)

/-- The cases go by format: REG words, srch with its bounds on d and func, IMM words, PTR words, and the commands that have no word. -/
theorem kernelEncode_encodes {i : Instr} {w : Nat} (hi : i.wf = true) (h : kernelEncode i = some w) : Encodes w i := by
  cases i
  case nop | add | sub | and | or | xor | shl | shr | sar | mul | mulh | slt | sltu | fadd | fsub | fmul | ffma | fdiv | fsqrt | itof | ftoi | flt
      | fneg | fabs | vbc | vfma | vmul | vadd | aclr | amov | vsum | vget | vput | pset | bset | lset | pget | jr | endK =>
    obtain rfl := Option.some.inj h
    exact regWord_encodes fun x ⟨hop, hd, ha, hb, hc, hf⟩ => by simp [kernelDecode, hop, hd, ha, hb, hc, hf]
  case srch =>
    obtain rfl := Option.some.inj h
    obtain ⟨hd30, hf4⟩ := of_decide_eq_true (Bool.and_eq_true_iff.mp hi).2
    exact regWord_encodes fun x ⟨hop, hd, ha, hb, hc, hf⟩ => by simp [kernelDecode, hop, hd, ha, hb, hc, hf, hd30, hf4]
  case addi | andi | ori | lui | bz | bnz | br | loop | jal =>
    obtain rfl := Option.some.inj h
    exact immWord_encodes fun x ⟨hop, hd, himm⟩ => by simp [kernelDecode, hop, hd, himm]
  case vld | vst | ld | st =>
    obtain rfl := Option.some.inj h
    have hm := mode_ne_of_wf (Bool.and_eq_true_iff.mp hi).2
    exact ptrWord_encodes fun x ⟨hop, hd, hp, hmode, hoff⟩ => by simp [kernelDecode, hop, hd, hp, hmode, hoff, hm]
  all_goals cases h

theorem kernelDecode_mode3 {k : Nat} {w : W32} (hm : w.toNat / 2 ^ 14 % 4 = 3)
    (ho : [0x30, 0x31, 0x40, 0x41].contains (w.toNat / 2 ^ 24) = true) : kernelDecode k w = none := by
  have hop : wField w.toNat 24 8 = w.toNat / 2 ^ 24 := by unfold wField; omega
  have hmode : wField w.toNat 14 2 = 3 := hm
  simp only [List.contains_eq_mem, List.mem_cons, List.not_mem_nil, or_false, decide_eq_true_eq, ← hop] at ho
  rcases ho with ho | ho | ho | ho <;> simp [kernelDecode, ho, hmode]

end Sys2Proof.Machine

namespace Sys2Proof.Proofs
open Sys2Proof.Machine

/-- Settles O44: the word of each format holds its fields, and decodes by them. -/
theorem kernelEncoding : Obligations.KernelEncoding := fun _ _ hi h => kernelEncode_encodes hi h

/-- Settles O45: the words are fixed, and the decoder runs on them. -/
theorem kernelWords : Obligations.KernelWords := by
  unfold Obligations.KernelWords
  decide +kernel

end Sys2Proof.Proofs
end

section
/-! SUPPORT. Instructions of a kernel on its registers (10 R238, R240, Table 10-2): the arithmetic of their values, and where a branch goes. -/

namespace Sys2Proof.Machine

/-! ### Issue -/

theorem Fits.mono {s : State} {k m n : Nat} {r : KRun} (h : Fits s k r n) (hm : m ≤ n) : Fits s k r m := by
  unfold Fits at *
  omega

section
variable {i : Instr} {k n : Nat} {e : KEffect} {s : State} {r r' : KRun} (hi : exec i s = quiet s (kIssue k e s)) (h : KernelRuns s k r)
include hi h

/-- A command that issues an instruction that fits, and does not wait for the check-value unit. -/
theorem issue_next (he : e { kernel := s.kernel k, r := r } = .ok ({ kernel := s.kernel k, r := r' }, n)) (hf : Fits s k r n) :
    exec i s = .next (withRun s k { r' with used := r.used + n }) := by
  rw [hi, kIssue_ok k e s r _ n h he (hf.mono (by simp))]
  simp
end

/-! ### Values of Table 10-2 -/

section
variable (x y : W32)

theorem shiftLeft_eq_ofNat (n : Nat) : x <<< n = BitVec.ofNat 32 (x.toNat * 2 ^ n) := by
  apply BitVec.eq_of_toNat_eq
  rw [BitVec.toNat_shiftLeft, Nat.shiftLeft_eq, BitVec.toNat_ofNat]

theorem shiftRight_eq_ofNat (n : Nat) : x >>> n = BitVec.ofNat 32 (x.toNat / 2 ^ n) := by
  rw [← Nat.shiftRight_eq_div_pow, ← BitVec.toNat_ushiftRight, BitVec.ofNat_toNat, BitVec.setWidth_eq]

theorem sshiftRight_eq_ofInt (n : Nat) : x.sshiftRight n = BitVec.ofInt 32 (x.toInt / 2 ^ n) := by
  rw [show x.toInt / 2 ^ n = x.toInt >>> n by rw [Int.shiftRight_eq_div_pow]; norm_cast, ← BitVec.toInt_sshiftRight, BitVec.ofInt_toInt]

theorem mul_eq_ofNat : x * y = BitVec.ofNat 32 (x.toNat * y.toNat) := by
  simp only [BitVec.ofNat_mul, BitVec.ofNat_toNat, BitVec.setWidth_eq]

theorem ite_slt : (if x.slt y then 1 else 0 : W32) = if x.toInt < y.toInt then 1 else 0 := by
  simp only [BitVec.slt_iff_toInt_lt]

theorem ite_ult : (if x.ult y then 1 else 0 : W32) = if x.toNat < y.toNat then 1 else 0 := by
  simp only [BitVec.ult_iff_toNat_lt]

section
variable (imm : BitVec 19)

theorem add_signExtend_eq_ofInt : x + imm.signExtend 32 = BitVec.ofInt 32 (x.toInt + imm.toInt) := by
  rw [BitVec.ofInt_add, BitVec.ofInt_toInt, BitVec.signExtend]

theorem and_zeroExtend_eq_ofNat : x &&& imm.zeroExtend 32 = BitVec.ofNat 32 (x.toNat &&& imm.toNat) := by
  apply BitVec.eq_of_toNat_eq
  simp

theorem or_zeroExtend_eq_ofNat : x ||| imm.zeroExtend 32 = BitVec.ofNat 32 (x.toNat ||| imm.toNat) := by
  apply BitVec.eq_of_toNat_eq
  simp

theorem signExtend_shiftLeft_eq_ofInt : imm.signExtend 32 <<< 13 = BitVec.ofInt 32 (imm.toInt * 2 ^ 13) := by
  rw [BitVec.ofInt_mul, BitVec.signExtend, BitVec.shiftLeft_eq_mul_twoPow]
  rfl
end

theorem xor_signBit_eq_ofNat : x ^^^ 0x80000000 = BitVec.ofNat 32 (x.toNat ^^^ 2 ^ 31) := by
  simp only [BitVec.ofNat_xor, BitVec.ofNat_toNat, BitVec.setWidth_eq]
  rfl

theorem and_belowSign_eq_ofNat : x &&& 0x7FFFFFFF = BitVec.ofNat 32 (x.toNat % 2 ^ 31) := by
  rw [← Nat.and_two_pow_sub_one_eq_mod, BitVec.ofNat_and, BitVec.ofNat_toNat, BitVec.setWidth_eq]
  rfl
end

theorem lanes_const (x : W32) : lanes (fun _ => x) = Vector.replicate 4 x := by
  ext i hi
  simp [lanes]

/-! ### Registers -/

@[simp] theorem KRun.getS_zero (r : KRun) : r.getS 0 = 0 := rfl

@[simp] theorem KRun.putS_zero (r : KRun) (v : W32) : r.putS 0 v = r := rfl

theorem KRun.putS_of_ne {d : Fin 32} (hd : d ≠ 0) (r : KRun) (v : W32) : r.putS d v = { r with s := r.s.set d v } := if_neg hd

theorem KRun.getS_putS_self {d : Fin 32} (hd : d ≠ 0) (r : KRun) (v : W32) : (r.putS d v).getS d = v := by
  simp [KRun.getS, KRun.putS, hd]

/-! ### Branches -/

theorem kGoto_ok {c : KCtx} {n : Nat} (hn : n < c.kernel.image.code.length) (r : KRun) :
    kGoto c n r = .ok { c with r := { r with pc := n } } := by
  unfold kGoto
  rw [if_pos (by omega), Int.toNat_natCast]

section
variable {c : KCtx} {imm : BitVec 19} {n : Nat} {taken : KRun → Bool} {f : KRun → KRun}

theorem kBranch_taken (ht : taken (f c.r) = true) (hpc : (c.r.pc : Int) + 1 + imm.toInt = n) (hn : n < c.kernel.image.code.length) :
    kBranch imm taken f c = .ok ({ c with r := { f c.r with pc := n } }, 2) := by
  simp only [kBranch, ht, hpc, kGoto_ok hn, if_true]
  rfl

theorem kBranch_passed (ht : taken (f c.r) = false) : kBranch imm taken f c = .ok ({ c with r := { f c.r with pc := c.r.pc + 1 } }, 1) := by
  simp [kBranch, ht]
end

/-- Where a branch goes. -/
theorem branch_next {i : Instr} {k n : Nat} {s : State} {r : KRun} {imm : BitVec 19} {taken : KRun → Bool} {f : KRun → KRun}
    (hi : exec i s = quiet s (kIssue k (kBranch imm taken f) s)) (h : KernelRuns s k r) (hpc : (r.pc : Int) + 1 + imm.toInt = n)
    (hn : n < (s.kernel k).image.code.length) (hf : Fits s k r 2) :
    exec i s = .next (withRun s k
      (if taken (f r) then { f r with pc := n, used := r.used + 2 } else { f r with pc := r.pc + 1, used := r.used + 1 })) := by
  cases ht : taken (f r) with
  | true => exact issue_next hi h (kBranch_taken ht hpc hn) hf
  | false => exact issue_next hi h (kBranch_passed ht) (hf.mono (by omega))

theorem jr_next {k n : Nat} {s : State} {r : KRun} {d : Fin 32} (h : KernelRuns s k r) (ht : (r.getS d).toNat = 4 * n)
    (hn : n < (s.kernel k).image.code.length) (hf : Fits s k r 2) :
    exec (.jr k d) s = .next (withRun s k { r with pc := n, used := r.used + 2 }) := by
  refine issue_next (i := .jr k d) rfl h (r' := { r with pc := n }) ?_ hf
  have hd : 4 * n / 4 = n := by omega
  simp only [ht, hd, Nat.mul_mod_right, ne_eq, not_true_eq_false, if_false]
  rw [kGoto_ok hn]
  rfl

/-- What loop does to its register decides whether it is taken. -/
theorem loop_next {k n : Nat} {s : State} {r : KRun} {d : Fin 32} {imm : BitVec 19} (h : KernelRuns s k r)
    (hpc : (r.pc : Int) + 1 + imm.toInt = n) (hn : n < (s.kernel k).image.code.length) (hf : Fits s k r 2) :
    exec (.loop k d imm) s = .next (withRun s k
      (if d = 0 then { r with pc := r.pc + 1, used := r.used + 1 }
       else if r.getS d = 1 then { r with s := r.s.set d 0, pc := r.pc + 1, used := r.used + 1 }
       else { r with s := r.s.set d (r.getS d - 1), pc := n, used := r.used + 2 })) := by
  refine (branch_next (i := .loop k d imm) rfl h hpc hn hf).trans ?_
  by_cases hd : d = 0
  · subst hd
    simp
  simp only [KRun.getS_putS_self hd, if_neg hd]
  rw [KRun.putS_of_ne hd]
  by_cases h1 : r.getS d = 1
  · simp [h1]
  · have hz : r.getS d - 1 ≠ 0 := fun hz => h1 (sub_eq_zero.mp hz)
    rw [if_neg h1, if_pos (bne_iff_ne.mpr hz)]

end Sys2Proof.Machine

namespace Sys2Proof.Proofs
open Sys2Proof.Machine

/-- Settles O31: each instruction acts on registers alone, and its value is the arithmetic of Table 10-2. -/
theorem integerInstructions : Obligations.IntegerInstructions := by
  intro k d a b
  exact ⟨kReg_writes (.add k d a b) k 1 d _ _ (fun _ => rfl) fun _ => rfl,
    kReg_writes (.sub k d a b) k 1 d _ _ (fun _ => rfl) fun _ => rfl,
    kReg_writes (.and k d a b) k 1 d _ _ (fun _ => rfl) fun _ => rfl,
    kReg_writes (.or k d a b) k 1 d _ _ (fun _ => rfl) fun _ => rfl,
    kReg_writes (.xor k d a b) k 1 d _ _ (fun _ => rfl) fun _ => rfl,
    kReg_writes (.shl k d a b) k 1 d _ _ (fun _ => rfl) fun _ => shiftLeft_eq_ofNat ..,
    kReg_writes (.shr k d a b) k 1 d _ _ (fun _ => rfl) fun _ => shiftRight_eq_ofNat ..,
    kReg_writes (.sar k d a b) k 1 d _ _ (fun _ => rfl) fun _ => sshiftRight_eq_ofInt ..,
    kReg_writes (.mul k d a b) k 2 d _ _ (fun _ => rfl) fun _ => mul_eq_ofNat ..,
    kReg_writes (.mulh k d a b) k 2 d _ _ (fun _ => rfl) fun _ => rfl,
    kReg_writes (.slt k d a b) k 1 d _ _ (fun _ => rfl) fun _ => ite_slt ..,
    kReg_writes (.sltu k d a b) k 1 d _ _ (fun _ => rfl) fun _ => ite_ult ..⟩

/-- Settles O32: as for the integer instructions, with an immediate that is extended as an integer. -/
theorem immediateInstructions : Obligations.ImmediateInstructions := by
  intro k d imm
  exact ⟨kReg_writes (.addi k d imm) k 1 d _ _ (fun _ => rfl) fun _ => add_signExtend_eq_ofInt ..,
    kReg_writes (.andi k d imm) k 1 d _ _ (fun _ => rfl) fun _ => and_zeroExtend_eq_ofNat ..,
    kReg_writes (.ori k d imm) k 1 d _ _ (fun _ => rfl) fun _ => or_zeroExtend_eq_ofNat ..,
    kReg_writes (.lui k d imm) k 1 d _ _ (fun _ => rfl) fun _ => signExtend_shiftLeft_eq_ofInt ..⟩

/-- Settles O33: as for the integer instructions; fneg and fabs act on the sign bit. -/
theorem floatInstructions : Obligations.FloatInstructions := by
  intro k d a b c
  exact ⟨kReg_writes (.fadd k d a b) k 2 d _ _ (fun _ => rfl) fun _ => rfl,
    kReg_writes (.fsub k d a b) k 2 d _ _ (fun _ => rfl) fun _ => rfl,
    kReg_writes (.fmul k d a b) k 2 d _ _ (fun _ => rfl) fun _ => rfl,
    kReg_writes (.ffma k d a b c) k 3 d _ _ (fun _ => rfl) fun _ => rfl,
    kReg_writes (.fdiv k d a b) k 12 d _ _ (fun _ => rfl) fun _ => rfl,
    kReg_writes (.fsqrt k d a) k 10 d _ _ (fun _ => rfl) fun _ => rfl,
    kReg_writes (.itof k d a) k 2 d _ _ (fun _ => rfl) fun _ => rfl,
    kReg_writes (.ftoi k d a) k 2 d _ _ (fun _ => rfl) fun _ => rfl,
    kReg_writes (.flt k d a b) k 1 d _ _ (fun _ => rfl) fun _ => rfl,
    kReg_writes (.fneg k d a) k 1 d _ _ (fun _ => rfl) fun _ => xor_signBit_eq_ofNat ..,
    kReg_writes (.fabs k d a) k 1 d _ _ (fun _ => rfl) fun _ => and_belowSign_eq_ofNat ..⟩

/-- Settles O34: each instruction acts on registers alone, lane by lane. -/
theorem vectorInstructions : Obligations.VectorInstructions := by
  intro k v w x acc a d f
  refine ⟨?_,
    kReg_becomes (.vfma k acc a w) k 3 _ fun _ => rfl,
    kReg_becomes (.vmul k v a w) k 3 _ fun _ => rfl,
    kReg_becomes (.vadd k v w x) k 2 _ fun _ => rfl,
    ?_,
    kReg_becomes (.amov k v acc) k 1 _ fun _ => rfl,
    kReg_writes (.vsum k d w) k 4 d _ _ (fun _ => rfl) fun _ => rfl,
    kReg_writes (.vget k d w f) k 1 d _ _ (fun _ => rfl) fun _ => rfl,
    kReg_becomes (.vput k v a f) k 1 _ fun _ => rfl⟩
  · simp only [← lanes_const]
    exact kReg_becomes (.vbc k v a) k 1 _ fun _ => rfl
  · simp only [← lanes_const]
    exact kReg_becomes (.aclr k acc) k 1 _ fun _ => rfl

/-- Settles O35: each instruction acts on registers alone. -/
theorem pointerInstructions : Obligations.PointerInstructions := by
  intro k p a d
  exact ⟨kReg_becomes (.pset k p a) k 1 _ fun _ => rfl,
    kReg_becomes (.bset k p a) k 1 _ fun _ => rfl,
    kReg_becomes (.lset k p a) k 1 _ fun _ => rfl,
    kReg_writes (.pget k d p) k 1 d _ _ (fun _ => rfl) fun _ => rfl,
    kReg_becomes (.nop k) k 1 _ fun _ => rfl,
    kReg_becomes (.endK k) k 1 _ fun _ => rfl⟩

/-- Settles O36: bz, bnz, br and jal test what they do not change; loop tests the register after its decrement. -/
theorem branches : Obligations.Branches := by
  intro k d imm s r n h hpc hn hf
  refine ⟨?_, ?_, branch_next (i := .br k imm) rfl h hpc hn hf, loop_next h hpc hn hf, ?_, fun ht => jr_next h ht hn hf⟩
  · refine (branch_next (i := .bz k d imm) rfl h hpc hn hf).trans ?_
    simp
  · refine (branch_next (i := .bnz k d imm) rfl h hpc hn hf).trans ?_
    simp
  · refine (branch_next (i := .jal k d imm) rfl h hpc hn hf).trans ?_
    by_cases hd : d = 0 <;> simp [hd, KRun.putS]

end Sys2Proof.Proofs
end

section
/-! SUPPORT. The memory that a kernel reads and writes (10 R241 to R243): words of its memory, loads and stores, and the search. -/

namespace Sys2Proof.Machine

/-! ### Words of kernel memory -/

theorem kRead_word {c : KCtx} {a : Nat} {v : W32} (ha : KernelWord a) (hv : mapFind c.r.mem a = some v) : kRead c a = .ok (v, c) := by
  obtain ⟨h4, hport | hword⟩ := ha
  · unfold kRead
    rw [if_neg (by omega), if_neg (by omega), if_pos hport, hv]
    rfl
  · unfold kRead
    iterate 4 rw [if_neg (by omega)]
    rw [if_pos hword, hv]
    rfl

/-- The context with another memory. -/
def KCtx.withMem (c : KCtx) (m : NMap W32) : KCtx := { c with r := { c.r with mem := m } }

theorem kWrite_word {c : KCtx} {a : Nat} (v : W32) (ha : KernelWord a) : kWrite c a v = .ok (c.withMem (mapIns c.r.mem a v)) := by
  obtain ⟨h4, harea⟩ := ha
  unfold kWrite
  rw [if_neg (by omega), if_pos (by omega)]
  rfl

theorem kReads_words {c : KCtx} {as : List Nat} {vs : List W32}
    (h : List.Forall₂ (fun a v => KernelWord a ∧ mapFind c.r.mem a = some v) as vs) : kReads c as = .ok (vs, c) := by
  induction h with
  | nil => rfl
  | cons hav _ ih => simp only [kReads, kRead_word hav.1 hav.2, ih]

/-- Words listed in a memory, in order. -/
def storeWords (m : NMap W32) : List (Nat × W32) → NMap W32
  | [] => m
  | (a, v) :: es => storeWords (mapIns m a v) es

theorem kWrites_words {es : List (Nat × W32)} (h : ∀ e ∈ es, KernelWord e.1) (c : KCtx) :
    kWrites c es = .ok (c.withMem (storeWords c.r.mem es)) := by
  induction es generalizing c with
  | nil => rfl
  | cons e es ih =>
    obtain ⟨he, hes⟩ := List.forall_mem_cons.mp h
    simp only [kWrites, kWrite_word e.2 he, ih hes]
    rfl

theorem storeWords_keeps {es : List (Nat × W32)} {x : Nat} (hx : x ∉ es.map Prod.fst) (m : NMap W32) :
    mapFind (storeWords m es) x = mapFind m x := by
  induction es generalizing m with
  | nil => rfl
  | cons e es ih =>
    obtain ⟨hne, hrest⟩ := not_or.mp (mt List.mem_cons.mpr hx)
    rw [storeWords, ih hrest, mapFind_mapIns, if_neg (Ne.symm hne)]

theorem storeWords_finds {es : List (Nat × W32)} (hd : (es.map Prod.fst).Nodup) {e : Nat × W32} (he : e ∈ es) (m : NMap W32) :
    mapFind (storeWords m es) e.1 = some e.2 := by
  induction es generalizing m with
  | nil => cases he
  | cons e' es ih =>
    obtain ⟨hne, hrest⟩ := List.nodup_cons.mp hd
    rcases List.mem_cons.mp he with rfl | he
    · rw [storeWords, storeWords_keeps hne, mapFind_mapIns, if_pos rfl]
    · exact ih hrest he _

/-! ### Loads and stores -/

section
variable {k : Nat} {p : Fin 8} {m : Fin 4} {off : BitVec 14} {s : State} {r : KRun} {a q : W32} (h : KernelRuns s k r) (hf : Fits s k r 2)
  (ha : kAddr r p m off = .ok (a, q))
include h hf ha

theorem st_next {d : Fin 32} (hw : KernelWord a.toNat) : exec (.st k d p m off) s = .next (withRun s k
    { r with mem := mapIns r.mem a.toNat (r.getS d), p := r.p.set p q, pc := r.pc + 1, used := r.used + 2 }) :=
  issue_next (i := .st k d p m off) rfl h (by simp only [kSt, ha, kWrite_word _ hw]; rfl) hf

theorem ld_next {d : Fin 32} {v : W32} (hw : KernelWord a.toNat) (hv : mapFind r.mem a.toNat = some v) :
    exec (.ld k d p m off) s = .next (withRun s k
      { r with s := if d = 0 then r.s else r.s.set d v, p := r.p.set p q, pc := r.pc + 1, used := r.used + 2 }) := by
  have hread := kRead_word (c := { kernel := s.kernel k, r := r }) hw hv
  refine (issue_next (i := .ld k d p m off) rfl h (by simp only [kLd, ha, hread]; rfl) hf).trans ?_
  by_cases hd : d = 0 <;> simp [hd, KRun.putS, KRun.putP]

theorem vst_next {v : Fin 8} (hw : ∀ x ∈ kFour r p a, KernelWord x) : exec (.vst k v p m off) s = .next (withRun s k
    { r with mem := storeWords r.mem ((kFour r p a).zip r.v[v].toList), p := r.p.set p q, pc := r.pc + 1, used := r.used + 2 }) := by
  have hes : ∀ e ∈ (kFour r p a).zip r.v[v].toList, KernelWord e.1 := fun e he => hw _ (List.of_mem_zip he).1
  exact issue_next (i := .vst k v p m off) rfl h (by simp only [kVst, ha, kWrites_words hes]; rfl) hf

theorem vld_next {v : Fin 8} {x : Vector W32 4} (hw : ∀ y ∈ kFour r p a, KernelWord y)
    (hx : ∀ i : Fin 4, ∃ y, (kFour r p a)[i.val]? = some y ∧ mapFind r.mem y = some x[i]) :
    exec (.vld k v p m off) s = .next (withRun s k { r with v := r.v.set v x, p := r.p.set p q, pc := r.pc + 1, used := r.used + 2 }) := by
  have hall : List.Forall₂ (fun a v => KernelWord a ∧ mapFind r.mem a = some v) (kFour r p a) x.toList := by
    refine List.forall₂_iff_get.mpr ⟨by simp [kFour], fun i h1 h2 => ⟨hw _ (List.get_mem ..), ?_⟩⟩
    obtain ⟨y, hy, hm⟩ := hx ⟨i, by simpa using h2⟩
    obtain ⟨_, rfl⟩ := List.getElem?_eq_some_iff.mp hy
    simpa using hm
  have hread := kReads_words (c := { kernel := s.kernel k, r := r }) hall
  refine (issue_next (i := .vld k v p m off) rfl h (by simp only [kVld, ha, hread]; rfl) hf).trans ?_
  have hlanes : lanes (fun i => x.toList.getD i 0) = x := by
    ext i hi
    simp [lanes]
  rw [hlanes]
  rfl
end

/-! ### The integer search (10 R242) -/

/-- The function number of an integer search. -/
def srchFunc (mx : Bool) : BitVec 4 := if mx then 3 else 2

/-- x is at least as good as y: at least as large for a maximum, at most as large for a minimum. -/
def AtLeast (mx : Bool) (x y : W32) : Prop := if mx then y.toInt ≤ x.toInt else x.toInt ≤ y.toInt

/-- v is an extreme of vs, and i is its lowest index. -/
def FirstExtreme (mx : Bool) (vs : List W32) (v : W32) (i : Nat) : Prop :=
  vs[i]? = some v ∧ ∀ (j : Nat) (w : W32), vs[j]? = some w → AtLeast mx v w ∧ (w = v → i ≤ j)

theorem AtLeast.refl (mx : Bool) (x : W32) : AtLeast mx x x := by
  cases mx <;> exact Int.le_refl _

theorem AtLeast.trans {mx : Bool} {x y z : W32} (hxy : AtLeast mx x y) (hyz : AtLeast mx y z) : AtLeast mx x z := by
  cases mx
  · exact Int.le_trans hxy hyz
  · exact Int.le_trans hyz hxy

theorem srchBetter_integer (mx : Bool) (x y : W32) : srchBetter (srchFunc mx).toNat x y = true ↔ ¬ AtLeast mx y x := by
  cases mx <;> simp [srchBetter, srchFunc, AtLeast, bitOf]

theorem srchSkips_integer (mx : Bool) (x : W32) : srchSkips (srchFunc mx).toNat x = false := by
  cases mx <;> rfl

theorem AtLeast.of_not {mx : Bool} {x y : W32} (h : ¬ AtLeast mx y x) : AtLeast mx x y := by
  cases mx <;> exact Int.le_of_lt (Int.not_le.mp h)

theorem firstExtreme_singleton (mx : Bool) (x : W32) : FirstExtreme mx [x] x 0 := by
  refine ⟨rfl, fun j w hj => ?_⟩
  obtain rfl : x = w := by
    rcases j with - | j
    · exact Option.some.inj hj
    · simp at hj
  exact ⟨.refl .., fun _ => Nat.zero_le _⟩

section
variable {mx : Bool} {vs : List W32} {y x : W32} {j : Nat} (h : FirstExtreme mx vs y j)
include h

theorem FirstExtreme.append_better (hx : ¬ AtLeast mx y x) : FirstExtreme mx (vs ++ [x]) x vs.length := by
  refine ⟨by simp, fun l w hl => ?_⟩
  rcases Nat.lt_or_ge l vs.length with hlt | hge
  · rw [List.getElem?_append_left hlt] at hl
    obtain ⟨hyw, -⟩ := h.2 l w hl
    exact ⟨.trans (.of_not hx) hyw, fun hwx => absurd (hwx ▸ hyw) hx⟩
  · rw [List.getElem?_append_right hge] at hl
    obtain rfl : x = w := List.mem_singleton.mp (List.mem_of_getElem? hl) |>.symm
    exact ⟨.refl .., fun _ => hge⟩

theorem FirstExtreme.append_other (hx : AtLeast mx y x) : FirstExtreme mx (vs ++ [x]) y j := by
  obtain ⟨hj, hall⟩ := h
  have hjlt := (List.getElem?_eq_some_iff.mp hj).1
  refine ⟨by rw [List.getElem?_append_left hjlt, hj], fun l w hl => ?_⟩
  rcases Nat.lt_or_ge l vs.length with hlt | hge
  · rw [List.getElem?_append_left hlt] at hl
    exact hall l w hl
  · rw [List.getElem?_append_right hge] at hl
    obtain rfl : x = w := List.mem_singleton.mp (List.mem_of_getElem? hl) |>.symm
    exact ⟨hx, fun _ => by omega⟩
end

/-- A search that has found the first extreme of the entries before goes on to that of all entries. -/
theorem srchBest_extends {mx : Bool} {vs ws : List W32} {y : W32} {j : Nat} (h : FirstExtreme mx vs y j) :
    ∃ v i, srchBest (srchFunc mx).toNat ws vs.length (some (y, j)) = some (v, i) ∧ FirstExtreme mx (vs ++ ws) v i := by
  induction ws generalizing vs y j with
  | nil => exact ⟨y, j, rfl, by simpa using h⟩
  | cons x ws ih =>
    have hlen : vs.length + 1 = (vs ++ [x]).length := by simp
    rw [srchBest, srchSkips_integer, if_neg Bool.false_ne_true, List.append_cons, hlen]
    by_cases hx : AtLeast mx y x
    · simp only [if_neg ((srchBetter_integer mx x y).not.mpr (not_not.mpr hx))]
      exact ih (h.append_other hx)
    · simp only [if_pos ((srchBetter_integer mx x y).mpr hx)]
      exact ih (h.append_better hx)

theorem srchBest_firstExtreme {mx : Bool} {vs : List W32} (h : vs ≠ []) :
    ∃ v i, srchBest (srchFunc mx).toNat vs 0 none = some (v, i) ∧ FirstExtreme mx vs v i := by
  obtain ⟨x, ws, rfl⟩ := List.exists_cons_of_ne_nil h
  rw [srchBest, srchSkips_integer, if_neg Bool.false_ne_true]
  exact srchBest_extends (firstExtreme_singleton mx x)

/-- The effect of a search whose words read vs, of which v at index i is found. -/
theorem kSrch_found {x : KernelS} {r : KRun} {d b : Fin 32} {p : Fin 8} {func : BitVec 4} {vs : List W32} {v : W32} {i : Nat} (hd : d.val ≤ 30)
    (ha : kAligned r p = true) (hn : (r.getS b).toNat = vs.length) (h1 : 1 ≤ vs.length) (hmax : vs.length ≤ 4096)
    (hr : kReads { kernel := x, r := r } (r.p[p].toNat :: (srchAddrs r p vs.length).drop 1) = .ok (vs, { kernel := x, r := r }))
    (hbest : srchBest func.toNat vs 0 none = some (v, i)) :
    kSrch d p b func { kernel := x, r := r } = .ok ({ kernel := x, r :=
      { r with s := (if d = 0 then r.s else r.s.set d v).set (d + 1 : Fin 32) (BitVec.ofNat 32 i), pc := r.pc + 1 } }, 4 + (vs.length + 3) / 4) := by
  have hnext : d + 1 ≠ 0 := fun h0 => by simp [Fin.ext_iff, Fin.val_add] at h0; omega
  unfold kSrch
  simp only [hn, ha, hr, hbest]
  rw [if_neg (by omega), if_neg (by simp)]
  by_cases h0 : d = 0 <;> simp [KRun.putS, hnext, h0]

end Sys2Proof.Machine

namespace Sys2Proof.Proofs
open Sys2Proof.Machine

/-- Settles O37: one word of memory is read or listed anew, every other word stays. -/
theorem loadsAndStores : Obligations.LoadsAndStores := by
  intro k d p m off s r a q h hf ha hw
  refine ⟨⟨_, st_next h hf ha hw, rfl, ?_, fun x hx => ?_⟩, fun v hv => ld_next h hf ha hw hv⟩
  · exact (mapFind_mapIns ..).trans (if_pos rfl)
  · exact (mapFind_mapIns ..).trans (if_neg hx.symm)

/-- Settles O38: four words, listed in order, so that of distinct addresses each keeps its own. -/
theorem vectorLoadsAndStores : Obligations.VectorLoadsAndStores := by
  intro k v p m off s r a q h hf ha hw
  have hkeys : ((kFour r p a).zip r.v[v].toList).map Prod.fst = kFour r p a := List.map_fst_zip (by simp [kFour])
  refine ⟨⟨_, vst_next h hf ha hw, rfl, fun hd i => ?_, fun x hx => ?_⟩, fun x hx => vld_next h hf ha hw hx⟩
  · have hi : i.val < (kFour r p a).length := i.isLt
    refine ⟨_, List.getElem?_eq_getElem hi, ?_⟩
    have he : ((kFour r p a)[i.val], r.v[v][i]) ∈ (kFour r p a).zip r.v[v].toList := by
      refine List.mem_iff_getElem.mpr ⟨i, by simp [kFour], by simp⟩
    exact storeWords_finds (hkeys.symm ▸ hd) he r.mem
  · exact storeWords_keeps (hkeys.symm ▸ hx) r.mem

/-- Settles O40: the words are read in order, and the search keeps the first extreme of those it has seen. -/
theorem integerSearch : Obligations.IntegerSearch := by
  intro k d b p mx s r vs h hd ha hn h1 hmax hf hmem
  have hall : List.Forall₂ (fun a v => KernelWord a ∧ mapFind r.mem a = some v) (r.p[p].toNat :: (srchAddrs r p vs.length).drop 1) vs := by
    have hlen : (r.p[p].toNat :: (srchAddrs r p vs.length).drop 1).length = vs.length := by simp [srchAddrs]; omega
    refine List.forall₂_iff_get.mpr ⟨hlen, fun i hi hi' => ?_⟩
    obtain ⟨a, hget, hword⟩ := hmem i _ (List.getElem?_eq_getElem hi')
    obtain ⟨_, rfl⟩ := List.getElem?_eq_some_iff.mp hget
    exact hword
  obtain ⟨v, i, hbest, hi, hext⟩ := srchBest_firstExtreme (mx := mx) (List.ne_nil_of_length_pos h1)
  exact ⟨i, v, hi, issue_next (i := .srch k d p b (srchFunc mx)) rfl h (kSrch_found hd ha hn h1 hmax (kReads_words hall) hbest) hf, hext⟩

end Sys2Proof.Proofs
end

section
/-! SUPPORT. Addresses of a kernel's accesses and its check-value unit (10 R241, R254), exceptions and overruns (10 R250, R251). -/

namespace Sys2Proof.Machine

/-! ### Faults -/

theorem kFaulted_of_ne {cause : Nat} (h : cause ≠ 0) (n w : Nat) : kFaulted n (cause, w) = (cause, w + n) := if_neg h

section
variable {i : Instr} {k cause n : Nat} {e : KEffect} {s : State} {r : KRun}

/-- A command that raises an exception. -/
theorem exception_completes (hk : k < 128) (h : KernelRuns s k r) (hi : exec i s = quiet s (kException s k cause)) : Completes i s (Excepted s k r) :=
  ⟨_, hi.trans (quiet_self _ _ (kException_pending ..)), kException_excepted s k cause r hk h⟩

/-- A command that issues an instruction that fits and faults. -/
theorem issue_excepted (hi : exec i s = quiet s (kIssue k e s)) (hk : k < 128) (h : KernelRuns s k r)
    (he : e { kernel := s.kernel k, r := r } = .error (cause, n)) (hf : Fits s k r n) : Completes i s (Excepted s k r) :=
  exception_completes hk h (hi.trans (congrArg (quiet s) (kIssue_error k e s r cause n h he hf)))

theorem overrun_completes (hk : k < 128) (h : KernelRuns s k r) (hi : exec i s = quiet s (kOverrun s k)) : Completes i s (Overran s k r) := by
  obtain ⟨hover, hp⟩ := kOverrun_overran s k r hk h
  exact ⟨_, hi.trans (quiet_self _ _ hp), hover⟩
end

/-! ### Accesses outside the map -/

theorem kRead_misaligned {c : KCtx} {a : Nat} (ha : a % 4 ≠ 0) : kRead c a = .error (2, c.wait) := if_pos ha

theorem kWrite_misaligned {c : KCtx} {a : Nat} (v : W32) (ha : a % 4 ≠ 0) : kWrite c a v = .error (2, c.wait) := if_pos ha

theorem kRead_outside {c : KCtx} {a : Nat} (h4 : a % 4 = 0) (ha : a < 0x10000 ∨ (0x18000 ≤ a ∧ a < 0x20000) ∨ 0x20120 ≤ a) :
    kRead c a = .error (1, c.wait) := by
  unfold kRead
  iterate 6 rw [if_neg (by omega)]
  split
  case h_9 => rfl
  all_goals omega

/-- No store reaches input ports, exports of other kernels, or what lies outside the map. -/
theorem kWrite_outside {c : KCtx} {a : Nat} (v : W32) (h4 : a % 4 = 0) (ha : a < 0x10080 ∨ (0x10100 ≤ a ∧ a < 0x10200) ∨ (0x18000 ≤ a ∧ a < 0x20000)
    ∨ 0x20120 ≤ a) : kWrite c a v = .error (1, c.wait) := by
  unfold kWrite
  iterate 3 rw [if_neg (by omega)]

theorem kReads_error {c : KCtx} {a : Nat} {e : KFault} (h : kRead c a = .error e) (as : List Nat) : kReads c (a :: as) = .error e := by
  simp only [kReads, h]

theorem kWrites_error {c : KCtx} {a : Nat} {v : W32} {e : KFault} (h : kWrite c a v = .error e) (es : List (Nat × W32)) :
    kWrites c ((a, v) :: es) = .error e := by
  simp only [kWrites, h]

/-! ### Addresses -/

theorem kAligned_iff {r : KRun} {p : Fin 8} : kAligned r p = true ↔ r.b[p].toNat % 4 = 0 ∧ r.l[p].toNat % 4 = 0 := by
  simp [kAligned]

theorem kAddr_misaligned {r : KRun} {p : Fin 8} {m : Fin 4} {off : BitVec 14} (hm : m ≠ 3) (ha : kAligned r p = false) :
    kAddr r p m off = .error (2, 0) := by
  simp [kAddr, hm, ha]

section
variable {r : KRun} {p : Fin 8} {off : BitVec 14} (ha : kAligned r p = true)
include ha

theorem kAddr_offset : kAddr r p 0 off = .ok (kWrap r p (r.p[p] + off.signExtend 32), r.p[p]) := by simp [kAddr, ha]
theorem kAddr_postincrement : kAddr r p 1 off = .ok (r.p[p], kWrap r p (r.p[p] + off.signExtend 32)) := by simp [kAddr, ha]
theorem kAddr_preincrement :
    kAddr r p 2 off = .ok (kWrap r p (r.p[p] + off.signExtend 32), kWrap r p (r.p[p] + off.signExtend 32)) := by simp [kAddr, ha]
end

theorem kAddr_of_aligned {r : KRun} {p : Fin 8} {m : Fin 4} {off : BitVec 14} (hm : m ≠ 3) (ha : kAligned r p = true) :
    ∃ aq, kAddr r p m off = .ok aq := by
  fin_cases m
  · exact ⟨_, kAddr_offset ha⟩
  · exact ⟨_, kAddr_postincrement ha⟩
  · exact ⟨_, kAddr_preincrement ha⟩
  · exact absurd rfl hm

theorem kWrap_linear {r : KRun} {p : Fin 8} (hl : r.l[p].toNat = 0) (x : W32) : kWrap r p x = x := if_pos (BitVec.eq_of_toNat_eq hl)

theorem kWrap_circular {r : KRun} {p : Fin 8} (hl : r.l[p].toNat ≠ 0) (x : W32) :
    kWrap r p x = BitVec.ofInt 32 (r.b[p].toNat + (x.toInt - r.b[p].toInt) % r.l[p].toNat) := if_neg fun h => hl (by rw [h]; rfl)

theorem ofInt_toNat_add (b : W32) (y : Int) : BitVec.ofInt 32 (b.toNat + y) = BitVec.ofInt 32 (b.toInt + y) := by
  rw [BitVec.ofInt_add, BitVec.ofInt_add, BitVec.ofInt_toInt, BitVec.ofInt_natCast, BitVec.ofNat_toNat, BitVec.setWidth_eq]

theorem kWrap_bounds {r : KRun} {p : Fin 8} (hl : r.l[p].toNat ≠ 0) (hb : r.b[p].toNat + r.l[p].toNat ≤ 2 ^ 32) (x : W32) :
    r.b[p].toNat ≤ (kWrap r p x).toNat ∧ (kWrap r p x).toNat < r.b[p].toNat + r.l[p].toNat := by
  have h0 := Int.emod_nonneg (x.toInt - r.b[p].toInt) (Int.natCast_ne_zero.mpr hl)
  have h1 := Int.emod_lt_of_pos (x.toInt - r.b[p].toInt) (Int.natCast_pos.mpr (Nat.pos_of_ne_zero hl))
  rw [kWrap_circular hl, BitVec.toNat_ofInt]
  generalize (x.toInt - r.b[p].toInt) % r.l[p].toNat = y at h0 h1
  omega

/-! ### Faults of loads and stores -/

section
variable {k : Nat} {p : Fin 8} {m : Fin 4} {off : BitVec 14} {s : State} {r : KRun} (hk : k < 128) (h : KernelRuns s k r) (hf : Fits s k r 2)
include hk h hf

section
variable (ha : kAddr r p m off = .error (2, 0))
include ha

/-- No access takes place through a pointer whose base or length is misaligned. -/
theorem access_noAddress (d : Fin 32) (v : Fin 8) : Completes (.ld k d p m off) s (Excepted s k r) ∧ Completes (.st k d p m off) s (Excepted s k r)
    ∧ Completes (.vld k v p m off) s (Excepted s k r) ∧ Completes (.vst k v p m off) s (Excepted s k r) :=
  ⟨issue_excepted (i := .ld k d p m off) rfl hk h (by simp only [kLd, ha]; rfl) hf,
    issue_excepted (i := .st k d p m off) rfl hk h (by simp only [kSt, ha]; rfl) hf,
    issue_excepted (i := .vld k v p m off) rfl hk h (by simp only [kVld, ha]; rfl) hf,
    issue_excepted (i := .vst k v p m off) rfl hk h (by simp only [kVst, ha]; rfl) hf⟩
end

section
variable {a q : W32} (ha : kAddr r p m off = .ok (a, q))
include ha

theorem ld_excepted {cause : Nat} (hr : kRead { kernel := s.kernel k, r := r } a.toNat = .error (cause, 0)) (hc : cause ≠ 0) (d : Fin 32) :
    Completes (.ld k d p m off) s (Excepted s k r) :=
  issue_excepted (i := .ld k d p m off) rfl hk h (by simp only [kLd, ha, hr, kFaulted_of_ne hc]; rfl) hf

theorem st_excepted {d : Fin 32} {cause : Nat} (hw : kWrite { kernel := s.kernel k, r := r } a.toNat (r.getS d) = .error (cause, 0)) (hc : cause ≠ 0) :
    Completes (.st k d p m off) s (Excepted s k r) :=
  issue_excepted (i := .st k d p m off) rfl hk h (by simp only [kSt, ha, hw, kFaulted_of_ne hc]; rfl) hf

/-- A misaligned address. -/
theorem access_misaligned (h4 : a.toNat % 4 ≠ 0) (d : Fin 32) (v : Fin 8) :
    Completes (.ld k d p m off) s (Excepted s k r) ∧ Completes (.st k d p m off) s (Excepted s k r)
      ∧ Completes (.vld k v p m off) s (Excepted s k r) ∧ Completes (.vst k v p m off) s (Excepted s k r) := by
  have hreads : kReads { kernel := s.kernel k, r := r } (kFour r p a) = .error (2, 0) := kReads_error (kRead_misaligned h4) _
  have hwrites : kWrites { kernel := s.kernel k, r := r } ((kFour r p a).zip r.v[v].toList) = .error (2, 0) := by
    obtain ⟨x, xs, hx⟩ := List.exists_cons_of_length_pos (l := r.v[v].toList) (by simp)
    rw [hx]
    exact kWrites_error (kWrite_misaligned x h4) _
  exact ⟨ld_excepted hk h hf ha (kRead_misaligned h4) (by decide) d, st_excepted hk h hf ha (kWrite_misaligned _ h4) (by decide),
    issue_excepted (i := .vld k v p m off) rfl hk h (by simp only [kVld, ha, hreads]; rfl) hf,
    issue_excepted (i := .vst k v p m off) rfl hk h (by simp only [kVst, ha, hwrites]; rfl) hf⟩
end
end

/-! ### The check-value unit -/

theorem waitCrc_fresh (x : KernelS) (r : KRun) :
    KCtx.waitCrc { kernel := x, r := r } = { kernel := x, r := r, wait := r.crc.busyUntil - r.used } := by
  by_cases hbusy : r.used < r.crc.busyUntil
  · exact if_pos hbusy
  · rw [Nat.sub_eq_zero_of_le (Nat.not_lt.mp hbusy)]
    exact if_neg hbusy

/-- A store to the unit, once it is free. -/
theorem kWrite_crc {x : KernelS} {r : KRun} {o busy : Nat} {v : W32} {u : CrcUnit} (ho : o < 0x20) (h4 : o % 4 = 0)
    (hw : crcWrite r.crc o v = .ok (u, busy)) :
    kWrite { kernel := x, r := r } (0x20000 + o) v = .ok { kernel := x, wait := r.crc.busyUntil - r.used, r := { r with crc := { u with
      busyUntil := if busy = 0 then r.crc.busyUntil else r.used + (r.crc.busyUntil - r.used) + busy } } } := by
  unfold kWrite
  rw [if_neg (by omega), if_neg (by omega), if_pos (by omega), Nat.add_sub_cancel_left, waitCrc_fresh]
  simp only [hw]
  rfl

/-- A store to the unit that is an invalid configuration. -/
theorem kWrite_crc_error {x : KernelS} {r : KRun} {o cause : Nat} {v : W32} (ho : o < 0x20) (h4 : o % 4 = 0) (hw : crcWrite r.crc o v = .error cause) :
    kWrite { kernel := x, r := r } (0x20000 + o) v = .error (cause, r.crc.busyUntil - r.used) := by
  unfold kWrite
  rw [if_neg (by omega), if_neg (by omega), if_pos (by omega), Nat.add_sub_cancel_left, waitCrc_fresh]
  simp only [hw]

section
variable {i : Instr} {k o busy : Nat} {v : W32} {s : State} {r : KRun} {u : CrcUnit}
  (hi : exec i s = quiet s (kIssue k (kCrcStore o v) s)) (h : KernelRuns s k r)
  (hf : Fits s k r (r.crc.busyUntil - r.used + 2)) (ho : o < 0x20) (h4 : o % 4 = 0)
include hi h hf ho h4

theorem crcStore_next (hw : crcWrite r.crc o v = .ok (u, busy)) : exec i s = .next (withRun s k { r with
      crc := { u with busyUntil := if busy = 0 then r.crc.busyUntil else r.used + (r.crc.busyUntil - r.used) + busy }
      pc := r.pc + 1
      used := r.used + (r.crc.busyUntil - r.used) + 2 }) := by
  rw [hi, kIssue_ok k _ s r _ 2 h (by simp only [kCrcStore, kWrite_crc ho h4 hw]; rfl) hf]
  simp [Nat.add_assoc]

theorem crcStore_excepted {cause : Nat} (hk : k < 128) (hw : crcWrite r.crc o v = .error cause) (hc : cause ≠ 0) :
    Completes i s (Excepted s k r) :=
  issue_excepted (cause := cause) hi hk h (by simp only [kCrcStore, kWrite_crc_error ho h4 hw, kFaulted_of_ne hc]) hf
end

theorem toNat_ofNat_mod (x : W32) (n : Nat) : (BitVec.ofNat 32 (x.toNat % n)).toNat = x.toNat % n :=
  Nat.mod_eq_of_lt (Nat.lt_of_le_of_lt (Nat.mod_le ..) x.isLt)

/-! ### Branches outside the code -/

theorem kGoto_outside {c : KCtx} {target : Int} (ht : target < 0 ∨ (c.kernel.image.code.length : Int) ≤ target) (r : KRun) :
    kGoto c target r = .error (3, 2) := if_neg (by omega)

section
variable {k : Nat} {s : State} {r : KRun} (hk : k < 128) (h : KernelRuns s k r)
include hk h

theorem illegal_excepted {w : W32} (hw : kernelDecode k w = none) : Completes (.illegalInstruction k w) s (Excepted s k r) := by
  refine exception_completes (cause := 0) hk h (congrArg (quiet s) ?_)
  obtain ⟨hrun, hgoes⟩ := h
  simp [doIllegal, hrun, hgoes, hw]

variable (hf : Fits s k r 2)
include hf

theorem br_excepted {imm : BitVec 19} (ht : (r.pc : Int) + 1 + imm.toInt < 0 ∨ ((s.kernel k).image.code.length : Int) ≤ (r.pc : Int) + 1 + imm.toInt) :
    Completes (.br k imm) s (Excepted s k r) :=
  issue_excepted (i := .br k imm) rfl hk h (by simp only [kBranch, if_true, id, kGoto_outside (c := { kernel := s.kernel k, r := r }) ht]; rfl) hf

theorem jr_excepted {d : Fin 32} (ht : (r.getS d).toNat % 4 ≠ 0 ∨ 4 * (s.kernel k).image.code.length ≤ (r.getS d).toNat) :
    Completes (.jr k d) s (Excepted s k r) := by
  refine issue_excepted (i := .jr k d) rfl hk h (cause := 3) ?_ hf
  by_cases h4 : (r.getS d).toNat % 4 = 0
  · have hout : (((s.kernel k).image.code.length : Nat) : Int) ≤ (((r.getS d).toNat / 4 : Nat) : Int) := by omega
    simp only [h4, ne_eq, not_true_eq_false, if_false, kGoto_outside (c := { kernel := s.kernel k, r := r }) (.inr hout)]
    rfl
  · simp only [ne_eq, h4, not_false_eq_true, if_true]

end

/-! ### Overruns -/

theorem crcRead_error_ne_zero {c : CrcUnit} {o cause : Nat} (h : crcRead c o = .error cause) : cause ≠ 0 := by
  unfold crcRead at h
  split at h <;> cases h
  decide

/-- A read is no illegal instruction. -/
theorem kRead_error_ne_zero {c : KCtx} {a : Nat} {e : KFault} (h : kRead c a = .error e) : e.1 ≠ 0 := by
  unfold kRead at h
  split at h
  · cases h
    exact two_ne_zero
  iterate 4
    split at h
    · cases h
  split at h
  · split at h
    · next hcrc =>
      cases h
      exact crcRead_error_ne_zero hcrc
    · cases h
  · split at h <;> cases h
    exact one_ne_zero

section
variable {k : Nat} {s : State} {r : KRun} (h : KernelRuns s k r)
include h

/-- A load takes two cycles at least, whatever becomes of it. -/
theorem ld_overruns {d : Fin 32} {p : Fin 8} {m : Fin 4} {off : BitVec 14} (hm : m ≠ 3) (hf : ¬ Fits s k r 2) :
    kIssue k (kLd d p m off) s = kOverrun s k := by
  cases ha : kAligned r p with
  | false => exact kIssue_over_error k _ s r 2 2 h (by simp only [kLd, kAddr_misaligned hm ha]; rfl) hf
  | true =>
    obtain ⟨⟨a, q⟩, haddr⟩ := kAddr_of_aligned (off := off) hm ha
    cases hread : kRead { kernel := s.kernel k, r := r } a.toNat with
    | error e =>
      obtain ⟨cause, w⟩ := e
      exact kIssue_over_error k _ s r cause (w + 2) h (by simp only [kLd, haddr, hread, kFaulted_of_ne (kRead_error_ne_zero hread)])
        (mt (Fits.mono · (by omega)) hf)
    | ok vc => exact kIssue_over_ok k _ s r _ 2 h (by simp only [kLd, haddr, hread]; rfl) (mt (Fits.mono · (by omega)) hf)
end

end Sys2Proof.Machine

namespace Sys2Proof.Proofs
open Sys2Proof.Machine

/-- Settles O39: the three modes, the illegal one, where wrap leads, and the faults of an access. -/
theorem addressModes : Obligations.AddressModes := by
  intro r p off o l aligned
  refine ⟨fun h => ?_, fun k w hm ho => kernelDecode_mode3 hm ho, fun x => ⟨fun hl => kWrap_linear hl x, fun hl => ?_, fun hl hb => kWrap_bounds hl hb x⟩,
    fun a => rfl, fun k s m d v hk h hf hm hbad => ?_⟩
  · have ha := kAligned_iff.mpr h
    exact ⟨kAddr_offset ha, kAddr_postincrement ha, kAddr_preincrement ha⟩
  · rw [kWrap_circular hl, ofInt_toNat_add]
  · rcases hbad with hbad | ⟨a, q, ha, h4⟩
    · exact access_noAddress hk h hf (kAddr_misaligned hm (by rw [← Bool.not_eq_true, kAligned_iff]; exact hbad)) d v
    · exact access_misaligned hk h hf ha h4 d v

/-- Settles O41: every register of the unit is stored to in the same way, after the wait for a busy unit. -/
theorem checkValueStores : Obligations.CheckValueStores := by
  intro k v s r n h hn hf
  subst hn
  refine ⟨⟨_, crcStore_next (i := .crcPoly k v) rfl h hf (by decide) (by decide) rfl, rfl, toNat_ofNat_mod ..⟩,
    fun hv => ⟨_, crcStore_next (i := .crcCfg k v) rfl h hf (by decide) (by decide) (if_neg (by omega)), rfl, toNat_ofNat_mod ..⟩,
    crcStore_next (i := .crcInit k v) rfl h hf (by decide) (by decide) rfl,
    crcStore_next (i := .crcValue k v) rfl h hf (by decide) (by decide) rfl,
    crcStore_next (i := .crcIn8 k v) rfl h hf (by decide) (by decide) rfl,
    crcStore_next (i := .crcIn16 k v) rfl h hf (by decide) (by decide) rfl,
    crcStore_next (i := .crcIn32 k v) rfl h hf (by decide) (by decide) rfl⟩

/-- Settles O43: an instruction of more cycles than are left is an overrun, also where it would fault. -/
theorem kernelOverrun : Obligations.KernelOverrun := by
  intro k s r hk h
  refine ⟨overrun_completes hk h rfl, fun d a b hf => overrun_completes hk h ?_, fun d p m off hm hf _ => overrun_completes hk h ?_⟩
  · exact congrArg (quiet s) (kIssue_over_ok k _ s r _ 1 h rfl (by simpa using hf))
  · exact congrArg (quiet s) (ld_overruns h hm hf)

/-- Settles O42: each cause is a fault of the instruction's effect before anything is written. -/
theorem kernelExceptions : Obligations.KernelExceptions := by
  intro k s r hk h
  refine ⟨fun w hw => illegal_excepted hk h hw, fun hf d p m off a q ha => ⟨fun hout => ?_, fun hro => ?_⟩,
    fun hf imm ht => br_excepted hk h hf ht, fun hf d ht => jr_excepted hk h hf ht, fun hf v hv => ?_⟩
  · by_cases h4 : a.toNat % 4 = 0
    · exact ⟨ld_excepted hk h hf ha (kRead_outside h4 (by omega)) (by decide) d,
        st_excepted hk h hf ha (kWrite_outside _ h4 (by omega)) (by decide)⟩
    · obtain ⟨hld, hst, -⟩ := access_misaligned hk h hf ha h4 d 0
      exact ⟨hld, hst⟩
  · by_cases h4 : a.toNat % 4 = 0
    · exact st_excepted hk h hf ha (kWrite_outside _ h4 (by omega)) (by decide)
    · obtain ⟨-, hst, -⟩ := access_misaligned hk h hf ha h4 d 0
      exact hst
  · exact crcStore_excepted (i := .crcCfg k v) rfl h hf (by decide) (by decide) hk (if_pos hv) (by decide)

end Sys2Proof.Proofs
end

section
/-! SUPPORT. Kernels in service and the stream of a recorder (10 R251, R252; 11 R262, R270): what each command writes, journals or sends. -/

namespace Sys2Proof.Machine

/-! ### KernelRestart and KernelUpdateApply (10 R251, R252) -/

/-- KernelRestart and KernelUpdateApply. -/
def kernelCommands : List Nat := [0x110A, 0x1111]

set_option maxRecDepth 100000 in
theorem kernelCommandRows_plain : ∀ o ∈ kernelCommands, (objRowOf .root o).all (fun r => !r.jour && !r.stick) = true := by decide +kernel

/-- A command to a kernel in service acts at once, and its reply is its own. -/
theorem directWrite_kernelCommand {s : State} {o : Nat} {w : Write} {row : ObjRow} {r : Option ItemReply × State} (hs : Serving s) (hp : Passes s o w row)
    (hu : w.unit = 0) (ho : o ∈ kernelCommands) (hx : rootWrite s o w = some r) : directWrite s o w = replyWith w.origin r := by
  obtain ⟨hlo, hhi⟩ : 0x110A ≤ o ∧ o ≤ 0x1111 := (by decide : ∀ o ∈ kernelCommands, 0x110A ≤ o ∧ o ≤ 0x1111) o ho
  have hplain := kernelCommandRows_plain o ho
  rw [root_row hp hu (by omega), Option.all_some] at hplain
  obtain ⟨hjour, hstick⟩ : row.jour = false ∧ row.stick = false := by simpa using hplain
  have hown := hp.own
  rw [hu] at hown
  have hcmd : journaledCommand s o w = none := by
    unfold journaledCommand
    dsimp only
    rw [if_neg (by omega), if_neg (by omega), if_neg (by omega), if_neg (by omega)]
  have htxn : journalTxn s 0 o row w none = none := by simp [journalTxn, hcmd, hjour]
  have hcommon : commonWrite s 0 o row w = none := by
    unfold commonWrite
    rw [if_neg (by omega), hstick, if_neg Bool.false_ne_true, if_neg (by omega), if_neg (by omega)]
  have heffect : writeEffect s 0 o row w = r := by simp [writeEffect, hcommon, hx]
  rw [directWrite_served hs hp (.inl (by rw [hu]; rfl)), hu]
  unfold writeServe
  rw [takeWrite_at_once htxn hown rfl (by omega) (by omega) (by omega), heffect, if_neg (by omega)]

theorem Undisturbed.setKernel (s : State) (k : Nat) (x : KernelS) : Undisturbed s (s.setKernel k x) := ⟨.refl _, rfl, rfl⟩

theorem Undisturbed.answerSt (s : State) (o : Option Origin) (n : Nat) : Undisturbed s (answerSt s o n) := (Within.answerSt ..).undisturbed

/-- The replacement of a kernel's image, before it has a cell (R252). -/
def imageRehouse (s : State) (k : Nat) (i : KImage) : Rehouse :=
  { kind := .replacement, failed := kernelCell s k, work := (s.cell (kernelCell s k)).work, journaled := false, replaces := some k,
    image := some (i, bitOf (fieldLE (updateImage s) 11 1) 0) }

/-- The state with a new image kept for a kernel and its transaction on the way to the journal (R252). -/
def imageTaken (s : State) (k : Nat) (i : KImage) : State :=
  journal ((s.setKernel k { s.kernel k with imageBytes := updateImage s }).setN 0 0x0B5300 k) (imageRecords s k i) (.kernelImage k)

theorem kernelUpdate_accepted {s : State} {k : Nat} {i : KImage} (hi : parseImage (updateImage s) = some i) (hst : s.n 0 (0x110400 + k) ≠ 0)
    (hr : (s.rehousings.any fun r => r.replaces.isSome) = false) (hok : updateOk s k i = true) :
    kernelUpdate s k = (stOk, startReadying (imageTaken s k i) (imageRehouse s k i)) := by
  unfold kernelUpdate
  simp only [hi, hst, hr, hok, if_false, Bool.false_eq_true, Bool.not_true]
  rfl

/-- The choice of a reserve cell reads the state and the drain of cells alone. -/
theorem chooseCell_congr {s t : State} (h : ∀ c, 1 ≤ c → t.val c 0x030000 = s.val c 0x030000 ∧ t.val c 0x101200 = s.val c 0x101200) (c : Nat) :
    chooseCell t c = chooseCell s c := by
  unfold chooseCell
  congr 1
  refine List.filter_congr fun d hd => ?_
  have hpos : 1 ≤ d := (List.mem_range'_1.mp ((by decide +kernel : (List.range 129).drop 1 = List.range' 1 128) ▸ hd)).1
  obtain ⟨hst, hdr⟩ := h d hpos
  unfold State.st draining
  rw [n_of_val hst, n_of_val hdr]

/-- What a new image keeps for a kernel moves no cell's state. -/
theorem imageTaken_choice (s : State) (k : Nat) (i : KImage) (c : Nat) : chooseCell (imageTaken s k i) c = chooseCell s c := by
  refine chooseCell_congr (fun d hd => ?_) c
  have hne : ∀ y < 2 ^ 24, keyOf 0 0x0B5300 ≠ keyOf d y := fun y hy he => by
    rw [keyOf_inj (by decide) hy] at he
    omega
  exact ⟨setV_read_ne _ _ (hne _ (by decide)), setV_read_ne _ _ (hne _ (by decide))⟩

/-- The new image's rehousing with its reserve cell noted. -/
def imageReadying (s : State) (k : Nat) (i : KImage) (c : Nat) : State :=
  { imageTaken s k i with rehousings := s.rehousings ++ [{ imageRehouse s k i with target := some c }] }

section
variable (s : State) (k : Nat) (i : KImage) (c : Nat)

theorem Undisturbed.imageReadying : Undisturbed s (imageReadying s k i c) := ⟨.of_eq rfl, rfl, rfl⟩

theorem imageReadying_plan : (imageReadying s k i c).plan = s.plan := rfl

theorem imageReadying_kernel : (imageReadying s k i c).n 0 0x0B5300 = k := setV_n_self ..

theorem imageReadying_queue : (imageReadying s k i c).journal.queue = s.journal.queue ++ [⟨imageRecords s k i, .kernelImage k⟩] := rfl

end

/-- An accepted image is readied on the reserve cell: what it leaves. -/
theorem startReadying_image {s : State} {k c : Nat} {i : KImage} (ha : activeRehousings s < 4) (hc : chooseCell s (kernelCell s k) = some c) :
    startReadying (imageTaken s k i) (imageRehouse s k i)
      = setUnit true (imageReadying s k i c) c usActive :=
  startReadying_takes ha ((imageTaken_choice ..).trans hc)

/-! ### A condition of a recorder (11 R262) -/

theorem kindOf_recorder {r : Nat} (hr : isRecorder r = true) : kindOf r = some .recorder := by
  simp only [isRecorder, decide_eq_true_eq] at hr
  unfold kindOf
  iterate 6 rw [if_neg (by omega)]
  rw [if_pos hr]

set_option maxRecDepth 100000 in
theorem conditionRow_journaled : (objRowOf .recorder 0xA10).all (fun r => r.jour && !r.stick && !r.ty.scalar) = true := by decide +kernel

/-- A write that passes its checks has the form that its object asks for. -/
theorem Passes.typed {s : State} {o : Nat} {w : Write} {row : ObjRow} (hp : Passes s o w row) : typeOk row o w.offset w.data.length = true := by
  have hc := hp.check
  unfold directCheck at hc
  repeat' split at hc
  all_goals cases hc
  simpa using ‹¬(!typeOk row o w.offset w.data.length) = true›

theorem writePart_whole (old data : Bytes) : writePart old data 0 true = data := by simp [writePart]

section
variable {s : State} {w : Write} {row : ObjRow} (hr : isRecorder w.unit = true) (hp : Passes s 0xA10 w row)
include hr hp

theorem Passes.conditionAt : objAt s w.unit .recorder 0xA10 = some row := by
  obtain ⟨k, hk, hobj⟩ := hp.names
  obtain rfl : .recorder = k := Option.some.inj ((kindOf_recorder hr).symm.trans hk)
  exact hobj

theorem Passes.conditionRow : row.jour = true ∧ row.stick = false ∧ row.ty.scalar = false := by
  have hrow : objRowOf .recorder 0xA10 = some row := hp.conditionAt hr
  simpa [hrow, and_assoc] using conditionRow_journaled

theorem plainWrite_condition : plainWrite s w.unit 0xA10 row w = s.setV w.unit (0x0A1000 + w.elem) (.bytes w.data) := by
  obtain ⟨-, -, hscalar⟩ := hp.conditionRow hr
  have hoff : w.offset = 0 := (by simpa [typeOk, fixedSize] using hp.typed : w.offset = 0 ∧ _).1
  unfold plainWrite
  simp only [hscalar, hoff, Bool.false_eq_true, if_false, setBs_eq]
  rw [show (fixedSize 0xA10).isSome = true from rfl, Bool.or_true, writePart_whole]

theorem writeEffect_condition : writeEffect s w.unit 0xA10 row w
    = withOk (conditionWritten (s.setV w.unit (0x0A1000 + w.elem) (.bytes w.data)) w.unit w.elem (s.bs w.unit (0x0A1000 + w.elem))) := by
  obtain ⟨-, hstick, -⟩ := hp.conditionRow hr
  have hrange : 0x400 ≤ w.unit ∧ w.unit ≤ 0x40F := by simpa [isRecorder] using hr
  have haxis : (isAxis w.unit || isCluster w.unit) = false := by
    simp only [isAxis, isCluster, Bool.or_eq_false_iff, decide_eq_false_iff_not]
    omega
  have hsleeve : isSleeve w.unit = false := by
    simp only [isSleeve, decide_eq_false_iff_not]
    omega
  have hcommon : commonWrite s w.unit 0xA10 row w = none := by simp [commonWrite, hstick]
  unfold writeEffect
  rw [hcommon, Option.orElse_none, if_neg (by omega), haxis, if_neg Bool.false_ne_true, hsleeve, if_neg Bool.false_ne_true, ← plainWrite_condition hr hp]
  rfl

/-- The rewritten condition once its transaction has its turn. -/
theorem writeNow_condition : writeNow s w.unit 0xA10 w = answerSt
    (conditionWritten (s.setV w.unit (0x0A1000 + w.elem) (.bytes w.data)) w.unit w.elem (s.bs w.unit (0x0A1000 + w.elem))) w.origin stOk := by
  unfold writeNow
  rw [kindOf_recorder hr, Option.bind_some, hp.conditionAt hr]
  show replyWith _ _ = _
  rw [writeEffect_condition hr hp]
  rfl

theorem journalTxn_condition (port : Option Nat) :
    journalTxn s w.unit 0xA10 row w port = some ([writeRecord w.unit 0xA10 row w], .write 0xA10 w port) := by
  obtain ⟨hjour, -⟩ := hp.conditionRow hr
  have hroot : w.unit ≠ 0 := by
    simp only [isRecorder, decide_eq_true_eq] at hr
    omega
  simp [journalTxn, hroot, hjour]
end

theorem setV_beatNs (s : State) (u k : Nat) (v : Val) : (s.setV u k v).beatNs = s.beatNs := rfl

theorem conditionWritten_dict (s : State) (r c : Nat) (old : Bytes) : (conditionWritten s r c old).dict = s.dict := by
  unfold conditionWritten
  split <;> rfl

theorem conditionWritten_was {s : State} {r : Nat} (c : Nat) (old : Bytes) (h : s.st r = usActive) :
    ((conditionWritten s r c old).rec' r).was = (s.rec' r).was ++ [(c, old, s.beatNs)] := by
  unfold conditionWritten
  rw [if_neg (not_not.mpr h), setRec_read_self]

/-! ### The stream of a recorder (11 R268, R270) -/

/-- The run whose blocks leave next. -/
def streamRun (x : RecS) : Nat := ((oldestRun x).headD default).run
/-- The blocks of the next datagram. -/
def streamBlocks (x : RecS) : List BlockS := takeBlocks 1440 (oldestRun x)
/-- The number of the next datagram in its run. -/
def streamNumber (x : RecS) : Nat := (mapGet 0 x.numbers (streamRun x) + 1) % 2 ^ 32

/-- The recorder once its first datagram of a cycle has left. -/
def streamLeft (x : RecS) (cycle : Nat) : RecS :=
  { x with
    buffer := x.buffer.drop (streamBlocks x).length
    sentInCycle := 1
    cycle := cycle
    numbers := (mapPut 0 x.numbers (streamRun x) (streamNumber x)).filter fun e =>
      e.1 == x.run || (x.buffer.drop (streamBlocks x).length).any fun b => b.run == e.1
    flush := x.flush && (x.buffer.drop (streamBlocks x).length).any fun b => b.run == x.run }

/-- A datagram of some number leaves a recorder. -/
def streamSent (s : State) (r : Nat) (x : RecS) (num : Nat) (m : Sent) : State := ((s.setRec r x).setN r 0x0A3100 num).emit m

section
variable (s : State) (r : Nat) (x : RecS) (num : Nat) (m : Sent)

theorem streamSent_pending : (streamSent s r x num m).pending = s.pending := by
  rw [streamSent, emit_pending, setN_eq, setV_pending, setRec_pending]

theorem streamSent_sent : (streamSent s r x num m).sent = m :: s.sent := by
  rw [streamSent, emit_sent, setN_eq, setV_sent, setRec_sent]

theorem streamSent_number : (streamSent s r x num m).n r 0x0A3100 = num := by
  rw [streamSent, emit_at_n, setN_eq, setV_n_self, Int.toNat_natCast]

theorem streamSent_recorder : (streamSent s r x num m).rec' r = x := by
  rw [streamSent, emit_at_rec, setN_eq, setV_at_rec, setRec_read_self]
end

theorem streamSend_flushed {s : State} {r : Nat} {ss : Session} (hss : s.slot (s.n r 0x0A0400) = .opened ss)
    (hcyc : (s.rec' r).cycle ≠ s.beat.n / max 1 (s.n 0 0x023300)) (hrate : 0 < s.n r 0x0A0500)
    (hbs : takeBlocks 1440 (oldestRun (s.rec' r)) ≠ []) (hfl : (s.rec' r).flush = true) :
    streamSend s r = streamSent s r (streamLeft (s.rec' r) (s.beat.n / max 1 (s.n 0 0x023300))) (streamNumber (s.rec' r))
      (lfpSent ss.src 0x40 0 ss.sid (streamNumber (s.rec' r)) (streamPayload r (streamRun (s.rec' r)) (streamBlocks (s.rec' r)))) := by
  unfold streamSend
  simp only [hss, hcyc, if_false]
  rw [if_neg (by simp [hbs, hfl]; omega)]
  rfl

theorem wf_recorder {r : Nat} (h : isRecorder r = true) : wfRecorder r = true := h

end Sys2Proof.Machine

namespace Sys2Proof.Proofs
open Sys2Proof.Machine

section
variable {s : State} (hs : Serving s)
include hs

/-- KERNEL_RESTART. -/
theorem kernelRestart_next {w : Write} {row : ObjRow} (hq : Calm s) (hu : w.unit = 0) (he : w.elem < 128) (hp : Passes s 0x110A w row)
    (hst : s.n 0 (0x110400 + w.elem) = 2) :
    exec (.kernelRestart w) s = .next (answerSt (s.setKernel w.elem { s.kernel w.elem with restart := true }) w.origin stOk) := by
  have hx : kernelRestart s w.elem = s.setKernel w.elem { s.kernel w.elem with restart := true } := if_pos hst
  have hroot : rootWrite s 0x110A w = some (withOk (kernelRestart s w.elem)) := rfl
  have hwf : (Instr.kernelRestart w).wf = true := Bool.and_eq_true_iff.mpr ⟨hp.wf, decide_eq_true he⟩
  rw [hx] at hroot
  exact settled_next hq hwf (directWrite_kernelCommand hs hp hu (by decide) hroot) rfl ((Undisturbed.setKernel ..).trans (.answerSt ..))

/-- KERNEL_UPDATE_APPLY of an accepted image. -/
theorem kernelUpdate_readies {w : Write} {row : ObjRow} {k c : Nat} {i : KImage} (hq : Calm s) (hu : w.unit = 0) (hp : Passes s 0x1111 w row)
    (hk : leNat w.data = k) (hi : parseImage (updateImage s) = some i) (hst : s.n 0 (0x110400 + k) ≠ 0)
    (hr : (s.rehousings.any fun r => r.replaces.isSome) = false) (hok : updateOk s k i = true) (ha : activeRehousings s < 4)
    (hc : chooseCell s (kernelCell s k) = some c) (hn : NoCluster s c) : Completes (.kernelUpdateApply w) s fun t =>
      t.st c = usActive ∧ t.n 0 0x0B5300 = k ∧ t.journal.queue = s.journal.queue ++ [⟨imageRecords s k i, .kernelImage k⟩]
        ∧ t.rehousings = s.rehousings ++ [{ imageRehouse s k i with target := some c }] := by
  have hroot : rootWrite s 0x1111 w = some (withStatus (kernelUpdate s (leNat w.data))) := rfl
  rw [hk, kernelUpdate_accepted hi hst hr hok, startReadying_image ha hc] at hroot
  have hnx : NoCluster (imageReadying s k i c) c := hn.of_plan (imageReadying_plan ..)
  have hw := Within.setUnit true (imageReadying s k i c) c usActive
  have hund := (Undisturbed.imageReadying s k i c).trans hw.undisturbed
  refine ⟨_, settled_next hq hp.wf (directWrite_kernelCommand hs hp hu (by decide) hroot) rfl (hund.trans (.answerSt ..)), ?_, ?_, ?_, ?_⟩
  · exact (answerSt_st ..).trans (setUnit_st _ _ _ _ hnx)
  · have hsteady : Steady 0x0B5300 := by unfold Steady; decide
    exact (answerSt_n ..).trans ((n_of_val (setUnit_val _ _ _ _ _ _ hnx hsteady)).trans (imageReadying_kernel ..))
  · exact (congrArg JournalS.queue ((hw.trans (.answerSt ..)).journal)).trans (imageReadying_queue ..)
  · exact (hw.trans (.answerSt ..)).rehousings

/-- TRIGGER_CONDITION goes to the journal. -/
theorem triggerCondition_journals {w : Write} {row : ObjRow} (hq : Calm s) (hr : isRecorder w.unit = true) (he : w.elem < 8) (hp : Passes s 0xA10 w row)
    (hf : journalFull s [writeRecord w.unit 0xA10 row w] = false) :
    exec (.triggerCondition w) s = .next (journal s [writeRecord w.unit 0xA10 row w] (.write 0xA10 w none)) := by
  have hwf : (Instr.triggerCondition w).wf = true := Bool.and_eq_true_iff.mpr ⟨hp.wf, decide_eq_true he⟩
  obtain ⟨hjour, -⟩ := hp.conditionRow hr
  have hx := directWrite_journaled hs hp (.inr hjour) (by decide) (journalTxn_condition hr hp none) hf
  exact settled_next hq hwf hx rfl ⟨.refl _, rfl, rfl⟩

variable {r : Nat} (hr : isRecorder r = true)
include hr

/-- STREAM_DATAGRAM_SEND of a flushed buffer within its rate. -/
theorem streamSend_completes {ss : Session} (hss : s.slot (s.n r 0x0A0400) = .opened ss)
    (hcyc : (s.rec' r).cycle ≠ s.beat.n / max 1 (s.n 0 0x023300)) (hrate : 0 < s.n r 0x0A0500)
    (hbs : takeBlocks 1440 (oldestRun (s.rec' r)) ≠ []) (hfl : (s.rec' r).flush = true) : Completes (.streamDatagramSend r) s fun t =>
      t.n r 0x0A3100 = streamNumber (s.rec' r) ∧ (t.rec' r).buffer = (s.rec' r).buffer.drop (streamBlocks (s.rec' r)).length
        ∧ t.sent = lfpSent ss.src 0x40 0 ss.sid (streamNumber (s.rec' r))
            (streamPayload r (streamRun (s.rec' r)) (streamBlocks (s.rec' r))) :: s.sent := by
  refine ⟨_, ?_, streamSent_number s r (streamLeft (s.rec' r) (s.beat.n / max 1 (s.n 0 0x023300))) _ _, ?_, streamSent_sent ..⟩
  · show quiet s (whenWf (.streamDatagramSend r) s (whenReady s (streamSend s r))) = _
    rw [whenWf_of (i := .streamDatagramSend r) (wf_recorder hr), whenReady_of hs, streamSend_flushed hss hcyc hrate hbs hfl]
    exact quiet_next (streamSent_pending ..)
  · rw [streamSent_recorder]
    rfl

/-- STREAM_FLUSH_TIMEOUT. -/
theorem streamFlush_next : exec (.streamFlushTimeout r) s
    = .next (if (s.rec' r).buffer = [] then s else s.setRec r { s.rec' r with flush := true }) := by
  have hx : streamFlush s r = if (s.rec' r).buffer = [] then s else s.setRec r { s.rec' r with flush := true } := by
    simp only [streamFlush, List.isEmpty_iff]
  show quiet s (whenWf (.streamFlushTimeout r) s (whenReady s (streamFlush s r))) = _
  rw [whenWf_of (i := .streamFlushTimeout r) (wf_recorder hr), whenReady_of hs, hx]
  refine quiet_next ?_
  split <;> rfl

end

section
variable {s : State} {w : Write} {row : ObjRow} (hr : isRecorder w.unit = true) (hp : Passes s 0xA10 w row)
include hr hp

theorem writeNow_condition_value : (writeNow s w.unit 0xA10 w).bs w.unit (0x0A1000 + w.elem) = w.data := by
  rw [writeNow_condition hr hp]
  have hval := (answerSt_val (conditionWritten (s.setV w.unit (0x0A1000 + w.elem) (.bytes w.data)) w.unit w.elem (s.bs w.unit (0x0A1000 + w.elem)))
    w.origin stOk w.unit (0x0A1000 + w.elem)).trans (val_of_dict (conditionWritten_dict ..))
  exact (congrArg valRaw hval).trans (setV_bs_self ..)

/-- What a condition of an ACTIVE recorder replaces is kept. -/
theorem writeNow_condition_was (he : w.elem < 8) (hst : s.st w.unit = usActive) : ((writeNow s w.unit 0xA10 w).rec' w.unit).was
    = (s.rec' w.unit).was ++ [(w.elem, s.bs w.unit (0x0A1000 + w.elem), s.beatNs)] := by
  have hkeep : (s.setV w.unit (0x0A1000 + w.elem) (.bytes w.data)).st w.unit = usActive :=
    (setV_n_ne _ _ (by rw [Ne, keyOf_inj (by omega) (by decide)]; omega)).trans hst
  rw [writeNow_condition hr hp, rec_congr (answerSt_recorders ..), conditionWritten_was _ _ hkeep, setV_at_rec, setV_beatNs]

end

/-- Settles O49: the two commands to a kernel in service, the way of a condition, and the two commands of a stream. -/
theorem kernelsAndRecorders : Obligations.KernelsAndRecorders := by
  intro s w row hs
  refine ⟨fun hq hu he hp hst => kernelRestart_next hs hq hu he hp hst, fun k i c hq hu hp hk hi hst hr hok ha hc _ hn => ?_,
    fun hq hr he hp hf => ⟨triggerCondition_journals hs hq hr he hp hf, writeNow_condition_value hr hp, writeNow_condition_was hr hp he⟩,
    fun r ss hr hss hcyc hrate hbs hfl => streamSend_completes hs hr hss hcyc hrate hbs hfl, fun r hr => streamFlush_next hs hr⟩
  obtain ⟨t, hnext, hst, hkernel, hqueue, hrehouse⟩ := kernelUpdate_readies hs hq hu hp hk hi hst hr hok ha hc hn
  exact ⟨t, hnext, hst, hkernel, hqueue, _, hrehouse, rfl, rfl, rfl, rfl, rfl⟩

end Sys2Proof.Proofs
end

section
/-! SUPPORT. The fault collector's arrays and its hits (12 R274 to R277, R279): reading a bit that is written, what a hit records, and what it does to a
unit of each kind that the statements name. -/

namespace Sys2Proof.Machine

/-! ### Bits of the fault arrays -/

theorem bitOf_setBit (v i : Nat) : bitOf (setBit v i) i = true := by
  unfold setBit
  split
  · assumption
  · next h =>
    have hdiv : (v + 2 ^ i) / 2 ^ i = v / 2 ^ i + 1 := Nat.add_div_right v (Nat.two_pow_pos i)
    simp only [bitOf, beq_iff_eq] at h ⊢
    omega

theorem bitOf_putBit (v i : Nat) (b : Bool) : bitOf (putBit v i b) i = b := by
  cases b
  · exact bitOf_clrBit v i
  · exact bitOf_setBit v i

theorem putFaultBit_faultBit (s : State) (u o b : Nat) (v : Bool) : faultBit (putFaultBit s u o b v) u o b = v := by
  rw [faultBit, putFaultBit, setN_n_self, bitOf_putBit]

theorem faultBit_of_val {s t : State} {u o b : Nat} (h : t.val u (o * 256 + b / 32) = s.val u (o * 256 + b / 32)) :
    faultBit t u o b = faultBit s u o b := by
  rw [faultBit, faultBit, n_of_val h]

/-- Whether its bit was set before or not, a recorded hit's bit is set. -/
theorem noted_faultBit {s s0 : State} {u o b : Nat} (hb : b < 256) (ho : 0xB00 ≤ o ∧ o < 0xB03) (h0 : faultBit s0 u o b = faultBit s u o b) (d : Bytes) :
    faultBit (if faultBit s u o b then s0 else publish (putFaultBit s0 u o b true) u 0x0B01 d) u o b = true := by
  split
  · next h => rw [h0, h]
  · rw [faultBit_of_val (publish_keeps _ _ _ _ _ _ (by omega) (.inr (by omega))), putFaultBit_faultBit]

section
variable {s : State} {u b : Nat} {k : UKind} {c : FClass} (hb : b < 256)
include hb

/-- A level source's own bit is none of those that record a hit. -/
theorem levelBit_faultBit {o : Nat} (ho : o = 0xB00 ∨ o = 0xB02) :
    faultBit (if isLevelSource k b then putFaultBit s u 0xB01 b true else s) u o b = faultBit s u o b := by
  split
  · exact faultBit_of_val (putFaultBit_val true hb (by decide) (by omega) (.inr (by omega)))
  · rfl

/-- A hit that counts stands in the sticky bits (R275). -/
theorem recordHit_sticky (h : shadowed s u b = false) : faultBit (recordHit s u b k c).1 u 0xB00 b = true := by
  unfold recordHit
  rw [h]
  exact noted_faultBit hb (by decide) (levelBit_faultBit hb (.inl rfl)) _

/-- A shadowed one stands in the shadowed bits (R279). -/
theorem recordHit_shadow (h : shadowed s u b = true) (hc : c ≠ .fatal) : faultBit (recordHit s u b k c).1 u 0xB02 b = true := by
  unfold recordHit
  rw [h, bne_iff_ne.mpr hc]
  exact noted_faultBit hb (by decide) (levelBit_faultBit hb (.inr rfl)) _

theorem recordHit_st (x : Nat) : (recordHit s u b k c).1.st x = s.st x := recordHit_sleeveObject hb ⟨by decide, by decide⟩

end

theorem recordHit_ignored {s : State} {u b : Nat} {k : UKind} {c : FClass} (h : shadowed s u b = true) (hc : c ≠ .fatal) :
    recordHit s u b k c = ((recordHit s u b k c).1, false) :=
  Prod.ext rfl (by rw [recordHit_snd, h, bne_iff_ne.mpr hc]; rfl)

theorem recordHit_counted {s : State} {u b : Nat} {k : UKind} {c : FClass} (h : shadowed s u b = false) :
    recordHit s u b k c = ((recordHit s u b k c).1, true) :=
  Prod.ext rfl (recordHit_counts h)

/-! ### Kinds and classes -/

theorem not_axis_of_kind {u : Nat} {k : UKind} (hk : kindOf u = some k) (h : k ∉ kAxes) : isAxis u = false :=
  Bool.eq_false_iff.mpr fun ha => h (kind_of_axis ha hk)

theorem kindOf_cell {u : Nat} (hc : isCell u = true) : kindOf u = some .cell := by
  simp only [isCell, decide_eq_true_eq] at hc
  unfold kindOf
  rw [if_neg (by omega), if_pos (by omega)]

theorem sleeve_of_kind {u : Nat} (hk : kindOf u = some .sleeve) : isSleeve u = true := by
  unfold kindOf at hk
  repeat' split at hk
  all_goals cases hk
  exact decide_eq_true ‹_›

theorem remote_of_kind {u : Nat} {k : UKind} (hk : kindOf u = some k) (h : k = .netAxis ∨ k = .virtAxis) : isLocal u = false := by
  refine Bool.eq_false_iff.mpr fun hl => ?_
  simp only [isLocal, decide_eq_true_eq] at hl
  unfold kindOf at hk
  rw [if_neg (by omega), if_neg (by omega), if_neg (by omega), if_pos hl] at hk
  cases hk
  simp at h

/-! ### The counters of corrected sources (Table 12-1) -/

/-- Element k of a unit of a kind as a stick counter is: no element that counting or recording moves beside it, and of its greatest value. -/
def stickCheck (kd : UKind) (k max : Nat) : Bool :=
  decide (0x030000 < k ∧ k < 2 ^ 24 ∧ (k < 0x0B1000 ∨ 0x0B1020 ≤ k))
    && (allRows.all fun r => !(r.stick && r.obj == k / 256) || decide (k % 256 ≤ r.elHi))
    && ((rowOf kd (k / 256) (k % 256)).map fun r => r.ty.maxNat).getD (2 ^ 32 - 1) == max

/-- The facts of `stickCheck` as propositions. -/
structure StickCounter (kd : UKind) (k max : Nat) : Prop where
  above : 0x030000 < k
  below : k < 2 ^ 24
  apart : k < 0x0B1000 ∨ 0x0B1020 ≤ k
  rows : ∀ r ∈ allRows, r.stick = true → r.obj = k / 256 → k % 256 ≤ r.elHi
  type : ((rowOf kd (k / 256) (k % 256)).map fun r => r.ty.maxNat).getD (2 ^ 32 - 1) = max

section
variable {kd : UKind} {k max : Nat}

theorem StickCounter.of_check (h : stickCheck kd k max = true) : StickCounter kd k max := by
  simp only [stickCheck, Bool.and_eq_true, decide_eq_true_eq, List.all_eq_true, Bool.or_eq_true, Bool.not_eq_true', beq_iff_eq] at h
  obtain ⟨⟨⟨habove, hbelow, hapart⟩, hrows⟩, htype⟩ := h
  refine ⟨habove, hbelow, hapart, fun r hr hstick hobj => ?_, htype⟩
  exact (hrows r hr).resolve_left (by simp [hstick, hobj])

theorem StickCounter.counts (h : StickCounter kd k max) {u : Nat} (hu : kindOf u = some kd) {s : State} (hv : s.n u k < max) :
    (bump s u k).n u k = s.n u k + 1 := by
  obtain ⟨habove, hbelow, hapart, hrows, htype⟩ := h
  exact bump_counts s u k kd hbelow hu hrows (by omega) (by omega) (by rwa [htype])

theorem StickCounter.keeps (h : StickCounter kd k max) (s : State) (u : Nat) {x y : Nat} (hy : y < 2 ^ 24) (hne : y ≠ k)
    (h' : y ≠ 0x012200 ∧ (y < 0x0B1000 ∨ 0x0B1020 ≤ y)) : (bump s u k).val x y = s.val x y :=
  bump_keeps s u k x y hy h.below h.rows (.inr hne) h'

end

/-- The counter of a corrected source, where it has one, is a 32-bit stick counter that recording a hit leaves alone. -/
def correctedCheck (k : UKind) (b : Nat) : Bool :=
  match classOf k b with
  | some (.corrected n) => n == 0 || (stickCheck k n (2 ^ 32 - 1) && decide (n < 0x0B0000 ∨ 0x0B1020 ≤ n))
  | _ => true

set_option maxRecDepth 100000 in
theorem correctedChecks : ∀ k ∈ kAll, ∀ b < 256, correctedCheck k b = true := by decide +kernel

theorem mem_kAll (k : UKind) : k ∈ kAll := by cases k <;> decide

theorem correctedCounter {k : UKind} {b n : Nat} (hb : b < 256) (hc : classOf k b = some (.corrected n)) (hn : n ≠ 0) :
    StickCounter k n (2 ^ 32 - 1) ∧ (n < 0x0B0000 ∨ 0x0B1020 ≤ n) := by
  have h := correctedChecks k (mem_kAll k) b hb
  simp only [correctedCheck, hc, beq_eq_false_iff_ne.mpr hn, Bool.false_or, Bool.and_eq_true, decide_eq_true_eq] at h
  exact ⟨.of_check h.1, h.2⟩

/-! ### What a hit does -/

/-- The class of a source of a kind whose sources are all contained: axes, recorders and clusters. -/
theorem contained_only {p : Prop} [Decidable p] {c : FClass} (h : (if p then some FClass.contained else none) = some c) : p ∧ c = .contained := by
  split at h
  · exact ⟨‹_›, (Option.some.inj h).symm⟩
  · cases h

section
variable {s : State} {u b : Nat} {k : UKind} (hk : kindOf u = some k)
include hk

/-- A hit that does not count is recorded, on a unit of any kind. -/
theorem hit_ignored {s1 : State} {c : FClass} (hc : classOf k b = some c) (hrec : recordHit s u b k c = (s1, false)) : hit s u b = s1 := by
  unfold hit
  rw [hk]
  cases k with
  | cell => simp only [hitCell, hc, hrec]
  | sleeve => simp only [hitSleeve, hc, hrec]
  | localAxis | netAxis | virtAxis =>
    obtain ⟨hb, rfl⟩ := contained_only hc
    simp only [hb, if_true, hitAxis, hk, Option.getD_some, hrec]
  | recorder | cluster =>
    obtain ⟨rfl, rfl⟩ := contained_only hc
    simp only [if_true, hitNoCell, not_axis_of_kind hk (by decide), Bool.false_eq_true, if_false, hk, Option.getD_some, hrec]
  | root | can | veil | field => simp only [hc, hrec]

/-- A hit of a corrected source that counts is recorded, and counted at its counter. -/
theorem hit_corrected {s1 : State} {n : Nat} (hc : classOf k b = some (.corrected n)) (hn : n ≠ 0) (hrec : recordHit s u b k (.corrected n) = (s1, true)) :
    hit s u b = bump s1 u n := by
  unfold hit
  rw [hk]
  cases k with
  | cell => simp only [hitCell, hc, hrec]
  | sleeve => simp only [hitSleeve, hc, hrec]
  | localAxis | netAxis | virtAxis | recorder | cluster => simp [classOf] at hc
  | root | can | veil | field => simp only [hc, hrec, if_neg hn]

end

/-- A detector's report is a hit, but for the trips of a sleeve and those sources of its feedback that are not shadowed. -/
theorem detectorHit_hit {s : State} {u b : Nat} (h : isSleeve u = true → 3 ≤ b ∧ (shadowed s u b = true ∨ (b ≠ 6 ∧ b ≠ 8 ∧ b ≠ 9))) :
    detectorHit s u b = hit s u b := by
  unfold detectorHit
  cases hu : isSleeve u with
  | false => rfl
  | true =>
    obtain ⟨h3, hb⟩ := h hu
    rw [if_neg (by simp), if_neg (by omega)]
    split
    case h_4 => rfl
    all_goals
      have hsh := hb.resolve_right (by simp)
      exact if_pos (.inr hsh)

/-! ### A corrected and a shadowed hit -/

section
variable {s : State} {u b : Nat} {k : UKind} (hk : kindOf u = some k)
include hk

/-- The corrected sources of a sleeve are neither trips nor contained sources of its feedback. -/
theorem detectorHit_corrected {n : Nat} (hc : classOf k b = some (.corrected n)) (hn : n ≠ 0) (h : shadowed s u b = false) :
    detectorHit s u b = bump (recordHit s u b k (.corrected n)).1 u n := by
  rw [detectorHit_hit fun hu => ?_, hit_corrected hk hc hn (recordHit_counted h)]
  obtain rfl : .sleeve = k := Option.some.inj ((kindOf_sleeve hu).symm.trans hk)
  have hclass : ∀ b < 10, b < 3 ∨ b = 6 ∨ b = 8 ∨ b = 9 → (classOf .sleeve b).all (· == .contained) = true := by decide
  by_contra hnot
  have hcontained := hclass b (by omega) (by omega)
  simp [hc] at hcontained

theorem detectorHit_shadowed {c : FClass} (hc : classOf k b = some c) (hf : c ≠ .fatal) (h : shadowed s u b = true) (h3 : isSleeve u = true → 3 ≤ b) :
    detectorHit s u b = (recordHit s u b k c).1 := by
  rw [detectorHit_hit fun hu => ⟨h3 hu, .inl h⟩, hit_ignored hk hc (recordHit_ignored h hf)]

variable (hb : b < 256)
include hb

omit hk in
/-- Counting after a hit leaves its record and the states of units as they are. -/
theorem correctedHit_keeps {n : Nat} (hn : StickCounter k n (2 ^ 32 - 1) ∧ (n < 0x0B0000 ∨ 0x0B1020 ≤ n)) (h : shadowed s u b = false) :
    let t := bump (recordHit s u b k (.corrected n)).1 u n
    faultBit t u 0xB00 b = true ∧ ∀ x, t.st x = s.st x := by
  obtain ⟨hstick, hout⟩ := hn
  have habove := hstick.above
  refine ⟨?_, fun x => ?_⟩
  · rw [faultBit_of_val (hstick.keeps _ u (by omega) (by omega) (by omega)), recordHit_sticky hb h]
  · exact (n_of_val (hstick.keeps _ u (by decide) (by omega) (by decide))).trans (recordHit_st hb x)

theorem correctedHit_counts {n : Nat} (hn : StickCounter k n (2 ^ 32 - 1) ∧ (n < 0x0B0000 ∨ 0x0B1020 ≤ n)) :
    Counts s (bump (recordHit s u b k (.corrected n)).1 u n) u n := by
  obtain ⟨hstick, hout⟩ := hn
  have habove := hstick.above
  have hkept : (recordHit s u b k (.corrected n)).1.n u n = s.n u n := n_of_val (recordHit_val hb hstick.below (by omega) hout)
  exact Counts.of_n (fun hv => hstick.counts hk hv) hkept rfl

end

/-! ### A contained hit of a cell -/

/-- The cell in FAULT, after a contained hit: its self-test has ended. -/
def cellFaulted (s : State) (u b : Nat) : State :=
  let s1 := (recordHit s u b .cell .contained).1
  setUnit true (s1.setCell u { s1.cell u with selfTest := false }) u usFault

theorem Undisturbed.setCell (s : State) (c : Nat) (x : CellS) : Undisturbed s (s.setCell c x) := ⟨.refl _, rfl, rfl⟩

theorem Undisturbed.cellFaulted (s : State) (u b : Nat) : Undisturbed s (cellFaulted s u b) :=
  ((Within.recordHit ..).undisturbed.trans (.setCell ..)).trans (Within.setUnit ..).undisturbed

section
variable {s : State} {u b : Nat} (h : shadowed s u b = false) (hb : b < 256)
include h hb

/-- A contained hit of a cell that has no role and is no target of a rehousing takes it to FAULT, and nothing is rehoused. -/
theorem hit_cell_contained (hk : kindOf u = some .cell) (hc : classOf .cell b = some .contained) (hoff : s.st u ≠ usOff) (hret : s.st u ≠ usRetired)
    (hrole : (s.cell u).work.role = .none) (hre : s.rehousings = []) : hit s u b = cellFaulted s u b := by
  have hsame := recordHit_same s u b .cell .contained
  have hst := recordHit_st (s := s) (u := u) (k := .cell) (c := .contained) hb u
  have hrec := recordHit_counted (k := .cell) (c := .contained) h
  unfold hit cellFaulted
  rw [hk]
  simp only [hitCell, hc]
  generalize recordHit s u b .cell .contained = r at hsame hst hrec ⊢
  obtain ⟨s1, _⟩ := r
  obtain rfl := (Prod.mk.inj hrec).2
  have hwork : (s1.cell u).work.role = .none := by rw [cell_congr hsame.cells]; exact hrole
  have hrehousings : (setUnit true (s1.setCell u { s1.cell u with selfTest := false }) u usFault).rehousings = [] :=
    (Within.setUnit ..).rehousings.trans (hsame.rehousings.trans hre)
  dsimp only at hst ⊢
  rw [if_neg (by rw [hst]; exact not_or.mpr ⟨hoff, hret⟩), hrehousings, List.find?_nil]
  exact if_pos hwork

theorem cellFaulted_faults (hn : NoCluster s u) : (cellFaulted s u b).st u = usFault ∧ faultBit (cellFaulted s u b) u 0xB00 b = true
    ∧ ((cellFaulted s u b).cell u).selfTest = false := by
  have hn' : NoCluster ((recordHit s u b .cell .contained).1.setCell u { (recordHit s u b .cell .contained).1.cell u with selfTest := false }) u :=
    hn.of_plan (recordHit_same ..).plan
  refine ⟨setUnit_st _ _ _ _ hn', ?_, ?_⟩
  · rw [cellFaulted, faultBit_of_val (setUnit_val _ _ _ _ _ _ hn' (by unfold Steady; omega))]
    exact recordHit_sticky hb h
  · rw [cellFaulted, cell_congr (Within.setUnit ..).cells, setCell_read_self]

end

/-! ### A contained hit of an axis without a sleeve -/

/-- An element that dropping an axis's latch and compare entries leaves alone. -/
theorem dropLatchCompare_val {s : State} {a x y : Nat} (now : Bool) (hy : Steady y) (hne : y ≠ 0x090A00) :
    (dropLatchCompare now s a).val x y = s.val x y := by
  obtain ⟨hlt, -, hlost, -, hsat, -⟩ := hy
  have hsay : ∀ (t : State) (u c : Nat) (d : Bytes), (say now t u c d).val x y = t.val x y := fun t u c d =>
    say_keeps (fun t => t.val x y) now t u c d (publish_keeps _ _ _ _ _ _ hlt (.inr ⟨hlost, hsat⟩)) (later_at_val ..)
  have hbump : ∀ (n : Nat) (t : State), (bumpN t a 0x090A00 n).val x y = t.val x y := by
    intro n
    induction n with
    | zero => exact fun _ => rfl
    | succ n ih => exact fun t => (ih _).trans (bump_keeps t a 0x090A00 x y hlt (by decide) latchLoss_rows (.inr hne) ⟨hlost, hsat⟩)
  unfold dropLatchCompare
  dsimp only
  generalize (if now then (s.axis a).latch.fifo else (s.axis a).latch.fifo.filter fun e => !e.intake) = gone
  have hdropped := hbump gone.length (s.setAxis a { s.axis a with
    latch := { fifo := if now then [] else (s.axis a).latch.fifo.filter LatchEntry.intake }
    compare := { (s.axis a).compare with queue := [], published := [] } })
  split <;> split
  · exact hdropped
  · exact (hsay ..).trans hdropped
  · exact (hsay ..).trans hdropped
  · exact (hsay ..).trans ((hsay ..).trans hdropped)

/-- An axis that is not ACTIVE goes to FAULT by dropping what it holds, and no other element moves. -/
theorem axisTo_fault_val {s : State} {a x y : Nat} (hn : NoCluster s a) (hst : s.st a ≠ usActive) (hy : Steady y) (hne : y ≠ 0x090A00) :
    (axisTo true s a usFault).val x y = s.val x y := by
  have hfault : usFault ≠ usActive ∧ usFault ≠ usReady := by decide
  unfold axisTo
  dsimp only
  rw [if_pos hfault, if_pos hfault, if_neg (fun h => hst h.1)]
  exact (setUnit_val _ _ _ _ _ _ (hn.of_plan ((Within.dropLatchCompare ..).trans (.emptyQueue ..)).plan) hy).trans (dropLatchCompare_val true hy hne)

/-- A hit of a network or virtual axis that is READY or DISABLED takes it to FAULT; there is no sleeve to stop safely. -/
theorem hit_axis_contained {s : State} {u b : Nat} {k : UKind} (hk : kindOf u = some k) (ha : k = .netAxis ∨ k = .virtAxis) (hb : b ≤ 2)
    (h : shadowed s u b = false) (hst : s.st u = usReady ∨ s.st u = usDisabled) : hit s u b = axisTo true (recordHit s u b k .contained).1 u usFault := by
  have hrec := recordHit_counted (k := k) (c := .contained) h
  have hkept := recordHit_st (s := s) (u := u) (k := k) (c := .contained) (b := b) (by omega) u
  have hhit : hit s u b = hitAxis s u b := by
    unfold hit
    rw [hk]
    rcases ha with rfl | rfl <;> exact if_pos hb
  rw [hhit, hitAxis, hk, Option.getD_some]
  generalize recordHit s u b k .contained = r at hrec hkept ⊢
  obtain ⟨s1, _⟩ := r
  obtain rfl := (Prod.mk.inj hrec).2
  dsimp only at hkept ⊢
  obtain ⟨hoff, hret, hfault, hactive⟩ : s1.st u ≠ usOff ∧ s1.st u ≠ usRetired ∧ s1.st u ≠ usFault ∧ s1.st u ≠ usActive := by
    rw [hkept]
    rcases hst with h | h <;> rw [h] <;> decide
  unfold axisFault
  rw [if_neg (not_or.mpr ⟨hoff, hret⟩), if_neg hfault]
  simp [remote_of_kind hk ha, hactive]

end Sys2Proof.Machine

namespace Sys2Proof.Proofs
open Sys2Proof.Machine

section
variable {s : State} {u b : Nat} (hs : Serving s) (hq : Calm s) (hu : wfUnit u = true) (hb : b < 256)
include hs hq hu hb

theorem faultHit_next {t : State} (he : detectorHit s u b = t) (ht : Undisturbed s t) : exec (.faultHit u b) s = .next t :=
  runs_settled hs hq (by simp [Instr.wf, hu, hb]) he rfl ht

/-- FAULT_HIT of a corrected source. -/
theorem faultHit_corrected {k : UKind} {n : Nat} (hk : kindOf u = some k) (hc : classOf k b = some (.corrected n)) (hn : n ≠ 0)
    (h : shadowed s u b = false) : Completes (.faultHit u b) s fun t =>
      faultBit t u 0xB00 b = true ∧ Counts s t u n ∧ (∀ x, t.st x = s.st x) ∧ t.axes = s.axes ∧ t.cells = s.cells ∧ t.sleeves = s.sleeves := by
  have hcounter := correctedCounter hb hc hn
  have hsame := (recordHit_same s u b k (.corrected n)).trans (bump_same _ u n)
  obtain ⟨hbit, hst⟩ := correctedHit_keeps hb hcounter h
  exact ⟨_, faultHit_next hs hq hu hb (detectorHit_corrected hk hc hn h) ((Within.recordHit ..).trans (.bump ..)).undisturbed,
    hbit, correctedHit_counts hk hb hcounter, hst, hsame.axes, hsame.cells, hsame.sleeves⟩

/-- FAULT_HIT of a shadowed source. -/
theorem faultHit_shadowed {k : UKind} {c : FClass} (hk : kindOf u = some k) (hc : classOf k b = some c) (hf : c ≠ .fatal) (h : shadowed s u b = true)
    (h3 : isSleeve u = true → 3 ≤ b) : Completes (.faultHit u b) s fun t =>
      faultBit t u 0xB02 b = true ∧ (∀ x, t.st x = s.st x) ∧ t.axes = s.axes ∧ t.cells = s.cells ∧ t.sleeves = s.sleeves := by
  have hsame := recordHit_same s u b k c
  exact ⟨_, faultHit_next hs hq hu hb (detectorHit_shadowed hk hc hf h h3) (Within.recordHit ..).undisturbed, recordHit_shadow hb h hf,
    recordHit_st hb, hsame.axes, hsame.cells, hsame.sleeves⟩

/-- FAULT_HIT of a contained source of a network or virtual axis. -/
theorem faultHit_axis {k : UKind} (hk : kindOf u = some k) (ha : k = .netAxis ∨ k = .virtAxis) (h2 : b ≤ 2) (h : shadowed s u b = false)
    (hst : s.st u = usReady ∨ s.st u = usDisabled) (hn : NoCluster s u) : Completes (.faultHit u b) s fun t =>
      t.st u = usFault ∧ faultBit t u 0xB00 b = true ∧ (t.axis u).traj.queue = [] ∧ (t.axis u).compare.queue = [] := by
  have hdetector : detectorHit s u b = hit s u b := detectorHit_hit fun hsl => by
    have hkind := (kindOf_sleeve hsl).symm.trans hk
    rcases ha with rfl | rfl <;> cases hkind
  have hn' : NoCluster (recordHit s u b k .contained).1 u := hn.of_plan (recordHit_same ..).plan
  have hidle : (recordHit s u b k .contained).1.st u ≠ usActive := by
    rw [recordHit_st hb]
    rcases hst with h | h <;> rw [h] <;> decide
  obtain ⟨hfault, hqueue, -, -, hcompare⟩ := axisTo_off (recordHit s u b k .contained).1 u usFault hn' (by decide) (by decide)
  refine ⟨_, faultHit_next hs hq hu hb (hdetector.trans (hit_axis_contained hk ha h2 h hst)) ((Within.recordHit ..).trans (.axisTo ..)).undisturbed,
    hfault, ?_, hqueue, hcompare⟩
  rw [faultBit_of_val (axisTo_fault_val hn' hidle (by unfold Steady; omega) (by omega)), recordHit_sticky hb h]

/-- FAULT_HIT of a contained source of a cell with no role. -/
theorem faultHit_cell (hk : kindOf u = some .cell) (hc : classOf .cell b = some .contained) (h : shadowed s u b = false) (hoff : s.st u ≠ usOff)
    (hret : s.st u ≠ usRetired) (hrole : (s.cell u).work.role = .none) (hre : s.rehousings = []) (hn : NoCluster s u) :
    Completes (.faultHit u b) s fun t => t.st u = usFault ∧ faultBit t u 0xB00 b = true ∧ (t.cell u).selfTest = false := by
  have hdetector : detectorHit s u b = hit s u b := detectorHit_hit fun hsl => by cases (kindOf_sleeve hsl).symm.trans hk
  exact ⟨_, faultHit_next hs hq hu hb (hdetector.trans (hit_cell_contained h hb hk hc hoff hret hrole hre)) (.cellFaulted ..),
    cellFaulted_faults h hb hn⟩

/-- FAULT_HIT of a trip source of a sleeve. -/
theorem faultHit_trip (hk : kindOf u = some .sleeve) (h2 : b ≤ 2) (hoff : s.st u ≠ usOff) (hbit : bitOf (s.n u 0x044000) b = false)
    (hn : NoCluster s u) : Completes (.faultHit u b) s (Tripped s u b) := by
  have hsl := sleeve_of_kind hk
  have hdetector : detectorHit s u b = tripIn s u b := by
    unfold detectorHit
    rw [hsl, if_neg (by simp), if_pos h2]
  exact ⟨_, faultHit_next hs hq hu hb hdetector (Within.tripIn hsl h2).undisturbed, tripIn_tripped hsl h2 hn hoff hbit⟩

end

/-- Settles O47: a hit of each class, by what it records and what it does to its unit. -/
theorem faultHits : Obligations.FaultHits := by
  intro s u b k hs hq hu hb hk
  refine ⟨fun n hc hn h => faultHit_corrected hs hq hu hb hk hc hn h, fun c hc hf h h3 => faultHit_shadowed hs hq hu hb hk hc hf h h3, ?_,
    fun ha h2 h hst hn _ => faultHit_axis hs hq hu hb hk ha h2 h hst hn, ?_⟩
  · rintro rfl hc h hoff hret hrole hre hn
    exact faultHit_cell hs hq hu hb hk hc h hoff hret hrole hre hn
  · rintro rfl h2 hoff hbit hn
    exact faultHit_trip hs hq hu hb hk h2 hoff hbit hn

end Sys2Proof.Proofs
end

section
/-! SUPPORT. The fault collector's books (12 R275, R280 to R283): the way of a write of the sticky bits, and the ends of quiet periods of a cell, of a
channel of the field die and of a CAN controller. -/

namespace Sys2Proof.Machine

/-! ### The sticky bits (R275) -/

/-- FaultSticky and FaultShadowed. -/
def stickyObjs : List Nat := [0xB00, 0xB02]

set_option maxRecDepth 100000 in
theorem stickyRows_plain : ∀ o ∈ stickyObjs, ∀ k ∈ kAll, (objRowOf k o).all (fun r => !r.jour) = true := by decide +kernel

/-- The row that a write names is that of its object on some kind. -/
theorem Passes.kindRow {s : State} {o : Nat} {w : Write} {row : ObjRow} (hp : Passes s o w row) (ho : o < 0xC000) : ∃ k, objRowOf k o = some row := by
  obtain ⟨k, -, hobj⟩ := hp.names
  unfold objAt at hobj
  rw [if_neg (Nat.not_le.mpr ho)] at hobj
  split at hobj
  · cases hobj
  · exact ⟨k, hobj⟩

/-- A write of the sticky bits clears them at once and is answered, on every unit. -/
theorem directWrite_sticky {s : State} {o : Nat} {w : Write} {row : ObjRow} (ho : o ∈ stickyObjs) (hs : Serving s) (hp : Passes s o w row) :
    directWrite s o w = answerSt (stickyClear s w.unit o w.elem (leNat w.data)) w.origin stOk := by
  obtain ⟨hlow, h010, h144, h301, h787, hb40, hc0a, hc0b⟩ :=
    (by decide : ∀ o ∈ stickyObjs, o < 0x2C00 ∧ o ≠ 0x010 ∧ o ≠ 0x144 ∧ o ≠ 0x301 ∧ o ≠ 0x787 ∧ o ≠ 0xB40 ∧ o ≠ 0xC0A ∧ o ≠ 0xC0B) o ho
  obtain ⟨k, hrow⟩ := hp.kindRow (by omega)
  have hjour : row.jour = false := by simpa [hrow] using stickyRows_plain o ho k (mem_kAll k)
  have hcommon : commonWrite s w.unit o row w = some (withOk (stickyClear s w.unit o w.elem (leNat w.data))) :=
    if_pos (by simpa [stickyObjs] using ho)
  have heffect : writeEffect s w.unit o row w = withOk (stickyClear s w.unit o w.elem (leNat w.data)) := by
    unfold writeEffect
    rw [hcommon]
    rfl
  rw [← replyWith_withOk, ← heffect]
  cases hu : cellServed w.unit with
  | true => exact directWrite_at_cell hs hp hu hjour h301
  | false =>
    have hcommand : journaledCommand s o w = none := by simp [journaledCommand, h010, hb40, h787, Nat.not_le.mpr hlow]
    have ht : journalTxn s w.unit o row w none = none := by simp [journalTxn, hcommand, hjour]
    rw [directWrite_served hs hp (.inl hu), writeServe, takeWrite_at_once ht hp.own hu hc0a hc0b h301, if_neg h144]

/-! ### Quiet periods (R280, R281) -/

/-- A cell leaves FAULT by its self-test, which starts where none runs. -/
theorem quietPeriodEnd_cell {s : State} {u : Nat} (hc : isCell u = true) (hst : s.st u = usFault) (ha : containedActive s u .cell = false)
    (ht : (s.cell u).selfTest = false) : quietPeriodEnd s u = s.setCell u { s.cell u with selfTest := true } := by
  unfold quietPeriodEnd
  rw [kindOf_cell hc]
  simp [hst, ha, ht]

/-- The channel's state is cleared and its recovery counted. -/
def channelCleared (s : State) (c : Nat) : State := bump (s.setN fieldUnit (0x0D4000 + c) 0) fieldUnit (0x0D4100 + c)

set_option maxRecDepth 100000 in
theorem channelChecks : ∀ c < 32, stickCheck .field (0x0D4100 + c) 65535 = true := by decide +kernel

section
variable {s : State} {c : Nat} (hc : c < 32)
include hc

theorem channelQuietEnd_input (hst : s.n fieldUnit (0x0D4000 + c) = 2) (ha : (channelSources c).any (faultBit s fieldUnit 0xB01) = false) :
    ∃ d, channelQuietEnd s c = publish (channelCleared s c) fieldUnit 0x0D01 d := by
  unfold channelQuietEnd
  rw [if_neg (by simp [hst, ha])]
  dsimp only
  rw [if_pos hc]
  exact ⟨_, rfl⟩

theorem channelCleared_state : (channelCleared s c).n fieldUnit (0x0D4000 + c) = 0 := by
  have hstick := StickCounter.of_check (channelChecks c hc)
  exact (n_of_val (hstick.keeps _ fieldUnit (by omega) (by omega) (by omega))).trans (setN_n_self ..)

theorem channelCleared_counts (hv : s.n fieldUnit (0x0D4100 + c) < 65535) :
    (channelCleared s c).n fieldUnit (0x0D4100 + c) = s.n fieldUnit (0x0D4100 + c) + 1 := by
  have hkept : (s.setN fieldUnit (0x0D4000 + c) 0).n fieldUnit (0x0D4100 + c) = s.n fieldUnit (0x0D4100 + c) :=
    setV_n_ne _ _ (by rw [Ne, keyOf_inj (by omega) (by omega)]; omega)
  rw [← hkept] at hv ⊢
  exact (StickCounter.of_check (channelChecks c hc)).counts kindOf_fieldUnit hv

end

/-- RecoveryCount of a CAN controller is a 16-bit stick counter. -/
theorem recoveryCheck_can : stickCheck .can 0x0B0300 65535 = true := by decide +kernel

theorem can_of_kind {u : Nat} (hk : kindOf u = some .can) : 0x500 ≤ u ∧ u ≤ 0x501 := by
  unfold kindOf at hk
  repeat' split at hk
  all_goals cases hk
  assumption

theorem Within.noteRecovery (s : State) (u : Nat) : Within s (noteRecovery s u) := (Within.setFault ..).trans (.bump ..)

/-- A CAN controller that has left FAULT, before its recovery goes to the journal. -/
def canRecovered (s : State) (u : Nat) : State :=
  let s1 := setUnit true (noteRecovery s u) u usReady
  publish s1 u 0x0B02 (leBytes 2 (s1.n u 0x0B0300))

theorem Within.canRecovered (s : State) (u : Nat) : Within s (canRecovered s u) := ((Within.noteRecovery ..).trans (.setUnit ..)).trans (.publish ..)

section
variable {s : State} {u : Nat} (hk : kindOf u = some .can)
include hk

/-- Where no threshold retires it, a CAN controller leaves FAULT to READY at the end of its quiet period. -/
theorem quietPeriodEnd_can (hst : s.st u = usFault) (ha : containedActive s u .can = false) (ht : retireThreshold s u = 0) :
    quietPeriodEnd s u = journal (canRecovered s u) (recoveryRecords (canRecovered s u) u) .none := by
  obtain ⟨h1, h2⟩ := can_of_kind hk
  have hcluster : isCluster u = false := by simp only [isCluster, decide_eq_false_iff_not]; omega
  have haxis : isAxis u = false := not_axis_of_kind hk (by decide)
  have hsleeve : isSleeve u = false := by simp only [isSleeve, decide_eq_false_iff_not]; omega
  have hcell : isCell u = false := by simp only [isCell, decide_eq_false_iff_not]; omega
  have hfield : u ≠ fieldUnit := by unfold fieldUnit; omega
  have hrecover : quietPeriodEnd s u = recover s u := by
    unfold quietPeriodEnd
    rw [hk]
    simp [hst, ha]
  have hleaves : recover s u = recoverTo s u := by
    unfold recover
    simp [ht, hsleeve]
  rw [hrecover, hleaves]
  unfold recoverTo
  simp only [hcluster, haxis, hsleeve, hcell, hfield, Bool.false_eq_true, if_false, false_and]
  rfl

omit hk in
theorem canRecovered_st (hn : NoCluster s u) : (canRecovered s u).st u = usReady :=
  (n_of_val (publish_keeps _ _ _ _ _ _ (by decide) (.inr (by decide)))).trans
    (setUnit_st _ _ _ _ (hn.of_plan (Within.noteRecovery s u).plan))

theorem canRecovered_counts (hn : NoCluster s u) (hv : s.n u 0x0B0300 < 65535) : (canRecovered s u).n u 0x0B0300 = s.n u 0x0B0300 + 1 := by
  have hunit := setUnit_val true (noteRecovery s u) u usReady u 0x0B0300 (hn.of_plan (Within.noteRecovery s u).plan) (by unfold Steady; decide)
  have hpublished := publish_keeps (setUnit true (noteRecovery s u) u usReady) u 0x0B02
    (leBytes 2 ((setUnit true (noteRecovery s u) u usReady).n u 0x0B0300)) u 0x0B0300 (by decide) (.inr (by decide))
  exact (n_of_val (hpublished.trans hunit)).trans ((StickCounter.of_check recoveryCheck_can).counts hk hv)

end

/-! ### RetireRelease (R283) -/

/-- The transaction of a RetireRelease. -/
theorem journalTxn_retireRelease (s : State) (row : ObjRow) (w : Write) (port : Option Nat) :
    journalTxn s 0 0xB40 row w port = some ([itemRecord 3 (leBytes 2 (leNat w.data) ++ [0])], .release (leNat w.data) w.origin) := rfl

end Sys2Proof.Machine

namespace Sys2Proof.Proofs
open Sys2Proof.Machine

section
variable {s : State} (hs : Serving s) (hq : Calm s)
include hs hq

/-- FAULT_STICKY_CLEAR. -/
theorem faultStickyClear_clears {sh : Bool} {w : Write} {row : ObjRow} (hp : Passes s (if sh then 0xB02 else 0xB00) w row) (he : w.elem < 8) :
    exec (.faultStickyClear sh w) s
      = .next (answerSt (stickyClear s w.unit (if sh then 0xB02 else 0xB00) w.elem (leNat w.data)) w.origin stOk) := by
  have ho : (if sh then 0xB02 else 0xB00) ∈ stickyObjs := by cases sh <;> decide
  exact settled_next hq (by simp [Instr.wf, hp.wf, he]) (directWrite_sticky ho hs hp) rfl ((Within.setV ..).trans (.answerSt ..)).undisturbed

theorem quietPeriodEnd_next {u : Nat} {t : State} (hu : wfUnit u = true) (he : quietPeriodEnd s u = t) (ht : Undisturbed s t) :
    exec (.quietPeriodEnd u none) s = .next t :=
  runs_settled hs hq (by simp [Instr.wf, hu]) he rfl ht

/-- QUIET_PERIOD_END of a channel of an input. -/
theorem quietPeriodEnd_channel {c : Nat} (hc : c < 32) (hst : s.n fieldUnit (0x0D4000 + c) = 2)
    (ha : (channelSources c).any (faultBit s fieldUnit 0xB01) = false) : Completes (.quietPeriodEnd fieldUnit (some c)) s fun t =>
      t.n fieldUnit (0x0D4000 + c) = 0
        ∧ (s.n fieldUnit (0x0D4100 + c) < 65535 → t.n fieldUnit (0x0D4100 + c) = s.n fieldUnit (0x0D4100 + c) + 1) := by
  obtain ⟨d, hend⟩ := channelQuietEnd_input hc hst ha
  have hpublished : ∀ y, 0x0D4000 ≤ y → y < 0x0D4200 → (publish (channelCleared s c) fieldUnit 0x0D01 d).n fieldUnit y = (channelCleared s c).n fieldUnit y :=
    fun y h1 h2 => n_of_val (publish_keeps _ _ _ _ _ _ (by omega) (.inr (by omega)))
  have hw : Within s (publish (channelCleared s c) fieldUnit 0x0D01 d) := ((Within.setV ..).trans (.bump ..)).trans (.publish ..)
  have hwf : (Instr.quietPeriodEnd fieldUnit (some c)).wf = true := by
    show (wfUnit 0x700 && ((0x700 : Nat) == 0x700 && decide (c < 52))) = true
    rw [decide_eq_true (by omega : c < 52)]
    decide
  refine ⟨_, runs_settled hs hq hwf hend rfl hw.undisturbed, ?_, fun hv => ?_⟩
  · rw [hpublished _ (by omega) (by omega), channelCleared_state hc]
  · rw [hpublished _ (by omega) (by omega), channelCleared_counts hc hv]

/-- QUIET_PERIOD_END of a CAN controller. -/
theorem quietPeriodEnd_recovers {u : Nat} (hu : wfUnit u = true) (hk : kindOf u = some .can) (hst : s.st u = usFault)
    (ha : containedActive s u .can = false) (ht : retireThreshold s u = 0) (hn : NoCluster s u) : Completes (.quietPeriodEnd u none) s fun t =>
      t.st u = usReady ∧ (s.n u 0x0B0300 < 65535 → t.n u 0x0B0300 = s.n u 0x0B0300 + 1) ∧ ∃ r, t.journal.queue = s.journal.queue ++ [⟨r, .none⟩] := by
  obtain ⟨hcalm, hrst, hpending⟩ := (Within.canRecovered s u).undisturbed
  refine ⟨_, quietPeriodEnd_next hs hq hu (quietPeriodEnd_can hk hst ha ht) ⟨hcalm, hrst, hpending⟩, canRecovered_st hn,
    fun hv => canRecovered_counts hk hn hv, recoveryRecords (canRecovered s u) u, ?_⟩
  rw [journal_queue, (Within.canRecovered s u).journal]

/-- RETIRE_RELEASE. -/
theorem retireRelease_journals {w : Write} {row : ObjRow} (hu : w.unit = 0) (hp : Passes s 0xB40 w row)
    (hf : journalFull s [itemRecord 3 (leBytes 2 (leNat w.data) ++ [0])] = false) : exec (.retireRelease w) s
      = .next (journal s [itemRecord 3 (leBytes 2 (leNat w.data) ++ [0])] (.release (leNat w.data) w.origin)) := by
  have ht := journalTxn_retireRelease s row w none
  rw [← hu] at ht
  have hwrite := directWrite_journaled hs hp (.inl (by rw [hu]; rfl)) (by decide) ht hf
  exact settled_next hq hp.wf hwrite rfl ⟨.refl _, rfl, rfl⟩

end

/-- Settles O48: the end of a source, the write of the sticky bits, three ends of quiet periods, and the two records. -/
theorem faultBooks : Obligations.FaultBooks := by
  intro s u b hs hq hu hb
  refine ⟨?_, putFaultBit_faultBit .., fun sh w row hwu hp he => ?_, fun hc hst ha ht => ?_, ?_,
    fun hk hst ha ht hn => quietPeriodEnd_recovers hs hq hu hk hst ha ht hn, fun w row hwu hp hf => retireRelease_journals hs hq hwu hp hf, ?_⟩
  · exact runs_settled hs hq (by simp [Instr.wf, hu, hb]) rfl rfl (Within.putFaultBit ..).undisturbed
  · subst hwu
    exact ⟨_, faultStickyClear_clears hs hq hp he, (answerSt_n ..).trans (stickyClear_n ..)⟩
  · exact quietPeriodEnd_next hs hq hu (quietPeriodEnd_cell hc hst ha ht) (.setCell ..)
  · rintro c rfl hc hst ha
    exact quietPeriodEnd_channel hs hq hc hst ha
  · exact settled_next hq rfl (whenKeeper_of hs) rfl ⟨.refl _, rfl, rfl⟩

end Sys2Proof.Proofs
end

section
/-! SUPPORT. The queue of commands, and the state after the first power-up (00 R7, R8; 17 R373, R380, R381; log entries 1 and 10). -/

namespace Sys2Proof.Machine

/-- Every meaning ends in an outcome that puts back the queue it was given. -/
theorem exec_puts_back (i : Instr) (s : State) : ∃ t : State, exec i s = .next { t with pending := s.pending } := by
  cases i <;> exact ⟨_, rfl⟩

theorem exec_pending {i : Instr} {s t : State} (h : exec i s = .next t) : t.pending = s.pending := by
  obtain ⟨t', ht⟩ := exec_puts_back i s
  rw [ht] at h
  cases h
  rfl

/-- One kind of message, sent by each of its ports where its interval ends, leaves the queue. -/
theorem pending_of_sent {send : State → Nat → State} (hsend : ∀ t p, (send t p).pending = t.pending) (count : TimeS → TimeS) (due : Bool)
    (ports : List Nat) (s : State) : (if due then modTime (ports.foldl send s) count else s).pending = s.pending := by
  split
  · exact foldl_keeps State.pending send ports s hsend
  · rfl

theorem sendSync_pending (s : State) (p : Nat) : (sendSync s p).pending = s.pending := by
  unfold sendSync
  dsimp only
  split <;> rfl

theorem ptpDue_pending (s : State) (a b : Nat) : (ptpDue s a b).pending = s.pending :=
  calc (ptpDue s a b).pending
    _ = _ := pending_of_sent (send := sendDelayReq) (fun _ _ => rfl) ..
    _ = _ := pending_of_sent (send := sendAnnounce) (fun _ _ => rfl) ..
    _ = s.pending := pending_of_sent sendSync_pending ..

theorem keepPast_pending (s : State) : (keepPast s).pending = s.pending := by
  unfold keepPast
  split <;> rfl

theorem idleCycle_pending (s : State) : (idleCycle s).pending = s.pending := by
  unfold idleCycle
  dsimp only
  rw [keepPast_pending]
  split
  · exact ptpDue_pending ..
  · rfl

theorem step_tail {s t : State} (h : step s = .next t) : t.pending = s.pending.tail := by
  cases hp : s.pending with
  | nil =>
    rw [step_idle hp] at h
    cases h
    rw [idleCycle_pending, hp, List.tail_nil]
  | cons c rest =>
    unfold step at h
    rw [hp] at h
    exact exec_pending h

/-! ### The first power-up -/

/-- A map of two entries reads as its default everywhere else. -/
theorem mapGet_pair_ne {α : Type} (d x y : α) {a b k : Nat} (ha : k ≠ a) (hb : k ≠ b) : mapGet d [(a, x), (b, y)] k = d := by
  simp [mapGet, mapFind, Ne.symm ha, Ne.symm hb]

end Sys2Proof.Machine

namespace Sys2Proof.Proofs
open Sys2Proof.Machine

/-- Settles O1: by the definition of a step. -/
theorem stepRunsFront : Obligations.StepRunsFront := fun _ _ _ => rfl

/-- Settles O3: a step takes the front off its queue, and what is left of a queue of well-formed commands is well formed. -/
theorem queueInvariant : Obligations.QueueInvariant := by
  intro s t hwf hstep
  have htail := step_tail hstep
  refine ⟨?_, htail⟩
  unfold QueueWf at *
  rw [htail]
  exact List.all_eq_true.mpr fun c hc => List.all_eq_true.mp hwf c (List.mem_of_mem_tail hc)

set_option maxRecDepth 100000 in
/-- Settles O4: ResetCount and LastResetCause are the only entries of the dictionary. -/
theorem resetState : Obligations.ResetState := by
  refine ⟨rfl, rfl, ⟨rfl, rfl, ?_, ?_, ?_⟩, ⟨rfl, rfl⟩, ⟨rfl, rfl, rfl, rfl⟩, fun u k h1 h2 => ?_⟩
  · decide +kernel
  · decide +kernel
  · decide +kernel
  · exact mapGet_pair_ne _ _ _ h1 h2

end Sys2Proof.Proofs
end

section
/-! SUPPORT. Channels of the field die (14 R325, R329 to R333): a limit event, the FAULT of a switch's channel, and the faults that turn everything off. -/

namespace Sys2Proof.Machine

/-! ### Reading beside a write -/

theorem setN_n_ne (s : State) {u c x y : Nat} (n : Nat) (hc : c < 2 ^ 24) (hy : y < 2 ^ 24) (h : x ≠ u ∨ y ≠ c) : (s.setN u c n).n x y = s.n x y :=
  setV_n_ne _ _ (by intro he; rw [keyOf_inj hc hy] at he; omega)

theorem setSwitch_n (s : State) (c : Nat) (x : SwitchS) (u k : Nat) : (setSwitch s c x).n u k = s.n u k := n_of_val (val_of_dict (setSwitch_dict ..))

theorem DieOnly.undisturbed {s t : State} (h : DieOnly s t) : Undisturbed s t := by
  obtain ⟨d, f, rfl⟩ := h
  exact ⟨.refl _, rfl, rfl⟩

/-! ### The FAULT of a switch's channel (R333) -/

/-- The command bit of a switch in the dictionary: OutputCommand, or SupplyCommand. -/
def commandBit (s : State) (c : Nat) : Bool :=
  if c < 48 then bitOf (s.n fieldUnit 0x0D2000) (c - 32) else bitOf (s.n fieldUnit 0x0D3000) (c - 48)

theorem clearCommandBit_clears (s : State) (c : Nat) : commandBit (clearCommandBit s c) c = false := by
  unfold commandBit clearCommandBit
  split
  · rw [setN_n_self, bitOf_clrBit]
  · rw [setN_n_self, bitOf_clrBit]

theorem clearCommandBit_n (s : State) (c : Nat) {y : Nat} (hy : y < 2 ^ 24) (h : y ≠ 0x0D2000 ∧ y ≠ 0x0D3000) :
    (clearCommandBit s c).n fieldUnit y = s.n fieldUnit y := by
  unfold clearCommandBit
  split
  · exact setN_n_ne _ _ (by decide) hy (.inr h.1)
  · exact setN_n_ne _ _ (by decide) hy (.inr h.2)

theorem clearCommandBit_field (s : State) (c : Nat) : (clearCommandBit s c).field = s.field := by
  unfold clearCommandBit
  split <;> rfl

theorem DieOnly.clearCommandBit (s : State) (c : Nat) : DieOnly s (clearCommandBit s c) := by
  unfold Machine.clearCommandBit
  split
  · exact .setV ..
  · exact .setV ..

/-- The channel of a switch is in FAULT: the switch is off and is commanded no more; the unit goes on. -/
structure SwitchFaulted (s t : State) (c : Nat) : Prop where
  undisturbed : Undisturbed s t
  channel : t.n fieldUnit (0x0D4000 + c) = 2
  switch : switchOf t c = {}
  command : commandBit t c = false
  unit : t.st fieldUnit = s.st fieldUnit

theorem hitChannel_switch {s : State} {c : Nat} (h : 32 ≤ c) :
    hitChannel s c = clearCommandBit (setSwitch (s.setN fieldUnit (0x0D4000 + c) 2) c {}) c := if_neg (by omega)

theorem hitChannel_faults (s : State) {c : Nat} (hc : 32 ≤ c ∧ c < 52) : SwitchFaulted s (hitChannel s c) c := by
  obtain ⟨hlo, hhi⟩ := hc
  rw [hitChannel_switch hlo]
  refine ⟨(((DieOnly.setV ..).trans (.setSwitch ..)).trans (.clearCommandBit ..)).undisturbed, ?_, ?_, clearCommandBit_clears .., ?_⟩
  · rw [clearCommandBit_n _ _ (by omega) (by omega), setSwitch_n, setN_n_self]
  · rw [switchOf_of_field (clearCommandBit_field ..), setSwitch_switchOf _ _ hlo hlo, if_pos rfl]
  · show (clearCommandBit _ c).n fieldUnit 0x030000 = s.n fieldUnit 0x030000
    rw [clearCommandBit_n _ _ (by decide) (by decide), setSwitch_n, setN_n_ne _ _ (by omega) (by decide) (by omega)]

/-- A hit of a channel's source that counts is recorded, and the channel is in FAULT. -/
theorem hit_channel {s : State} {b c : Nat} (hc : classOf .field b = some (.channel c)) (h : shadowed s fieldUnit b = false) :
    hit s fieldUnit b = hitChannel (recordHit s fieldUnit b .field (.channel c)).1 c := by
  unfold hit
  rw [kindOf_fieldUnit]
  simp only [hc]
  rw [recordHit_counted h]

theorem hit_switch {s : State} {b c : Nat} (hb : b < 256) (hc : classOf .field b = some (.channel c)) (hr : 32 ≤ c ∧ c < 52)
    (h : shadowed s fieldUnit b = false) : SwitchFaulted s (hit s fieldUnit b) c := by
  rw [hit_channel hc h]
  obtain ⟨hu, hchannel, hswitch, hcommand, hunit⟩ := hitChannel_faults (recordHit s fieldUnit b .field (.channel c)).1 hr
  exact ⟨(Within.recordHit ..).undisturbed.trans hu, hchannel, hswitch, hcommand, hunit.trans (recordHit_st hb _)⟩

/-- ChannelState of an output counts from 0x20, of a supply from 0x30 (Table 14-1). -/
theorem channel_output (t : State) (o : Nat) : t.n fieldUnit (0x0D4020 + o) = t.n fieldUnit (0x0D4000 + (32 + o)) := by rw [← Nat.add_assoc]
theorem channel_supply (t : State) (k : Nat) : t.n fieldUnit (0x0D4030 + k) = t.n fieldUnit (0x0D4000 + (48 + k)) := by rw [← Nat.add_assoc]

/-! ### Limit events (R330) -/

/-- The switch that is off after its first limit event. -/
def limited (s : State) (c : Nat) : State := setSwitch s c { switchOf s c with on := false, events := 1 }

/-- Its limit event counted. -/
def limitCounted (s : State) (ch : FieldSwitch) : State :=
  match ch with
  | .output o => hit (limited s (32 + o)) fieldUnit (36 + o)
  | .supply k => bump (limited s (48 + k)) fieldUnit (0x0D2700 + limitElem (48 + k))

/-- The source of a switch's overload. -/
def overloadBit : FieldSwitch → Nat
  | .output o => 52 + o
  | .supply k => 100 + k

/-- A retry of switch c is due. -/
def retryDue (s : State) (c : Nat) : State := (setSwitch s c { switchOf s c with retry := true }).setN fieldUnit (0x0D4000 + c) 1

theorem limitEvent_first {s : State} {ch : FieldSwitch} (hp : s.field.powered = true) (hon : (switchOf s (switchElem ch)).on = true)
    (hl : (switchOf s (switchElem ch)).lastRetry = none) : limitEvent s ch =
      if s.n fieldUnit 0x0D2900 ≤ 1 then hit (limitCounted s ch) fieldUnit (overloadBit ch) else retryDue (limitCounted s ch) (switchElem ch) := by
  unfold limitEvent limitCounted limited retryDue
  cases ch <;>
  · dsimp only [switchElem] at *
    generalize switchOf s _ = x at *
    obtain ⟨on, retry, events, last⟩ := x
    dsimp only at hon hl
    subst hon hl
    simp only [hp, Bool.not_true, Bool.false_eq_true, or_self, if_false]
    rfl

theorem limitEvent_of_off {s : State} {ch : FieldSwitch} (h : (switchOf s (switchElem ch)).on = false) : limitEvent s ch = s :=
  if_pos (.inr (by rw [h]; rfl))

/-- Counting an event of the die leaves the switches. -/
structure LimitCounted (s t : State) (c : Nat) : Prop where
  within : Within (limited s c) t
  switch : switchOf t c = { switchOf s c with on := false, events := 1 }

theorem LimitCounted.of_within {s t : State} {c : Nat} (hc : 32 ≤ c) (h : Within (limited s c) t) : LimitCounted s t c :=
  ⟨h, by rw [switchOf_of_field h.field, limited, setSwitch_switchOf _ _ hc hc, if_pos rfl]⟩

theorem LimitCounted.undisturbed {s t : State} {c : Nat} (h : LimitCounted s t c) : Undisturbed s t :=
  (DieOnly.setSwitch ..).undisturbed.trans h.within.undisturbed

theorem retryDue_undisturbed (s : State) (c : Nat) : Undisturbed s (retryDue s c) := ((DieOnly.setSwitch ..).trans (.setV ..)).undisturbed

theorem retryDue_switch (s : State) {c : Nat} (hc : 32 ≤ c) : switchOf (retryDue s c) c = { switchOf s c with retry := true } := by
  rw [retryDue, setN_eq, switchOf_of_field (setV_field ..), setSwitch_switchOf _ _ hc hc, if_pos rfl]

theorem retryDue_channel (s : State) (c : Nat) : (retryDue s c).n fieldUnit (0x0D4000 + c) = 1 := setN_n_self ..

theorem retryDue_n (s : State) {c y : Nat} (hc : c < 52) (hy : y < 0x0D4000) : (retryDue s c).n fieldUnit y = s.n fieldUnit y := by
  rw [retryDue, setN_n_ne _ _ (by omega) (by omega) (by omega), setSwitch_n]

theorem limited_n (s : State) (c u k : Nat) : (limited s c).n u k = s.n u k := setSwitch_n ..

theorem limited_shadowed (s : State) (c u b : Nat) : shadowed (limited s c) u b = shadowed s u b := by
  refine shadowed_of ?_ ?_ u b <;> unfold limited setSwitch <;> split <;> rfl

theorem classOf_limit {o : Nat} (ho : o < 16) : classOf .field (36 + o) = some (.corrected (0x0D2700 + o)) := by
  have hall : ∀ o < 16, classOf .field (36 + o) = some (.corrected (0x0D2700 + o)) := by decide
  exact hall o ho

section
variable {s : State} {o : Nat} (ho : o < 16) (h : shadowed s fieldUnit (36 + o) = false)
include ho h

theorem limitCounted_output : limitCounted s (.output o)
    = bump (recordHit (limited s (32 + o)) fieldUnit (36 + o) .field (.corrected (0x0D2700 + o))).1 fieldUnit (0x0D2700 + o) :=
  hit_field_corrected (classOf_limit ho) (by omega) (by rw [limited_shadowed, h])

theorem limitCounted_output_counted : LimitCounted s (limitCounted s (.output o)) (32 + o) := by
  rw [limitCounted_output ho h]
  exact .of_within (by omega) ((Within.recordHit ..).trans (.bump ..))

theorem limitCounted_output_counts : Counts s (limitCounted s (.output o)) fieldUnit (0x0D2700 + o) := by
  rw [limitCounted_output ho h]
  exact (correctedHit_counts kindOf_fieldUnit (by omega) (correctedCounter (by omega) (classOf_limit ho) (by omega))).of_n (limited_n ..) rfl

theorem limitCounted_output_shadowed {b : Nat} (hb : shadowed s fieldUnit b = false) : shadowed (limitCounted s (.output o)) fieldUnit b = false := by
  have hsame : ∀ t n, SameButEvents t (bump (recordHit t fieldUnit (36 + o) .field (.corrected n)).1 fieldUnit n) := fun t n =>
    (recordHit_same ..).trans (bump_same ..)
  rw [limitCounted_output ho h, shadowed_of (hsame _ _).faults (hsame _ _).time, limited_shadowed, hb]

end

set_option maxRecDepth 100000 in
theorem supplyLimitChecks : ∀ k < 4, stickCheck .field (0x0D2710 + k) (2 ^ 32 - 1) = true := by decide +kernel

theorem limitCounted_supply (s : State) (k : Nat) : limitCounted s (.supply k) = bump (limited s (48 + k)) fieldUnit (0x0D2710 + k) := by
  have hkey : 0x0D2700 + limitElem (48 + k) = 0x0D2710 + k := by
    unfold limitElem
    omega
  rw [limitCounted, hkey]

theorem limitCounted_supply_counted (s : State) (k : Nat) : LimitCounted s (limitCounted s (.supply k)) (48 + k) := by
  rw [limitCounted_supply]
  exact .of_within (by omega) (.bump ..)

theorem limitCounted_supply_counts (s : State) {k : Nat} (hk : k < 4) : Counts s (limitCounted s (.supply k)) fieldUnit (0x0D2710 + k) := by
  rw [limitCounted_supply]
  exact Counts.of_n (fun hv => (StickCounter.of_check (supplyLimitChecks k hk)).counts kindOf_fieldUnit hv) (limited_n ..) rfl

/-- The source of a switch's overheating (R329, R331). -/
def overheatBit : FieldSwitch → Nat
  | .output o => 68 + o
  | .supply k => 104 + k

theorem classOf_overheat {ch : FieldSwitch} (hw : wfSwitch ch = true) : overheatBit ch < 256
    ∧ classOf .field (overheatBit ch) = some (.channel (switchElem ch)) ∧ 32 ≤ switchElem ch ∧ switchElem ch < 52 := by
  have houtput : ∀ o < 16, classOf .field (68 + o) = some (.channel (32 + o)) := by decide
  have hsupply : ∀ k < 4, classOf .field (104 + k) = some (.channel (48 + k)) := by decide
  unfold overheatBit switchElem
  cases ch with
  | output o =>
    have ho : o < 16 := of_decide_eq_true hw
    exact ⟨by dsimp only; omega, houtput o ho, by dsimp only; omega, by dsimp only; omega⟩
  | supply k =>
    have hk : k < 4 := of_decide_eq_true hw
    exact ⟨by dsimp only; omega, hsupply k hk, by dsimp only; omega, by dsimp only; omega⟩

/-! ### Retries (R330) -/

theorem outputRetry_retries {s : State} {ch : FieldSwitch} (hp : s.field.powered = true) (hr : (switchOf s (switchElem ch)).retry = true) :
    outputRetry s ch = setSwitch (s.setN fieldUnit (0x0D4000 + switchElem ch) 0) (switchElem ch)
      (if commanded s (switchElem ch) then { switchOf s (switchElem ch) with on := true, retry := false, lastRetry := some s.time.uptime }
       else { switchOf s (switchElem ch) with retry := false }) := by
  unfold outputRetry
  simp only [hp, hr, Bool.not_true, Bool.false_eq_true, or_self, if_false]
  split <;> rfl

/-! ### Faults that turn everything off (R325) -/

/-- VFIELD_LOW and DIE_OVERTEMP take the unit to FAULT with every switch off. -/
theorem hit_dieOff {s : State} {b : Nat} (hb : b = 2 ∨ b = 3) (h : shadowed s fieldUnit b = false) (h1 : s.st fieldUnit ≠ usOff)
    (h2 : s.st fieldUnit ≠ usRetired) :
    hit s fieldUnit b = setUnit true (switchesOff (recordHit s fieldUnit b .field .contained).1) fieldUnit usFault := by
  have hst : (recordHit s fieldUnit b .field .contained).1.st fieldUnit = s.st fieldUnit := recordHit_st (by omega) _
  have hclass : classOf .field b = some .contained := by rcases hb with rfl | rfl <;> rfl
  unfold hit
  rw [kindOf_fieldUnit]
  simp only [hclass]
  rw [recordHit_counted h]
  dsimp only
  rw [if_neg (by rw [hst]; exact not_or.mpr ⟨h1, h2⟩)]
  have hb0 : b ≠ 0 := by omega
  simp [hb0]

theorem hit_dieOff_faults {s : State} {b : Nat} (hn : NoCluster s fieldUnit) (hb : b = 2 ∨ b = 3) (h : shadowed s fieldUnit b = false)
    (h1 : s.st fieldUnit ≠ usOff) (h2 : s.st fieldUnit ≠ usRetired) : Undisturbed s (hit s fieldUnit b)
      ∧ (hit s fieldUnit b).st fieldUnit = usFault ∧ (hit s fieldUnit b).field = { s.field with outputs := [], supplies := [] } := by
  have hw := Within.recordHit s fieldUnit b .field .contained
  have hfield : (recordHit s fieldUnit b .field .contained).1.field = s.field := hw.field
  have hoff : DieOnly (recordHit s fieldUnit b .field .contained).1 (switchesOff (recordHit s fieldUnit b .field .contained).1) := ⟨_, _, rfl⟩
  rw [hit_dieOff hb h h1 h2]
  refine ⟨(hw.undisturbed.trans hoff.undisturbed).trans (Within.setUnit ..).undisturbed, setUnit_st _ _ _ _ (hn.of_plan hw.plan), ?_⟩
  rw [(Within.setUnit ..).field, switchesOff, hfield]

end Sys2Proof.Machine

namespace Sys2Proof.Proofs
open Sys2Proof.Machine

section
variable {s : State} (hs : Serving s) (hq : Calm s) (hp : s.field.powered = true)
include hs hq hp

/-- A first limit event below RetryLimit: the switch is off, and its retry is due. -/
theorem currentLimit_retries {ch : FieldSwitch} (hw : wfSwitch ch = true) (hc : LimitCounted s (limitCounted s ch) (switchElem ch))
    (hon : (switchOf s (switchElem ch)).on = true) (hl : (switchOf s (switchElem ch)).lastRetry = none) (hn : 1 < s.n fieldUnit 0x0D2900) :
    exec (.currentLimitTimeout ch) s = .next (retryDue (limitCounted s ch) (switchElem ch)) :=
  runs_settled hs hq hw ((limitEvent_first hp hon hl).trans (if_neg (by omega))) rfl (hc.undisturbed.trans (retryDue_undisturbed ..))

theorem currentLimit_output_retries {o : Nat} (ho : o < 16) (hon : (switchOf s (32 + o)).on = true) (hl : (switchOf s (32 + o)).lastRetry = none)
    (h : shadowed s fieldUnit (36 + o) = false) (hn : 1 < s.n fieldUnit 0x0D2900) : Completes (.currentLimitTimeout (.output o)) s fun t =>
      switchOf t (32 + o) = { switchOf s (32 + o) with on := false, retry := true, events := 1 } ∧ t.n fieldUnit (0x0D4020 + o) = 1
        ∧ Counts s t fieldUnit (0x0D2700 + o) := by
  have hcounted := limitCounted_output_counted ho h
  refine ⟨_, currentLimit_retries hs hq hp (decide_eq_true ho) hcounted hon hl hn, ?_, ?_, ?_⟩
  · exact (retryDue_switch _ (by show 32 ≤ 32 + o; omega)).trans (by rw [show switchElem (.output o) = 32 + o from rfl, hcounted.switch])
  · exact (congrArg _ (by show 0x0D4020 + o = 0x0D4000 + (32 + o); omega)).trans (retryDue_channel _ (32 + o))
  · exact (limitCounted_output_counts ho h).of_n rfl (retryDue_n _ (by show 32 + o < 52; omega) (by omega))

theorem currentLimit_output_overloads {o : Nat} (ho : o < 16) (hon : (switchOf s (32 + o)).on = true) (hl : (switchOf s (32 + o)).lastRetry = none)
    (h : shadowed s fieldUnit (36 + o) = false) (hn : s.n fieldUnit 0x0D2900 ≤ 1) (h' : shadowed s fieldUnit (52 + o) = false) :
    ∃ t, exec (.currentLimitTimeout (.output o)) s = .next t ∧ SwitchFaulted (limitCounted s (.output o)) t (32 + o) := by
  have hclass : ∀ o < 16, classOf .field (52 + o) = some (.channel (32 + o)) := by decide
  have hfaulted := hit_switch (by omega) (hclass o ho) (by omega) (limitCounted_output_shadowed ho h h')
  exact ⟨_, runs_settled hs hq (decide_eq_true ho) ((limitEvent_first (ch := .output o) hp hon hl).trans (if_pos hn)) rfl
    ((limitCounted_output_counted ho h).undisturbed.trans hfaulted.undisturbed), hfaulted⟩

theorem currentLimit_supply_retries {k : Nat} (hk : k < 4) (hon : (switchOf s (48 + k)).on = true) (hl : (switchOf s (48 + k)).lastRetry = none)
    (hn : 1 < s.n fieldUnit 0x0D2900) : Completes (.currentLimitTimeout (.supply k)) s fun t => (switchOf t (48 + k)).on = false
      ∧ (switchOf t (48 + k)).retry = true ∧ t.n fieldUnit (0x0D4030 + k) = 1 ∧ Counts s t fieldUnit (0x0D2710 + k) := by
  have hcounted := limitCounted_supply_counted s k
  have hswitch := retryDue_switch (limitCounted s (.supply k)) (c := 48 + k) (by omega)
  rw [hcounted.switch] at hswitch
  refine ⟨_, currentLimit_retries hs hq hp (decide_eq_true hk) hcounted hon hl hn, congrArg SwitchS.on hswitch, congrArg SwitchS.retry hswitch, ?_, ?_⟩
  · exact (congrArg _ (by show 0x0D4030 + k = 0x0D4000 + (48 + k); omega)).trans (retryDue_channel _ (48 + k))
  · exact (limitCounted_supply_counts s hk).of_n rfl (retryDue_n _ (by show 48 + k < 52; omega) (by omega))

omit hp in
/-- A switch that is off has no limit to stand in. -/
theorem currentLimit_of_off {o : Nat} (ho : o < 16) (h : (switchOf s (32 + o)).on = false) : exec (.currentLimitTimeout (.output o)) s = .next s :=
  runs_settled hs hq (decide_eq_true ho) (limitEvent_of_off (ch := .output o) h) rfl (.refl s)

omit hs in
theorem outputRetry_completes {o : Nat} (ho : o < 16) (hr : (switchOf s (32 + o)).retry = true) : Completes (.outputRetry (.output o)) s fun t =>
    t.n fieldUnit (0x0D4020 + o) = 0 ∧ (switchOf t (32 + o)).retry = false
      ∧ (commanded s (32 + o) = true → (switchOf t (32 + o)).on = true ∧ (switchOf t (32 + o)).lastRetry = some s.time.uptime)
      ∧ (commanded s (32 + o) = false → (switchOf t (32 + o)).on = (switchOf s (32 + o)).on) := by
  have hc : 32 ≤ switchElem (.output o) := Nat.le_add_right 32 o
  refine ⟨_, settled_next hq (decide_eq_true ho) (outputRetry_retries (ch := .output o) hp hr) rfl
    ((DieOnly.setV ..).trans (.setSwitch ..)).undisturbed, ?_⟩
  generalize hx : (if commanded s (switchElem (.output o)) then _ else _ : SwitchS) = x
  have hswitch : switchOf (setSwitch (s.setN fieldUnit (0x0D4000 + switchElem (.output o)) 0) (switchElem (.output o)) x) (32 + o) = x :=
    (setSwitch_switchOf _ _ hc hc).trans (if_pos rfl)
  refine ⟨?_, ?_⟩
  · exact (channel_output _ o).trans ((setSwitch_n ..).trans (setN_n_self ..))
  · rw [hswitch, ← hx]
    change _ ∧ (commanded s (switchElem (.output o)) = true → _) ∧ (commanded s (switchElem (.output o)) = false → _)
    cases commanded s (switchElem (.output o)) <;> simp [switchElem]

/-- A switch that overheats is in its channel's FAULT (R329, R331). -/
theorem outOvertemp_faults {ch : FieldSwitch} (hw : wfSwitch ch = true) (h : shadowed s fieldUnit (overheatBit ch) = false) :
    ∃ t, exec (.outOvertemp ch) s = .next t ∧ SwitchFaulted s t (switchElem ch) := by
  have heffect : switchHot s ch = hit s fieldUnit (overheatBit ch) := by
    unfold switchHot
    rw [hp]
    cases ch <;> rfl
  obtain ⟨hb, hclass, hr⟩ := classOf_overheat hw
  have hfaulted := hit_switch hb hclass hr h
  exact ⟨_, runs_settled hs hq hw heffect rfl hfaulted.undisturbed, hfaulted⟩

theorem outOpenLoad_faults {o : Nat} (ho : o < 16) (hoff : (switchOf s (32 + o)).on = false) (hb : bitOf (s.n fieldUnit 0x0D2600) o = true)
    (h : shadowed s fieldUnit (84 + o) = false) : ∃ t, exec (.outOpenLoad o) s = .next t ∧ SwitchFaulted s t (32 + o) := by
  have hclass : ∀ o < 16, classOf .field (84 + o) = some (.channel (32 + o)) := by decide
  have heffect : openLoad s o = hit s fieldUnit (84 + o) := if_neg (by rw [hp, hoff, hb]; decide)
  have hfaulted := hit_switch (by omega) (hclass o ho) (by omega) h
  exact ⟨_, runs_settled hs hq (decide_eq_true ho) heffect rfl hfaulted.undisturbed, hfaulted⟩

omit hp in
theorem outOpenLoad_idle {o : Nat} (ho : o < 16) (h : (switchOf s (32 + o)).on = true ∨ bitOf (s.n fieldUnit 0x0D2600) o = false) :
    exec (.outOpenLoad o) s = .next s :=
  runs_settled hs hq (decide_eq_true ho) (if_pos (.inr (h.imp id fun h => by rw [h]; rfl))) rfl (.refl s)

/-- A held test-pulse output is only recorded (R332). -/
theorem tpOverload_records {o : Nat} (ho : o < 4) (h : shadowed s fieldUnit (108 + o) = false) : Completes (.tpOverload o) s fun t =>
    faultBit t fieldUnit 0xB00 (108 + o) = true ∧ t.field = s.field ∧ t.st fieldUnit = s.st fieldUnit := by
  have hclass : ∀ o < 4, classOf .field (108 + o) = some (.corrected 0) := by decide
  have hhit : hit s fieldUnit (108 + o) = (recordHit s fieldUnit (108 + o) .field (.corrected 0)).1 := by
    unfold hit
    rw [kindOf_fieldUnit]
    simp only [hclass o ho]
    rw [recordHit_counted h]
    rfl
  have heffect : tpOverload s o = (recordHit s fieldUnit (108 + o) .field (.corrected 0)).1 := (if_neg (by rw [hp]; decide)).trans hhit
  exact ⟨_, runs_settled hs hq (decide_eq_true ho) heffect rfl (Within.recordHit ..).undisturbed, recordHit_sticky (by omega) h,
    (Within.recordHit ..).field, recordHit_st (by omega) _⟩

variable (hn : NoCluster s fieldUnit) (h1 : s.st fieldUnit ≠ usOff) (h2 : s.st fieldUnit ≠ usRetired)
include hn h1 h2

theorem vfieldLow_faults (h : shadowed s fieldUnit 2 = false) {uv : Nat} (hv : uv < 18000000) : Completes (.vfieldLow uv) s fun t =>
    t.st fieldUnit = usFault ∧ t.field = { s.field with outputs := [], supplies := [] } := by
  obtain ⟨hu, hfaulted⟩ := hit_dieOff_faults hn (.inl rfl) h h1 h2
  exact ⟨_, runs_settled hs hq rfl (if_neg (by rw [hp]; exact not_or.mpr ⟨by decide, Nat.not_le.mpr hv⟩)) rfl hu, hfaulted⟩

theorem dieOvertemp_faults (h : shadowed s fieldUnit 3 = false) : Completes .dieOvertemp s fun t =>
    t.st fieldUnit = usFault ∧ t.field = { s.field with outputs := [], supplies := [] } := by
  obtain ⟨hu, hfaulted⟩ := hit_dieOff_faults hn (.inr rfl) h h1 h2
  exact ⟨_, runs_settled hs hq rfl (if_neg (by rw [hp]; decide)) rfl hu, hfaulted⟩

end

theorem commandBit_output {t : State} {o : Nat} (ho : o < 16) (h : commandBit t (32 + o) = false) : bitOf (t.n fieldUnit 0x0D2000) o = false := by
  rw [commandBit, if_pos (by omega), Nat.add_sub_cancel_left] at h
  exact h

theorem commandBit_supply {t : State} {k : Nat} (h : commandBit t (48 + k) = false) : bitOf (t.n fieldUnit 0x0D3000) k = false := by
  rw [commandBit, if_neg (by omega), Nat.add_sub_cancel_left] at h
  exact h

/-- Settles O53: a switch in its limit, its retry, the three faults of channels, and the two of the die. -/
theorem fieldChannels : Obligations.FieldChannels := by
  intro s hs hq hn hp
  refine ⟨fun o ho hon hl h => ⟨currentLimit_output_retries hs hq hp ho hon hl h, fun hlim h' => ?_⟩,
    fun k hk hon hl => currentLimit_supply_retries hs hq hp hk hon hl, fun o ho => currentLimit_of_off hs hq ho,
    fun o ho => outputRetry_completes hq hp ho, fun o ho h => ?_, fun k hk h => ?_, fun o ho hoff hb h => ?_, fun o ho => outOpenLoad_idle hs hq ho,
    fun o ho => tpOverload_records hs hq hp ho, fun h1 h2 h uv => vfieldLow_faults hs hq hp hn h1 h2 h,
    fun uv hv => runs_settled hs hq rfl (if_pos (.inr hv)) rfl (.refl s), dieOvertemp_faults hs hq hp hn⟩
  · obtain ⟨t, ht, -, hchannel, hswitch, hcommand, -⟩ := currentLimit_output_overloads hs hq hp ho hon hl h hlim h'
    exact ⟨t, ht, hswitch, (channel_output t o).trans hchannel, commandBit_output ho hcommand⟩
  · obtain ⟨t, ht, -, hchannel, hswitch, hcommand, hunit⟩ := outOvertemp_faults hs hq hp (ch := .output o) (decide_eq_true ho) h
    exact ⟨t, ht, (channel_output t o).trans hchannel, hswitch, commandBit_output ho hcommand, hunit⟩
  · obtain ⟨t, ht, -, hchannel, hswitch, hcommand, -⟩ := outOvertemp_faults hs hq hp (ch := .supply k) (decide_eq_true hk) h
    exact ⟨t, ht, (channel_supply t k).trans hchannel, hswitch, commandBit_supply hcommand⟩
  · obtain ⟨t, ht, -, hchannel, -, hcommand, -⟩ := outOpenLoad_faults hs hq hp ho hoff hb h
    exact ⟨t, ht, (channel_output t o).trans hchannel, commandBit_output ho hcommand⟩

end Sys2Proof.Proofs
end

section
/-! SUPPORT. A write to an object whose write acts at once (00 R7; 02 R46), on any unit: its way, and where its effect is written down. -/

namespace Sys2Proof.Machine

/-- Objects of these chapters whose write acts at once: latch clears, transmit slots, rendering, the retirement list, resets, drains and JTAG. -/
def actingObjs : List Nat := [0xC05, 0xE10, 0xE13, 0xF10, 0xF11, 0x1010, 0x1011, 0x1013, 0x1030]

set_option maxRecDepth 100000 in
theorem actingRows_plain : ∀ o ∈ actingObjs, ∀ k ∈ kAll, (objRowOf k o).all (fun r => !r.jour && !r.stick) = true := by decide +kernel

theorem actingObjs_range : ∀ o ∈ actingObjs, 0xB02 < o ∧ o < 0x2000 ∧ o ≠ 0xB40 ∧ o ≠ 0xC0A ∧ o ≠ 0xC0B := by decide

section
variable {s : State} {o : Nat} {w : Write} {row : ObjRow} (ho : o ∈ actingObjs)
include ho

theorem objRowOf_acting {k : UKind} (h : objRowOf k o = some row) : row.jour = false ∧ row.stick = false := by
  have hplain := actingRows_plain o ho k (mem_kAll k)
  rw [h] at hplain
  simpa using hplain

theorem Passes.acting (hp : Passes s o w row) : row.jour = false ∧ row.stick = false := by
  have hlt := (actingObjs_range o ho).2.1
  obtain ⟨k, hk⟩ := hp.kindRow (by omega)
  exact objRowOf_acting ho hk

/-- Such a write makes no transaction. -/
theorem journalTxn_acting (hp : Passes s o w row) : journalTxn s w.unit o row w none = none := by
  have hjour := (hp.acting ho).1
  obtain ⟨hlo, hhi, hb40, hc0a, hc0b⟩ := actingObjs_range o ho
  have hcommand : (if w.unit = 0 then journaledCommand s o w else none) = none := by
    split
    · unfold journaledCommand
      dsimp only
      rw [if_neg (by omega), if_neg (by omega), if_neg (by omega), if_neg (by omega)]
    · rfl
  simp [journalTxn, hcommand, hjour]

/-- Given by itself such a write has its effect and its reply, whatever serves the unit. -/
theorem directWrite_acts {r : Option ItemReply × State} (hs : Serving s) (hp : Passes s o w row) (hr : writeEffect s w.unit o row w = r) :
    directWrite s o w = replyWith w.origin r := by
  obtain ⟨hlo, hhi, hb40, hc0a, hc0b⟩ := actingObjs_range o ho
  cases hu : cellServed w.unit with
  | true => rw [directWrite_at_cell hs hp hu (hp.acting ho).1 (by omega), hr]
  | false =>
    rw [directWrite_served hs hp (.inl hu)]
    unfold writeServe
    rw [takeWrite_at_once (journalTxn_acting ho hp) hp.own hu hc0a hc0b (by omega), hr]
    exact if_neg (by omega)

theorem commonWrite_acting (hp : Passes s o w row) (h : o ≠ 0x1011 ∧ o ≠ 0x1013) : commonWrite s w.unit o row w = none := by
  have hlo := (actingObjs_range o ho).1
  simp [commonWrite, (hp.acting ho).2, h.1, h.2, show o ≠ 0xB00 by omega, show o ≠ 0xB02 by omega]

/-- The effect of such a write on the root. -/
theorem writeEffect_root {r : Option ItemReply × State} (hp : Passes s o w row) (h : o ≠ 0x1011 ∧ o ≠ 0x1013) (hu : w.unit = 0)
    (hw : rootWrite s o w = some r) : writeEffect s w.unit o row w = r := by
  have hcommon := commonWrite_acting ho hp h
  rw [hu] at hcommon ⊢
  simp [writeEffect, hcommon, hw]

/-- Its effect on the units that no cell serves. -/
theorem writeEffect_other {r : Option ItemReply × State} (hp : Passes s o w row) (h : o ≠ 0x1011 ∧ o ≠ 0x1013) (h0 : w.unit ≠ 0)
    (hu : cellServed w.unit = false) (hw : otherWrite s w.unit o row w = some r) : writeEffect s w.unit o row w = r := by
  simp only [cellServed, Bool.or_eq_false_iff] at hu
  obtain ⟨⟨⟨haxis, -⟩, hcluster⟩, hsleeve⟩ := hu
  simp [writeEffect, commonWrite_acting ho hp h, h0, haxis, hcluster, hsleeve, hw]

end

/-- The effect of a write to DrainRequest or UnitReset is the same on every unit. -/
theorem writeEffect_common {s : State} {o : Nat} {w : Write} {row : ObjRow} {r : Option ItemReply × State}
    (h : commonWrite s w.unit o row w = some r) : writeEffect s w.unit o row w = r := by
  simp [writeEffect, h]

end Sys2Proof.Machine
end

section
/-! SUPPORT. Transmission by a CAN controller (15 R342 to R347, R351): rules of its slots, of its error counters, and of what a frame's end comes to. -/

namespace Sys2Proof.Machine

/-! ### The controllers as units -/

theorem wfCan_kind {u : Nat} (h : wfCan u = true) : kindOf u = some .can := by
  obtain ⟨h1, h2⟩ := of_decide_eq_true h
  obtain rfl | rfl : u = 0x500 ∨ u = 0x501 := by omega
  · rfl
  · rfl

theorem wfCan_not_served {u : Nat} (h : wfCan u = true) : cellServed u = false ∧ u ≠ 0 := by
  obtain ⟨h1, h2⟩ := of_decide_eq_true h
  obtain rfl | rfl : u = 0x500 ∨ u = 0x501 := by omega
  · decide
  · decide

theorem Undisturbed.setCan (s : State) (u : Nat) (c : CanS) : Undisturbed s (s.setCan u c) := ⟨.refl _, rfl, rfl⟩

theorem Undisturbed.foldl {α : Type} (f : State → α → State) (l : List α) (s : State) (h : ∀ t x, Undisturbed t (f t x)) : Undisturbed s (l.foldl f s) := by
  induction l generalizing s with
  | nil => exact .refl s
  | cons x r ih => exact (h s x).trans (ih _)

theorem keyOf_ne {u c y : Nat} (hc : c < 2 ^ 24) (hy : y < 2 ^ 24) (h : y ≠ c) : keyOf u c ≠ keyOf u y := by
  intro he
  obtain ⟨-, rfl⟩ := (keyOf_inj hc hy).mp he
  exact h rfl

/-- Reading one object after a write to another of the same unit. -/
theorem setN_val_ne (s : State) {u c y : Nat} (n : Nat) (hc : c < 2 ^ 24) (hy : y < 2 ^ 24) (h : y ≠ c) : (s.setN u c n).val u y = s.val u y := by
  rw [setN_eq, setV_read_ne _ _ (keyOf_ne hc hy h)]

/-! ### Slots (Table 15-3) -/

theorem slotOf_of_can {s t : State} {u : Nat} (h : (t.canOf u).slots = (s.canOf u).slots) (i : Nat) : slotOf t u i = slotOf s u i := by
  unfold slotOf
  rw [h]

theorem putSlot_canOf (s : State) (u i : Nat) (x : TxSlotS) :
    (putSlot s u i x).canOf u = { s.canOf u with slots := mapPut {} (s.canOf u).slots i x } :=
  (canOf_congr ((Within.setV ..).trans (.setV ..)).can u).trans (setCan_read_self ..)

theorem putSlot_slot (s : State) (u i : Nat) (x : TxSlotS) (j : Nat) : slotOf (putSlot s u i x) u j = if i = j then x else slotOf s u j := by
  unfold slotOf
  rw [putSlot_canOf, mapGet_mapPut]

theorem Undisturbed.putSlot (s : State) (u i : Nat) (x : TxSlotS) : Undisturbed s (putSlot s u i x) :=
  (Undisturbed.setCan ..).trans ((Within.setV ..).trans (.setV ..)).undisturbed

theorem putSlot_attempts (s : State) (u i : Nat) (x : TxSlotS) : (putSlot s u i x).n u (0x0E1200 + i) = x.attempts := setN_n_self ..

theorem putSlot_state (s : State) (u : Nat) {i : Nat} (hi : i < 32) (x : TxSlotS) : (putSlot s u i x).n u (0x0E1100 + i) = x.state :=
  (setN_n_ne _ _ (by omega) (by omega) (by omega)).trans (setN_n_self ..)

/-- What a slot shows stands in TxState and TxAttempts only. -/
theorem putSlot_val (s : State) (u : Nat) {i y : Nat} (hi : i < 32) (hy : y < 2 ^ 24) (h : y < 0x0E1100 ∨ 0x0E1300 ≤ y) (x : TxSlotS) :
    (putSlot s u i x).val u y = s.val u y :=
  (setN_val_ne _ _ (by omega) hy (by omega)).trans (setN_val_ne _ _ (by omega) hy (by omega))

/-- A slot that has ended. -/
def slotEnded (x : TxSlotS) (outcome : Nat) : TxSlotS := { x with state := outcome, abort := false }

/-- The counter of the frames that end so. -/
def outcomeCounter (outcome : Nat) : Nat := if outcome = slDone then 0x0E1400 else 0x0E1500

theorem outcomeCounter_stick (outcome : Nat) : StickCounter .can (outcomeCounter outcome) (2 ^ 32 - 1) := by
  have hdone : stickCheck .can 0x0E1400 (2 ^ 32 - 1) = true := by decide +kernel
  have hfailed : stickCheck .can 0x0E1500 (2 ^ 32 - 1) = true := by decide +kernel
  unfold outcomeCounter
  split
  · exact .of_check hdone
  · exact .of_check hfailed

theorem endSlot_within (s : State) (u i outcome : Nat) : Within (putSlot s u i (slotEnded (slotOf s u i) outcome)) (endSlot s u i outcome) := by
  unfold endSlot
  dsimp only
  split
  · exact (Within.bump ..).trans (.publish ..)
  · exact .bump ..

theorem Undisturbed.endSlot (s : State) (u i outcome : Nat) : Undisturbed s (endSlot s u i outcome) :=
  (Undisturbed.putSlot ..).trans (endSlot_within ..).undisturbed

theorem endSlot_canOf (s : State) (u i outcome : Nat) : (endSlot s u i outcome).canOf u
    = { s.canOf u with slots := mapPut {} (s.canOf u).slots i (slotEnded (slotOf s u i) outcome) } :=
  (canOf_congr (endSlot_within ..).can u).trans (putSlot_canOf ..)

theorem endSlot_slot (s : State) (u i outcome j : Nat) :
    slotOf (endSlot s u i outcome) u j = if i = j then slotEnded (slotOf s u i) outcome else slotOf s u j :=
  (slotOf_of_can (congrArg CanS.slots (canOf_congr (endSlot_within ..).can u)) j).trans (putSlot_slot ..)

/-- TX_ENDED changes nothing of the controller. -/
theorem endSlot_val_counted (s : State) (u i outcome : Nat) {y : Nat} (hy : y < 2 ^ 24) (h : 0x0E0000 ≤ y) :
    (endSlot s u i outcome).val u y = (bump (putSlot s u i (slotEnded (slotOf s u i) outcome)) u (outcomeCounter outcome)).val u y := by
  unfold endSlot
  dsimp only
  split
  · exact publish_keeps _ _ _ _ _ _ hy (.inr (by omega))
  · rfl

theorem endSlot_val (s : State) (u i outcome : Nat) {y : Nat} (hy : y < 2 ^ 24) (h : 0x0E0000 ≤ y) (hne : y ≠ outcomeCounter outcome) :
    (endSlot s u i outcome).val u y = (putSlot s u i (slotEnded (slotOf s u i) outcome)).val u y :=
  (endSlot_val_counted s u i outcome hy h).trans ((outcomeCounter_stick outcome).keeps _ _ hy hne (by omega))

theorem endSlot_state (s : State) (u : Nat) {i : Nat} (hi : i < 32) (outcome : Nat) : (endSlot s u i outcome).n u (0x0E1100 + i) = outcome := by
  have hne : 0x0E1100 + i ≠ outcomeCounter outcome := by
    unfold outcomeCounter
    split <;> omega
  rw [n_of_val (endSlot_val s u i outcome (by omega) (by omega) hne), putSlot_state s u hi]
  rfl

theorem endSlot_counts (s : State) {u : Nat} (hk : kindOf u = some .can) {i : Nat} (hi : i < 32) (outcome : Nat) :
    Counts s (endSlot s u i outcome) u (outcomeCounter outcome) := by
  have hbelow := (outcomeCounter_stick outcome).below
  have hrange : outcomeCounter outcome = 0x0E1400 ∨ outcomeCounter outcome = 0x0E1500 := by
    unfold outcomeCounter
    split <;> simp
  exact Counts.of_n (fun hv => (outcomeCounter_stick outcome).counts hk hv) (n_of_val (putSlot_val s u hi hbelow (by omega) _))
    (n_of_val (endSlot_val_counted s u i outcome hbelow (by omega)))

theorem slotsIn_lt {s : State} {u st i : Nat} (h : i ∈ slotsIn s u st) : i < 32 := List.mem_range.mp (List.mem_filter.mp h).1

theorem onBus_of_sending {s : State} {u i : Nat} (h : slotsIn s u slSending = [i]) : onBus s u = true := by
  unfold onBus
  rw [h]
  simp

/-! ### Error counters and states (R345, R346) -/

/-- The error state has been looked at again: it and the counters are shown, and nothing else of the controller has changed but the count of the
times it was entered. -/
structure ErrorShown (s t : State) (u : Nat) : Prop where
  undisturbed : Undisturbed s t
  can : ∃ e, t.canOf u = { s.canOf u with err := e }
  tec : t.n u 0x0E0800 = min (s.canOf u).tec 255
  kept : ∀ y, 0x0E0C00 ≤ y → y < 0x0E5000 → t.val u y = s.val u y

theorem showErrors_within (s : State) (u : Nat) : Within s (showErrors s u) := ((Within.setV ..).trans (.setV ..)).trans (.setV ..)

theorem Undisturbed.showErrors (s : State) (u : Nat) : Undisturbed s (showErrors s u) := (showErrors_within s u).undisturbed

theorem showErrors_canOf (s : State) (u : Nat) : (showErrors s u).canOf u = s.canOf u := canOf_congr (showErrors_within s u).can u

theorem showErrors_err (s : State) (u : Nat) : (showErrors s u).n u 0x0E0700 = (s.canOf u).err := by
  rw [showErrors, n_of_val (setN_val_ne _ _ (by decide) (by decide) (by decide)), n_of_val (setN_val_ne _ _ (by decide) (by decide) (by decide)), setN_n_self]

theorem showErrors_tec (s : State) (u : Nat) : (showErrors s u).n u 0x0E0800 = min (s.canOf u).tec 255 :=
  (n_of_val (setN_val_ne _ _ (by decide) (by decide) (by decide))).trans (setN_n_self ..)

theorem showErrors_rec (s : State) (u : Nat) : (showErrors s u).n u 0x0E0900 = min (s.canOf u).rxErr 255 := setN_n_self ..

theorem showErrors_val (s : State) (u : Nat) {y : Nat} (hy : y < 2 ^ 24) (h : 0x0E0C00 ≤ y) : (showErrors s u).val u y = s.val u y := by
  rw [showErrors, setN_val_ne _ _ (by decide) hy (by omega), setN_val_ne _ _ (by decide) hy (by omega), setN_val_ne _ _ (by decide) hy (by omega)]

/-- Showing the counters, of the state that is now e. -/
theorem showErrors_shown (s : State) (u e : Nat) : ErrorShown s (showErrors (s.setCan u { s.canOf u with err := e }) u) u where
  undisturbed := (Undisturbed.setCan ..).trans (.showErrors ..)
  can := ⟨e, (showErrors_canOf ..).trans (setCan_read_self ..)⟩
  tec := (showErrors_tec ..).trans (by rw [setCan_read_self])
  kept y h hy := showErrors_val _ u (by omega) h

theorem showErrors_same (s : State) (u : Nat) : ErrorShown s (showErrors s u) u where
  undisturbed := .showErrors ..
  can := ⟨(s.canOf u).err, rfl⟩
  tec := showErrors_tec ..
  kept y h hy := showErrors_val _ u (by omega) h

theorem ErrorShown.publish {s t : State} {u : Nat} (h : ErrorShown s t u) (c : Nat) (d : Bytes) : ErrorShown s (publish t u c d) u where
  undisturbed := h.undisturbed.trans (Within.publish ..).undisturbed
  can := h.can.imp fun _ he => (canOf_congr (Within.publish ..).can u).trans he
  tec := (n_of_val (publish_keeps _ _ _ _ _ _ (by decide) (.inr (by decide)))).trans h.tec
  kept y hlo hhi := (publish_keeps _ _ _ _ _ _ (by omega) (.inr (by omega))).trans (h.kept y hlo hhi)

/-- Entry into error passive is a corrected source of the controller, counted at 0x0E0B (Table 15-6). -/
theorem hit_passive (s : State) {u : Nat} (hk : kindOf u = some .can) : Within s (hit s u 1)
    ∧ ∀ y, 0x0E0000 ≤ y → y < 2 ^ 24 → y ≠ 0x0E0B00 → (hit s u 1).val u y = s.val u y := by
  have hc : classOf .can 1 = some (.corrected 0x0E0B00) := rfl
  have hstick := (correctedCounter (by decide) hc (by decide)).1
  cases h : shadowed s u 1 with
  | true =>
    rw [hit_ignored hk hc (recordHit_ignored h (by decide))]
    exact ⟨.recordHit .., fun y hlo hhi _ => recordHit_val (by decide) hhi (by omega) (by omega)⟩
  | false =>
    rw [hit_corrected hk hc (by decide) (recordHit_counted h)]
    exact ⟨(Within.recordHit ..).trans (.bump ..), fun y hlo hhi hne =>
      (hstick.keeps _ u hhi hne (by omega)).trans (recordHit_val (by decide) hhi (by omega) (by omega))⟩

theorem ErrorShown.hit {s t : State} {u : Nat} (h : ErrorShown s t u) (hk : kindOf u = some .can) : ErrorShown s (hit t u 1) u where
  undisturbed := h.undisturbed.trans (hit_passive t hk).1.undisturbed
  can := h.can.imp fun _ he => (canOf_congr (hit_passive t hk).1.can u).trans he
  tec := (n_of_val ((hit_passive t hk).2 _ (by decide) (by decide) (by decide))).trans h.tec
  kept y hlo hhi := ((hit_passive t hk).2 y (by omega) (by omega) (by omega)).trans (h.kept y hlo hhi)

theorem errorState_shown (s : State) {u : Nat} (hk : kindOf u = some .can) : ErrorShown s (errorState s u) u := by
  unfold errorState
  dsimp only
  split
  · exact showErrors_same s u
  · split
    · split
      · exact showErrors_same s u
      · exact ((showErrors_shown s u 1).publish ..).hit hk
    · exact showErrors_shown s u 0

/-! ### The end of a frame (R344) -/

theorem canStopped_none {s : State} {u : Nat} (h : (s.canOf u).stopping = none) : canStopped s u = s := by
  unfold canStopped
  rw [h]

theorem notAlone_canOf (s : State) (u : Nat) : (notAlone s u).canOf u = { s.canOf u with ackRun := 0 } :=
  (canOf_congr (Within.setV ..).can u).trans (setCan_read_self ..)

theorem notAlone_alone (s : State) (u : Nat) : (notAlone s u).b u 0x0E0D00 = false := setB_b_self ..

theorem notAlone_val (s : State) (u : Nat) {y : Nat} (hy : y < 2 ^ 24) (h : y ≠ 0x0E0D00) : (notAlone s u).val u y = s.val u y := by
  rw [notAlone, setB_eq, setV_read_ne _ _ (keyOf_ne (by decide) hy h)]
  rfl

theorem Undisturbed.notAlone (s : State) (u : Nat) : Undisturbed s (notAlone s u) := (Undisturbed.setCan ..).trans (Within.setV ..).undisturbed

section
variable {s : State} {u i : Nat} (hst : s.st u = usActive) (hr : (s.canOf u).refSending = false) (hstop : (s.canOf u).stopping = none)
  (hi : slotsIn s u slSending = [i])
include hi

theorem sending_lt : i < 32 := slotsIn_lt (show i ∈ slotsIn s u slSending by rw [hi]; exact List.mem_singleton.mpr rfl)

include hst hr hstop

/-- The controller after a frame of slot i was sent, before its error state is looked at. -/
def sentFrom (s : State) (u i : Nat) : State := notAlone (modCan (endSlot s u i slDone) u fun c => { c with tec := c.tec - 1 }) u

omit hst hr hstop hi in
theorem sentFrom_canOf (s : State) (u i : Nat) : (sentFrom s u i).canOf u = { (endSlot s u i slDone).canOf u with tec := (s.canOf u).tec - 1, ackRun := 0 } := by
  unfold sentFrom modCan
  rw [notAlone_canOf, setCan_read_self, endSlot_canOf]

omit hst hr hstop hi in
theorem sentFrom_val (s : State) (u i : Nat) {y : Nat} (hy : y < 2 ^ 24) (h : y ≠ 0x0E0D00) : (sentFrom s u i).val u y = (endSlot s u i slDone).val u y :=
  notAlone_val _ u hy h

omit hst hr hstop hi in
theorem Undisturbed.sentFrom (s : State) (u i : Nat) : Undisturbed s (sentFrom s u i) :=
  ((Undisturbed.endSlot ..).trans (.setCan ..)).trans (.notAlone ..)

theorem txDone_sent (hk : kindOf u = some .can) : txDone s u = errorState (sentFrom s u i) u := by
  obtain ⟨e, he⟩ := (errorState_shown (sentFrom s u i) hk).can
  have hnone : ((errorState (sentFrom s u i) u).canOf u).stopping = none := by
    rw [he, sentFrom_canOf, endSlot_canOf]
    exact hstop
  have href : ((endSlot s u i slDone).canOf u).refSending = false := by
    rw [endSlot_canOf]
    exact hr
  unfold txDone
  rw [if_neg (by simp [onBus_of_sending hi, hst]), hi]
  simp only [List.foldl_cons, List.foldl_nil, href, Bool.false_eq_true, if_false]
  exact canStopped_none hnone

/-- The controller after an attempt of slot i failed, before its error state is looked at. -/
def failedFrom (s : State) (u i : Nat) : State :=
  let s1 := modCan s u fun c => { c with tec := c.tec + 8 }
  putSlot s1 u i { slotOf s u i with attempts := min ((slotOf s u i).attempts + 1) 255, state := slPending }

omit hst hr hstop hi in
theorem failedFrom_canOf (s : State) (u i : Nat) : ∃ m, (failedFrom s u i).canOf u = { s.canOf u with tec := (s.canOf u).tec + 8, slots := m } :=
  ⟨_, by unfold failedFrom modCan; rw [putSlot_canOf, setCan_read_self]⟩

omit hst hr hstop hi in
theorem Undisturbed.failedFrom (s : State) (u i : Nat) : Undisturbed s (failedFrom s u i) := (Undisturbed.setCan ..).trans (.putSlot ..)

theorem txError_failed (hk : kindOf u = some .can) (herr : (s.canOf u).err ≠ 2) (htec : (s.canOf u).tec + 8 ≤ 255) (ha : (slotOf s u i).abort = false)
    (hl : (slotOf s u i).limit = 0) (hack : (s.canOf u).ackRun < 16) : txError s u .other = errorState (failedFrom s u i) u := by
  obtain ⟨m, hm⟩ := failedFrom_canOf s u i
  obtain ⟨e, he⟩ := (errorState_shown (failedFrom s u i) hk).can
  have hnone : ((errorState (failedFrom s u i) u).canOf u).stopping = none := by
    rw [he, hm]
    exact hstop
  have hcounts : errorCounts (s.canOf u) .other = { s.canOf u with tec := (s.canOf u).tec + 8 } := by
    unfold errorCounts
    rw [if_neg (by omega)]
  have hmod : (modCan s u fun c => errorCounts c .other) = modCan s u fun c => { c with tec := c.tec + 8 } := by
    show s.setCan u (errorCounts (s.canOf u) .other) = _
    rw [hcounts]
    rfl
  have hcan : (modCan s u fun c => { c with tec := c.tec + 8 }).canOf u = { s.canOf u with tec := (s.canOf u).tec + 8 } := setCan_read_self ..
  have hslot : ∀ j, slotOf (modCan s u fun c => { c with tec := c.tec + 8 }) u j = slotOf s u j := slotOf_of_can (by rw [hcan])
  have hin : slotsIn (modCan s u fun c => { c with tec := c.tec + 8 }) u slSending = [i] := by
    rw [← hi]
    unfold slotsIn
    simp only [hslot]
  have hfails : ∀ b, attemptFails (modCan s u fun c => { c with tec := c.tec + 8 }) u i false b = failedFrom s u i := fun b => by
    unfold attemptFails
    dsimp only
    rw [hslot, if_neg (by simp [ha]), if_neg (by simp [hl])]
    rfl
  have halone : aloneStep (failedFrom s u i) u ((slotsIn s u slSending).headD 0xFF) = failedFrom s u i :=
    if_pos (.inl (by rw [hm]; exact hack))
  unfold txError
  rw [if_neg (by simp [onBus_of_sending hi, hst]), hmod]
  simp only [hcan, hr, Bool.false_eq_true, if_false, hin, List.foldl_cons, List.foldl_nil, isAckError, hfails, halone, beq_eq_false_iff_ne.mpr herr]
  exact canStopped_none hnone

end

/-! ### TxAbort (R347) -/

/-- What an abort makes of a slot. -/
def slotAborted (x : TxSlotS) : TxSlotS :=
  if x.state = slPending then slotEnded x slAborted else if x.state = slSending then { x with abort := true } else if x.state = slEmpty then x else {}

/-- The abort of one slot. -/
def abortSlot (u : Nat) (t : State) (i : Nat) : State :=
  let x := slotOf t u i
  if x.state = slPending then endSlot t u i slAborted
  else if x.state = slSending then putSlot t u i { x with abort := true }
  else if x.state = slEmpty then t
  else putSlot t u i {}

theorem txAbort_eq (s : State) (u mask : Nat) : txAbort s u mask = (bitsOf 32 mask).foldl (abortSlot u) s := rfl

theorem abortSlot_slot (t : State) (u i j : Nat) : slotOf (abortSlot u t i) u j = if i = j then slotAborted (slotOf t u i) else slotOf t u j := by
  unfold abortSlot slotAborted
  dsimp only
  split
  · exact endSlot_slot ..
  · split
    · exact putSlot_slot ..
    · split
      · split
        · next h => rw [h]
        · rfl
      · exact putSlot_slot ..

theorem Undisturbed.abortSlot (u : Nat) (t : State) (i : Nat) : Undisturbed t (abortSlot u t i) := by
  unfold Machine.abortSlot
  dsimp only
  split
  · exact .endSlot ..
  · split
    · exact .putSlot ..
    · split
      · exact .refl t
      · exact .putSlot ..

theorem mem_bitsOf {n v i : Nat} : i ∈ bitsOf n v ↔ i < n ∧ bitOf v i = true := by
  unfold bitsOf
  rw [List.mem_filter, List.mem_range]

theorem txAbort_slot (s : State) (u mask : Nat) {i : Nat} (hi : i < 32) :
    slotOf (txAbort s u mask) u i = if bitOf mask i = true then slotAborted (slotOf s u i) else slotOf s u i := by
  have hnodup : (bitsOf 32 mask).Nodup := List.nodup_range.filter _
  have hother : ∀ (v : TxSlotS) (t : State) (x : Nat), x ∈ bitsOf 32 mask → x ≠ i → slotOf t u i = v → slotOf (abortSlot u t x) u i = v :=
    fun v t x _ hne hv => by rw [abortSlot_slot, if_neg hne, hv]
  rw [txAbort_eq]
  split
  · next hbit =>
    exact foldl_decides (P := fun t => slotOf t u i = slotOf s u i) (Q := fun t => slotOf t u i = slotAborted (slotOf s u i)) hnodup
      (mem_bitsOf.mpr ⟨hi, hbit⟩) (hother _) (fun t ht => by rw [abortSlot_slot, if_pos rfl, ht]) (hother _) rfl
  · next hbit =>
    refine List.foldlRecOn _ _ (motive := fun t => slotOf t u i = slotOf s u i) rfl fun t ht x hx => hother _ t x hx ?_ ht
    rintro rfl
    exact hbit (mem_bitsOf.mp hx).2

end Sys2Proof.Machine
end

section
/-! SUPPORT. O54: transmit slots, arbitration and the ends of frames of a CAN controller. -/

namespace Sys2Proof.Proofs
open Sys2Proof.Machine

section
variable {s : State} {u : Nat} (hs : Serving s) (hq : Calm s) (hu : wfCan u = true)
include hs hq hu

/-- A write to a slot or to TxAbort acts at once, with its reply. -/
theorem canWrite_next {o n : Nat} {w : Write} {row : ObjRow} {i : Instr} {t : State} (ho : o = 0xE10 ∨ o = 0xE13) (hp : Passes s o w row) (hw : w.unit = u)
    (hwf : i.wf = true) (hx : exec i s = done s (whenWf i s (directWrite s o w))) (he : otherWrite s w.unit o row w = some (withStatus (n, t)))
    (ht : Undisturbed s t) : exec i s = .next (answerSt t w.origin n) := by
  obtain ⟨hserved, h0⟩ := wfCan_not_served hu
  have hacting : o ∈ actingObjs := by rcases ho with rfl | rfl <;> decide
  have heffect := writeEffect_other hacting hp (by omega) (hw ▸ h0) (hw ▸ hserved) he
  exact settled_next hq hwf (directWrite_acts hacting hs hp heffect) hx (ht.trans (.answerSt ..))

/-- The slot that a valid record queues. -/
def queuedSlot (s : State) (u : Nat) (b : Bytes) : TxSlotS :=
  { state := slPending, frame := readFrame b, report := bitOf (fieldLE b 4 1) 4, limit := fieldLE b 6 1, order := (s.canOf u).order }

/-- The controller with that slot queued. -/
def slotQueued (s : State) (u i : Nat) (b : Bytes) : State :=
  putSlot (s.setCan u { s.canOf u with order := (s.canOf u).order + 1 }) u i (queuedSlot s u b)

omit hs hq hu in
theorem slotQueued_slot (s : State) (u i : Nat) (b : Bytes) (j : Nat) :
    slotOf (slotQueued s u i b) u j = if i = j then queuedSlot s u b else slotOf s u j := by
  rw [slotQueued, putSlot_slot]
  exact if_congr Iff.rfl rfl (slotOf_of_can (by rw [setCan_read_self]) j)

section
variable {w : Write} {row : ObjRow} (hp : Passes s 0xE10 w row) (hw : w.unit = u) (he : w.elem < 32)
include hp hw he

/-- A write to TxSlot, by what the slot and the record are (R342). -/
theorem txSlot_next {n : Nat} {t : State} (hr : txSlotWrite s u w.elem w.data = (n, t)) (ht : Undisturbed s t) :
    exec (.txSlot w) s = .next (answerSt t w.origin n) := by
  refine canWrite_next hs hq hu (.inl rfl) hp hw ?_ rfl (by rw [hw, ← hr]; rfl) ht
  show (wfWrite w && decide (w.elem < 32)) = true
  rw [hp.1, decide_eq_true he]
  rfl

theorem txSlot_queues (h1 : (slotOf s u w.elem).state ≠ slPending) (h2 : (slotOf s u w.elem).state ≠ slSending)
    (hrec : recordOk (s.n u 0x0E0000) w.data = true) : Completes (.txSlot w) s fun t => slotOf t u w.elem = queuedSlot s u w.data
      ∧ t.n u (0x0E1100 + w.elem) = slPending ∧ t.n u (0x0E1200 + w.elem) = 0 ∧ ∀ j, j ≠ w.elem → slotOf t u j = slotOf s u j := by
  have hr : txSlotWrite s u w.elem w.data = (stOk, slotQueued s u w.elem w.data) := by
    unfold txSlotWrite
    rw [if_neg (not_or.mpr ⟨h1, h2⟩), hrec]
    rfl
  have hslot : ∀ j, slotOf (answerSt (slotQueued s u w.elem w.data) w.origin stOk) u j = slotOf (slotQueued s u w.elem w.data) u j :=
    slotOf_of_can (congrArg CanS.slots (canOf_congr (Within.answerSt ..).can u))
  refine ⟨_, txSlot_next hs hq hu hp hw he hr ((Undisturbed.setCan ..).trans (.putSlot ..)), ?_, ?_, ?_, fun j hj => ?_⟩
  · rw [hslot, slotQueued_slot, if_pos rfl]
  · rw [answerSt_n, slotQueued, putSlot_state _ u he]
    rfl
  · rw [answerSt_n, slotQueued, putSlot_attempts]
    rfl
  · rw [hslot, slotQueued_slot, if_neg (Ne.symm hj)]

end

theorem txAbort_aborts {w : Write} {row : ObjRow} (hp : Passes s 0xE13 w row) (hw : w.unit = u) : Completes (.txAbort w) s fun t =>
    ∀ i < 32, slotOf t u i = if bitOf (leNat w.data) i = true then slotAborted (slotOf s u i) else slotOf s u i := by
  refine ⟨_, canWrite_next hs hq hu (.inr rfl) hp hw hp.1 rfl rfl (.foldl _ _ _ fun t i => .abortSlot w.unit t i), fun i hi => ?_⟩
  rw [slotOf_of_can (congrArg CanS.slots (canOf_congr (Within.answerSt ..).can u)), hw]
  exact txAbort_slot s u _ hi

omit hq hu in
/-- A command of the bus that nothing waits for. -/
theorem bus_next {i : Instr} {t x : State} (hw : i.wf = true) (he : x = t) (hx : exec i s = quiet s (whenWf i s (whenRuns s x))) (ht : t.pending = s.pending) :
    exec i s = .next t := by
  rw [hx, whenWf_of hw, whenRuns_of (combRuns_of hs), he, quiet_next ht]

omit hs hq hu in
theorem putSlot_sent (s : State) (u i : Nat) (x : TxSlotS) : (putSlot s u i x).sent = s.sent := by
  rw [putSlot, setN_eq, setV_sent, setN_eq, setV_sent, setCan_sent]

omit hq in
theorem arbitration_wins {sof i key order : Nat} {f : CanFrame} (hst : s.st u = usActive) (herr : (s.canOf u).err ≠ 2) (hbus : onBus s u = false)
    (hstop : (s.canOf u).stopping = none) (hbest : bestOffer (offers s u) = some (i, key, order, f)) (hi : i < 32) :
    Completes (.arbitration u true sof) s fun t =>
      slotOf t u i = { slotOf s u i with state := slSending, sof := sof / Config.quantaPerNs } ∧ t.sent = .can u f :: s.sent := by
  have heffect : arbitration s u true sof
      = (putSlot s u i { slotOf s u i with state := slSending, sof := sof / Config.quantaPerNs }).emit (.can u f) := by
    unfold arbitration
    dsimp only
    rw [if_neg (by simp [hst, herr, hbus, hstop]), hbest]
    split
    · next h => cases h
    · next h =>
      obtain rfl := (Prod.mk.inj (Option.some.inj h)).1
      omega
    · next h =>
      cases h
      rfl
  have hpending := (Undisturbed.putSlot s u i { slotOf s u i with state := slSending, sof := sof / Config.quantaPerNs }).pending
  refine ⟨_, bus_next hs hu heffect rfl hpending, ?_, congrArg (_ :: ·) (putSlot_sent ..)⟩
  rw [slotOf_of_can (congrArg CanS.slots (canOf_congr (Within.emit ..).can u)), putSlot_slot, if_pos rfl]

section
variable {i : Nat} (hst : s.st u = usActive) (hr : (s.canOf u).refSending = false) (hstop : (s.canOf u).stopping = none) (hi : slotsIn s u slSending = [i])
include hst hr hstop hi

theorem txDone_completes : Completes (.txDone u) s fun t => (slotOf t u i).state = slDone ∧ t.n u (0x0E1100 + i) = slDone
    ∧ (t.canOf u).tec = (s.canOf u).tec - 1 ∧ (t.canOf u).ackRun = 0 ∧ Counts s t u 0x0E1400 := by
  have hk := wfCan_kind hu
  have hlt := sending_lt hi
  obtain ⟨hdist, ⟨e, hcan⟩, -, hkept⟩ := errorState_shown (sentFrom s u i) hk
  have hval : ∀ y, 0x0E1100 ≤ y → y < 0x0E5000 → (errorState (sentFrom s u i) u).n u y = (endSlot s u i slDone).n u y := fun y hlo hhi =>
    n_of_val ((hkept y (by omega) hhi).trans (sentFrom_val s u i (by omega) (by omega)))
  refine ⟨_, runs_settled hs hq hu (txDone_sent hst hr hstop hi hk) rfl ((Undisturbed.sentFrom ..).trans hdist), ?_, ?_, ?_, ?_, ?_⟩
  · rw [slotOf_of_can (s := endSlot s u i slDone) (by rw [hcan, sentFrom_canOf]), endSlot_slot, if_pos rfl]
    rfl
  · rw [hval _ (by omega) (by omega), endSlot_state s u hlt]
  · rw [hcan, sentFrom_canOf]
  · rw [hcan, sentFrom_canOf]
  · exact (endSlot_counts s hk hlt slDone).of_n rfl (hval _ (by decide) (by decide))

theorem txError_completes (herr : (s.canOf u).err ≠ 2) (htec : (s.canOf u).tec + 8 ≤ 255) (ha : (slotOf s u i).abort = false)
    (hl : (slotOf s u i).limit = 0) (hack : (s.canOf u).ackRun < 16) : Completes (.txError u .other) s fun t => (slotOf t u i).state = slPending
      ∧ (slotOf t u i).attempts = min ((slotOf s u i).attempts + 1) 255 ∧ (t.canOf u).tec = (s.canOf u).tec + 8
      ∧ t.n u 0x0E0800 = (s.canOf u).tec + 8 := by
  have hk := wfCan_kind hu
  obtain ⟨m, hm⟩ := failedFrom_canOf s u i
  obtain ⟨hdist, ⟨e, hcan⟩, hshown, -⟩ := errorState_shown (failedFrom s u i) hk
  have hslot : slotOf (errorState (failedFrom s u i) u) u i
      = { slotOf s u i with attempts := min ((slotOf s u i).attempts + 1) 255, state := slPending } := by
    rw [slotOf_of_can (s := failedFrom s u i) (by rw [hcan]), failedFrom, putSlot_slot, if_pos rfl]
  refine ⟨_, runs_settled hs hq hu (txError_failed hst hr hstop hi hk herr htec ha hl hack) rfl ((Undisturbed.failedFrom ..).trans hdist), ?_, ?_, ?_, ?_⟩
  · rw [hslot]
  · rw [hslot]
  · rw [hcan, hm]
  · rw [hshown, hm]
    exact min_eq_left htec

end

end

/-- Settles O54: slots, their abort, the arbitration of the bus, the ends of frames, and reference messages. -/
theorem canTransmits : Obligations.CanTransmits := by
  intro s u hs hq hu _
  refine ⟨fun w row hp hw he => ⟨fun hbusy => ?_, fun h1 h2 => ⟨fun hrec => ?_, txSlot_queues hs hq hu hp hw he h1 h2⟩⟩, fun w row hp hw => ?_,
    fun sof => ?_, fun sof i key order f => arbitration_wins hs hu,
    fun i hst hr hstop hi => ⟨txDone_completes hs hq hu hst hr hstop hi, txError_completes hs hq hu hst hr hstop hi⟩, fun hst hbus => ?_,
    fun hen hst hr hd => ?_, fun hen => ?_⟩
  · exact txSlot_next hs hq hu hp hw he (if_pos hbusy) (.refl s)
  · exact txSlot_next hs hq hu hp hw he (by unfold txSlotWrite; rw [if_neg (not_or.mpr ⟨h1, h2⟩), hrec]; rfl) (.refl s)
  · obtain ⟨t, ht, hslot⟩ := txAbort_aborts hs hq hu hp hw
    refine ⟨t, ht, fun i hi => ⟨fun hb => by rw [hslot i hi, hb]; rfl, fun hb => ?_⟩⟩
    rw [hslot i hi, if_pos hb, slotAborted]
    refine ⟨fun h => by rw [if_pos h]; rfl, fun h => by rw [if_neg (by rw [h]; decide), if_pos h], fun h1 h2 => ?_⟩
    rw [if_neg h1, if_neg h2]
    split
    · assumption
    · rfl
  · exact bus_next hs hu (if_pos (by simp)) rfl rfl
  · exact runs_settled hs hq hu (if_pos (.inl (by rw [hbus]; rfl))) rfl (.refl s)
  · refine bus_next hs hu ?_ rfl rfl
    unfold refDue
    simp only [hen, hst, hr, hd]
    rfl
  · exact bus_next hs hu (if_pos (.inl (by rw [hen]; rfl))) rfl rfl

end Sys2Proof.Proofs
end

section
/-! SUPPORT. O55: reception by a CAN controller (15 R345, R346, R348, R349). -/

namespace Sys2Proof.Machine

/-! ### Storing a controller -/

theorem setCan_setCan (s : State) (u : Nat) {a : CanS} (b : CanS) (ha : a ≠ {}) (hb : b ≠ {}) : (s.setCan u a).setCan u b = s.setCan u b := by
  have hmap : mapPut {} (mapPut {} s.can u a) u b = mapPut {} s.can u b := by
    unfold mapPut
    rw [if_neg ha, if_neg hb, if_neg hb, mapIns_mapIns]
  show { s with can := mapPut {} (mapPut {} s.can u a) u b } = _
  rw [hmap]
  rfl

/-! ### The filters and the FIFO (R348, R349) -/

theorem filterOf_notAlone (s : State) (u : Nat) {i : Nat} (hi : i < 64) : filterOf (notAlone s u) u i = filterOf s u i := by
  unfold filterOf State.bs
  rw [notAlone_val s u (by omega) (by omega)]

theorem find_notAlone (s : State) (u : Nat) (f : CanFrame) : (List.range 64).find? (fun i => filterMatches (filterOf (notAlone s u) u i) f)
    = (List.range 64).find? (fun i => filterMatches (filterOf s u i) f) := by
  refine List.find?_congr fun i hi => ?_
  rw [filterOf_notAlone s u (List.mem_range.mp hi)]

section
variable {s : State} {u : Nat} {f : CanFrame} {sof : Nat} (hst : s.st u = usReady) (herr : (s.canOf u).err ≠ 2) (href : s.b u 0x0E4000 = false)
include hst herr href

theorem canReceive_stores {i : Nat} (hf : (List.range 64).find? (fun i => filterMatches (filterOf s u i) f) = some i) (ha : filterAction (filterOf s u i) = 1) :
    canReceive s u f sof = rxFifo (notAlone s u) u (rxRecord f i (sof / Config.quantaPerNs)) := by
  have hi : i < 64 := List.mem_range.mp (List.mem_of_find?_eq_some hf)
  have hlisten : ¬ usReady = usActive := by decide
  unfold canReceive
  simp only [hst, herr, href, hlisten, hf, find_notAlone, filterOf_notAlone s u hi, ha, ne_eq, not_true_eq_false, false_and, or_self, Bool.false_and,
    Bool.false_eq_true, if_false]
  rfl

theorem canReceive_unmatched (h : ∀ i < 64, filterMatches (filterOf s u i) f = false) : canReceive s u f sof = notAlone s u := by
  have hf : (List.range 64).find? (fun i => filterMatches (filterOf s u i) f) = none :=
    List.find?_eq_none.mpr fun i hi => by simp [h i (List.mem_range.mp hi)]
  have hlisten : ¬ usReady = usActive := by decide
  unfold canReceive
  simp only [hst, herr, href, hlisten, hf, find_notAlone, ne_eq, not_true_eq_false, false_and, or_self, Bool.false_and, Bool.false_eq_true, if_false]

end

/-- A record joins a FIFO that has room. -/
def rxStored (s : State) (u : Nat) (rec : Bytes) : State :=
  (s.setCan u { s.canOf u with fifo := (s.canOf u).fifo ++ [rec], overflow := false }).setN u 0x0E2200 ((s.canOf u).fifo.length + 1)

theorem rxStored_canOf (s : State) (u : Nat) (rec : Bytes) :
    (rxStored s u rec).canOf u = { s.canOf u with fifo := (s.canOf u).fifo ++ [rec], overflow := false } :=
  (canOf_congr (Within.setV ..).can u).trans (setCan_read_self ..)

theorem rxStored_val (s : State) (u : Nat) (rec : Bytes) {y : Nat} (hy : y < 2 ^ 24) (h : y ≠ 0x0E2200) : (rxStored s u rec).val u y = s.val u y := by
  rw [rxStored, setN_val_ne _ _ (by decide) hy h, setCan_at_val]

theorem rxLost_stick : StickCounter .can 0x0E2300 (2 ^ 32 - 1) := .of_check (by decide +kernel)

/-- A record that a full FIFO does not take is counted (R349). -/
theorem rxFifo_full {s : State} {u : Nat} (hk : kindOf u = some .can) (rec : Bytes) (h : 128 ≤ (s.canOf u).fifo.length) :
    Undisturbed s (rxFifo s u rec) ∧ ((rxFifo s u rec).canOf u).fifo = (s.canOf u).fifo ∧ Counts s (rxFifo s u rec) u 0x0E2300 := by
  have hcounted : Within (s.setCan u { s.canOf u with overflow := true }) (rxFifo s u rec)
      ∧ (rxFifo s u rec).n u 0x0E2300 = (bump (s.setCan u { s.canOf u with overflow := true }) u 0x0E2300).n u 0x0E2300 := by
    unfold rxFifo
    dsimp only
    rw [if_neg (by omega)]
    split
    · exact ⟨.bump .., rfl⟩
    · exact ⟨(Within.bump ..).trans (.publish ..), n_of_val (publish_keeps _ _ _ _ _ _ (by decide) (.inr (by decide)))⟩
  obtain ⟨hw, hn⟩ := hcounted
  have hcounts : Counts (s.setCan u { s.canOf u with overflow := true }) (bump (s.setCan u { s.canOf u with overflow := true }) u 0x0E2300) u 0x0E2300 :=
    fun hv => rxLost_stick.counts hk hv
  refine ⟨(Undisturbed.setCan ..).trans hw.undisturbed, ?_, hcounts.of_n rfl hn⟩
  rw [canOf_congr hw.can u, setCan_read_self]

/-- The FIFO without its n oldest records. -/
def rxRemoved (s : State) (u n : Nat) : State :=
  (s.setCan u { s.canOf u with fifo := (s.canOf u).fifo.drop n, overflow := (s.canOf u).overflow && n == 0 }).setN u 0x0E2200 ((s.canOf u).fifo.length - n)

theorem rxRemoved_fifo (s : State) (u n : Nat) : ((rxRemoved s u n).canOf u).fifo = (s.canOf u).fifo.drop n :=
  congrArg CanS.fifo ((canOf_congr (Within.setV ..).can u).trans (setCan_read_self ..))

theorem Undisturbed.rxRemoved (s : State) (u n : Nat) : Undisturbed s (rxRemoved s u n) := (Undisturbed.setCan ..).trans (Within.setV ..).undisturbed

/-! ### Errors seen as a receiver, and the end of bus-off (R345, R346) -/

theorem busError_counts {s : State} {u : Nat} (hst : s.st u = usActive) (herr : (s.canOf u).err = 0) (htec : (s.canOf u).tec < 128)
    (hrec : (s.canOf u).rxErr < 127) :
    busError s u = showErrors (s.setCan u { s.canOf u with rxErr := (s.canOf u).rxErr + 1, err := 0 }) u := by
  have hne : { s.canOf u with rxErr := (s.canOf u).rxErr + 1, err := 0 } ≠ ({} : CanS) := fun h => Nat.succ_ne_zero _ (congrArg CanS.rxErr h)
  have hmin : min ((s.canOf u).rxErr + 1) 255 = (s.canOf u).rxErr + 1 := by omega
  have hsame : ({ s.canOf u with rxErr := (s.canOf u).rxErr + 1 } : CanS) = { s.canOf u with rxErr := (s.canOf u).rxErr + 1, err := 0 } := by rw [← herr]
  unfold busError errorState
  dsimp only
  rw [if_neg (by simp [hst, herr]), hmin, hsame]
  simp only [setCan_read_self]
  rw [if_neg (by decide), if_neg (by omega), setCan_setCan _ _ _ hne hne]

/-- The controller back on its bus. -/
def recovered (s : State) (u : Nat) : State := showErrors (s.setCan u { s.canOf u with err := 0, tec := 0, rxErr := 0 }) u

theorem recovered_canOf (s : State) (u : Nat) : (recovered s u).canOf u = { s.canOf u with err := 0, tec := 0, rxErr := 0 } :=
  (showErrors_canOf ..).trans (setCan_read_self ..)

theorem Undisturbed.recovered (s : State) (u : Nat) : Undisturbed s (recovered s u) := (Undisturbed.setCan ..).trans (.showErrors ..)

end Sys2Proof.Machine

namespace Sys2Proof.Proofs
open Sys2Proof.Machine

section
variable {s : State} {u : Nat} (hs : Serving s) (hq : Calm s) (hu : wfCan u = true)
include hs hq hu

theorem canFrameReceive_next {f : CanFrame} {sof : Nat} {t : State} (he : canReceive s u f sof = t) (ht : Undisturbed s t) :
    exec (.canFrameReceive u f sof) s = .next t :=
  runs_settled hs hq hu he rfl ht

section
variable {f : CanFrame} (sof : Nat) {i : Nat} (hst : s.st u = usReady) (herr : (s.canOf u).err ≠ 2) (href : s.b u 0x0E4000 = false)
include hst herr href

section
variable (hf : (List.range 64).find? (fun i => filterMatches (filterOf s u i) f) = some i) (ha : filterAction (filterOf s u i) = 1)
include hf ha

theorem canFrameReceive_stores (hroom : (s.canOf u).fifo.length < 128) : Completes (.canFrameReceive u f sof) s fun t =>
    (t.canOf u).fifo = (s.canOf u).fifo ++ [rxRecord f i (sof / Config.quantaPerNs)] ∧ t.n u 0x0E2200 = (s.canOf u).fifo.length + 1
      ∧ (t.canOf u).ackRun = 0 ∧ t.b u 0x0E0D00 = false := by
  have heffect : canReceive s u f sof = rxStored (notAlone s u) u (rxRecord f i (sof / Config.quantaPerNs)) :=
    (canReceive_stores hst herr href hf ha).trans (if_pos (by rw [notAlone_canOf]; exact hroom))
  have hdist : Undisturbed (notAlone s u) (rxStored (notAlone s u) u (rxRecord f i (sof / Config.quantaPerNs))) :=
    (Undisturbed.setCan ..).trans (Within.setV ..).undisturbed
  refine ⟨_, canFrameReceive_next hs hq hu heffect ((Undisturbed.notAlone ..).trans hdist), ?_, ?_, ?_, ?_⟩
  · rw [rxStored_canOf, notAlone_canOf]
  · rw [rxStored, setN_n_self, notAlone_canOf]
  · rw [rxStored_canOf, notAlone_canOf]
  · rw [b_of_val (rxStored_val _ _ _ (by decide) (by decide)), notAlone_alone]

theorem canFrameReceive_lost (hfull : 128 ≤ (s.canOf u).fifo.length) : Completes (.canFrameReceive u f sof) s fun t =>
    (t.canOf u).fifo = (s.canOf u).fifo ∧ Counts s t u 0x0E2300 := by
  obtain ⟨hdist, hfifo, hcounts⟩ := rxFifo_full (wfCan_kind hu) (s := notAlone s u) (rxRecord f i (sof / Config.quantaPerNs))
    (by rw [notAlone_canOf]; exact hfull)
  refine ⟨_, canFrameReceive_next hs hq hu (canReceive_stores hst herr href hf ha) ((Undisturbed.notAlone ..).trans hdist), ?_,
    hcounts.of_n (n_of_val (notAlone_val s u (by decide) (by decide))) rfl⟩
  rw [hfifo, notAlone_canOf]

end

theorem canFrameReceive_unmatched (h : ∀ i < 64, filterMatches (filterOf s u i) f = false) : Completes (.canFrameReceive u f sof) s fun t =>
    (t.canOf u).fifo = (s.canOf u).fifo ∧ t.n u 0x0E2200 = s.n u 0x0E2200 := by
  refine ⟨_, canFrameReceive_next hs hq hu (canReceive_unmatched hst herr href h) (.notAlone ..), ?_, n_of_val (notAlone_val s u (by decide) (by decide))⟩
  rw [notAlone_canOf]

end

theorem busRecovered_completes (herr : (s.canOf u).err = 2) : Completes (.busRecovered u) s fun t => (t.canOf u).err = 0 ∧ (t.canOf u).tec = 0
    ∧ (t.canOf u).rxErr = 0 ∧ t.n u 0x0E0700 = 0 ∧ t.n u 0x0E0800 = 0 ∧ t.n u 0x0E0900 = 0 := by
  have heffect : busRecovered s u = publish (recovered s u) u 0x0E04 [] := if_neg (by simp [herr])
  have hcan : (publish (recovered s u) u 0x0E04 []).canOf u = { s.canOf u with err := 0, tec := 0, rxErr := 0 } :=
    (canOf_congr (Within.publish ..).can u).trans (recovered_canOf ..)
  have hn : ∀ y, 0x0E0000 ≤ y → y < 2 ^ 24 → (publish (recovered s u) u 0x0E04 []).n u y = (recovered s u).n u y := fun y hlo hhi =>
    n_of_val (publish_keeps _ _ _ _ _ _ hhi (.inr (by omega)))
  refine ⟨_, runs_settled hs hq hu heffect rfl ((Undisturbed.recovered ..).trans (Within.publish ..).undisturbed), by rw [hcan], by rw [hcan], by rw [hcan],
    ?_, ?_, ?_⟩
  · rw [hn _ (by decide) (by decide), recovered, showErrors_err, setCan_read_self]
  · rw [hn _ (by decide) (by decide), recovered, showErrors_tec, setCan_read_self]
    rfl
  · rw [hn _ (by decide) (by decide), recovered, showErrors_rec, setCan_read_self]
    rfl

/-- RxRead removes the oldest records and answers with them (R349). -/
theorem rxRead_completes (q : Nat) (o : Option Origin) : let n := min (s.canOf u).fifo.length (if q / 80 = 0 then 18 else min (q / 80) 18)
    Completes (.rxRead u q o) s fun t => (t.canOf u).fifo = (s.canOf u).fifo.drop n ∧ t.n u 0x0E2200 = (s.canOf u).fifo.length - n
      ∧ t = answer { s with can := t.can, dict := t.dict } o { status := stOk, type := Ty.blob.code, data := ((s.canOf u).fifo.take n).flatten } := by
  intro n
  have heffect : rxServe s u q o = answer (rxRemoved s u n) o { status := stOk, type := Ty.blob.code, data := ((s.canOf u).fifo.take n).flatten } :=
    if_neg (by rw [keeperUp_of hs]; decide)
  have hanswer := Within.answer (rxRemoved s u n) o { status := stOk, type := Ty.blob.code, data := ((s.canOf u).fifo.take n).flatten }
  obtain ⟨m, l, hkeeps⟩ := answer_keeps (rxRemoved s u n) o { status := stOk, type := Ty.blob.code, data := ((s.canOf u).fifo.take n).flatten }
  have hdict : (answer (rxRemoved s u n) o { status := stOk, type := Ty.blob.code, data := ((s.canOf u).fifo.take n).flatten }).dict = (rxRemoved s u n).dict := by
    rw [hkeeps]
  refine ⟨_, settled_next hq hu heffect rfl ((Undisturbed.rxRemoved ..).trans hanswer.undisturbed), ?_, ?_, ?_⟩
  · rw [canOf_congr hanswer.can u, rxRemoved_fifo]
  · rw [n_of_val (val_of_dict hdict), rxRemoved, setN_n_self]
  · rw [hdict, hanswer.can]
    rfl

end

/-- Settles O55: frames that are stored, lost and let go, errors seen as a receiver, the end of bus-off, and RxRead. -/
theorem canReceives : Obligations.CanReceives := by
  intro s u hs hq hu _
  refine ⟨fun f sof i hst herr href hf ha => ⟨canFrameReceive_stores hs hq hu sof hst herr href hf ha, canFrameReceive_lost hs hq hu sof hst herr href hf ha⟩,
    fun f sof hst herr href h => canFrameReceive_unmatched hs hq hu sof hst herr href h, fun f sof h1 h2 => ?_, fun hst herr htec hrec => ?_, fun hst => ?_,
    fun herr => ?_, busRecovered_completes hs hq hu, rxRead_completes hs hq hu⟩
  · exact canFrameReceive_next hs hq hu (if_pos (.inl ⟨h1, h2⟩)) (.refl s)
  · exact runs_settled hs hq hu (busError_counts hst herr htec hrec) rfl ((Undisturbed.setCan ..).trans (.showErrors ..))
  · exact runs_settled hs hq hu (if_pos (.inl hst)) rfl (.refl s)
  · exact runs_settled hs hq hu (if_pos herr) rfl (.refl s)

end Sys2Proof.Proofs
end

section
/-! SUPPORT. O50: a group of the veil that lists the veil itself (13 R296, R302). -/

namespace Sys2Proof.Proofs
open Sys2Proof.Machine

/-- The veil is READY and has decided STO of group 0 for a latched cause. GroupSleeves of that group names the veil, which is no sleeve, so that
no write puts it there (13 R298, Table 13-7), but the statement takes any state. -/
def blocksItself : State :=
  (({ deviceUp with veil := { deviceUp.veil with groups := [(0, { decided := some 3 })] } }).setN veilUnit 0x030000 usReady).setBs veilUnit 0x0C1000
    (leBytes 2 veilUnit)

/-- A cycle with every input released and every diagnosis good. -/
def goodCycle : VeilInputs :=
  { chanA := List.replicate 8 true, chanB := List.replicate 8 true, lanesAlive := true, stofb := 0, counts := [], illegal := [], diagFail := none }

theorem blocksItself_noCluster : NoCluster blocksItself veilUnit := by
  have hplan : planClusters blocksItself = [] := by
    unfold planClusters blocksItself
    rw [setBs_eq, setV_plan, setN_eq, setV_plan]
    rfl
  intro c hc
  rw [hplan] at hc
  cases hc

/-- The blocking signal trips the veil, whose FAULT resets the device, and StoCause is at its default after that. -/
theorem blocksItself_resets : numberAfter (.veilCycle goodCycle) blocksItself veilUnit 0x0C0400 = some 8 := by decide +kernel

/-- Refutes O50: the sleeves of a group are taken as they are listed, and the signal that blocks them is a hit of the veil's own source where the
veil is among them, so that the cause driven does not outlast the cycle. -/
theorem not_veilCycle : ¬ Obligations.VeilCycle := by
  intro h
  obtain ⟨hs, hq⟩ : Serving blocksItself ∧ Calm blocksItself := deviceUp_of rfl rfl
  obtain ⟨hcycle, -⟩ := h blocksItself hq
  obtain ⟨-, hdrives⟩ := hcycle goodCycle rfl rfl
  obtain ⟨t, hnext, -, -, hgroups⟩ := hdrives (by decide +kernel) (by decide +kernel) rfl blocksItself_noCluster rfl
  obtain ⟨hdecided, -⟩ := hgroups 0 (by decide)
  obtain ⟨-, hcause⟩ := hdecided 3 rfl
  have hreset := (numberAfter_of_next hnext veilUnit 0x0C0400).symm.trans blocksItself_resets
  rw [show t.n veilUnit 0x0C0400 = 3 from hcause] at hreset
  exact absurd hreset (by decide)

end Sys2Proof.Proofs
end

section
/-! SUPPORT. Commands of the veil (13 R297, R304, R317): the ways of its writes, and what the end of its self-test comes to. -/

namespace Sys2Proof.Machine

/-! ### SafetyKeyEnrol and SafetyReset (R317) -/

section
variable {s : State} {w : Write} {row : ObjRow} (hs : Serving s) (hw : w.unit = veilUnit)
include hw

theorem journalTxn_enrolment {o : Nat} (ho : o = 0xC0A ∨ o = 0xC0B) : journalTxn s w.unit o row w none = none := by
  have hroot : w.unit ≠ 0 := by rw [hw]; decide
  rcases ho with rfl | rfl <;> simp [journalTxn, hroot]

include hs

/-- The two writes that begin an enrolment or an erasure: a refusal, or a reply that comes later. -/
theorem directWrite_enrol (hp : Passes s 0xC0A w row) : directWrite s 0xC0A w
    = replyWith w.origin ((safetyEnrol s w.data w.origin).1.map fun x => { status := x }, (safetyEnrol s w.data w.origin).2) := by
  rw [directWrite_served hs hp (.inl (by rw [hw]; rfl))]
  unfold writeServe takeWrite
  simp [journalTxn_enrolment hw (.inl rfl), hp.own, lowerCode]

theorem directWrite_safetyReset (hp : Passes s 0xC0B w row) : directWrite s 0xC0B w
    = replyWith w.origin ((safetyReset s w.origin).1.map fun x => { status := x }, (safetyReset s w.origin).2) := by
  rw [directWrite_served hs hp (.inl (by rw [hw]; rfl))]
  unfold writeServe takeWrite
  simp [journalTxn_enrolment hw (.inr rfl), hp.own, lowerCode]

end

/-! ### The end of the self-test (R297, R316) -/

/-- The veil has passed its self-test. -/
def veilPassed (s : State) : State := { (s.setN veilUnit 0x0C0200 1) with rst := { s.rst with veilTested := true } }

/-- Its signature is computed. -/
def veilComputed (s : State) : State := (veilPassed s).setB veilUnit 0x0C0100 (veilSigned (s.setN veilUnit 0x0C0200 1))

theorem Undisturbed.modVeil (s : State) (f : VeilS → VeilS) : Undisturbed s (modVeil s f) := ⟨.refl _, rfl, rfl⟩

theorem Calm.veilComputed {s : State} (h : Calm s) : Calm (veilComputed s) := h

section
variable {s : State} (hs : Serving s) (h0 : s.n veilUnit 0x0C0200 = 0) (hoff : s.st veilUnit ≠ usOff)
include hs hoff

theorem veilRuns_of : veilRuns s = true := by
  obtain ⟨hphase, -⟩ := hs
  simp [veilRuns, hphase, hoff]

include h0

theorem veilTestDone_fails : veilTestDone s false = s.setN veilUnit 0x0C0200 2 := by
  unfold veilTestDone
  rw [if_neg (by simp [veilRuns_of hs hoff, h0])]
  rfl

theorem veilTestDone_passes : veilTestDone s true
    = if veilSigned (s.setN veilUnit 0x0C0200 1) = true ∧ s.veil.enabled = true ∧ (veilPassed s).st veilUnit = usDisabled ∧ (!limp s) = true
      then setUnit true (veilComputed s) veilUnit usReady else veilComputed s := by
  obtain ⟨hphase, -⟩ := hs
  unfold veilTestDone
  rw [if_neg (by simp [veilRuns, hphase, hoff, h0])]
  exact if_pos (show (veilPassed s).rst.veilTested = true ∧ (veilPassed s).rst.phase = .running from ⟨rfl, hphase⟩)

end

end Sys2Proof.Machine

namespace Sys2Proof.Proofs
open Sys2Proof.Machine

section
variable {s : State} (hs : Serving s) (hq : Calm s)
include hs hq

theorem groupLatchClear_waits {w : Write} {row : ObjRow} (hp : Passes s 0xC05 w row) (hw : w.unit = veilUnit) (he : w.elem < 8) :
    exec (.groupLatchClear w) s = .next (s.setGroup w.elem { s.group w.elem with clears := (s.group w.elem).clears ++ [w.origin] }) := by
  have hwf : (Instr.groupLatchClear w).wf = true := by
    show (wfWrite w && decide (w.elem < 8)) = true
    rw [hp.1, decide_eq_true he]
    rfl
  have heffect := writeEffect_other (r := (none, s.setGroup w.elem { s.group w.elem with clears := (s.group w.elem).clears ++ [w.origin] }))
    (by decide) hp (by decide) (by rw [hw]; decide) (by rw [hw]; rfl) rfl
  exact settled_next hq hwf (directWrite_acts (by decide) hs hp heffect) rfl ⟨.refl _, rfl, rfl⟩

section
variable {w : Write} {row : ObjRow} (hp : Passes s 0xC0A w row) (hw : w.unit = veilUnit)
include hp hw

theorem safetyKeyEnrol_begins (hr : enrolReady s = true) (hk : mapGet [] s.keys 3 = []) (hn : s.veil.enrol = none) :
    exec (.safetyKeyEnrol w) s = .next { s with veil := { s.veil with enrol := some (w.data, 0, false, w.origin) } } := by
  have hbegins : safetyEnrol s w.data w.origin = (none, { s with veil := { s.veil with enrol := some (w.data, 0, false, w.origin) } }) :=
    if_neg (by simp [hr, hk, hn])
  exact settled_next hq hp.1 ((directWrite_enrol hs hw hp).trans (by rw [hbegins]; rfl)) rfl ⟨.refl _, rfl, rfl⟩

theorem safetyKeyEnrol_refused (h : enrolReady s = false ∨ mapGet [] s.keys 3 ≠ [] ∨ s.veil.enrol.isSome = true) :
    exec (.safetyKeyEnrol w) s = .next (answerSt s w.origin stWrongState) := by
  have hrefused : safetyEnrol s w.data w.origin = (some stWrongState, s) := if_pos (h.imp_left fun h => by rw [h]; rfl)
  exact settled_next hq hp.1 ((directWrite_enrol hs hw hp).trans (by rw [hrefused]; rfl)) rfl (.answerSt ..)

end

theorem enrolTimeout_idle (h : s.veil.enrol = none) : exec .enrolTimeout s = .next s := by
  have heffect : enrolTimeout s = s := by unfold enrolTimeout; rw [h]
  exact settled_next hq rfl ((whenKeeper_of hs).trans heffect) rfl (.refl s)

theorem enrolTimeout_answers {key : Bytes} {n : Nat} {safe : Bool} {o : Option Origin} (h : s.veil.enrol = some (key, n, safe, o)) :
    exec .enrolTimeout s = .next (answerSt { s with veil := { s.veil with enrol := none } } o 0x23) := by
  have heffect : enrolTimeout s = answerSt { s with veil := { s.veil with enrol := none } } o 0x23 := by unfold enrolTimeout; rw [h]; rfl
  exact settled_next hq rfl ((whenKeeper_of hs).trans heffect) rfl ((Undisturbed.modVeil s fun v => { v with enrol := none }).trans (.answerSt ..))

section
variable {w : Write} {row : ObjRow} (hp : Passes s 0xC0B w row) (hw : w.unit = veilUnit)
include hp hw

theorem safetyReset_erases (hr : enrolReady s = true) : exec (.safetyReset w) s = .next (journal s (safetyErasure s) (.safetyErase w.origin)) := by
  have herases : safetyReset s w.origin = (none, journal s (safetyErasure s) (.safetyErase w.origin)) := if_neg (by simp [hr])
  exact done_next hp.1 (congrArg (fun t => done s (whenWf _ s t)) ((directWrite_safetyReset hs hw hp).trans (by rw [herases]; rfl))) (hq.journal _ _) rfl

theorem safetyReset_refused (hr : enrolReady s = false) : exec (.safetyReset w) s = .next (answerSt s w.origin stWrongState) := by
  have hrefused : safetyReset s w.origin = (some stWrongState, s) := if_pos (by rw [hr]; rfl)
  exact settled_next hq hp.1 ((directWrite_safetyReset hs hw hp).trans (by rw [hrefused]; rfl)) rfl (.answerSt ..)

end

section
variable (h0 : s.n veilUnit 0x0C0200 = 0) (hoff : s.st veilUnit ≠ usOff)
include h0 hoff

theorem veilSelfTest_computes (hen : s.veil.enabled = false) : exec (.veilSelfTestDone true) s = .next (veilComputed s) := by
  have heffect : veilTestDone s true = veilComputed s := (veilTestDone_passes hs h0 hoff).trans (if_neg (by simp [hen]))
  exact runs_next hs hq.veilComputed rfl (congrArg (fun t => done s (whenWf _ s (whenRuns s t))) heffect) rfl

theorem veilSelfTest_readies (hen : s.veil.enabled = true) (hst : s.st veilUnit = usDisabled) (hl : limp s = false)
    (hsig : veilSigned (s.setN veilUnit 0x0C0200 1) = true) (hn : NoCluster s veilUnit) : Completes (.veilSelfTestDone true) s fun t =>
      t.st veilUnit = usReady ∧ t.n veilUnit 0x0C0200 = 1 ∧ t.b veilUnit 0x0C0100 = true := by
  have hst' : (veilPassed s).st veilUnit = usDisabled :=
    (setN_n_ne s (u := veilUnit) (c := 0x0C0200) 1 (by decide) (by decide) (.inr (by decide))).trans hst
  have heffect : veilTestDone s true = setUnit true (veilComputed s) veilUnit usReady :=
    (veilTestDone_passes hs h0 hoff).trans (if_pos ⟨hsig, hen, hst', by rw [hl]; rfl⟩)
  have hn' : NoCluster (veilComputed s) veilUnit := hn
  have hw := Within.setUnit true (veilComputed s) veilUnit usReady

  refine ⟨_, runs_next hs (hq.veilComputed.undisturbed hw.undisturbed) rfl (congrArg (fun t => done s (whenWf _ s (whenRuns s t))) heffect) hw.pending,
    setUnit_st _ _ _ _ hn', ?_, ?_⟩
  · rw [n_of_val (setUnit_val _ _ _ _ _ _ hn' (by unfold Steady; omega)), veilComputed, setB_eq, setV_n_ne _ _ (by decide)]
    exact setN_n_self s veilUnit 0x0C0200 1
  · rw [b_of_val (setUnit_val _ _ _ _ _ _ hn' (by unfold Steady; omega)), veilComputed, setB_b_self, hsig]

end

end

/-- Settles O51: latch clears, the enrolment and its end, the erasure, and the self-test's two outcomes. -/
theorem veilCommands : Obligations.VeilCommands := by
  intro s hs hq
  refine ⟨fun w row => groupLatchClear_waits hs hq, fun w row hp hw => ⟨safetyKeyEnrol_begins hs hq hp hw, safetyKeyEnrol_refused hs hq hp hw⟩,
    enrolTimeout_idle hs hq, fun key n safe o => enrolTimeout_answers hs hq,
    fun w row hp hw => ⟨safetyReset_erases hs hq hp hw, safetyReset_refused hs hq hp hw⟩, fun h pass => ?_,
    fun h0 hoff => ⟨?_, veilSelfTest_computes hs hq h0 hoff, veilSelfTest_readies hs hq h0 hoff⟩⟩
  · exact runs_settled hs hq rfl (if_pos (.inr h)) rfl (.refl s)
  · exact runs_settled hs hq rfl (veilTestDone_fails hs h0 hoff) rfl (Within.setV ..).undisturbed

end Sys2Proof.Proofs
end

section
/-! SUPPORT. The journal and the firmware (16 R355, R356, R358, R361, R363, R365, R368, R369): rules of the anchor, of rendering, of what a reset
leaves of the dictionary, and of the keeper's commands. -/

namespace Sys2Proof.Machine

/-! ### The anchor and the regions (R354, R358) -/

theorem liveIdx_lt (n : Nva) : liveIdx n < 2 := Nat.mod_lt _ (by decide)

theorem liveIdx_other (n : Nva) : (1 - liveIdx n) % 2 = 1 - liveIdx n := by
  have h := liveIdx_lt n
  omega

theorem regionOf_setRegion (n : Nva) {a b : Nat} (l : List JRecord) (ha : a < 2) (hb : b < 2) :
    regionOf (setRegion n a l) b = if a = b then l else regionOf n b := by
  obtain rfl | rfl : a = 0 ∨ a = 1 := by omega
  · obtain rfl | rfl : b = 0 ∨ b = 1 := by omega
    · rfl
    · rfl
  · obtain rfl | rfl : b = 0 ∨ b = 1 := by omega
    · rfl
    · rfl

theorem setRegion_anchors (n : Nva) (a : Nat) (l : List JRecord) : (setRegion n a l).anchor0 = n.anchor0 ∧ (setRegion n a l).anchor1 = n.anchor1 := by
  unfold setRegion
  split
  · exact ⟨rfl, rfl⟩
  · exact ⟨rfl, rfl⟩

/-- Of two equal copies either is in force. -/
theorem liveAnchor_same {n : Nva} {a : Anchor} (h0 : n.anchor0 = some a) (h1 : n.anchor1 = some a) : liveAnchor n = a := by
  unfold liveAnchor
  rw [h0, h1]
  exact if_neg (lt_irrefl _)

/-- An anchor written is the one in force, but for its generation. -/
theorem liveAnchor_writeAnchor (s : State) (f : Anchor → Anchor) : liveAnchor (writeAnchor s f).nva
    = { f (liveAnchor s.nva) with generation := ((liveAnchor s.nva).generation + 1) % 2 ^ 32 } := liveAnchor_same rfl rfl

/-- The NVA die and the keeper's state of the journal are no part of what waits. -/
theorem Undisturbed.modJournal (s : State) (f : JournalS → JournalS) : Undisturbed s (modJournal s f) := ⟨.refl _, rfl, rfl⟩

theorem Undisturbed.writeAnchor (s : State) (f : Anchor → Anchor) : Undisturbed s (writeAnchor s f) := ⟨.refl _, rfl, rfl⟩

theorem stampRecords_epoch {e q : Nat} {l : List JRecord} {r : JRecord} (h : r ∈ stampRecords e q l) : r.epoch = e := by
  induction l generalizing q with
  | nil => cases h
  | cons x xs ih =>
    rcases List.mem_cons.mp h with rfl | h
    · rfl
    · exact ih h

/-! ### Rendering (R361, R363) -/

theorem startRender_rendering (s : State) : (startRender s).journal.rendering = true := by
  unfold startRender
  split
  · assumption
  · rfl

theorem startRender_queue (s : State) : (startRender s).journal.queue = s.journal.queue := by
  unfold startRender
  split
  · rfl
  · rfl

theorem Undisturbed.startRender (s : State) : Undisturbed s (startRender s) := by
  unfold Machine.startRender
  split
  · exact .refl s
  · exact ⟨.refl _, rfl, rfl⟩

/-- The snapshot goes into the other region, under the next epoch; the live one and the anchors stay. -/
theorem startRender_regions {s : State} (h : s.journal.rendering = false) :
    regionOf (startRender s).nva (liveIdx s.nva) = regionOf s.nva (liveIdx s.nva) ∧ (startRender s).nva.anchor0 = s.nva.anchor0
      ∧ (startRender s).nva.anchor1 = s.nva.anchor1
      ∧ ∀ r ∈ regionOf (startRender s).nva (1 - liveIdx s.nva), r.epoch = ((liveAnchor s.nva).epoch + 1) % 2 ^ 32 := by
  have hlive := liveIdx_lt s.nva
  have hnva : ∃ q l, (startRender s).nva = setRegion s.nva (1 - liveIdx s.nva) (stampRecords (((liveAnchor s.nva).epoch + 1) % 2 ^ 32) q l) := by
    unfold startRender
    rw [if_neg (by rw [h]; decide)]
    exact ⟨_, _, rfl⟩
  obtain ⟨q, l, hnva⟩ := hnva
  obtain ⟨h0, h1⟩ := setRegion_anchors s.nva (1 - liveIdx s.nva) (stampRecords (((liveAnchor s.nva).epoch + 1) % 2 ^ 32) q l)
  rw [hnva, regionOf_setRegion _ _ (by omega) hlive, regionOf_setRegion _ _ (by omega) (by omega), if_pos rfl, if_neg (by omega)]
  exact ⟨rfl, h0, h1, fun r hr => stampRecords_epoch hr⟩

theorem renderDone_stick : StickCounter .root 0x0F0600 (2 ^ 32 - 1) := .of_check (by decide +kernel)

/-- The state whose anchor names the region that rendering has written. -/
def rendered (s : State) : State :=
  let other := 1 - liveIdx s.nva
  let first := ((regionOf s.nva other).head?.map JRecord.seq).getD ((s.journal.seq + 1) % 2 ^ 32)
  let s1 := writeAnchor s fun a => { a with epoch := (a.epoch + 1) % 2 ^ 32, firstSeq := first, live := other }
  let last := ((regionOf s1.nva other).getLast?.map JRecord.seq).getD s.journal.seq
  modJournal s1 fun j => { j with rendering := false, seq := last }

theorem renderDone_renders {s : State} (hs : Serving s) (h : s.journal.rendering = true) : renderDone s
    = publish (bump (rendered s) 0 0x0F0600) 0 0x0F01 (leBytes 4 (liveAnchor (rendered s).nva).epoch ++ leBytes 4 (liveBytes (rendered s).nva)) :=
  if_neg (by simp [h, keeperUp_of hs])

theorem liveAnchor_rendered (s : State) : (liveAnchor (rendered s).nva).epoch = ((liveAnchor s.nva).epoch + 1) % 2 ^ 32
    ∧ (liveAnchor (rendered s).nva).live = 1 - liveIdx s.nva := by
  have h : (rendered s).nva = (writeAnchor s fun a => { a with
      epoch := (a.epoch + 1) % 2 ^ 32
      firstSeq := ((regionOf s.nva (1 - liveIdx s.nva)).head?.map JRecord.seq).getD ((s.journal.seq + 1) % 2 ^ 32)
      live := 1 - liveIdx s.nva }).nva := rfl
  rw [h, liveAnchor_writeAnchor]
  exact ⟨rfl, rfl⟩

theorem Undisturbed.rendered (s : State) : Undisturbed s (rendered s) := ⟨.refl _, rfl, rfl⟩

/-! ### A transaction that only replies (R356) -/

/-- The state in which the records of the transaction at the front have been written. -/
def committed (s : State) (rs : List JRecord) (rest : List Txn) : State := appendRecords { s with journal := { s.journal with queue := rest } } rs

theorem Undisturbed.committed (s : State) (rs : List JRecord) (rest : List Txn) : Undisturbed s (committed s rs rest) := ⟨.refl _, rfl, rfl⟩

theorem journalCommits_reply {s : State} (hs : Serving s) {rs : List JRecord} {o : Option Origin} {rest : List Txn} (hq : s.journal.queue = ⟨rs, .reply o⟩ :: rest)
    (h : ∀ r ∈ rs, ¬ (r.space = 2 ∧ r.obj = 7)) : journalCommits s = renderIfFull (answerSt (committed s rs rest) o stOk) := by
  have hplan : (rs.any fun r => r.space == 2 && r.obj == 7) = false := by simpa using h
  unfold journalCommits
  rw [hq]
  simp only [keeperUp_of hs, turnRefusal, turnRecords, txnActs, hplan]
  rfl

/-! ### What a reset leaves of the dictionary (17 R381) -/

/-- Only the dictionary has changed. -/
def DictOnly (s t : State) : Prop := ∃ d, t = { s with dict := d }

theorem DictOnly.refl (s : State) : DictOnly s s := ⟨s.dict, rfl⟩

theorem DictOnly.trans {s t u : State} (h : DictOnly s t) (g : DictOnly t u) : DictOnly s u := by
  obtain ⟨_, rfl⟩ := h
  obtain ⟨d, rfl⟩ := g
  exact ⟨d, rfl⟩

theorem DictOnly.setV (s : State) (u k : Nat) (v : Val) : DictOnly s (s.setV u k v) := ⟨_, rfl⟩

theorem DictOnly.foldl {α : Type} {f : State → α → State} (l : List α) (s : State) (h : ∀ t x, DictOnly t (f t x)) : DictOnly s (l.foldl f s) := by
  induction l generalizing s with
  | nil => exact .refl s
  | cons x r ih => exact (h s x).trans (ih _)

theorem mapFind_filter {α : Type} (m : NMap α) (p : Nat × α → Bool) (k : Nat) (h : ∀ v, p (k, v) = true) : mapFind (m.filter p) k = mapFind m k := by
  induction m with
  | nil => rfl
  | cons e r ih =>
    obtain ⟨a, x⟩ := e
    by_cases hk : a = k
    · subst hk
      rw [List.filter_cons, if_pos (h x)]
      simp [mapFind]
    · rw [List.filter_cons]
      split
      · simp [mapFind, hk, ih]
      · simp [mapFind, hk, ih]

theorem bootCounter_saturation : 0x0B1000 + stickIndex .root 0x1000 0 / 32 < 0x0B1020 := by decide +kernel

/-- An object of the backup domain outlasts the reset. -/
theorem resetDict_backup {s t : State} {outside : Nat → Bool} (ht : t.dict = resetDict s outside) {y : Nat} (hy : 0x100000 ≤ y ∧ y ≤ 0x1004FF) :
    t.val 0 y = s.val 0 y := by
  obtain ⟨hlo, hhi⟩ := hy
  have hsat := bootCounter_saturation
  have hkey : keyOf 0 y = y := by
    unfold keyOf
    omega
  have hbackup : backupKey y = true := by
    unfold backupKey
    rw [decide_eq_true ⟨hlo, hhi⟩]
    rfl
  have hkept : mapGet (defaultAt y) (s.dict.filter fun e => backupKey e.1 || outside (e.1 / 2 ^ 24) || (e.1 % 2 ^ 24 == 0x030000 && e.2 == .num usRetired)) y
      = mapGet (defaultAt y) s.dict y := by
    unfold mapGet
    rw [mapFind_filter _ _ _ fun v => by simp only [hbackup, Bool.true_or]]
  unfold State.val
  rw [ht, hkey, ← hkept, resetDict]
  split
  · unfold mapPut
    split
    · rw [mapGet, mapFind_mapDel, if_neg (by omega)]
      rfl
    · rw [mapGet, mapFind_mapIns, if_neg (by omega)]
      rfl
  · rfl

/-! ### PFAIL (R365) -/

/-- What is left at PFAIL, before the units are OFF. -/
def powerCut (s : State) : State := { wiped (cutJournal s) with field := s.field, dict := resetDict s fun u => u == fieldUnit }

theorem powerCut_dict (s : State) : (powerCut s).dict = resetDict s fun u => u == fieldUnit := rfl

theorem cutJournal_empty {s : State} (h : s.journal.queue = []) : cutJournal s = modJournal s fun j => { j with rendering := false } := by
  unfold cutJournal
  rw [h]

/-- Cutting the journal changes nothing but the die, the keeper's state of it, and the count of free values. -/
theorem cutJournal_keeps (s : State) : ∃ n j c, cutJournal s = { s with nva := n, journal := j, freeCount := c } := by
  unfold cutJournal
  split
  · exact ⟨_, _, _, rfl⟩
  · exact ⟨_, _, _, rfl⟩

/-- The units of the COMB and CAN domains and the veil are OFF. -/
def unitsOff (s : State) : State := (allSleeves ++ [0x500, 0x501, veilUnit]).foldl (fun t u => if t.st u = usRetired then t else t.setN u 0x030000 usOff) s

theorem DictOnly.unitsOff (s : State) : DictOnly s (unitsOff s) := by
  refine .foldl _ _ fun t u => ?_
  split
  · exact .refl t
  · exact .setV ..

theorem unitsOff_n (s : State) (u : Nat) {y : Nat} (hy : y < 2 ^ 24) (h : y ≠ 0x030000) : (unitsOff s).n u y = s.n u y := by
  refine foldl_keeps (fun t => t.n u y) _ _ _ fun t x => ?_
  split
  · rfl
  · exact setN_n_ne _ _ (by decide) hy (.inr h)

theorem pfail_eq (s : State) : pfail s
    = modRst (unitsOff (powerCut s)) fun x => { x with phase := .powerFail, domainsOff := true, sources := s.rst.sources, quadrants := [] } := rfl

end Sys2Proof.Machine

namespace Sys2Proof.Proofs
open Sys2Proof.Machine

section
variable {s : State} (hs : Serving s) (hq : Calm s)
include hs hq

omit hs in
theorem journalCommit_idle (h : s.journal.queue = []) : exec .journalCommit s = .next s := by
  have heffect : journalCommits s = s := by unfold journalCommits; rw [h]
  exact settled_next hq rfl heffect rfl (.refl s)

section
variable {rs : List JRecord} {o : Option Origin} {rest : List Txn} (h : s.journal.queue = ⟨rs, .reply o⟩ :: rest)
  (hrs : ∀ r ∈ rs, ¬ (r.space = 2 ∧ r.obj = 7))
include h hrs

theorem journalCommit_replies (hroom : 4 * regionUsed (committed s rs rest).nva < 3 * Config.regionBytes) :
    exec .journalCommit s = .next (answerSt (committed s rs rest) o stOk) := by
  have hdist := (Undisturbed.committed s rs rest).trans (Undisturbed.answerSt _ o stOk)
  have hnva := (Within.answerSt (committed s rs rest) o stOk).nva
  exact settled_next hq rfl ((journalCommits_reply hs h hrs).trans (if_neg (by rw [hnva]; exact Nat.not_le.mpr hroom))) rfl hdist

theorem journalCommit_renders (hfull : 3 * Config.regionBytes ≤ 4 * regionUsed (committed s rs rest).nva) :
    Completes .journalCommit s fun t => t.journal.rendering = true ∧ t.journal.queue = rest := by
  have hw := Within.answerSt (committed s rs rest) o stOk
  have hdist := (Undisturbed.committed s rs rest).trans hw.undisturbed
  have heffect := (journalCommits_reply hs h hrs).trans (if_pos (by rw [hw.nva]; exact hfull))
  refine ⟨_, settled_next hq rfl heffect rfl (hdist.trans (.startRender _)), startRender_rendering _, ?_⟩
  rw [startRender_queue, hw.journal]
  rfl

end

section
variable {w : Write} {row : ObjRow} (hu : w.unit = 0)
include hu

theorem renderNow_next (hp : Passes s 0xF10 w row) : exec (.renderNow w) s = .next (answerSt (startRender s) w.origin stOk) :=
  settled_next hq hp.1 (directWrite_acts (by decide) hs hp (writeEffect_root (by decide) hp (by decide) hu rfl)) rfl
    ((Undisturbed.startRender s).trans (.answerSt ..))

theorem renderNow_renders (hp : Passes s 0xF10 w row) (h : s.journal.rendering = false) : Completes (.renderNow w) s fun t => t.journal.rendering = true
    ∧ regionOf t.nva (liveIdx s.nva) = regionOf s.nva (liveIdx s.nva) ∧ t.nva.anchor0 = s.nva.anchor0 ∧ t.nva.anchor1 = s.nva.anchor1
    ∧ ∀ r ∈ regionOf t.nva (1 - liveIdx s.nva), r.epoch = ((liveAnchor s.nva).epoch + 1) % 2 ^ 32 := by
  have hw := Within.answerSt (startRender s) w.origin stOk
  refine ⟨_, renderNow_next hs hq hu hp, ?_, ?_⟩
  · rw [hw.journal, startRender_rendering]
  · rw [hw.nva]
    exact startRender_regions h

/-- RetirementsAccept is refused by the root itself where no list has been lost (R358). -/
theorem retirementsAccept_accepts (hc : directCheck s 0 0xF11 w = .ok row) (hwf : wfWrite w = true) (h : s.journal.retirementsLost = true) :
    exec (.retirementsAccept w) s = .next (answerSt { s with journal := { s.journal with retirementsLost := false } } w.origin stOk) := by
  have hown : ownRefusal s w.unit 0xF11 row w = none := by
    rw [hu]
    show (if s.journal.retirementsLost = true then none else some stWrongState) = none
    rw [if_pos h]
  have hp : Passes s 0xF11 w row := ⟨hwf, by decide, by rw [hu]; rfl, by rw [hu]; exact hc, hown⟩
  exact settled_next hq hwf (directWrite_acts (by decide) hs hp (writeEffect_root (by decide) hp (by decide) hu rfl)) rfl
    ((Undisturbed.modJournal s fun j => { j with retirementsLost := false }).trans (.answerSt ..))

theorem retirementsAccept_refused (hc : directCheck s 0 0xF11 w = .ok row) (hwf : wfWrite w = true) (h : s.journal.retirementsLost = false) :
    exec (.retirementsAccept w) s = .next (answerSt s w.origin stWrongState) := by
  have hown : ownRefusal s w.unit 0xF11 row w = some stWrongState := by
    rw [hu]
    show (if s.journal.retirementsLost = true then none else some stWrongState) = some stWrongState
    rw [h]
    rfl
  exact settled_next hq hwf (directWrite_ownRefused hs (by rw [hu]; rfl) (by rw [hu]; exact hc) (by rw [hu]; rfl) (by decide) hown (by decide)) rfl
    (.answerSt ..)

end

theorem renderDone_completes (h : s.journal.rendering = true) : Completes .renderDone s fun t => t.journal.rendering = false
    ∧ liveIdx t.nva = 1 - liveIdx s.nva ∧ (liveAnchor t.nva).epoch = ((liveAnchor s.nva).epoch + 1) % 2 ^ 32 ∧ Counts s t 0 0x0F0600 := by
  obtain ⟨hepoch, hlive⟩ := liveAnchor_rendered s
  have hw : Within (rendered s) (renderDone s) := by
    rw [renderDone_renders hs h]
    exact (Within.bump ..).trans (.publish ..)
  have hcounts : Counts s (bump (rendered s) 0 0x0F0600) 0 0x0F0600 :=
    Counts.of_n (s := rendered s) (fun hv => renderDone_stick.counts rfl hv) rfl rfl
  have hn : (renderDone s).n 0 0x0F0600 = (bump (rendered s) 0 0x0F0600).n 0 0x0F0600 := by
    rw [renderDone_renders hs h]
    exact n_of_val (publish_keeps _ _ _ _ _ _ (by decide) (.inr (by decide)))
  refine ⟨_, settled_next hq rfl (whenKeeper_of hs) rfl ((Undisturbed.rendered s).trans hw.undisturbed), ?_, ?_, ?_, hcounts.of_n rfl hn⟩
  · rw [hw.journal]
    rfl
  · rw [hw.nva, liveIdx, hlive]
    exact liveIdx_other s.nva
  · rw [hw.nva, hepoch]

/-! ### PFAIL and the firmware -/

omit hs hq in
/-- PFAIL switches the domains off at once, and waits for nothing (R365). -/
theorem pfail_completes : Completes .pfail s fun t => t.rst.phase = .powerFail ∧ t.rst.domainsOff = true ∧ t.slots = [] ∧ t.axes = [] ∧ t.cells = []
    ∧ t.journal.queue = [] ∧ t.field = s.field ∧ t.n 0 0x100000 = s.n 0 0x100000 ∧ (s.journal.queue = [] → t.nva = s.nva) := by
  have hkept : (powerCut s).n 0 0x100000 = s.n 0 0x100000 := n_of_val (resetDict_backup (powerCut_dict s) (by decide))
  have hn : (pfail s).n 0 0x100000 = s.n 0 0x100000 := by
    rw [pfail_eq, n_of_val (modRst_at_val ..), unitsOff_n _ _ (by decide) (by decide), hkept]
  obtain ⟨d, hd⟩ := DictOnly.unitsOff (powerCut s)
  obtain ⟨n, j, c, hcut⟩ := cutJournal_keeps s
  have hpending : (pfail s).pending = s.pending := by
    rw [pfail_eq, hd]
    show (cutJournal s).pending = s.pending
    rw [hcut]
  refine ⟨pfail s, (congrArg (quiet s) (whenWf_of rfl)).trans (quiet_next hpending), ?_⟩
  refine ⟨rfl, rfl, ?_, ?_, ?_, ?_, ?_, hn, fun h => ?_⟩
  · rw [pfail_eq, hd]; rfl
  · rw [pfail_eq, hd]; rfl
  · rw [pfail_eq, hd]; rfl
  · rw [pfail_eq, hd]; rfl
  · rw [pfail_eq, hd]; rfl
  · rw [pfail_eq, hd]
    show (cutJournal s).nva = s.nva
    rw [cutJournal_empty h]
    rfl

/-- No check of the signature runs any more. -/
def verified (s : State) : State := { s with journal := { s.journal with verifying := false } }

/-- The anchor names the trial slot. -/
def trialSet (s : State) : State := writeAnchor (verified s) fun a => { a with trialSlot := otherSlot s }

section
variable {w : Write} {row : ObjRow} (hc : directCheck s 0 0xF30 w = .ok row) (hwf : wfWrite w = true) (hu : w.unit = 0)
include hc hu

omit hq in
theorem firmwareServe_checked (ok : Bool) : firmwareServe s w ok
    = if (firmwareApply (verified s) ok).1 = stOk then firmwareRestart (answerSt (firmwareApply (verified s) ok).2 w.origin stOk)
      else answerSt (verified s) w.origin (firmwareApply (verified s) ok).1 := by
  have hw : { w with unit := 0 } = w := by rw [← hu]
  have hc' : directCheck (modJournal s fun j => { j with verifying := false }) 0 0xF30 w = .ok row := hc
  unfold firmwareServe
  rw [if_neg (by rw [keeperUp_of hs]; decide)]
  dsimp only
  rw [hw, hc']
  rfl

include hwf

/-- A refusal of FirmwareApply ends the check and answers (R368). -/
theorem firmwareApply_refused {ok : Bool} {e : Nat} (hr : firmwareApply (verified s) ok = (e, verified s)) (he : e ≠ stOk) :
    exec (.firmwareApply w ok) s = .next (answerSt (verified s) w.origin e) :=
  settled_next hq hwf ((firmwareServe_checked hs hc hu ok).trans (by rw [hr]; exact if_neg he)) rfl
    ((Undisturbed.modJournal s fun j => { j with verifying := false }).trans (.answerSt ..))

theorem firmwareApply_onTrial (ht : onTrial s = true) (ok : Bool) : exec (.firmwareApply w ok) s = .next (answerSt (verified s) w.origin 0x21) :=
  firmwareApply_refused hs hq hc hwf hu (if_pos ht) (by decide)

theorem firmwareApply_unsigned (ht : onTrial s = false) : exec (.firmwareApply w false) s = .next (answerSt (verified s) w.origin 0x20) :=
  firmwareApply_refused hs hq hc hwf hu ((if_neg (by rw [show onTrial (verified s) = onTrial s from rfl, ht]; decide)).trans (if_pos rfl)) (by decide)

/-- An image with a valid signature is put on trial, and the keeper restarts once the reply has left (R368). -/
theorem firmwareApply_starts (ht : onTrial s = false) : Completes (.firmwareApply w true) s fun t => (liveAnchor t.nva).trialSlot = otherSlot s
    ∧ t.rst.keeperDown = true ∧ t.axes = s.axes ∧ t.cells = s.cells := by
  have hr : firmwareApply (verified s) true = (stOk, trialSet s) :=
    (if_neg (by rw [show onTrial (verified s) = onTrial s from rfl, ht]; decide)).trans (if_neg (by decide))
  have heffect : firmwareServe s w true = firmwareRestart (answerSt (trialSet s) w.origin stOk) :=
    (firmwareServe_checked hs hc hu true).trans (by rw [hr]; exact if_pos rfl)
  have hw := Within.answerSt (trialSet s) w.origin stOk
  have htrial : Undisturbed s (trialSet s) := ⟨.refl _, rfl, rfl⟩
  have hcalm : Calm (firmwareRestart (answerSt (trialSet s) w.origin stOk)) := by
    obtain ⟨hslots, hraised, hreach⟩ := hq.undisturbed (htrial.trans hw.undisturbed)
    exact ⟨hslots, hraised, hreach⟩
  refine ⟨_, done_next hwf (congrArg (fun t => done s (whenWf _ s t)) heffect) hcalm hw.pending, ?_, rfl, ?_, ?_⟩
  · show (liveAnchor (answerSt (trialSet s) w.origin stOk).nva).trialSlot = otherSlot s
    rw [hw.nva, trialSet, liveAnchor_writeAnchor]
  · exact answerSt_axes ..
  · exact hw.cells

end

theorem firmwareConfirmed_idle (h : s.journal.trial = none) : exec .firmwareConfirmed s = .next s := by
  have heffect : firmwareConfirmed s = s := by unfold firmwareConfirmed; rw [h]
  exact settled_next hq rfl ((whenKeeper_of hs).trans heffect) rfl (.refl s)

/-- The anchor names the slot on trial as the one to boot, and no trial runs (R369). -/
def trialKept (s : State) (k : Nat) : State :=
  modJournal (writeAnchor s fun a => { a with bootSlot := k, trialSlot := 0xFF }) fun j => { j with trial := none }

theorem firmwareConfirmed_completes {k : Nat} (h : s.journal.trial = some k) : Completes .firmwareConfirmed s fun t => (liveAnchor t.nva).bootSlot = k
    ∧ (liveAnchor t.nva).trialSlot = 0xFF ∧ t.journal.trial = none := by
  have heffect : firmwareConfirmed s = publish (trialKept s k) 0 0x0F05 [BitVec.ofNat 8 k] := by
    unfold firmwareConfirmed
    rw [h]
    exact if_neg (by rw [keeperUp_of hs]; decide)
  have hw := Within.publish (trialKept s k) 0 0x0F05 [BitVec.ofNat 8 k]
  have hanchor : liveAnchor (trialKept s k).nva = { liveAnchor s.nva with
      bootSlot := k, trialSlot := 0xFF, generation := ((liveAnchor s.nva).generation + 1) % 2 ^ 32 } :=
    liveAnchor_writeAnchor s fun a => { a with bootSlot := k, trialSlot := 0xFF }
  have hdist : Undisturbed s (trialKept s k) := (Undisturbed.writeAnchor ..).trans (.modJournal ..)
  refine ⟨_, settled_next hq rfl ((whenKeeper_of hs).trans heffect) rfl (hdist.trans hw.undisturbed), ?_, ?_, ?_⟩
  · rw [hw.nva, hanchor]
  · rw [hw.nva, hanchor]
  · rw [hw.journal]
    rfl

end

/-- Settles O60: transactions that reply, rendering, the retirement list, PFAIL, and the firmware slots. -/
theorem journalAndFirmware : Obligations.JournalAndFirmware := by
  intro s hs hq
  refine ⟨journalCommit_idle hq, fun rs o rest h hrs => ⟨journalCommit_replies hs hq h hrs, journalCommit_renders hs hq h hrs⟩,
    fun w row hp hu => ⟨fun h => ?_, renderNow_renders hs hq hu hp⟩, fun h => ?_, renderDone_completes hs hq,
    fun w row hc hwf hu => ⟨retirementsAccept_accepts hs hq hu hc hwf, retirementsAccept_refused hs hq hu hc hwf⟩, pfail_completes,
    fun w row hc hwf hu => ⟨firmwareApply_onTrial hs hq hc hwf hu, firmwareApply_unsigned hs hq hc hwf hu, firmwareApply_starts hs hq hc hwf hu⟩,
    firmwareConfirmed_idle hs hq, fun k => firmwareConfirmed_completes hs hq⟩
  · have hsame : startRender s = s := if_pos h
    have hnext := renderNow_next hs hq hu hp
    rwa [hsame] at hnext
  · exact settled_next hq rfl ((whenKeeper_of hs).trans (if_pos (.inl (by rw [h]; rfl)))) rfl (.refl s)

end Sys2Proof.Proofs
end

section
/-! SUPPORT. Resets (17 R371, R373 to R376, R380 to R382): what the source that strikes a device in service leaves, for a FULL or DEVICE reset and for
a KEEPER reset. -/

namespace Sys2Proof.Machine

/-! ### What is volatile is gone (R371) -/

/-- A sleeve of which only the levels at its inputs are left. -/
def Wiped (x : SleeveS) : Prop := x.pwm = {} ∧ { x.fb with a := false, b := false, z := false, c := false } = {}

theorem wiped_dict (s : State) : (wiped s).dict = resetDict s fun _ => false := rfl

theorem wiped_sleeve (s : State) (k : Nat) : Wiped ((wiped s).sleeve k) := by
  have hfold : ∀ k, Wiped (mapGet {} (s.sleeves.foldl
      (fun m e => mapPut {} m e.1 { fb := { a := e.2.fb.a, b := e.2.fb.b, z := e.2.fb.z, c := e.2.fb.c } }) []) k) := by
    refine List.foldlRecOn _ _ (motive := fun m => ∀ k, Wiped (mapGet {} m k)) (fun _ => ⟨rfl, rfl⟩) fun m hm e _ k => ?_
    rw [mapGet_mapPut]
    split
    · exact ⟨rfl, rfl⟩
    · exact hm k
  exact hfold k

/-- An object of the backup domain other than the cause and the reach of the last reset. -/
def Backed (y : Nat) : Prop := 0x100000 ≤ y ∧ y ≤ 0x1004FF ∧ y ≠ 0x100100 ∧ y ≠ 0x100200

/-- A cause that is noted afresh (R375). -/
def causeNoted (s : State) (src : ResetSource) (r : Reach) : State :=
  modRst ((s.setN 0 0x100100 (sourceCode src)).setN 0 0x100200 (reachCode r)) fun x => { x with since := s.time.uptime }

theorem noteCause_fresh (s : State) (src : ResetSource) (r : Reach) : noteCause s true src r = causeNoted s src r := rfl

theorem causeNoted_cause (s : State) (src : ResetSource) (r : Reach) : (causeNoted s src r).n 0 0x100100 = sourceCode src := by
  rw [causeNoted, modRst_at_n, n_of_val (setN_val_ne _ _ (by decide) (by decide) (by decide)), setN_n_self]

theorem causeNoted_reach (s : State) (src : ResetSource) (r : Reach) : (causeNoted s src r).n 0 0x100200 = reachCode r := by
  rw [causeNoted, modRst_at_n, setN_n_self]

theorem causeNoted_val (s : State) (src : ResetSource) (r : Reach) {y : Nat} (hy : y < 2 ^ 24) (h : y ≠ 0x100100 ∧ y ≠ 0x100200) :
    (causeNoted s src r).val 0 y = s.val 0 y := by
  rw [causeNoted, modRst_at_val, setN_val_ne _ _ (by decide) hy h.2, setN_val_ne _ _ (by decide) hy h.1]

/-- A FULL or DEVICE reset of a device that was in none, with no source held. -/
theorem bigReset_begins {s : State} (hphase : s.rst.phase ≠ .inReset) (hsrc : s.rst.sources = []) (src : ResetSource) (r : Reach) :
    Restarted s (bigReset s src r) src r ∧ Calm (bigReset s src r) ∧ (bigReset s src r).pending = s.pending
      ∧ ∀ y, Backed y → (bigReset s src r).val 0 y = s.val 0 y := by
  obtain ⟨n, j, c, hcut⟩ := cutJournal_keeps s
  have hreset : bigReset s src r = causeNoted (modRst (wiped (cutJournal s)) fun x => { x with
      phase := .inReset, reach := r, sources := if heldSource src then [src] else []
      stretch := (if heldSource src then [src] else []).isEmpty, nRstLow := true }) src r := by
    unfold bigReset
    rw [if_neg hphase, hsrc, List.nil_append]
    rfl
  rw [hreset]
  refine ⟨⟨rfl, rfl, rfl, ?_, causeNoted_cause .., causeNoted_reach .., rfl, rfl, rfl, rfl, rfl, wiped_sleeve _, rfl, ?_⟩,
    ⟨fun _ => rfl, rfl, rfl⟩, ?_, fun y hy => ?_⟩
  · show (if heldSource src = true then [src] else []).isEmpty = !heldSource src
    cases heldSource src <;> rfl
  · show (cutJournal s).rst.fuses = s.rst.fuses
    rw [hcut]
  · show (cutJournal s).pending = s.pending
    rw [hcut]
  · obtain ⟨hlo, hhi, h1, h2⟩ := hy
    rw [causeNoted_val _ _ _ (by omega) ⟨h1, h2⟩, modRst_at_val, resetDict_backup (wiped_dict _) ⟨hlo, hhi⟩]
    exact val_of_dict (by rw [hcut])

/-! ### A source strikes (R375, R379) -/

theorem resetCount_stick : StickCounter .root 0x100000 (2 ^ 32 - 1) := .of_check (by decide +kernel)

/-- A reset that strikes a trial has the ROM boot the other slot (16 R369). -/
def trialStruck (s : State) (src : ResetSource) : State :=
  if src = .keeperWdg ∨ src = .fatal then modRst s fun x => { x with revert := x.revert || onTrial s } else s

/-- The source has been counted. -/
def struck (s : State) (src : ResetSource) : State := bump (trialStruck s src) 0 0x100000

theorem trialStruck_keeps (s : State) (src : ResetSource) : ∃ b, trialStruck s src = { s with rst := { s.rst with revert := b } } := by
  unfold trialStruck
  split
  · exact ⟨_, rfl⟩
  · exact ⟨s.rst.revert, rfl⟩

theorem struck_rst (s : State) (src : ResetSource) : ∃ b, (struck s src).rst = { s.rst with revert := b } := by
  obtain ⟨b, hb⟩ := trialStruck_keeps s src
  exact ⟨b, (Within.bump ..).rst.trans (by rw [hb])⟩

theorem struck_pending (s : State) (src : ResetSource) : (struck s src).pending = s.pending := by
  obtain ⟨b, hb⟩ := trialStruck_keeps s src
  exact (Within.bump ..).pending.trans (by rw [hb])

theorem struck_goesOn (s : State) (src : ResetSource) : (struck s src).axes = s.axes ∧ (struck s src).sleeves = s.sleeves
    ∧ (struck s src).cells = s.cells ∧ (struck s src).time = s.time ∧ (struck s src).beat = s.beat ∧ (struck s src).veil = s.veil
    ∧ (struck s src).field = s.field ∧ (struck s src).can = s.can ∧ (struck s src).nva = s.nva := by
  obtain ⟨b, hb⟩ := trialStruck_keeps s src
  have hsame := bump_same { s with rst := { s.rst with revert := b } } 0 0x100000
  rw [struck, hb]
  exact ⟨hsame.axes, hsame.sleeves, hsame.cells, hsame.time, hsame.beat, hsame.veil, hsame.field, hsame.can, hsame.nva⟩

theorem struck_counts (s : State) (src : ResetSource) : Counts s (struck s src) 0 0x100000 := by
  obtain ⟨b, hb⟩ := trialStruck_keeps s src
  exact Counts.of_n (fun hv => resetCount_stick.counts rfl hv) (n_of_val (val_of_dict (by rw [hb]))) rfl

section
variable {s : State} (hphase : s.rst.phase = .running) (hk : s.rst.keeperDown = false)
include hphase hk

/-- A source of reach FULL or DEVICE strikes a device in service. -/
theorem assertSource_big (src : ResetSource) {r : Reach} (hr : r = .full ∨ r = .device) : assertSource s src r = bigReset (struck s src) src r := by
  unfold assertSource
  dsimp only
  rw [if_neg (by simp [hphase]), hphase]
  simp only [hk, Bool.false_and]
  rcases hr with rfl | rfl
  · rfl
  · rfl

/-- What such a source leaves, of a state with the fuses of s. -/
theorem assertSource_restarts (hsrc : s.rst.sources = []) (src : ResetSource) {r : Reach} (hr : r = .full ∨ r = .device) :
    Restarted s (assertSource s src r) src r ∧ Calm (assertSource s src r) ∧ (assertSource s src r).pending = s.pending
      ∧ Counts s (assertSource s src r) 0 0x100000 := by
  obtain ⟨b, hb⟩ := struck_rst s src
  obtain ⟨hrestarted, hcalm, hpending, hbacked⟩ := bigReset_begins (s := struck s src) (by rw [hb, hphase]; decide) (by rw [hb]; exact hsrc) src r
  rw [assertSource_big hphase hk src hr]
  refine ⟨?_, hcalm, hpending.trans (struck_pending s src), (struck_counts s src).of_n rfl (n_of_val (hbacked _ ⟨by decide, by decide, by decide, by decide⟩))⟩
  unfold Restarted at hrestarted ⊢
  rwa [hb] at hrestarted

/-- A source of reach KEEPER strikes a device in service, in another AON cycle than the last reset. -/
theorem assertSource_keeper (hsince : s.rst.since ≠ s.time.uptime) (src : ResetSource) :
    assertSource s src .keeper = keeperReset (causeNoted (struck s src) src .keeper) := by
  unfold assertSource
  dsimp only
  rw [if_neg (by simp [hphase]), hphase]
  simp only [hk, beq_eq_false_iff_ne.mpr hsince.symm, Bool.false_and]
  rfl

/-- What a KEEPER reset leaves of a device in service with nothing waiting. -/
theorem assertSource_keeperDown (hq : Calm s) (hsince : s.rst.since ≠ s.time.uptime) (src : ResetSource) :
    KeeperDown s (assertSource s src .keeper) src ∧ Calm (assertSource s src .keeper) ∧ (assertSource s src .keeper).pending = s.pending
      ∧ Counts s (assertSource s src .keeper) 0 0x100000 := by
  obtain ⟨b, hb⟩ := trialStruck_keeps s src
  have hsame : SameButEvents (trialStruck s src) (struck s src) := bump_same ..
  have hcalm : Calm (trialStruck s src) := by
    rw [hb]
    exact hq
  obtain ⟨hslots, hraised, hreach⟩ : Calm (struck s src) := hcalm.of_same (Within.bump ..).calm hsame.rst
  rw [assertSource_keeper hphase hk hsince src]
  have hn : ∀ y, (keeperReset (causeNoted (struck s src) src .keeper)).n 0 y = (causeNoted (struck s src) src .keeper).n 0 y := fun y => modRst_at_n ..
  refine ⟨⟨rfl, rfl, ?_, (hn _).trans (causeNoted_cause ..), (hn _).trans (causeNoted_reach ..), struck_goesOn s src⟩, ⟨hslots, hraised, hreach⟩,
    struck_pending s src, ?_⟩
  · exact (congrArg ResetS.phase hsame.rst).trans (by rw [hb])
  · exact (struck_counts s src).of_n rfl ((hn _).trans (n_of_val (causeNoted_val _ _ _ (by decide) (by decide))))

end

/-! ### What follows a software reset's reply (R376) -/

theorem pump_of_slots {s : State} (h : ∀ i, calmSlot (s.slot i) = true) : pump s = s := by
  unfold pump
  split
  · rfl
  · refine List.foldlRecOn _ _ (motive := fun t => t = s) rfl fun t ht i _ => ?_
    rw [ht, serveSession_calm _ _ _ (h i), closeIfDone_calm _ _ (h i)]

/-- A software reset whose reply has left acts, where nothing else waits. -/
theorem settle_software {s : State} {r : Reach} {o : Option Origin} (hslots : ∀ i, calmSlot (s.slot i) = true) (hraised : s.rst.raised = [])
    (hsw : s.rst.swReach = some (r, o)) : settle s
      = if replyLeft s o = true then assertSource (modRst s fun x => { x with swReach := none }) .swReq r else s := by
  unfold settle
  rw [pump_of_slots hslots, serveRaised_calm s hraised]
  unfold serveSoftware
  rw [hsw]

/-! ### Power-up (R373, R381) -/

theorem mapFind_filter_none {α : Type} (m : NMap α) (p : Nat × α → Bool) (k : Nat) (h : ∀ v, p (k, v) = false) : mapFind (m.filter p) k = none := by
  induction m with
  | nil => rfl
  | cons e r ih =>
    obtain ⟨a, x⟩ := e
    rw [List.filter_cons]
    split
    · next hp =>
      have hne : a ≠ k := by
        rintro rfl
        exact Bool.false_ne_true ((h x).symm.trans hp)
      simp [mapFind, hne, ih]
    · exact ih

/-- The backup domain has lost its contents where VBAT is out of range. -/
def backupPowered (s : State) (v : Supplies) : State :=
  let i := stickIndex .root 0x1000 0
  if 2000000 ≤ v.vbat ∧ v.vbat ≤ 3600000 then s
  else { s with dict := (s.dict.filter fun e => !backupKey e.1) }.setN 0 (0x0B1000 + i / 32) (clrBit (s.n 0 (0x0B1000 + i / 32)) (i % 32))

/-- The device at power-up, before POR has struck. -/
def poweredUp (s : State) (v : Supplies) : State :=
  modRst (backupPowered s v) fun x => { x with sources := [], stretch := x.stretch || x.phase == .inReset, quadrants := [] }

theorem porAsserts_powered {s : State} {v : Supplies} (h1 : 690000 ≤ v.vcore) (h2 : 3000000 ≤ v.vddio) (h3 : 1650000 ≤ v.vdd18) :
    porAsserts s v = assertSource (poweredUp s v) .por .full :=
  if_neg (by
    simp only [Config.vcorePowerOn, Config.vddioPowerOn, Config.vdd18PowerOn]
    omega)

theorem backupPowered_keeps (s : State) (v : Supplies) : DictOnly s (backupPowered s v) := by
  unfold backupPowered
  dsimp only
  split
  · exact .refl s
  · exact ⟨_, rfl⟩

theorem resetCount_default : defaultAt 0x100000 = .num 0 := by decide +kernel

theorem poweredUp_count_lost {s : State} {v : Supplies} (h : v.vbat < 2000000) : (poweredUp s v).n 0 0x100000 = 0 := by
  have hsat := bootCounter_saturation
  have hlost : mapFind (s.dict.filter fun e => !backupKey e.1) 0x100000 = none := mapFind_filter_none _ _ _ fun _ => rfl
  rw [poweredUp, modRst_at_n, backupPowered, if_neg (by omega), n_of_val (setN_val_ne _ _ (by omega) (by decide) (by omega))]
  unfold State.n State.i State.val
  dsimp only
  rw [show keyOf 0 0x100000 = 0x100000 from rfl, mapGet, hlost, resetCount_default]
  rfl

end Sys2Proof.Machine
end

section
/-! SUPPORT. O56: the reset sources (17 R373, R375, R379 to R381, R389, R390). -/

namespace Sys2Proof.Proofs
open Sys2Proof.Machine

/-- Restarted looks back at the fuse shadow alone. -/
theorem restarted_of_fuses {s s' t : State} {src : ResetSource} {r : Reach} (h : Restarted s t src r) (hf : s.rst.fuses = s'.rst.fuses) : Restarted s' t src r := by
  unfold Restarted at h ⊢
  rwa [← hf]

/-- A command whose effect is a source that strikes the state s', which differs from s in nothing that a reset leaves. -/
theorem strikes_completes {s s' x : State} {i : Instr} {src : ResetSource} {r : Reach} (hw : i.wf = true) (he : x = assertSource s' src r)
    (hx : exec i s = done s (whenWf i s x)) (hphase : s'.rst.phase = .running) (hk : s'.rst.keeperDown = false) (hsrc : s'.rst.sources = [])
    (hf : s'.rst.fuses = s.rst.fuses) (hp : s'.pending = s.pending) (hr : r = .full ∨ r = .device) :
    Completes i s fun t => Restarted s t src r ∧ Counts s' t 0 0x100000 := by
  obtain ⟨hrestarted, hcalm, hpending, hcounts⟩ := assertSource_restarts hphase hk hsrc src hr
  exact ⟨_, done_next hw (he ▸ hx) hcalm (hpending.trans hp), restarted_of_fuses hrestarted hf, hcounts⟩

section
variable {s : State} (hs : Serving s) (hsrc : s.rst.sources = [])
include hs hsrc

theorem source_completes {x : State} {i : Instr} {src : ResetSource} {r : Reach} (hw : i.wf = true) (he : x = assertSource s src r)
    (hx : exec i s = done s (whenWf i s x)) (hr : r = .full ∨ r = .device) : Completes i s fun t => Restarted s t src r ∧ Counts s t 0 0x100000 :=
  strikes_completes hw he hx hs.1 hs.2 hsrc rfl rfl hr

omit hsrc in
theorem por_completes {v : Supplies} (h1 : 690000 ≤ v.vcore) (h2 : 3000000 ≤ v.vddio) (h3 : 1650000 ≤ v.vdd18) : Completes (.por v) s fun t =>
    Restarted s t .por .full ∧ (2000000 ≤ v.vbat → v.vbat ≤ 3600000 → Counts s t 0 0x100000) ∧ (v.vbat < 2000000 → t.n 0 0x100000 = 1) := by
  obtain ⟨d, hd⟩ := backupPowered_keeps s v
  obtain ⟨t, hnext, hrestarted, hcounts⟩ := strikes_completes (i := .por v) (s' := poweredUp s v) rfl (porAsserts_powered h1 h2 h3) rfl
    (by rw [poweredUp, hd]; exact hs.1) (by rw [poweredUp, hd]; exact hs.2) rfl (by rw [poweredUp, hd]; rfl) (by rw [poweredUp, hd]; rfl) (.inl rfl)
  refine ⟨t, hnext, hrestarted, fun hlo hhi => ?_, fun hlost => ?_⟩
  · have hkept : backupPowered s v = s := if_pos ⟨hlo, hhi⟩
    exact hcounts.of_n (by rw [poweredUp, hkept, modRst_at_n]) rfl
  · have hzero := poweredUp_count_lost (s := s) hlost
    rw [hcounts (by rw [hzero]; decide), hzero]

theorem thermal_completes {mc : Int} (h : 125000 < mc) (hr : s.rst.fuses.thermal = .full ∨ s.rst.fuses.thermal = .device) :
    Completes (.thermal mc) s fun t => Restarted s t .thermal s.rst.fuses.thermal ∧ Counts s t 0 0x100000 :=
  strikes_completes (s' := modRst s fun x => { x with junction := mc }) rfl (if_pos h) rfl hs.1 hs.2 hsrc rfl rfl hr

omit hsrc in
theorem keeperWdg_completes (hq : Calm s) (hf : s.rst.fuses.keeperWdg = .keeper) (hsince : s.rst.since ≠ s.time.uptime) :
    Completes .keeperWdg s fun t => KeeperDown s t .keeperWdg ∧ Counts s t 0 0x100000 := by
  have heffect : keeperWdgAsserts s = assertSource s .keeperWdg .keeper := by rw [keeperWdgAsserts, hf]
  obtain ⟨hdown, hcalm, hpending, hcounts⟩ := assertSource_keeperDown hs.1 hs.2 hq hsince .keeperWdg
  exact ⟨_, done_next rfl (congrArg (fun t => done s (whenWf _ s t)) heffect) hcalm hpending, hdown, hcounts⟩

end

theorem thermalHigh_stick : StickCounter .root 0x102200 (2 ^ 32 - 1) := .of_check (by decide +kernel)

/-- Above 115 °C the warning is counted once, and is not armed again before the die has cooled (R390). -/
theorem thermalHigh_completes {s : State} (hs : Serving s) (hq : Calm s) {mc : Int} (h : 115000 < mc) (ha : s.rst.thermalArmed = true) :
    Completes (.thermalHigh mc) s fun t => t.rst = { s.rst with junction := mc, thermalArmed := false } ∧ Counts s t 0 0x102200 := by
  have hw : Within (modRst s fun x => { x with junction := mc, thermalArmed := false }) (thermalHigh s mc) := by
    unfold thermalHigh
    dsimp only
    rw [if_pos ⟨h, ha⟩]
    exact (Within.bump ..).trans (.publish ..)
  have hn : (thermalHigh s mc).n 0 0x102200 = (bump (modRst s fun x => { x with junction := mc, thermalArmed := false }) 0 0x102200).n 0 0x102200 := by
    unfold thermalHigh
    dsimp only
    rw [if_pos ⟨h, ha⟩]
    exact n_of_val (publish_keeps _ _ _ _ _ _ (by decide) (.inr (by decide)))
  have hcalm : Calm (modRst s fun x => { x with junction := mc, thermalArmed := false }) := hq
  have hcounts : Counts (modRst s fun x => { x with junction := mc, thermalArmed := false })
      (bump (modRst s fun x => { x with junction := mc, thermalArmed := false }) 0 0x102200) 0 0x102200 := fun hv => thermalHigh_stick.counts rfl hv
  have hready : whenReady s (thermalHigh s mc) = thermalHigh s mc := whenReady_of hs
  exact ⟨_, done_next rfl (congrArg (fun t => done s (whenWf _ s t)) hready) (hcalm.undisturbed hw.undisturbed) hw.pending, hw.rst, hcounts.of_n rfl hn⟩

/-- A source during fuse load (R379). -/
theorem fuseLoad_interrupted {s : State} (hphase : s.rst.phase = .fuseLoad) (hsrc : s.rst.sources = []) :
    Completes .keeperWdg s fun t => Restarted s t .keeperWdg .full ∧ t.b 0 0x100300 = true := by
  obtain ⟨b, hb⟩ := struck_rst s .keeperWdg
  have heffect : keeperWdgAsserts s = bigReset ((struck s .keeperWdg).setB 0 0x100300 true) .keeperWdg .full := by
    unfold keeperWdgAsserts assertSource
    dsimp only
    rw [if_neg (by simp [hphase]), hphase]
    rfl
  have hrst : ((struck s .keeperWdg).setB 0 0x100300 true).rst = { s.rst with revert := b } := hb
  obtain ⟨hrestarted, hcalm, hpending, hbacked⟩ := bigReset_begins (s := (struck s .keeperWdg).setB 0 0x100300 true) (by rw [hrst, hphase]; decide)
    (by rw [hrst]; exact hsrc) .keeperWdg .full
  refine ⟨_, done_next rfl (congrArg (fun t => done s (whenWf _ s t)) heffect) hcalm (hpending.trans (struck_pending ..)),
    restarted_of_fuses hrestarted (by rw [hrst]), ?_⟩
  rw [b_of_val (hbacked _ ⟨by decide, by decide, by decide, by decide⟩), setB_b_self]

/-- Settles O56: each source of a device in service, a source during fuse load, and the end of a source. -/
theorem resetSources : Obligations.ResetSources := by
  intro s hq
  refine ⟨fun hs _ hsrc => ⟨fun v => por_completes hs, fun v h => ?_, fun v h => ?_, fun v h => ?_, fun v h => ?_, fun hign hr => ?_, fun hign => ?_,
    keeperWdg_completes hs hq, fun hj hf => ?_, fun hj => ?_, fun mc => thermal_completes hs hsrc, fun mc => thermalHigh_completes hs hq⟩,
    fuseLoad_interrupted, fun src => ?_, fun mc => ?_⟩
  · exact settled_next hq rfl (if_pos (.inl h)) rfl (.refl s)
  · exact source_completes hs hsrc rfl (if_pos h) rfl (.inl rfl)
  · exact settled_next hq rfl (if_neg (Nat.not_lt.mpr h)) rfl (.refl s)
  · exact source_completes hs hsrc rfl (if_pos h) rfl (.inl rfl)
  · have hmapped : mappedReach s .pin = s.rst.fuses.pin := if_neg (by rw [hs.1]; decide)
    exact source_completes hs hsrc rfl ((if_neg (Nat.not_lt.mpr hign)).trans (by rw [hmapped])) rfl hr
  · exact settled_next hq rfl (if_pos hign) rfl (.refl s)
  · exact source_completes hs hsrc rfl ((if_pos hj).trans (by rw [hf])) rfl (.inr rfl)
  · exact settled_next hq rfl (if_neg (by rw [hj]; decide)) rfl (.refl s)
  · exact done_next rfl rfl hq rfl
  · exact (congrArg (quiet s) (whenWf_of rfl)).trans (quiet_next rfl)

end Sys2Proof.Proofs
end

section
/-! SUPPORT. Start-up (17 R378, R380, R382, R388; 16 R357, R358): what the domains' power-up, the replay of the journal and the keeper's return
leave as it is. -/

namespace Sys2Proof.Machine

/-! ### The domains come out of reset (R388) -/

/-- A unit that was OFF comes up. -/
def unitUp (t : State) (u : Nat) : State := if t.st u = usOff then t.setN u 0x030000 usDisabled else t

/-- The units that come up, after the root. -/
def unitsUp (s : State) : List Nat := allSleeves ++ [0x500, 0x501, veilUnit] ++ (if s.field.powered then [fieldUnit] else []) ++ poweredCells s

theorem powerDomains_eq (s : State) : powerDomains s = (unitsUp s).foldl unitUp (unitUp s 0) := rfl

theorem Within.unitUp (t : State) (u : Nat) : Within t (unitUp t u) := by
  unfold Machine.unitUp
  split
  · exact .setV ..
  · exact .refl t

theorem Within.powerDomains (s : State) : Within s (powerDomains s) := by
  rw [powerDomains_eq]
  exact (Within.unitUp s 0).trans (.foldl _ _ _ .unitUp)

theorem unitUp_st (t : State) (u k : Nat) : (unitUp t u).st k = if u = k ∧ t.st k = usOff then usDisabled else t.st k := by
  unfold unitUp
  by_cases hoff : t.st u = usOff
  · rw [if_pos hoff]
    by_cases huk : u = k
    · subst huk
      rw [if_pos ⟨rfl, hoff⟩]
      exact setN_n_self ..
    · rw [if_neg (fun h => huk h.1)]
      exact setN_n_ne _ _ (by decide) (by decide) (.inl (Ne.symm huk))
  · rw [if_neg hoff, if_neg]
    rintro ⟨rfl, h⟩
    exact hoff h

theorem foldl_unitUp_st {l : List Nat} {k : Nat} {t : State} (hk : k ∈ l) (h : t.st k = usOff ∨ t.st k = usDisabled) : (l.foldl unitUp t).st k = usDisabled := by
  have hne : usDisabled ≠ usOff := by decide
  have hkept : ∀ (l : List Nat) (t : State), t.st k = usDisabled → (l.foldl unitUp t).st k = usDisabled := fun l t ht =>
    List.foldlRecOn l _ (motive := fun t : State => t.st k = usDisabled) ht fun t ht x _ => by rw [unitUp_st, ht, if_neg fun h => hne h.2]
  induction l generalizing t with
  | nil => cases hk
  | cons x r ih =>
    rcases List.mem_cons.mp hk with rfl | hr
    · refine hkept r _ ?_
      rw [unitUp_st]
      split
      · rfl
      · next hno => exact h.resolve_left fun hoff => hno ⟨rfl, hoff⟩
    · refine ih hr ?_
      rw [unitUp_st]
      split
      · exact .inr rfl
      · exact h

theorem sleeve_mem_unitsUp {k : Nat} (hk : isSleeve k = true) (s : State) : k ∈ unitsUp s := by
  have hrange : 0x101 ≤ k ∧ k ≤ 0x120 := of_decide_eq_true hk
  have hsleeve : k ∈ allSleeves := List.mem_map.mpr ⟨k - 0x101, List.mem_range.mpr (by omega), by omega⟩
  exact List.mem_append_left _ (List.mem_append_left _ (List.mem_append_left _ hsleeve))

/-- A sleeve that was OFF is DISABLED. -/
theorem powerDomains_sleeve {s : State} {k : Nat} (hk : isSleeve k = true) (h : s.st k = usOff) : (powerDomains s).st k = usDisabled := by
  have hroot : ¬ (0 = k ∧ s.st k = usOff) := by
    rintro ⟨rfl, -⟩
    exact absurd hk (by decide)
  have hoff : (unitUp s 0).st k = usOff := by rw [unitUp_st, if_neg hroot, h]
  rw [powerDomains_eq]
  exact foldl_unitUp_st (sleeve_mem_unitsUp hk s) (.inl hoff)

/-! ### What start-up keeps -/

/-- Nothing begins to wait, the plan last journaled stays, and the veil's self-test is where it was. -/
structure StartKeeps (s t : State) : Prop where
  pending : t.pending = s.pending
  calm : CalmSame s.slots t.slots
  raised : t.rst.raised = s.rst.raised
  swReach : t.rst.swReach = s.rst.swReach
  veilTested : t.rst.veilTested = s.rst.veilTested
  plan : t.nva.plan = s.nva.plan

/-- After the replay: the phase, the die, the library and the keys stay as well. -/
structure Resumes (s t : State) : Prop extends StartKeeps s t where
  phase : t.rst.phase = s.rst.phase
  nva : t.nva = s.nva
  jobs : t.jobs = s.jobs
  keys : t.keys = s.keys
  lost : t.journal.retirementsLost = s.journal.retirementsLost

theorem StartKeeps.refl (s : State) : StartKeeps s s := ⟨rfl, .refl _, rfl, rfl, rfl, rfl⟩

theorem StartKeeps.trans {s t u : State} (h : StartKeeps s t) (g : StartKeeps t u) : StartKeeps s u :=
  ⟨g.pending.trans h.pending, h.calm.trans g.calm, g.raised.trans h.raised, g.swReach.trans h.swReach, g.veilTested.trans h.veilTested, g.plan.trans h.plan⟩

theorem StartKeeps.foldl {α : Type} {f : State → α → State} (l : List α) (s : State) (h : ∀ t x, StartKeeps t (f t x)) : StartKeeps s (l.foldl f s) := by
  induction l generalizing s with
  | nil => exact .refl s
  | cons x r ih => exact (h s x).trans (ih _)

theorem Within.resumes {s t : State} (w : Within s t) : Resumes s t where
  pending := w.pending
  calm := w.calm
  raised := by rw [w.rst]
  swReach := by rw [w.rst]
  veilTested := by rw [w.rst]
  plan := by rw [w.nva]
  phase := by rw [w.rst]
  nva := w.nva
  jobs := w.jobs
  keys := w.keys
  lost := by rw [w.journal]

theorem Resumes.refl (s : State) : Resumes s s := (Within.refl s).resumes

theorem Resumes.trans {s t u : State} (h : Resumes s t) (g : Resumes t u) : Resumes s u :=
  ⟨h.toStartKeeps.trans g.toStartKeeps, g.phase.trans h.phase, g.nva.trans h.nva, g.jobs.trans h.jobs, g.keys.trans h.keys, g.lost.trans h.lost⟩

theorem Resumes.foldl {α : Type} {f : State → α → State} (l : List α) (s : State) (h : ∀ t x, Resumes t (f t x)) : Resumes s (l.foldl f s) := by
  induction l generalizing s with
  | nil => exact .refl s
  | cons x r ih => exact (h s x).trans (ih _)

theorem Calm.starts {s t : State} (h : Calm s) (k : StartKeeps s t) : Calm t :=
  ⟨fun i => (k.calm i).trans (h.1 i), k.raised.trans h.2.1, k.swReach.trans h.2.2⟩

/-! ### Replay (16 R357, R358) -/

theorem Within.startKeeps {s t : State} (w : Within s t) : StartKeeps s t := w.resumes.toStartKeeps

theorem StartKeeps.camRuns (s : State) (m : NMap (List (Nat × Nat))) : StartKeeps s { s with camRuns := m } := ⟨rfl, .refl _, rfl, rfl, rfl, rfl⟩

theorem StartKeeps.replayValue (s : State) (r : JRecord) : StartKeeps s (replayValue s r) := by
  unfold Machine.replayValue
  dsimp only
  split
  · exact .refl s
  · split
    · exact .refl s
    · split
      · split
        · exact (Within.setV ..).startKeeps.trans (.camRuns ..)
        · exact (Within.setV ..).startKeeps
      · split
        · split
          · exact ((Within.setV ..).trans (.setV ..)).startKeeps
          · exact (Within.setV ..).startKeeps
        · split
          · exact (Within.setV ..).startKeeps.trans (.camRuns ..)
          · exact (Within.setV ..).startKeeps

theorem StartKeeps.replayJob (s : State) (r : JRecord) : StartKeeps s (replayJob s r) := by
  have hjobs : ∀ m, StartKeeps s { s with jobs := m } := fun m => ⟨rfl, .refl _, rfl, rfl, rfl, rfl⟩
  unfold Machine.replayJob
  dsimp only
  split
  · split
    · exact hjobs _
    · exact hjobs _
  · split
    · exact .refl s
    · exact hjobs _

theorem StartKeeps.replayItem (s : State) (r : JRecord) : StartKeeps s (replayItem s r) := by
  unfold Machine.replayItem
  dsimp only
  split
  · exact ⟨rfl, .refl _, rfl, rfl, rfl, rfl⟩
  · exact ⟨rfl, .refl _, rfl, rfl, rfl, rfl⟩
  · exact (Within.setV ..).startKeeps
  · exact (Within.setFault ..).startKeeps
  · exact (Within.setV ..).startKeeps
  · exact ⟨rfl, .refl _, rfl, rfl, rfl, rfl⟩
  · exact (Within.setV ..).startKeeps
  · exact .refl s

theorem StartKeeps.replayRecord (s : State) (r : JRecord) : StartKeeps s (replayRecord s r) := by
  unfold Machine.replayRecord
  split
  · exact .replayValue s r
  · split
    · exact .replayJob s r
    · exact .replayItem s r

theorem Within.unretire (s : State) : Within s (unretire s) := .foldl _ _ _ fun _ _ => .setV ..

theorem setRegion_plan (n : Nva) (r : Nat) (l : List JRecord) : (setRegion n r l).plan = n.plan := by
  unfold setRegion
  split
  · rfl
  · rfl

theorem StartKeeps.writeRetired (s : State) (l : List Nat) : StartKeeps s (writeRetired s l) := ⟨rfl, .refl _, rfl, rfl, rfl, rfl⟩

theorem StartKeeps.dueEvent (s : State) (c : Nat) (d : Bytes) : StartKeeps s (dueEvent s c d) := ⟨rfl, .refl _, rfl, rfl, rfl, rfl⟩

theorem StartKeeps.replayJournal (s : State) : StartKeeps s (replayJournal s) := by
  have hrecords : ∀ l : List JRecord, StartKeeps s (l.foldl Machine.replayRecord (unretire s)) := fun l =>
    (Within.unretire s).resumes.toStartKeeps.trans (.foldl _ _ .replayRecord)
  have hregion : ∀ t r l (f : JournalS → JournalS), StartKeeps t (modJournal { t with nva := setRegion t.nva r l } f) := fun t r l f =>
    ⟨rfl, .refl _, rfl, rfl, rfl, setRegion_plan t.nva r l⟩
  have hretired : ∀ t, StartKeeps t (if retiredList t.nva = some (retiredUnits t) then t else Machine.writeRetired t (retiredUnits t)) := fun t => by
    split
    · exact .refl t
    · exact .writeRetired ..
  unfold Machine.replayJournal
  dsimp only
  split
  · exact ((hrecords _).trans (hregion ..)).trans (hretired _)
  · exact (((hrecords _).trans (hregion ..)).trans (hretired _)).trans ((Within.bump ..).resumes.toStartKeeps.trans (.dueEvent ..))

/-- Start-up without an anchor: nothing of the journal is left, and what is staged and the keys are those of the state. -/
structure Fresh (s t : State) : Prop extends StartKeeps { s with nva := { s.nva with plan := none } } t where
  region0 : t.nva.region0 = []
  region1 : t.nva.region1 = []
  epoch : (liveAnchor t.nva).epoch = 0
  lost : t.journal.retirementsLost = (retiredList s.nva).isNone
  jobs : t.jobs = s.jobs
  keys : t.keys = s.keys

theorem freshJournal_fresh (s : State) : Fresh s (freshJournal s) := by
  have hw : Within s (((retiredList s.nva).getD []).foldl (fun t u => t.setN u 0x030000 usRetired) (unretire s)) :=
    (Within.unretire s).trans (.foldl _ _ _ fun _ _ => .setV ..)
  unfold freshJournal dueEvent Machine.writeRetired modNva modJournal
  dsimp only
  generalize ((retiredList s.nva).getD []).foldl (fun t u => t.setN u 0x030000 usRetired) (unretire s) = t at hw
  have hkept := hw.startKeeps
  refine ⟨⟨hw.pending, hw.calm, hkept.raised, hkept.swReach, hkept.veilTested, rfl⟩, rfl, rfl, ?_, rfl, hw.jobs, hw.keys⟩
  exact congrArg Anchor.epoch (liveAnchor_same (a := {}) rfl rfl)

/-! ### The dictionary is ready (R388 step 4) -/

theorem Within.acquire (s : State) (k : Nat) : Within s (acquire s k) := by
  unfold Machine.acquire
  exact ((Within.setV ..).trans (.setV ..)).trans (.modFb ..)

theorem Resumes.netUp (s : State) : Resumes s (netUp s) := by
  unfold Machine.netUp
  dsimp only
  split
  · exact ⟨⟨rfl, .refl _, rfl, rfl, rfl, rfl⟩, rfl, rfl, rfl, rfl, rfl⟩
  · exact ⟨⟨rfl, .refl _, rfl, rfl, rfl, rfl⟩, rfl, rfl, rfl, rfl, rfl⟩

theorem Resumes.commitOutcome (s : State) (c k : Nat) (d : Bytes) (j : Nat) (rs : List JRecord) (a : TxnAct) : Resumes s (commitOutcome s c k d j rs a) := by
  obtain ⟨⟨h1, h2, h3, h4, h5, h6⟩, h7, h8, h9, h10, h11⟩ := ((Within.bump s 0 k).trans (.publish _ 0 c d)).resumes
  exact ⟨⟨h1, h2, h3, h4, h5, h6⟩, h7, h8, h9, h10, h11⟩

theorem Resumes.flushDue (s : State) : Resumes s (flushDue s) := by
  have hcleared : Resumes s (modRst s fun x => { x with due := [] }) := ⟨⟨rfl, .refl _, rfl, rfl, rfl, rfl⟩, rfl, rfl, rfl, rfl, rfl⟩
  exact hcleared.trans (.foldl _ _ fun _ _ => (Within.publish ..).resumes)

theorem Resumes.resetReport (s : State) : Resumes s (resetReport s) := (Within.publish ..).resumes

/-- The replayed journal, with its duration. -/
def replayed (s : State) : State := (powerDomains (replay s)).setN 0 0x0F0800 ((s.time.uptime - s.rst.replayStart) / quantaPerUs)

theorem Resumes.replayed (s : State) : Resumes (replay s) (replayed s) := ((Within.powerDomains _).trans (.setV ..)).resumes

/-- The dictionary is ready: the outputs are idle, the feedback is acquired, and the address is in force. -/
def dictionaryReady (s : State) : State :=
  modRst (allSleeves.foldl acquire ((List.range 16).foldl pinIdle s)) fun x => { x with phase := .running }

/-- Commits that the reset ended are reported as failed (04 R118). -/
def commitsClosed (s : State) : State :=
  s.rst.commitOpen.foldl (fun t j => commitOutcome t 0x0712 0x078A00 (leBytes 1 j ++ [1]) j [] .none) (modRst s fun x => { x with commitOpen := [] })

/-- The limp state is reported. -/
def limpReported (s : State) : State := if s.rst.limp then publish s 0 0x1002 (leBytes 4 s.rst.fuses.trimFailed) else s

/-- Fuse rows that have failed are reported. -/
def fusesReported (s : State) : State := if s.rst.fuses.optionFailed ≠ 0 then publish s 0 0x1003 (leBytes 4 s.rst.fuses.optionFailed) else s

/-- What is reported when the dictionary is ready. -/
def startReported (s : State) : State := flushDue (fusesReported (limpReported (commitsClosed (resetReport s))))

/-- The plan of the journal, applied where nothing forbids it. -/
def planRestored (s : State) : State :=
  match s.nva.plan with
  | some p => if limp s ∨ s.journal.retirementsLost then s else applyPlan s p
  | none => s

theorem journalReplayDone_eq (s : State) : journalReplayDone s
    = if s.rst.phase ≠ .replay then s else veilComesUp (startReported (netUp (dictionaryReady (planRestored (replayed s))))) := by
  unfold journalReplayDone replayed
  generalize (powerDomains (replay s)).setN 0 0x0F0800 ((s.time.uptime - s.rst.replayStart) / quantaPerUs) = t
  dsimp only
  refine if_congr Iff.rfl rfl ?_
  unfold planRestored dictionaryReady
  cases t.nva.plan with
  | none =>
    dsimp only
    generalize netUp _ = v
    unfold startReported fusesReported limpReported commitsClosed
    rfl
  | some p =>
    dsimp only
    generalize netUp _ = v
    unfold startReported fusesReported limpReported commitsClosed
    rfl

theorem planRestored_none {s : State} (h : s.nva.plan = none) : planRestored s = s := by
  unfold planRestored
  rw [h]

theorem Resumes.commitsClosed (s : State) : Resumes s (commitsClosed s) := by
  have hopen : Resumes s (modRst s fun x => { x with commitOpen := [] }) := ⟨⟨rfl, .refl _, rfl, rfl, rfl, rfl⟩, rfl, rfl, rfl, rfl, rfl⟩
  exact hopen.trans (.foldl _ _ fun _ _ => .commitOutcome ..)

theorem Resumes.limpReported (s : State) : Resumes s (limpReported s) := by
  unfold Machine.limpReported
  split
  · exact (Within.publish ..).resumes
  · exact .refl s

theorem Resumes.fusesReported (s : State) : Resumes s (fusesReported s) := by
  unfold Machine.fusesReported
  split
  · exact (Within.publish ..).resumes
  · exact .refl s

theorem Resumes.startReported (s : State) : Resumes s (startReported s) :=
  ((((Resumes.resetReport s).trans (.commitsClosed _)).trans (.limpReported _)).trans (.fusesReported _)).trans (.flushDue _)

theorem dictionaryReady_keeps (s : State) : StartKeeps s (dictionaryReady s) ∧ (dictionaryReady s).rst.phase = .running ∧ (dictionaryReady s).nva = s.nva
    ∧ (dictionaryReady s).jobs = s.jobs ∧ (dictionaryReady s).keys = s.keys
    ∧ (dictionaryReady s).journal.retirementsLost = s.journal.retirementsLost := by
  have hw := (Within.foldl pinIdle (List.range 16) s .pinIdle).trans (.foldl Machine.acquire allSleeves _ .acquire)
  unfold dictionaryReady
  generalize allSleeves.foldl Machine.acquire ((List.range 16).foldl pinIdle s) = t at hw
  obtain ⟨⟨h1, h2, h3, h4, h5, h6⟩, -, h7, h8, h9, h10⟩ := hw.resumes
  exact ⟨⟨h1, h2, h3, h4, h5, h6⟩, rfl, h7, h8, h9, h10⟩

end Sys2Proof.Machine
end

section
/-! SUPPORT. O58: start-up (17 R378, R380, R382, R388; 16 R357, R358). -/

namespace Sys2Proof.Machine

/-! ### The keeper is back (17 R382) -/

/-- The keeper runs again, with the slot it ran before. -/
def keeperBack (s : State) : State := modRst s fun x => { x with revert := false, keeperDown := false }

/-- A rendering that the reset broke off starts again (16 R363). -/
def renderAgain (s : State) : State := if s.journal.rendering then startRender (modJournal s fun j => { j with rendering := false }) else s

theorem renderAgain_keeps (s : State) : ∃ n j, renderAgain s = { s with nva := n, journal := j } := by
  unfold renderAgain
  split
  · exact ⟨_, _, rfl⟩
  · exact ⟨s.nva, s.journal, rfl⟩

theorem bootSlot_kept {s : State} (h : onTrial s = false) (ok : Bool) : bootSlot s ok = { s with rst := { s.rst with revert := false } } :=
  if_pos (by rw [h]; rfl)

theorem SameButEvents.foldl {α : Type} {f : State → α → State} (l : List α) (s : State) (h : ∀ t x, SameButEvents t (f t x)) :
    SameButEvents s (l.foldl f s) :=
  List.foldlRecOn l f (motive := SameButEvents s) (.refl s) fun _ ht x _ => ht.trans (h _ x)

/-- What waited for the dictionary has been published. -/
theorem flushDue_same (s : State) : SameButEvents (modRst s fun x => { x with due := [] }) (flushDue s) := .foldl _ _ fun _ _ => publish_same ..

theorem servePaused_none {s : State} (h : s.rst.paused = []) : servePaused s = s := by
  have hrst : { s.rst with paused := [] } = s.rst := by rw [← h]
  unfold servePaused
  rw [h, List.foldl_nil, hrst]

/-- Service after a KEEPER reset, but for what reached the keeper while it was in reset. -/
def serviceBack (s : State) : State := flushDue (resetReport (renderAgain (keeperBack s)))

theorem keeperResetDone_back {s : State} (hk : s.rst.keeperDown = true) (hst : s.rst.stretch = false) (ht : onTrial s = false) :
    keeperResetDone s true = serviceBack s := by
  unfold keeperResetDone
  rw [if_neg (by simp [hk, hst]), bootSlot_kept ht]
  rfl

theorem serviceBack_rst (s : State) : (serviceBack s).rst = { s.rst with revert := false, keeperDown := false, due := [] } := by
  obtain ⟨n, j, hn⟩ := renderAgain_keeps (keeperBack s)
  have hreport : SameButEvents (renderAgain (keeperBack s)) (resetReport (renderAgain (keeperBack s))) := publish_same ..
  calc (serviceBack s).rst = { (resetReport (renderAgain (keeperBack s))).rst with due := [] } := (flushDue_same _).rst
    _ = { (renderAgain (keeperBack s)).rst with due := [] } := by rw [hreport.rst]
    _ = { s.rst with revert := false, keeperDown := false, due := [] } := by rw [hn]; rfl

theorem serviceBack_goesOn (s : State) : (serviceBack s).axes = s.axes ∧ (serviceBack s).sleeves = s.sleeves ∧ (serviceBack s).cells = s.cells
    ∧ (serviceBack s).time = s.time ∧ (serviceBack s).pending = s.pending ∧ CalmSame s.slots (serviceBack s).slots := by
  obtain ⟨n, j, hn⟩ := renderAgain_keeps (keeperBack s)
  have hreport : SameButEvents (renderAgain (keeperBack s)) (resetReport (renderAgain (keeperBack s))) := publish_same ..
  have hflush := flushDue_same (resetReport (renderAgain (keeperBack s)))
  have hcalm := (Resumes.resetReport (renderAgain (keeperBack s))).trans (.flushDue _)
  unfold serviceBack
  generalize resetReport (renderAgain (keeperBack s)) = v at *
  generalize flushDue v = t at *
  rw [hn] at hreport hcalm
  exact ⟨hflush.axes.trans hreport.axes, hflush.sleeves.trans hreport.sleeves, hflush.cells.trans hreport.cells, hflush.time.trans hreport.time,
    hflush.pending.trans hreport.pending, hcalm.calm⟩

end Sys2Proof.Machine

namespace Sys2Proof.Proofs
open Sys2Proof.Machine

section
variable {s : State} (hq : Calm s)
include hq

/-- A device whose domains come up, as the keeper boots. -/
theorem domainsUp_completes {i : Instr} {x : State} {r : ResetS} (hw : i.wf = true) (he : x = powerDomains { s with rst := r })
    (hx : exec i s = done s (whenWf i s x)) (hraised : r.raised = s.rst.raised) (hsw : r.swReach = s.rst.swReach) :
    Completes i s fun t => t.rst = r ∧ ∀ k, isSleeve k = true → s.st k = usOff → t.st k = usDisabled := by
  have hpow := Within.powerDomains { s with rst := r }
  obtain ⟨hslots, h1, h2⟩ := hq
  have hcalm : Calm { s with rst := r } := ⟨hslots, hraised.trans h1, hsw.trans h2⟩
  exact ⟨_, done_next hw (he ▸ hx) (hcalm.within hpow) hpow.pending, hpow.rst, fun k hk hoff => powerDomains_sleeve hk hoff⟩

/-- The journal is replayed, without a plan, and the dictionary is ready. -/
theorem replayed_completes (hphase : s.rst.phase = .replay) (hplan : s.nva.plan = none) (hveil : s.rst.veilTested = false)
    (hk : StartKeeps s (replay s)) : Completes .journalReplayDone s fun t => t.rst.phase = .running ∧ t.nva = (replay s).nva
      ∧ t.jobs = (replay s).jobs ∧ t.keys = (replay s).keys ∧ t.journal.retirementsLost = (replay s).journal.retirementsLost := by
  have hreplayed := Resumes.replayed s
  have hnone : planRestored (replayed s) = replayed s := planRestored_none (hreplayed.plan.trans (hk.plan.trans hplan))
  obtain ⟨hready, hrunning, hnva, hjobs, hkeys, hlost⟩ := dictionaryReady_keeps (replayed s)
  have hrest := (Resumes.netUp (dictionaryReady (replayed s))).trans (.startReported _)
  have hall := (hk.trans hreplayed.toStartKeeps).trans (hready.trans hrest.toStartKeeps)
  have heffect : journalReplayDone s = startReported (netUp (dictionaryReady (replayed s))) := by
    rw [journalReplayDone_eq, if_neg (not_not.mpr hphase), hnone]
    exact if_neg fun h => by
      rw [hall.veilTested, hveil] at h
      exact Bool.false_ne_true h.1
  exact ⟨_, done_next rfl (congrArg (fun t => done s (whenWf _ s t)) heffect) (hq.starts hall) hall.pending, hrest.phase.trans hrunning,
    hrest.nva.trans (hnva.trans hreplayed.nva), hrest.jobs.trans (hjobs.trans hreplayed.jobs), hrest.keys.trans (hkeys.trans hreplayed.keys),
    hrest.lost.trans (hlost.trans hreplayed.lost)⟩

theorem journalReplayDone_completes (hphase : s.rst.phase = .replay) (hplan : s.nva.plan = none) (hveil : s.rst.veilTested = false) :
    Completes .journalReplayDone s fun t => t.rst.phase = .running
      ∧ (s.nva.anchor0 = none → s.nva.anchor1 = none → t.nva.region0 = [] ∧ t.nva.region1 = [] ∧ (liveAnchor t.nva).epoch = 0
        ∧ t.journal.retirementsLost = (retiredList s.nva).isNone ∧ t.jobs = s.jobs ∧ t.keys = s.keys) := by
  by_cases hfresh : s.nva.anchor0.isNone ∧ s.nva.anchor1.isNone
  · have heq : replay s = freshJournal s := if_pos hfresh
    have hf := freshJournal_fresh s
    obtain ⟨t, hnext, hrun, hnva, hjobs, hkeys, hlost⟩ := replayed_completes hq hphase hplan hveil
      (heq ▸ ⟨hf.pending, hf.calm, hf.raised, hf.swReach, hf.veilTested, hf.plan.trans hplan.symm⟩)
    rw [heq] at hnva hjobs hkeys hlost
    exact ⟨t, hnext, hrun, fun _ _ => ⟨by rw [hnva]; exact hf.region0, by rw [hnva]; exact hf.region1, by rw [hnva]; exact hf.epoch,
      hlost.trans hf.lost, hjobs.trans hf.jobs, hkeys.trans hf.keys⟩⟩
  · have heq : replay s = replayJournal s := if_neg hfresh
    obtain ⟨t, hnext, hrun, -⟩ := replayed_completes hq hphase hplan hveil (heq ▸ .replayJournal s)
    exact ⟨t, hnext, hrun, fun h0 h1 => absurd ⟨by rw [h0]; rfl, by rw [h1]; rfl⟩ hfresh⟩

/-- Service goes on after a KEEPER reset. -/
theorem keeperResetDone_completes (hk : s.rst.keeperDown = true) (hphase : s.rst.phase = .running) (hst : s.rst.stretch = false)
    (hpaused : s.rst.paused = []) (ht : onTrial s = false) : Completes (.keeperResetDone true) s fun t =>
      Serving t ∧ t.axes = s.axes ∧ t.sleeves = s.sleeves ∧ t.cells = s.cells ∧ t.time = s.time := by
  have hrst := serviceBack_rst s
  have hback : servePaused (keeperResetDone s true) = serviceBack s := by
    rw [keeperResetDone_back hk hst ht]
    exact servePaused_none (by rw [hrst]; exact hpaused)
  obtain ⟨haxes, hsleeves, hcells, htime, hpending, hslots⟩ := serviceBack_goesOn s
  have hcalm : Calm (serviceBack s) := ⟨fun i => (hslots i).trans (hq.1 i), by rw [hrst]; exact hq.2.1, by rw [hrst]; exact hq.2.2⟩
  refine ⟨_, done_next rfl (congrArg (fun t => done s (whenWf _ s t)) hback) hcalm hpending, ⟨?_, ?_⟩, haxes, hsleeves, hcells, htime⟩
  · rw [hrst]
    exact hphase
  · rw [hrst]

end

/-- Settles O58: the end of the stretch, fuse load, the keeper's boot, the replay and the return of the keeper, each in its phase and out of it. -/
theorem startUp : Obligations.StartUp := by
  intro s hq
  refine ⟨fun hno => ?_, fun hst hphase hreach => ?_, fun hst hphase hreach => ?_, fun rows hrows => ⟨fun hphase => ?_, fun hphase => ?_⟩,
    fun hphase ht => ⟨?_, ?_⟩, fun hphase => ?_, fun hphase _ => journalReplayDone_completes hq hphase, fun hk hphase hst hpaused ht =>
    ⟨?_, keeperResetDone_completes hq hk hphase hst hpaused ht⟩⟩
  · exact settled_next hq rfl (if_pos (by rw [hno]; rfl)) rfl (.refl s)
  · have heffect : stretchEnd s = { s with rst := { s.rst with stretch := false, phase := .fuseLoad } } :=
      (if_neg (by rw [hst]; decide)).trans ((if_pos hphase).trans (if_pos hreach))
    exact done_next rfl (congrArg (fun t => done s (whenWf _ s t)) heffect) hq rfl
  · have heffect : stretchEnd s = powerDomains { s with rst := { s.rst with
        stretch := false, phase := .keeperBoot, nRstLow := false, nRstIgnored := s.time.uptime + 80000 } } :=
      (if_neg (by rw [hst]; decide)).trans ((if_pos hphase).trans (if_neg (by rw [hreach]; decide)))
    obtain ⟨t, hnext, hrst, hsleeves⟩ := domainsUp_completes (i := .resetStretchEnd) hq rfl heffect rfl rfl rfl
    exact ⟨t, hnext, by rw [hrst], by rw [hrst], by rw [hrst], hsleeves⟩
  · obtain ⟨t, hnext, hrst, hsleeves⟩ := domainsUp_completes hq (i := .fuseLoadDone rows) (decide_eq_true hrows) (if_neg (not_not.mpr hphase)) rfl rfl rfl
    exact ⟨t, hnext, by rw [hrst], by rw [hrst], by rw [hrst], by rw [hrst], hsleeves⟩
  · exact settled_next hq (decide_eq_true hrows) (if_pos hphase) rfl (.refl s)
  · have heffect : keeperBootDone s true = { s with rst := { s.rst with revert := false, phase := .replay, replayStart := s.time.uptime } } :=
      (if_neg (by simp [hphase])).trans (by rw [bootSlot_kept ht]; rfl)
    exact done_next rfl (congrArg (fun t => done s (whenWf _ s t)) heffect) hq rfl
  · exact settled_next hq rfl (if_pos (.inr (by rw [ht]; decide))) rfl (.refl s)
  · exact settled_next hq rfl (if_pos hphase) rfl (.refl s)
  · have heffect : keeperResetDone s false = s := if_pos (.inr (.inr (by rw [ht]; decide)))
    exact settled_next hq rfl ((congrArg servePaused heffect).trans (servePaused_none hpaused)) rfl (.refl s)

end Sys2Proof.Proofs
end

section
/-! SUPPORT. ResetRequest and JtagUnlock (17 R376, R389): the write, and what follows its reply. -/

namespace Sys2Proof.Machine

/-! ### The request -/

/-- A software reset is asked for, and answered. -/
def resetAsked (s : State) (r : Reach) (o : Option Origin) : State := answerSt { s with rst := { s.rst with swReach := some (r, o) } } o stOk

/-- What the reset then strikes: the request is taken. -/
def requestTaken (s : State) (r : Reach) (o : Option Origin) : State := modRst (resetAsked s r o) fun x => { x with swReach := none }

theorem resetRequest_effect {s : State} {w : Write} {row : ObjRow} {c : Nat} {r : Reach} (hs : Serving s) (hp : Passes s 0x1010 w row) (hu : w.unit = 0)
    (hd : leNat w.data = c + 1) (hr : reachOfCode c = r) : directWrite s 0x1010 w = replyWith w.origin (withStatus (resetRequest s r w.origin)) := by
  refine directWrite_acts (by decide) hs hp (writeEffect_root (by decide) hp (by decide) hu ?_)
  show some (withStatus (resetRequest s (reachOfCode (leNat w.data - 1)) w.origin)) = _
  rw [hd, Nat.add_sub_cancel, hr]

theorem jtagUnlock_effect {s : State} {w : Write} {row : ObjRow} (hs : Serving s) (hp : Passes s 0x1030 w row) (hu : w.unit = 0) :
    directWrite s 0x1030 w = replyWith w.origin (withStatus (jtagUnlock s ((w.origin.map Origin.slot).getD 16))) :=
  directWrite_acts (by decide) hs hp (writeEffect_root (by decide) hp (by decide) hu rfl)

section
variable (s : State) (r : Reach) (o : Option Origin)

theorem resetAsked_within : Within { s with rst := { s.rst with swReach := some (r, o) } } (resetAsked s r o) := .answerSt ..

theorem resetAsked_n (u k : Nat) : (resetAsked s r o).n u k = s.n u k := answerSt_n ..

theorem requestTaken_rst {s : State} (hq : Calm s) : (requestTaken s r o).rst = s.rst := by
  have hrst := (resetAsked_within s r o).rst
  show { (resetAsked s r o).rst with swReach := none } = s.rst
  rw [hrst, ← hq.2.2]

theorem requestTaken_n (u k : Nat) : (requestTaken s r o).n u k = s.n u k := (modRst_at_n ..).trans (resetAsked_n ..)

theorem requestTaken_calm {s : State} (hq : Calm s) : Calm (requestTaken s r o) := by
  have hrst := requestTaken_rst r o hq
  exact ⟨fun i => ((resetAsked_within s r o).calm i).trans (hq.1 i), by rw [hrst]; exact hq.2.1, by rw [hrst]; exact hq.2.2⟩

end

/-- A software reset acts once its reply has left; until then nothing else happens (R376). -/
theorem done_resetAsked {s : State} (hq : Calm s) (r : Reach) (o : Option Origin) : done s (resetAsked s r o)
    = .next (if replyLeft (resetAsked s r o) o = true then { assertSource (requestTaken s r o) .swReq r with pending := s.pending } else resetAsked s r o) := by
  have hw := resetAsked_within s r o
  have hslots : ∀ i, calmSlot ((resetAsked s r o).slot i) = true := fun i => (hw.calm i).trans (hq.1 i)
  unfold done
  rw [settle_software (r := r) (o := o) hslots (by rw [hw.rst]; exact hq.2.1) (by rw [hw.rst])]
  split
  · rfl
  · exact quiet_next hw.pending

end Sys2Proof.Machine

namespace Sys2Proof.Proofs
open Sys2Proof.Machine

/-- What keeps going through a KEEPER reset does so from any state that has it. -/
theorem keeperDown_of {s s' t : State} {src : ResetSource} (h : KeeperDown s' t src) (hphase : s'.rst.phase = s.rst.phase) (hsame : s'.axes = s.axes
    ∧ s'.sleeves = s.sleeves ∧ s'.cells = s.cells ∧ s'.time = s.time ∧ s'.beat = s.beat ∧ s'.veil = s.veil ∧ s'.field = s.field ∧ s'.can = s.can
    ∧ s'.nva = s.nva) : KeeperDown s t src := by
  obtain ⟨haxes, hsleeves, hcells, htime, hbeat, hveil, hfield, hcan, hnva⟩ := hsame
  unfold KeeperDown at h ⊢
  rwa [hphase, haxes, hsleeves, hcells, htime, hbeat, hveil, hfield, hcan, hnva] at h

section
variable {s : State} {o : Option Origin} {row : ObjRow} {i : Instr} {v c : Nat} {r : Reach} (hs : Serving s) (hq : Calm s)
  (hp : Passes s 0x1010 { unit := 0, data := leBytes 1 v, origin := o } row) (hv : leNat (leBytes 1 v) = c + 1) (hr : reachOfCode c = r)
  (hcode : reachCode r = c) (hw : i.wf = true) (hx : exec i s = done s (whenWf i s (directCommand s 0 0x1010 1 v o)))
include hs hq hp hv hr hcode hw hx

/-- A reach that the mask of the fuses does not permit. -/
theorem resetRequest_refused (h : bitOf s.rst.fuses.swMask c = false) : exec i s = .next (answerSt s o stRange) := by
  have heffect : directCommand s 0 0x1010 1 v o = answerSt s o stRange := by
    refine (resetRequest_effect hs hp rfl hv hr).trans ?_
    rw [show resetRequest s r o = (stRange, s) from if_pos (by rw [hcode, h]; rfl)]
    rfl
  exact settled_next hq hw heffect hx (.answerSt ..)

omit hq in
theorem resetRequest_asked (h : bitOf s.rst.fuses.swMask c = true) : exec i s = done s (resetAsked s r o) := by
  have heffect : directCommand s 0 0x1010 1 v o = resetAsked s r o := by
    refine (resetRequest_effect hs hp rfl hv hr).trans ?_
    rw [show resetRequest s r o = (stOk, modRst s fun x => { x with swReach := some (r, o) }) from if_neg (by rw [hcode, h]; decide)]
    rfl
  rw [hx, whenWf_of hw, heffect]

theorem resetRequest_waits (h : bitOf s.rst.fuses.swMask c = true) (hl : replyLeft (resetAsked s r o) o = false) : exec i s = .next (resetAsked s r o) := by
  rw [resetRequest_asked hs hp hv hr hcode hw hx h, done_resetAsked hq, if_neg (by rw [hl]; decide)]

/-- A permitted reach, whose reply has left. -/
theorem resetRequest_strikes (h : bitOf s.rst.fuses.swMask c = true) (hl : replyLeft (resetAsked s r o) o = true)
    (hpend : (assertSource (requestTaken s r o) .swReq r).pending = s.pending) : exec i s = .next (assertSource (requestTaken s r o) .swReq r) := by
  rw [resetRequest_asked hs hp hv hr hcode hw hx h, done_resetAsked hq, if_pos hl, ← hpend]

theorem resetRequest_restarts (hsrc : s.rst.sources = []) (hbig : r = .full ∨ r = .device) (h : bitOf s.rst.fuses.swMask c = true)
    (hl : replyLeft (resetAsked s r o) o = true) : Completes i s fun t => Restarted s t .swReq r ∧ Counts s t 0 0x100000 := by
  have hrst := requestTaken_rst r o hq
  obtain ⟨hrestarted, -, hpending, hcounts⟩ := assertSource_restarts (s := requestTaken s r o) (by rw [hrst]; exact hs.1) (by rw [hrst]; exact hs.2)
    (by rw [hrst]; exact hsrc) .swReq hbig
  exact ⟨_, resetRequest_strikes hs hq hp hv hr hcode hw hx h hl (hpending.trans (resetAsked_within s r o).pending),
    restarted_of_fuses hrestarted (by rw [hrst]), hcounts.of_n (requestTaken_n ..) rfl⟩

end

section
variable {s : State} {o : Option Origin} {row : ObjRow} (hs : Serving s) (hq : Calm s)
include hs hq

theorem resetRequestKeeper_completes (hp : Passes s 0x1010 { unit := 0, data := leBytes 1 3, origin := o } row) (hsince : s.rst.since ≠ s.time.uptime)
    (h : bitOf s.rst.fuses.swMask 2 = true) (hl : replyLeft (resetAsked s .keeper o) o = true) :
    Completes (.resetRequestKeeper o) s fun t => KeeperDown s t .swReq ∧ Counts s t 0 0x100000 := by
  have hrst := requestTaken_rst .keeper o hq
  have hw := resetAsked_within s .keeper o
  have htime : (requestTaken s .keeper o).time = s.time := hw.time
  obtain ⟨hdown, -, hpending, hcounts⟩ := assertSource_keeperDown (s := requestTaken s .keeper o) (by rw [hrst]; exact hs.1) (by rw [hrst]; exact hs.2)
    (requestTaken_calm _ _ hq) (by rw [hrst, htime]; exact hsince) .swReq
  exact ⟨_, resetRequest_strikes hs hq hp rfl rfl rfl rfl rfl h hl (hpending.trans hw.pending),
    keeperDown_of hdown (congrArg ResetS.phase hrst) ⟨answerSt_axes .., answerSt_sleeves .., hw.cells, htime, hw.beat, hw.veil, hw.field, hw.can, hw.nva⟩,
    hcounts.of_n (requestTaken_n ..) rfl⟩

omit hq in
/-- The answer to JtagUnlock, with its effect (R389). -/
theorem jtagUnlock_next {x : Write} (hp : Passes s 0x1030 x row) (hu : x.unit = 0) {e : Nat} {t : State}
    (hj : jtagUnlock s ((x.origin.map Origin.slot).getD 16) = (e, t)) (ht : Calm t) (hpend : t.pending = s.pending) :
    exec (.jtagUnlock x) s = .next (answerSt t x.origin e) := by
  have heffect : directWrite s 0x1030 x = answerSt t x.origin e := by rw [jtagUnlock_effect hs hp hu, hj]; rfl
  have hw := Within.answerSt t x.origin e
  exact done_next hp.wf (congrArg (fun t => done s (whenWf _ s t)) heffect) (ht.within hw) (hw.pending.trans hpend)

end

end Sys2Proof.Proofs
end

section
/-! SUPPORT. The COMB reset (17 R383): what each of its steps leaves, and what they leave together. -/

namespace Sys2Proof.Machine

/-! ### One step -/

/-- Objects of the root that a COMB reset leaves once it has put its own value in the first: the states of the sessions' slots, the cause, the reach and the
count of resets. -/
def Lasting (y : Nat) : Prop := y = 0x0B5300 ∨ y = 0x100000 ∨ y = 0x100100 ∨ y = 0x100200

/-- A step of a COMB reset that touches the unit u, and no axis but it. -/
structure CombStep (u : Nat) (s t : State) : Prop where
  within : Within s t
  lasting : ∀ y, Lasting y → t.val 0 y = s.val 0 y
  st : ∀ a, isAxis a = true → a ≠ u → t.st a = s.st a
  axis : ∀ a, isAxis a = true → a ≠ u → t.axis a = s.axis a

theorem Lasting.steady {y : Nat} (h : Lasting y) : Steady y := by
  unfold Steady
  rcases h with rfl | rfl | rfl | rfl <;> decide

theorem CombStep.refl (u : Nat) (s : State) : CombStep u s s := ⟨.refl s, fun _ _ => rfl, fun _ _ _ => rfl, fun _ _ _ => rfl⟩

theorem CombStep.trans {u : Nat} {s t v : State} (h : CombStep u s t) (g : CombStep u t v) : CombStep u s v where
  within := h.within.trans g.within
  lasting y hy := (g.lasting y hy).trans (h.lasting y hy)
  st a ha hne := (g.st a ha hne).trans (h.st a ha hne)
  axis a ha hne := (g.axis a ha hne).trans (h.axis a ha hne)

/-- A step that touches no axis. -/
theorem CombStep.weaken {u w : Nat} {s t : State} (h : CombStep u s t) (hu : isAxis u = false) : CombStep w s t where
  within := h.within
  lasting := h.lasting
  st a ha _ := h.st a ha fun he => by simp [he, hu] at ha
  axis a ha _ := h.axis a ha fun he => by simp [he, hu] at ha

theorem CombStep.foldl {α : Type} {f : State → α → State} {w : Nat} (l : List α) (s : State) (h : ∀ t x, x ∈ l → t.plan = s.plan → CombStep w t (f t x)) :
    CombStep w s (l.foldl f s) :=
  List.foldlRecOn l f (motive := CombStep w s) (.refl w s) fun t ht x hx => ht.trans (h t x hx ht.within.plan)

/-- A step that writes no object and no axis. -/
theorem CombStep.of_dict {u : Nat} {s t : State} (hw : Within s t) (hd : t.dict = s.dict) (ha : t.axes = s.axes) : CombStep u s t :=
  ⟨hw, fun _ _ => val_of_dict hd, fun _ _ _ => n_of_val (val_of_dict hd), fun _ _ _ => axis_of_axes ha _⟩

/-- A step that writes one object other than a state. -/
theorem CombStep.setV {u : Nat} (s : State) {x c : Nat} (v : Val) (hc : c < 2 ^ 24) (hst : c ≠ 0x030000) (hl : ¬ Lasting c) : CombStep u s (s.setV x c v) where
  within := .setV ..
  lasting y hy := setV_read_ne _ _ fun he => by
    obtain ⟨-, rfl⟩ := (keyOf_inj hc hy.steady.1).mp he
    exact hl hy
  st _ _ _ := n_of_val (setV_read_ne _ _ fun he => hst ((keyOf_inj hc (by decide)).mp he).2)
  axis _ _ _ := rfl

theorem CombStep.setAxis (s : State) (a : Nat) (x : AxisS) : CombStep a s (s.setAxis a x) :=
  ⟨.setAxis .., fun _ _ => rfl, fun _ _ _ => rfl, fun _ _ hne => mapGet_mapPut_ne _ _ _ hne.symm⟩

theorem CombStep.setFault {u : Nat} (s : State) (x : Nat) (f : FaultS) : CombStep u s (s.setFault x f) := .of_dict (.setFault ..) rfl rfl

theorem CombStep.hem {u : Nat} (s : State) (k : Nat) : CombStep u s (hem s k) := .of_dict (.hem ..) rfl rfl

theorem CombStep.putState (s : State) (u st : Nat) : CombStep u s (putState true s u st) where
  within := .putState ..
  lasting y hy := by
    obtain ⟨h1, h2, h3, h4⟩ := hy.steady
    exact putState_val _ _ _ _ _ _ h1 ⟨h3, h4⟩ (.inr h2)
  st _ _ hne := putState_st_ne _ _ _ _ _ hne
  axis a _ _ := axis_of_axes (putState_axes ..) a

theorem axis_ne_root {a : Nat} (h : isAxis a = true) : a ≠ 0 := by
  rintro rfl
  exact absurd h (by decide)

theorem CombStep.setUnit {s : State} {u : Nat} (h : NoCluster s u) (st : Nat) : CombStep u s (setUnit true s u st) where
  within := .setUnit ..
  lasting _ hy := setUnit_val _ _ _ _ _ _ h hy.steady
  st _ ha hne := setUnit_st_ne _ _ _ _ _ h hne (axis_ne_root ha)
  axis _ _ _ := setUnit_axis _ _ _ _ _ h

theorem CombStep.watchReserve {u : Nat} (s : State) : CombStep u s (watchReserve s) where
  within := .watchReserve s
  lasting y hy := watchReserve_keeps (fun t => t.val 0 y) s (fun _ _ _ => rfl) fun _ _ =>
    publish_keeps _ _ _ _ _ _ hy.steady.1 (.inr ⟨hy.steady.2.2.1, hy.steady.2.2.2.2.1⟩)
  st _ _ _ := watchReserve_st ..
  axis a _ _ := axis_of_axes (watchReserve_keeps State.axes s (fun _ _ _ => rfl) fun _ _ => (publish_same ..).axes) a

theorem CombStep.say {u : Nat} (s : State) (x c : Nat) (d : Bytes) : CombStep u s (say true s x c d) where
  within := .say ..
  lasting y hy := say_keeps (fun t => t.val 0 y) _ _ _ _ _ (publish_keeps _ _ _ _ _ _ hy.steady.1 (.inr ⟨hy.steady.2.2.1, hy.steady.2.2.2.2.1⟩))
    (later_at_val ..)
  st _ _ _ := say_st ..
  axis _ _ _ := say_axis ..

/-! ### An axis is DISABLED -/

theorem CombStep.dropLatchCompare (s : State) (a : Nat) : CombStep a s (dropLatchCompare true s a) where
  within := .dropLatchCompare ..
  lasting y hy := dropLatchCompare_val true hy.steady (by rcases hy with rfl | rfl | rfl | rfl <;> decide)
  st _ _ _ := dropLatchCompare_st ..
  axis x _ hne := by
    have hset : ∀ v, (s.setAxis a v).axis x = s.axis x := fun v => mapGet_mapPut_ne _ _ v hne.symm
    unfold Machine.dropLatchCompare
    simp only [if_true]
    split <;> split
    · exact (bumpN_axis ..).trans (hset _)
    · exact (say_axis ..).trans ((bumpN_axis ..).trans (hset _))
    · exact (say_axis ..).trans ((bumpN_axis ..).trans (hset _))
    · exact (say_axis ..).trans ((say_axis ..).trans ((bumpN_axis ..).trans (hset _)))

theorem CombStep.abortRun (s : State) (a c : Nat) : CombStep a s (abortRun true s a c) := by
  unfold Machine.abortRun
  split
  · exact .refl a s
  · have hnot : ¬ Lasting 0x071300 ∧ ¬ Lasting 0x071400 := by unfold Lasting; decide
    exact (((CombStep.setAxis ..).trans (.setV _ _ (by decide) (by decide) hnot.1)).trans (.setV _ _ (by decide) (by decide) hnot.2)).trans (.say ..)

theorem CombStep.leaveActive (s : State) (a : Nat) : CombStep a s (leaveActive true s a) :=
  ((CombStep.abortRun s a 2).trans (.setAxis ..)).trans (.setAxis ..)

theorem CombStep.axisTo {s : State} {a : Nat} (h : NoCluster s a) (st : Nat) : CombStep a s (axisTo true s a st) := by
  have h1 : CombStep a s (if s.st a = usActive ∧ st ≠ usActive then Machine.leaveActive true s a else s) := by
    split
    · exact .leaveActive s a
    · exact .refl a s
  unfold Machine.axisTo
  dsimp only
  generalize (if s.st a = usActive ∧ st ≠ usActive then Machine.leaveActive true s a else s) = t at h1 ⊢
  have h2 : CombStep a s (if st ≠ usActive ∧ st ≠ usReady then Machine.dropLatchCompare true t a else t) := by
    split
    · exact h1.trans (.dropLatchCompare ..)
    · exact h1
  generalize (if st ≠ usActive ∧ st ≠ usReady then Machine.dropLatchCompare true t a else t) = v at h2 ⊢
  have h3 : CombStep a s (if st ≠ usActive ∧ st ≠ usReady then emptyQueue v a else v) := by
    split
    · exact h2.trans (.setAxis ..)
    · exact h2
  exact h3.trans (.setUnit (h.of_plan h3.within.plan) st)

theorem not_axis_of_sleeve {k : Nat} (h : isSleeve k = true) : isAxis k = false := by
  simp only [isSleeve, isAxis, decide_eq_true_eq, decide_eq_false_iff_not] at *
  omega

theorem CombStep.sleeveFollows {s : State} {a u : Nat} (h : sleeveOf s a = 0 ∨ isSleeve (sleeveOf s a) = true) (st : Nat) :
    CombStep u s (sleeveFollows true s a st) := by
  unfold Machine.sleeveFollows
  dsimp only
  split
  · exact .refl u s
  · next hno =>
    have hk := not_axis_of_sleeve (h.resolve_left fun h0 => hno (.inl h0))
    split
    · exact (CombStep.putState ..).weaken hk
    · exact (CombStep.hem ..).trans ((CombStep.putState ..).weaken hk)

/-- The units of a device are in no cluster of the plan, and its axes' sleeves are sleeves. -/
structure CombFree (s : State) : Prop where
  cluster : ∀ u, NoCluster s u
  sleeve : ∀ a, sleeveOf s a = 0 ∨ isSleeve (sleeveOf s a) = true

theorem CombFree.of_plan {s t : State} (h : CombFree s) (hp : t.plan = s.plan) : CombFree t :=
  ⟨fun u => (h.cluster u).of_plan hp, fun a => by rw [sleeveOf_of_plan hp]; exact h.sleeve a⟩

theorem CombStep.combUnit {s : State} (h : CombFree s) (u : Nat) : CombStep u s (combUnit s u) := by
  unfold Machine.combUnit
  dsimp only
  split
  · exact .refl u s
  · split
    · have haxis := CombStep.axisTo (h.cluster u) usDisabled
      exact haxis.trans (.sleeveFollows ((h.of_plan haxis.within.plan).sleeve u) _)
    · split
      · exact .putState ..
      · exact .setUnit (h.cluster u) _

/-- An axis is DISABLED with its queue empty. -/
def AxisDown (a : Nat) (t : State) : Prop := t.st a = usDisabled ∧ (t.axis a).traj.queue = []

theorem combUnit_axis {s : State} {a : Nat} (h : CombFree s) (ha : isAxis a = true) (hoff : s.st a ≠ usOff) (hret : s.st a ≠ usRetired) :
    AxisDown a (combUnit s a) := by
  obtain ⟨hst, hqueue, -⟩ := axisTo_off s a usDisabled (h.cluster a) (by decide) (by decide)
  have hfollow := CombStep.sleeveFollows (u := 0) ((h.of_plan (Within.axisTo true s a usDisabled).plan).sleeve a) usDisabled
  have heffect : combUnit s a = sleeveFollows true (axisTo true s a usDisabled) a usDisabled :=
    (if_neg (not_or.mpr ⟨hoff, hret⟩)).trans (if_pos ha)
  rw [heffect]
  exact ⟨(hfollow.st a ha (axis_ne_root ha)).trans hst, by rw [hfollow.axis a ha (axis_ne_root ha)]; exact hqueue⟩

theorem AxisDown.step {u a : Nat} {s t : State} (h : AxisDown a s) (hs : CombStep u s t) (ha : isAxis a = true) (hne : a ≠ u) : AxisDown a t :=
  ⟨(hs.st a ha hne).trans h.1, by rw [hs.axis a ha hne]; exact h.2⟩

/-- Every axis. -/
def combAxes : List Nat := (List.range 0x1A0).map (0x200 + ·)

theorem mem_combAxes {a : Nat} : a ∈ combAxes ↔ isAxis a = true := by
  simp only [combAxes, isAxis, List.mem_map, List.mem_range, decide_eq_true_eq]
  exact ⟨by rintro ⟨x, hx, rfl⟩; omega, fun h => ⟨a - 0x200, by omega, by omega⟩⟩

theorem combAxes_nodup : combAxes.Nodup := List.nodup_range.map fun _ _ h => Nat.add_left_cancel h

/-- The recorders and the cells. -/
def combOthers : List Nat := recorderUnits ++ (List.range 129).drop 1

theorem combOthers_not_axis {u : Nat} (h : u ∈ combOthers) : isAxis u = false := by
  have hall : combOthers.all fun u => !isAxis u := by decide +kernel
  simpa using List.all_eq_true.mp hall u h

/-- The units become DISABLED (R383 step 3). -/
def combUnits (s : State) : State := (combAxes ++ recorderUnits ++ (List.range 129).drop 1).foldl combUnit s

theorem combUnits_eq (s : State) : combUnits s = combOthers.foldl combUnit (combAxes.foldl combUnit s) := by
  unfold combUnits combOthers
  rw [List.append_assoc, List.foldl_append]

theorem combAxes_lasting {s : State} (h : CombFree s) : Within s (combAxes.foldl combUnit s)
    ∧ ∀ y, Lasting y → (combAxes.foldl combUnit s).val 0 y = s.val 0 y :=
  List.foldlRecOn combAxes combUnit (motive := fun t => Within s t ∧ ∀ y, Lasting y → t.val 0 y = s.val 0 y) ⟨.refl s, fun _ _ => rfl⟩
    fun t ⟨hw, hl⟩ u _ => by
      have hstep := CombStep.combUnit (h.of_plan hw.plan) u
      exact ⟨hw.trans hstep.within, fun y hy => (hstep.lasting y hy).trans (hl y hy)⟩

theorem combOthers_step {s : State} (h : CombFree s) : CombStep 0 s (combOthers.foldl combUnit s) :=
  .foldl _ _ fun _ u hu hp => (CombStep.combUnit (h.of_plan hp) u).weaken (combOthers_not_axis hu)

theorem combUnits_axis {s : State} (h : CombFree s) {a : Nat} (ha : isAxis a = true) (hoff : s.st a ≠ usOff) (hret : s.st a ≠ usRetired) :
    AxisDown a (combUnits s) := by
  have hmem : a ∈ combAxes := mem_combAxes.mpr ha
  have hfree : CombFree (combAxes.foldl combUnit s) := h.of_plan (combAxes_lasting h).1.plan
  have hdown : (combAxes.foldl combUnit s).plan = s.plan ∧ AxisDown a (combAxes.foldl combUnit s) := by
    refine foldl_decides (P := fun t => t.plan = s.plan ∧ t.st a = s.st a) (Q := fun t => t.plan = s.plan ∧ AxisDown a t) combAxes_nodup hmem ?_ ?_ ?_ ⟨rfl, rfl⟩
    · intro t u _ hne ⟨hp, hst⟩
      have hstep := CombStep.combUnit (h.of_plan hp) u
      exact ⟨hstep.within.plan.trans hp, (hstep.st a ha hne.symm).trans hst⟩
    · intro t ⟨hp, hst⟩
      have hstep := CombStep.combUnit (h.of_plan hp) a
      exact ⟨hstep.within.plan.trans hp, combUnit_axis (h.of_plan hp) ha (by rw [hst]; exact hoff) (by rw [hst]; exact hret)⟩
    · intro t u _ hne ⟨hp, hd⟩
      have hstep := CombStep.combUnit (h.of_plan hp) u
      exact ⟨hstep.within.plan.trans hp, hd.step hstep ha hne.symm⟩
  rw [combUnits_eq]
  exact hdown.2.step (combOthers_step hfree) ha (axis_ne_root ha)

/-! ### What follows the units -/

/-- A face follows its members, and every unit on a face is bound again. -/
def faceFollows (t : State) (a : Nat) : State :=
  if t.st a = usOff ∨ t.st a = usRetired then t
  else (if isCluster a then followFaces true 31 (putState true t a (clusterState t a)) a else t).setB a 0x035100 true

theorem CombStep.faceFollows {s : State} (h : CombFree s) (a : Nat) : CombStep 0 s (faceFollows s a) := by
  unfold Machine.faceFollows
  split
  · exact .refl 0 s
  · refine CombStep.trans ?_ (.setV _ _ (by decide) (by decide) (by unfold Lasting; decide))
    split
    · next hc =>
      have hput := CombStep.putState s a (clusterState s a)
      rw [followFaces_free _ _ _ _ ((h.cluster a).of_plan hput.within.plan)]
      refine hput.weaken ?_
      simp only [isCluster, isAxis, decide_eq_true_eq, decide_eq_false_iff_not] at *
      omega
    · exact .refl 0 s

theorem CombStep.keepSaturation (s t : State) (c : Nat) (h : CombStep 0 s t) : CombStep 0 s (keepSaturation s t c) := by
  have hsat : ∀ kd, stickIndex kd 0x0B03 0 / 32 < 32 := by
    intro kd
    cases kd <;> decide +kernel
  unfold Machine.keepSaturation
  dsimp only
  split
  · have hlt := hsat ((kindOf c).getD .cell)
    exact h.trans (.setV _ _ (by omega) (by omega) (by unfold Lasting; omega))
  · exact h

theorem CombStep.combCell (s : State) {c : Nat} (hc : isCell c = true) : CombStep 0 s (combCell s c) := by
  have hcell : 1 ≤ c ∧ c ≤ 0x80 := of_decide_eq_true hc
  refine .keepSaturation _ _ _ ?_
  have hval : ∀ x y, x ≠ c → y < 2 ^ 24 → ∀ p : Nat × Val → Bool,
      ({ s with dict := s.dict.filter fun e => !(e.1 / 2 ^ 24 == c && p e) } : State).val x y = s.val x y := by
    intro x y hx hy p
    have hunit : keyOf x y / 16777216 = x := by unfold keyOf; omega
    unfold State.val mapGet
    rw [mapFind_filter _ _ _ fun v => by simp [hunit, hx]]
  refine ⟨⟨.refl _, rfl, rfl, rfl, rfl, rfl, rfl, rfl, rfl, rfl, rfl, rfl, rfl, rfl, rfl, rfl, rfl, rfl, rfl, rfl, rfl, rfl, rfl, rfl, rfl, rfl, rfl, rfl, rfl, rfl, rfl,
    rfl, rfl⟩, fun y hy => hval 0 y (by omega) hy.steady.1 _, fun a ha _ => n_of_val (hval a _ ?_ (by decide) _), fun _ _ _ => rfl⟩
  simp only [isAxis, decide_eq_true_eq] at ha
  omega

/-- Where the dictionary of the comb returns to its defaults. -/
def cellsDefault (s : State) : State :=
  ((List.range 32).map (0x200 + ·)).foldl (fun t a => t.setN a 0x064100 0) (((List.range 129).drop 1).foldl combCell s)

theorem CombStep.cellsDefault (s : State) : CombStep 0 s (cellsDefault s) := by
  have hcells : ∀ c ∈ (List.range 129).drop 1, isCell c = true := by decide +kernel
  exact (CombStep.foldl _ _ fun t c hc _ => .combCell t (hcells c hc)).trans
    (.foldl _ _ fun _ _ _ _ => .setV _ _ (by decide) (by decide) (by unfold Lasting; decide))

/-- Every cluster of the plan waits no longer. -/
def facesWait (s : State) : State :=
  (planClusters s).foldl (fun t c => t.setFault c.cluster { t.fault c.cluster with waiting := false }) s

/-- What the steps of a COMB reset leave of the state with the cells gone. -/
def combStruck (s : State) : State :=
  let s3 := watchReserve (combUnits (facesWait s))
  cellsDefault (allSleeves.foldl hem ((combAxes ++ (planClusters s3).map ClusterPlan.cluster).foldl faceFollows s3))

theorem facesWait_step (u : Nat) (s : State) : CombStep u s (facesWait s) := .foldl _ _ fun _ _ _ _ => .setFault ..

theorem combUnits_lasting {s : State} (h : CombFree s) : Within s (combUnits s) ∧ ∀ y, Lasting y → (combUnits s).val 0 y = s.val 0 y := by
  obtain ⟨hw, hl⟩ := combAxes_lasting h
  have hothers := combOthers_step (h.of_plan hw.plan)
  rw [combUnits_eq]
  exact ⟨hw.trans hothers.within, fun y hy => (hothers.lasting y hy).trans (hl y hy)⟩

/-- After the units no axis is touched. -/
theorem combStruck_rest {s : State} (h : CombFree s) : CombStep 0 (combUnits (facesWait s)) (combStruck s) := by
  have hwait := facesWait_step 0 s
  have hfree : CombFree (combUnits (facesWait s)) := h.of_plan ((combUnits_lasting (h.of_plan hwait.within.plan)).1.plan.trans hwait.within.plan)
  unfold combStruck
  dsimp only
  generalize combUnits (facesWait s) = t at hfree ⊢
  have hreserve := CombStep.watchReserve (u := 0) t
  have hfaces : ∀ l : List Nat, CombStep 0 (watchReserve t) (l.foldl faceFollows (watchReserve t)) := fun l => .foldl _ _ fun v a _ hp =>
    .faceFollows (hfree.of_plan (hp.trans hreserve.within.plan)) a
  exact ((hreserve.trans (hfaces _)).trans (.foldl _ _ fun _ _ _ _ => .hem ..)).trans (.cellsDefault _)

theorem combStruck_lasting {s : State} (h : CombFree s) : Within s (combStruck s) ∧ ∀ y, Lasting y → (combStruck s).val 0 y = s.val 0 y := by
  have hwait := facesWait_step 0 s
  obtain ⟨hw, hl⟩ := combUnits_lasting (h.of_plan hwait.within.plan)
  have hrest := combStruck_rest h
  exact ⟨(hwait.within.trans hw).trans hrest.within, fun y hy => (hrest.lasting y hy).trans ((hl y hy).trans (hwait.lasting y hy))⟩

theorem combStruck_axis {s : State} (h : CombFree s) {a : Nat} (ha : isAxis a = true) (hoff : s.st a ≠ usOff) (hret : s.st a ≠ usRetired) :
    AxisDown a (combStruck s) := by
  have hwait := facesWait_step 0 s
  have hst := hwait.st a ha (axis_ne_root ha)
  have hdown := combUnits_axis (h.of_plan hwait.within.plan) ha (by rw [hst]; exact hoff) (by rw [hst]; exact hret)
  exact hdown.step (combStruck_rest h) ha (axis_ne_root ha)

/-! ### The whole COMB reset -/

/-- The shadows of a COMB reset are open (12 R275), and the sessions' slots are told. -/
def combShadowed (s : State) : State :=
  (allSleeves.foldl (fun t k => openShadow t k 0x30000 [0])
    (combAxes.foldl (fun t a => if t.st a = usOff then t else openShadow t a 0x30000 [0, 1, 2]) s)).setN 0 0x0B5300 0xFF

/-- The state of the cells, the rehousings, and what was under way in clusters, kernels and recorders is gone (R383). -/
def combEmptied (s : State) : State := { s with
  cells := []
  rehousings := []
  outbox := []
  clusters := []
  kernels := s.kernels.map fun e => (e.1, { e.2 with run := none })
  recorders := s.recorders.map fun e => (e.1, { run := e.2.run, buffer := e.2.buffer, loss := e.2.loss }) }

/-- A group that holds a sleeve of an axis goes to STO; any other ends its release (13 Table 13-4). -/
def groupStruck (t : State) (g : Nat) : State :=
  if (t.group g).high ∧ (groupSleeves t g).any (fun k => axisOf t k != 0) then decideSto t g 7
  else modGroup t g fun x => { x with releasing := false }

/-- The COMB reset is held from now on. -/
def combBegun (s : State) : State := modRst s fun x => { x with combDown := true, stretch := true }

/-- A COMB reset begins (R383). -/
def combEntered (s : State) : State := combBegun (allGroups.foldl groupStruck (combStruck (combEmptied (combShadowed s))))

theorem combBegin_eq {s : State} (h : s.rst.combDown = false) : combBegin s = combEntered s := by
  unfold combBegin
  rw [if_neg (by rw [h]; decide)]
  unfold combEntered combBegun combStruck combEmptied combShadowed combUnits facesWait cellsDefault combAxes
  rfl

/-- Where no output of the veil is high, a COMB reset ends releases and does nothing else to the veil. -/
theorem groupsStruck_veil {s : State} (h : ∀ g < 8, (s.group g).high = false) : ∃ v, allGroups.foldl groupStruck s = { s with veil := v } := by
  have hlow : ∀ g ∈ allGroups, g < 8 := fun g hg => List.mem_range.mp hg
  have hfold : ∃ v, allGroups.foldl groupStruck s = { s with veil := v } ∧ ∀ g < 8, (({ s with veil := v } : State).group g).high = false := by
    refine List.foldlRecOn allGroups groupStruck (motive := fun t => ∃ v, t = { s with veil := v } ∧ ∀ g < 8, (({ s with veil := v } : State).group g).high = false)
      ⟨s.veil, rfl, h⟩ ?_
    rintro t ⟨v, rfl, hv⟩ g hg
    have hstep : groupStruck { s with veil := v } g = modGroup { s with veil := v } g fun x => { x with releasing := false } :=
      if_neg fun hh => by simp [hv g (hlow g hg)] at hh
    refine ⟨_, hstep, fun g' hg' => ?_⟩
    show (mapGet {} (mapPut {} v.groups g _) g').high = false
    rw [mapGet_mapPut]
    split
    · exact hv g (hlow g hg)
    · exact hv g' hg'
  obtain ⟨v, hv, -⟩ := hfold
  exact ⟨v, hv⟩

end Sys2Proof.Machine
end

section
/-! SUPPORT. O57: ResetRequest, the COMB reset and JtagUnlock (17 R376, R382, R383, R389). -/

namespace Sys2Proof.Machine

/-- The shadows and the notice to the sessions' slots touch no axis. -/
theorem combShadowed_keeps (s : State) : Within s (combShadowed s) ∧ (combShadowed s).n 0 0x0B5300 = 0xFF
    ∧ (∀ y, Lasting y → y ≠ 0x0B5300 → (combShadowed s).val 0 y = s.val 0 y) ∧ (∀ a, (combShadowed s).st a = s.st a) := by
  have hshadow : ∀ (t : State) (u : Nat) (bits : List Nat), Within t (openShadow t u 0x30000 bits) ∧ (openShadow t u 0x30000 bits).dict = t.dict := fun t u bits =>
    ⟨.openShadow .., rfl⟩
  have hfold : ∀ (l l' : List Nat), Within s (l.foldl (fun t k => openShadow t k 0x30000 [0])
        (l'.foldl (fun t a => if t.st a = usOff then t else openShadow t a 0x30000 [0, 1, 2]) s))
      ∧ (l.foldl (fun t k => openShadow t k 0x30000 [0]) (l'.foldl (fun t a => if t.st a = usOff then t else openShadow t a 0x30000 [0, 1, 2]) s)).dict = s.dict := by
    intro l l'
    refine List.foldlRecOn l _ (motive := fun t => Within s t ∧ t.dict = s.dict) ?_ fun t ⟨hw, hd⟩ k _ => ⟨hw.trans (hshadow ..).1, (hshadow ..).2.trans hd⟩
    refine List.foldlRecOn l' _ (motive := fun t => Within s t ∧ t.dict = s.dict) ⟨.refl s, rfl⟩ fun t ⟨hw, hd⟩ a _ => ?_
    split
    · exact ⟨hw, hd⟩
    · exact ⟨hw.trans (hshadow ..).1, (hshadow ..).2.trans hd⟩
  obtain ⟨hw, hd⟩ := hfold allSleeves combAxes
  unfold combShadowed
  generalize allSleeves.foldl (fun t k => openShadow t k 0x30000 [0]) _ = t at hw hd ⊢
  exact ⟨hw.trans (.setV ..), setN_n_self .., fun y hy hne => (setN_val_ne _ _ (by decide) hy.steady.1 hne).trans (val_of_dict hd),
    fun a => (setN_n_ne _ _ (by decide) (by decide) (.inr (by decide))).trans (n_of_val (val_of_dict hd))⟩

theorem combEmptied_plan (z : State) : (combEmptied z).plan = z.plan := rfl
theorem combEmptied_veil (z : State) : (combEmptied z).veil = z.veil := rfl
theorem combEmptied_val (z : State) (x y : Nat) : (combEmptied z).val x y = z.val x y := val_of_dict rfl

/-- The effect of a COMB reset: what it leaves, and that nothing waits that did not. -/
structure CombReset (s t : State) : Prop where
  down : CombDown s t
  pending : t.pending = s.pending
  calm : CalmSame s.slots t.slots
  rst : t.rst = { s.rst with combDown := true, stretch := true }
  lasting : ∀ y, Lasting y → y ≠ 0x0B5300 → t.val 0 y = s.val 0 y

/-- A state z with the shadows open, and what the steps have left of it without its cells. -/
theorem combBegun_reset {s z w : State} (v : VeilS) (hz : Within s z) (hnotice : z.n 0 0x0B5300 = 0xFF)
    (hkept : ∀ y, Lasting y → y ≠ 0x0B5300 → z.val 0 y = s.val 0 y) (hw : Within (combEmptied z) w) (hlasting : ∀ y, Lasting y → w.val 0 y = z.val 0 y)
    (haxes : ∀ a, isAxis a = true → s.st a ≠ usOff → s.st a ≠ usRetired → AxisDown a w) : CombReset s (combBegun { w with veil := v }) := by
  have hval : ∀ x y, (combBegun { w with veil := v }).val x y = w.val x y := fun _ _ => val_of_dict rfl
  have hdown : ∀ a, isAxis a = true → s.st a ≠ usOff → s.st a ≠ usRetired → AxisDown a (combBegun { w with veil := v }) := fun a ha hoff hret => by
    obtain ⟨hd, hqueue⟩ := haxes a ha hoff hret
    exact ⟨(n_of_val (hval ..)).trans hd, (congrArg (fun x : AxisS => x.traj.queue) (axis_of_axes (s := w) rfl a)).trans hqueue⟩
  have hfull := (n_of_val ((hval 0 _).trans (hlasting _ (.inl rfl)))).trans hnotice
  have hrst : w.rst = s.rst := hw.rst.trans hz.rst
  exact ⟨⟨rfl, rfl, hw.cells, hw.rehousings, hfull, hdown, hw.time.trans hz.time, hw.beat.trans hz.beat, hw.can.trans hz.can, hw.field.trans hz.field,
    hw.nva.trans hz.nva, hw.journal.trans hz.journal, hw.jobs.trans hz.jobs, hw.keys.trans hz.keys, hw.plan.trans hz.plan⟩, hw.pending.trans hz.pending,
    hz.calm.trans hw.calm, congrArg (fun r : ResetS => { r with combDown := true, stretch := true }) hrst,
    fun y hy hne => (hval 0 y).trans ((hlasting y hy).trans (hkept y hy hne))⟩

/-- What a COMB reset leaves, where its axes and sleeves are as a plan has them and no output of the veil is high. -/
theorem combEntered_reset {s : State} (hfree : CombFree s) (hlow : ∀ g < 8, (s.group g).high = false) : CombReset s (combEntered s) := by
  obtain ⟨hz, hnotice, hkept, hst⟩ := combShadowed_keeps s
  have hempty : CombFree (combEmptied (combShadowed s)) := hfree.of_plan ((combEmptied_plan _).trans hz.plan)
  have hval := combEmptied_val (combShadowed s)
  have hst' : ∀ a, (combEmptied (combShadowed s)).st a = s.st a := fun a => (n_of_val (hval ..)).trans (hst a)
  obtain ⟨hw, hlasting⟩ := combStruck_lasting hempty
  have hveil := hw.veil.trans ((combEmptied_veil _).trans hz.veil)
  obtain ⟨v, hv⟩ := groupsStruck_veil (s := combStruck (combEmptied (combShadowed s))) fun g hg => by
    unfold State.group
    rw [hveil]
    exact hlow g hg
  have heq : combEntered s = _ := congrArg combBegun hv
  rw [heq]
  exact combBegun_reset v hz hnotice hkept hw (fun y hy => (hlasting y hy).trans (hval 0 y)) fun a ha hoff hret =>
    combStruck_axis hempty ha (fun h => hoff ((hst' a).symm.trans h)) fun h => hret ((hst' a).symm.trans h)

/-- A source of reach COMB strikes a device in service, in another AON cycle than the last reset. -/
theorem assertSource_comb {s : State} (hphase : s.rst.phase = .running) (hk : s.rst.keeperDown = false)
    (hcomb : s.rst.combDown = false) (hsince : s.rst.since ≠ s.time.uptime)
    (src : ResetSource) : assertSource s src .comb = combBegin (causeNoted (struck s src) src .comb) := by
  unfold assertSource
  dsimp only
  rw [if_neg (by simp [hphase]), hphase]
  simp only [hk, hcomb, beq_eq_false_iff_ne.mpr hsince.symm, Bool.false_and, Bool.false_eq_true, if_false]
  exact congrArg combBegin (noteCause_fresh (struck s src) src .comb)

theorem struck_software_st (s : State) (a : Nat) : (struck s .swReq).st a = s.st a :=
  n_of_val (bump_keeps s 0 0x100000 a 0x030000 (by decide) (by decide) (by decide +kernel) (.inr (by decide)) ⟨by decide, by decide⟩)

theorem causeNoted_st (s : State) (src : ResetSource) (r : Reach) (a : Nat) : (causeNoted s src r).st a = s.st a :=
  (modRst_at_n ..).trans ((setN_n_ne _ _ (by decide) (by decide) (.inr (by decide))).trans (setN_n_ne _ _ (by decide) (by decide) (.inr (by decide))))

/-- The device as a software reset of reach COMB finds it. -/
def combAsked (s : State) (o : Option Origin) : State := causeNoted (struck (requestTaken s .comb o) .swReq) .swReq .comb

/-- Its dictionary, but for the cause, the reach and the count, and what a COMB reset lets go on are those of s. -/
theorem combAsked_keeps (s : State) (o : Option Origin) : (combAsked s o).time = s.time ∧ (combAsked s o).beat = s.beat ∧ (combAsked s o).can = s.can
    ∧ (combAsked s o).field = s.field ∧ (combAsked s o).nva = s.nva ∧ (combAsked s o).journal = s.journal ∧ (combAsked s o).jobs = s.jobs
    ∧ (combAsked s o).keys = s.keys ∧ (combAsked s o).plan = s.plan ∧ (combAsked s o).veil = s.veil ∧ (combAsked s o).pending = s.pending := by
  have hasked := resetAsked_within s .comb o
  have hcounted := Within.bump (requestTaken s .comb o) 0 0x100000
  have hnoted := (Within.setV (struck (requestTaken s .comb o) .swReq) 0 0x100100 (.num (sourceCode .swReq))).trans (.setV _ 0 0x100200 (.num (reachCode .comb)))
  exact ⟨hnoted.time.trans (hcounted.time.trans hasked.time), hnoted.beat.trans (hcounted.beat.trans hasked.beat),
    hnoted.can.trans (hcounted.can.trans hasked.can), hnoted.field.trans (hcounted.field.trans hasked.field), hnoted.nva.trans (hcounted.nva.trans hasked.nva),
    hnoted.journal.trans (hcounted.journal.trans hasked.journal), hnoted.jobs.trans (hcounted.jobs.trans hasked.jobs),
    hnoted.keys.trans (hcounted.keys.trans hasked.keys), hnoted.plan.trans (hcounted.plan.trans hasked.plan), hnoted.veil.trans (hcounted.veil.trans hasked.veil),
    hnoted.pending.trans (hcounted.pending.trans hasked.pending)⟩

theorem combAsked_st (s : State) (o : Option Origin) (a : Nat) : (combAsked s o).st a = s.st a :=
  (causeNoted_st ..).trans ((struck_software_st ..).trans (requestTaken_n ..))

theorem combAsked_counts (s : State) (o : Option Origin) : Counts s (combAsked s o) 0 0x100000 :=
  (struck_counts (requestTaken s .comb o) .swReq).of_n (requestTaken_n ..) (n_of_val (causeNoted_val _ _ _ (by decide) (by decide)))

/-- What a COMB reset leaves looks back at what goes on through it and at the states of the axes. -/
theorem combDown_of {s s' t : State} (h : CombDown s' t) (hst : ∀ a, s'.st a = s.st a) (hsame : s'.time = s.time ∧ s'.beat = s.beat ∧ s'.can = s.can
    ∧ s'.field = s.field ∧ s'.nva = s.nva ∧ s'.journal = s.journal ∧ s'.jobs = s.jobs ∧ s'.keys = s.keys ∧ s'.plan = s.plan) : CombDown s t := by
  obtain ⟨htime, hbeat, hcan, hfield, hnva, hjournal, hjobs, hkeys, hplan⟩ := hsame
  unfold CombDown at h ⊢
  simpa only [hst, htime, hbeat, hcan, hfield, hnva, hjournal, hjobs, hkeys, hplan] using h

end Sys2Proof.Machine

namespace Sys2Proof.Proofs
open Sys2Proof.Machine

section
variable {s : State} {o : Option Origin} {row : ObjRow} (hs : Serving s) (hq : Calm s) (hcomb : s.rst.combDown = false) (hfree : CombFree s)
  (hlow : ∀ g < 8, (s.group g).high = false)
include hs hq hcomb hfree hlow

/-- The COMB reset itself (R383). -/
theorem combReset_completes : Completes .combReset s (CombDown s) := by
  have hreset := combEntered_reset hfree hlow
  have heffect : whenReady s (combBegin s) = combEntered s := (whenReady_of hs).trans (combBegin_eq hcomb)
  have hcalm : Calm (combEntered s) := ⟨fun i => (hreset.calm i).trans (hq.1 i), by rw [hreset.rst]; exact hq.2.1, by rw [hreset.rst]; exact hq.2.2⟩
  exact ⟨_, done_next rfl (congrArg (fun t => done s (whenWf _ s t)) heffect) hcalm hreset.pending, hreset.down⟩

/-- A COMB reset that was asked for, once the reply has left. -/
theorem resetRequestComb_completes (hp : Passes s 0x1010 { unit := 0, data := leBytes 1 4, origin := o } row) (hsince : s.rst.since ≠ s.time.uptime)
    (h : bitOf s.rst.fuses.swMask 3 = true) (hl : replyLeft (resetAsked s .comb o) o = true) : Completes (.resetRequestComb o) s fun t =>
      CombDown s t ∧ t.n 0 0x100100 = sourceCode .swReq ∧ t.n 0 0x100200 = reachCode .comb ∧ Counts s t 0 0x100000 := by
  have hrst := requestTaken_rst .comb o hq
  have htime : (requestTaken s .comb o).time = s.time := (resetAsked_within s .comb o).time
  obtain ⟨b, hb⟩ := struck_rst (requestTaken s .comb o) .swReq
  obtain ⟨h1, h2, h3, h4, h5, h6, h7, h8, hplan, hveil, hpend⟩ := combAsked_keeps s o
  have hnot : (combAsked s o).rst.combDown = false := by
    rw [show (combAsked s o).rst.combDown = (struck (requestTaken s .comb o) .swReq).rst.combDown from rfl, hb, hrst]
    exact hcomb
  have heffect : assertSource (requestTaken s .comb o) .swReq .comb = combEntered (combAsked s o) :=
    (assertSource_comb (by rw [hrst]; exact hs.1) (by rw [hrst]; exact hs.2) (by rw [hrst]; exact hcomb) (by rw [hrst, htime]; exact hsince) .swReq).trans
      (combBegin_eq hnot)
  have hreset := combEntered_reset (hfree.of_plan hplan) fun g hg => by rw [group_congr hveil]; exact hlow g hg
  have hnext := resetRequest_strikes (i := .resetRequestComb o) (r := .comb) hs hq hp rfl rfl rfl rfl rfl h hl
    (by rw [heffect]; exact hreset.pending.trans hpend)
  rw [heffect] at hnext
  refine ⟨_, hnext, ?_⟩
  generalize combEntered (combAsked s o) = t at hreset
  have hcause := causeNoted_cause (struck (requestTaken s .comb o) .swReq) .swReq .comb
  have hreach := causeNoted_reach (struck (requestTaken s .comb o) .swReq) .swReq .comb
  exact ⟨combDown_of hreset.down (combAsked_st s o) ⟨h1, h2, h3, h4, h5, h6, h7, h8, hplan⟩,
    (n_of_val (hreset.lasting _ (.inr (.inr (.inl rfl))) (by decide))).trans hcause, (n_of_val (hreset.lasting _ (.inr (.inr (.inr rfl))) (by decide))).trans hreach,
    (combAsked_counts s o).of_n rfl (n_of_val (hreset.lasting _ (.inr (.inl rfl)) (by decide)))⟩

end

/-- Settles O57: a reach that is not permitted, the three resets that a permitted one begins, the COMB reset, and JtagUnlock. -/
theorem resetRequests : Obligations.ResetRequests := by
  intro s o row hs hq hcomb hsrc hsince
  refine ⟨fun hp => ⟨resetRequest_refused hs hq hp rfl rfl rfl rfl rfl, fun h hl => resetRequest_restarts hs hq hp rfl rfl rfl rfl rfl hsrc (.inl rfl) h hl,
      resetRequest_waits hs hq hp rfl rfl rfl rfl rfl⟩,
    fun hp => ⟨resetRequest_refused hs hq hp rfl rfl rfl rfl rfl, fun h hl => resetRequest_restarts hs hq hp rfl rfl rfl rfl rfl hsrc (.inr rfl) h hl⟩,
    fun hp => ⟨resetRequest_refused hs hq hp rfl rfl rfl rfl rfl, resetRequestKeeper_completes hs hq hp hsince⟩,
    fun hcluster hsleeve hlow => ⟨fun hp => resetRequest_refused hs hq hp rfl rfl rfl rfl rfl,
      fun hp => resetRequestComb_completes hs hq hcomb ⟨hcluster, hsleeve⟩ hlow hp hsince, combReset_completes hs hq hcomb ⟨hcluster, hsleeve⟩ hlow⟩,
    fun x hp hu => ⟨fun hj => ?_, fun hj => ?_⟩⟩
  · exact jtagUnlock_next hs hp hu (if_neg (by rw [hj]; decide)) hq rfl
  · exact jtagUnlock_next hs hp hu (if_pos (by rw [hj]; rfl)) hq rfl

end Sys2Proof.Proofs
end

section
/-! SUPPORT. O59: drain and unit reset (17 R384, R385). -/

namespace Sys2Proof.Machine

/-! ### Drain (R384) -/

theorem drainState_idle {s : State} {u : Nat} (hd : draining s u = true) (hi : idleForDrain s u = true) : drainState s u = 2 := by simp [drainState, hd, hi]

theorem drainState_busy {s : State} {u : Nat} (h : draining s u = false ∨ idleForDrain s u = false) : drainState s u ≠ 2 := by
  unfold drainState
  rcases h with hd | hi
  · simp [hd]
  · split
    · decide
    · simp [hi]

/-- The reserve is watched after a drain has begun or ended. -/
def drainSet (s : State) (u d : Nat) : State := watchReserve (s.setN u 0x101200 d)

theorem Within.drainSet (s : State) (u d : Nat) : Within s (drainSet s u d) := (Within.setV ..).trans (.watchReserve _)

theorem watchReserve_n (s : State) {u y : Nat} (hy : Steady y) : (watchReserve s).n u y = s.n u y :=
  n_of_val (watchReserve_keeps (fun t => t.val u y) s (fun _ _ _ => setFault_at_val ..) fun _ _ =>
    publish_keeps _ _ _ _ _ _ hy.1 (.inr ⟨hy.2.2.1, hy.2.2.2.2.1⟩))

theorem drainSet_drain (s : State) (u d : Nat) : (drainSet s u d).n u 0x101200 = d :=
  (watchReserve_n _ (by unfold Steady; decide)).trans (setN_n_self ..)

theorem drainSet_st (s : State) (u d : Nat) : (drainSet s u d).st u = s.st u :=
  (watchReserve_st ..).trans (setN_n_ne _ _ (by decide) (by decide) (.inr (by decide)))

theorem drainMove_none {s : State} {u : Nat} (h : isCell u = false ∨ (s.cell u).work.role = .none) : drainMove s u = s := by
  unfold drainMove
  dsimp only
  rw [if_pos]
  exact h.elim (fun h => .inl (by rw [h]; rfl)) fun h => .inr (.inl h)

/-- A unit with no role to move begins its drain. -/
theorem drainStart_begins {s : State} {u : Nat} (hret : s.st u ≠ usRetired) (hre : s.rehousings.any (fun r => r.failed == u && r.replaces.isSome) = false)
    (hd : draining s u = false) (hrole : isCell u = false ∨ (s.cell u).work.role = .none) : drainStart s u = (stOk, drainSet s u 1) := by
  have hmove : drainMove (s.setN u 0x101200 1) u = s.setN u 0x101200 1 := drainMove_none (by rw [setN_eq, setV_at_cell]; exact hrole)
  unfold drainStart
  rw [if_neg (by simp [hret, hre]), if_neg (by rw [hd]; decide), hmove, drainSet]

/-- A drain for which no move is under way is given up. -/
theorem drainCancel_ends {s : State} {u : Nat} (hret : s.st u ≠ usRetired) (hre : ∀ r ∈ s.rehousings, r.failed ≠ u) :
    drainCancel s u = (stOk, drainSet s u 0) := by
  have hany : s.rehousings.any (fun r => r.failed == u && r.replaces.isSome) = false := List.any_eq_false.mpr fun r hr => by simp [hre r hr]
  have hmine : s.rehousings.filter (fun r => r.kind == .drain && r.failed == u) = [] := List.filter_eq_nil_iff.mpr fun r hr => by simp [hre r hr]
  have hothers : s.rehousings.filter (fun r => !(r.kind == .drain && r.failed == u)) = s.rehousings := List.filter_eq_self.mpr fun r hr => by simp [hre r hr]
  have hsame : ∀ t : State, t.rehousings = s.rehousings → { t with rehousings := s.rehousings } = t := fun t h => by rw [← h]
  unfold drainCancel
  rw [if_neg (by simp [hret, hany])]
  dsimp only
  rw [hmine, hothers, List.foldl_nil, hsame (s.setN u 0x101200 0) (setV_rehousings ..), drainSet]

theorem drainCommand_start (s : State) (u : Nat) : drainCommand s u (leNat (leBytes 1 1)) = drainStart s u := if_pos rfl
theorem drainCommand_cancel (s : State) (u : Nat) : drainCommand s u (leNat (leBytes 1 2)) = drainCancel s u := if_neg (by decide)

/-! ### The write -/

theorem commonWrite_drain {s : State} {w : Write} {row : ObjRow} (hp : Passes s 0x1011 w row) :
    commonWrite s w.unit 0x1011 row w = some (withStatus (drainCommand s w.unit (leNat w.data))) := by
  simp [commonWrite, (hp.acting (by decide)).2]

theorem commonWrite_unitReset {s : State} {w : Write} {row : ObjRow} (hp : Passes s 0x1013 w row) :
    commonWrite s w.unit 0x1013 row w = some (withStatus (unitReset s w.unit)) := by
  simp [commonWrite, (hp.acting (by decide)).2]

theorem Passes.wfUnit {s : State} {o : Nat} {w : Write} {row : ObjRow} (hp : Passes s o w row) : wfUnit w.unit = true := (Bool.and_eq_true_iff.mp hp.wf).1

/-! ### Reset of a recorder or a CAN controller (R385) -/

/-- A recorder or a CAN controller. -/
def Simple (u : Nat) : Prop := isRecorder u = true ∨ wfCan u = true

theorem Simple.mem {u : Nat} (h : Simple u) : u ∈ recorderUnits ++ [0x500, 0x501] := by
  simp only [Simple, isRecorder, wfCan, decide_eq_true_eq, recorderUnits, List.mem_append, List.mem_map, List.mem_range, List.mem_cons, List.not_mem_nil, or_false] at h ⊢
  rcases h with h | h
  · exact .inl ⟨u - 0x400, by omega, by omega⟩
  · exact .inr (by omega)

theorem Simple.ne_root {u : Nat} (h : Simple u) : u ≠ 0 := by
  rintro rfl
  exact h.elim (by decide) (by decide)

set_option maxRecDepth 100000 in
/-- DrainRequest of such a unit is not journaled, and 0 by default. -/
theorem Simple.drainObject {u : Nat} (h : Simple u) : defaultAt (keyOf u 0x101200) = .num 0
    ∧ ((rowOf ((kindOf u).getD .cell) 0x1012 0).map ObjRow.jour).getD false = false := by
  have hall : ∀ u ∈ recorderUnits ++ [0x500, 0x501], defaultAt (keyOf u 0x101200) = .num 0
      ∧ ((rowOf ((kindOf u).getD .cell) 0x1012 0).map ObjRow.jour).getD false = false := by decide +kernel
  exact hall u h.mem

/-- The dictionary of a unit is at its defaults, but for what outlasts its reset. -/
def unitCleared (s : State) (u : Nat) : State := keepSaturation s { s with dict := unitDict s u } u

theorem keepSaturation_keeps (s t : State) (u : Nat) : DictOnly t (keepSaturation s t u)
    ∧ ∀ x y, y < 0x0B1000 ∨ 0x0B1020 ≤ y → y < 2 ^ 24 → (keepSaturation s t u).val x y = t.val x y := by
  have hsat : ∀ kd, stickIndex kd 0x0B03 0 / 32 < 32 := by
    intro kd
    cases kd <;> decide +kernel
  have hlt := hsat ((kindOf u).getD .cell)
  unfold keepSaturation
  dsimp only
  split
  · refine ⟨.setV .., fun x y hapart hy => ?_⟩
    exact setV_read_ne _ _ (by intro he; rw [keyOf_inj (by omega) hy] at he; omega)
  · exact ⟨.refl t, fun _ _ _ _ => rfl⟩

theorem unitCleared_only (s : State) (u : Nat) : DictOnly s (unitCleared s u) :=
  DictOnly.trans ⟨unitDict s u, rfl⟩ (keepSaturation_keeps s _ u).1

/-- The other units' objects stay. -/
theorem unitCleared_other (s : State) {u x y : Nat} (hx : x ≠ u) (hy : y < 0x0B1000 ∨ 0x0B1020 ≤ y) (hlt : y < 2 ^ 24) :
    (unitCleared s u).val x y = s.val x y := by
  have hunit : keyOf x y / 2 ^ 24 = x := by unfold keyOf; omega
  refine ((keepSaturation_keeps ..).2 x y hy hlt).trans ?_
  show mapGet _ (unitDict s u) _ = mapGet _ s.dict _
  unfold mapGet unitDict
  rw [mapFind_filter _ _ _ fun v => by
    show (keyOf x y / 2 ^ 24 != u || _) = true
    rw [hunit, bne_iff_ne.mpr hx, Bool.true_or]]

/-- The drain of the unit is over. -/
theorem unitCleared_drain (s : State) {u : Nat} (h : Simple u) : (unitCleared s u).n u 0x101200 = 0 := by
  obtain ⟨hdefault, hjour⟩ := h.drainObject
  have hunit : keyOf u 0x101200 / 2 ^ 24 = u := by unfold keyOf; omega
  have hobj : keyOf u 0x101200 / 256 % 2 ^ 16 = 0x1012 ∧ keyOf u 0x101200 % 256 = 0 := by unfold keyOf; omega
  have hgone : mapFind (unitDict s u) (keyOf u 0x101200) = none := by
    refine mapFind_filter_none _ _ _ fun v => ?_
    dsimp only
    rw [hunit, hobj.1, hobj.2, hjour]
    simp
  refine (n_of_val ((keepSaturation_keeps ..).2 u _ (by decide) (by decide))).trans ?_
  show (valInt (mapGet _ (unitDict s u) _)).toNat = 0
  rw [mapGet, hgone, hdefault]
  rfl

/-- A unit that its reset has stopped. -/
def unitStopped (s : State) (u : Nat) : State := setUnit true (unitCleared s u) u usDisabled

/-- A state p in which the reset of the unit has stopped and cleared it, and nothing else. -/
structure UnitHalted (s p : State) (u : Nat) : Prop where
  undisturbed : Undisturbed s p
  st : p.st u = usDisabled
  drain : p.n u 0x101200 = 0
  count : p.n 0 0x101500 = s.n 0 0x101500
  axes : p.axes = s.axes
  sleeves : p.sleeves = s.sleeves

theorem unitStopped_halted {s : State} {u : Nat} (h : Simple u) (hn : NoCluster s u) : UnitHalted s (unitStopped s u) u := by
  obtain ⟨d, hd⟩ := unitCleared_only s u
  have hcleared : Undisturbed s (unitCleared s u) := by rw [hd]; exact ⟨.refl _, rfl, rfl⟩
  have hfree : NoCluster (unitCleared s u) u := hn.of_plan (by rw [hd])
  refine ⟨hcleared.trans (Within.setUnit ..).undisturbed, setUnit_st _ _ _ _ hfree, ?_, ?_, ?_, ?_⟩
  · exact (n_of_val (setUnit_val _ _ _ _ _ _ hfree (by unfold Steady; decide))).trans (unitCleared_drain s h)
  · exact n_of_val ((setUnit_val _ _ _ _ _ _ hfree (by unfold Steady; decide)).trans (unitCleared_other s h.ne_root.symm (by decide) (by decide)))
  · exact (setUnit_axes _ _ _ _ hfree).trans (by rw [hd])
  · exact (setUnit_sleeves _ _ _ _ hfree).trans (by rw [hd])

/-- Only objects of CAN controllers are written. -/
structure CanObjects (s t : State) : Prop where
  only : DictOnly s t
  others : ∀ x y, y < 2 ^ 24 → y < 0x0E0000 ∨ 0x0F0000 ≤ y → t.val x y = s.val x y

theorem CanObjects.refl (s : State) : CanObjects s s := ⟨.refl s, fun _ _ _ _ => rfl⟩

theorem CanObjects.trans {s t v : State} (h : CanObjects s t) (g : CanObjects t v) : CanObjects s v :=
  ⟨h.only.trans g.only, fun x y hy ho => (g.others x y hy ho).trans (h.others x y hy ho)⟩

theorem CanObjects.setV (s : State) (u : Nat) {c : Nat} (v : Val) (h : 0x0E0000 ≤ c ∧ c < 0x0F0000) : CanObjects s (s.setV u c v) :=
  ⟨.setV .., fun x y hy ho => setV_read_ne _ _ (by intro he; rw [keyOf_inj (by omega) hy] at he; omega)⟩

/-- A controller's part of a reset writes its objects, its slots and its FIFO. -/
theorem canReset_objects (s : State) (u : Nat) : CanObjects (s.setCan u {}) (canReset s u) := by
  have hslots : CanObjects (s.setCan u {}) ((List.range 32).foldl (fun t i => (t.setN u (0x0E1100 + i) 0).setN u (0x0E1200 + i) 0) (s.setCan u {})) :=
    List.foldlRecOn _ _ (motive := CanObjects (s.setCan u {})) (.refl _) fun t ht i hi => by
      have hlt := List.mem_range.mp hi
      exact (ht.trans (.setV _ _ _ ⟨by omega, by omega⟩)).trans (.setV _ _ _ ⟨by omega, by omega⟩)
  unfold canReset showErrors
  exact ((((hslots.trans (.setV _ _ _ (by decide))).trans (.setV _ _ _ (by decide))).trans (.setV _ _ _ (by decide))).trans (.setV _ _ _ (by decide))).trans
    (.setV _ _ _ (by decide))

theorem UnitHalted.setRec {s p : State} {u : Nat} (h : UnitHalted s p u) (x : RecS) : UnitHalted s (p.setRec u x) u :=
  ⟨h.undisturbed.trans (Within.setRec ..).undisturbed, h.st, h.drain, h.count, h.axes, h.sleeves⟩

theorem UnitHalted.canReset {s p : State} {u : Nat} (h : UnitHalted s p u) : UnitHalted s (canReset p u) u := by
  obtain ⟨⟨d, hd⟩, hothers⟩ := canReset_objects p u
  have hval : ∀ x y, y < 2 ^ 24 → y < 0x0E0000 ∨ 0x0F0000 ≤ y → (Machine.canReset p u).val x y = p.val x y := fun x y hy ho =>
    (hothers x y hy ho).trans (val_of_dict (setCan_dict ..))
  have hpart : Undisturbed p (Machine.canReset p u) := by rw [hd]; exact ⟨.refl _, rfl, rfl⟩
  exact ⟨h.undisturbed.trans hpart, (n_of_val (hval _ _ (by decide) (by decide))).trans h.st, (n_of_val (hval _ _ (by decide) (by decide))).trans h.drain,
    (n_of_val (hval _ _ (by decide) (by decide))).trans h.count, (by rw [hd]; exact h.axes), by rw [hd]; exact h.sleeves⟩

theorem canReset_can (s : State) (u : Nat) : (canReset s u).canOf u = {} := by
  obtain ⟨d, hd⟩ := (canReset_objects s u).only
  have hcan : (canReset s u).can = (s.setCan u {}).can := by rw [hd]
  exact (canOf_congr hcan u).trans (setCan_read_self ..)

/-- The reset is counted and reported. -/
def resetReported (s : State) (u : Nat) : State := publish (bump s 0 0x101500) u 0x1004 []

theorem unitResetCount_stick : StickCounter .root 0x101500 (2 ^ 32 - 1) := .of_check (by decide +kernel)

theorem Within.resetReported (s : State) (u : Nat) : Within s (resetReported s u) := (Within.bump ..).trans (.publish ..)

theorem resetReported_same (s : State) (u : Nat) : SameButEvents s (resetReported s u) := (bump_same ..).trans (publish_same ..)

theorem resetReported_val (s : State) {u x y : Nat} (hy : Steady y) (hne : y ≠ 0x101500) : (resetReported s u).val x y = s.val x y :=
  (publish_keeps _ _ _ _ _ _ hy.1 (.inr ⟨hy.2.2.1, hy.2.2.2.2.1⟩)).trans (unitResetCount_stick.keeps s 0 hy.1 hne ⟨hy.2.2.1, hy.2.2.2.2.1⟩)

theorem resetReported_st (s : State) (u : Nat) : (resetReported s u).st u = s.st u :=
  n_of_val ((publish_keeps _ _ _ _ _ _ (by decide) (.inr (by decide))).trans (unitResetCount_stick.keeps s 0 (by decide) (by decide) (by decide)))

theorem resetReported_counts (s : State) (u : Nat) : Counts s (resetReported s u) 0 0x101500 := fun hv =>
  (n_of_val (publish_keeps _ _ _ _ _ _ (by decide) (.inr (by decide)))).trans (unitResetCount_stick.counts rfl hv)

theorem unitRestart_recorder {s : State} {u : Nat} (h : kindOf u = some .recorder) : unitRestart s u = resetReported ((unitStopped s u).setRec u {}) u := by
  unfold unitRestart
  rw [h]
  rfl

theorem unitRestart_can {s : State} {u : Nat} (h : kindOf u = some .can) : unitRestart s u = resetReported (canReset (unitStopped s u) u) u := by
  unfold unitRestart
  rw [h]
  rfl

theorem unitReset_restarts {s : State} {u : Nat} (hret : s.st u ≠ usRetired) (hd : drainState s u = 2) : unitReset s u = (stOk, unitRestart s u) := by
  unfold unitReset
  rw [if_neg hret, if_neg (not_not.mpr hd)]

end Sys2Proof.Machine

namespace Sys2Proof.Proofs
open Sys2Proof.Machine

section
variable {s : State} {u : Nat} {o : Option Origin} {row : ObjRow} (hs : Serving s) (hq : Calm s)
include hs hq

section
variable {v : Nat} (hp : Passes s 0x1011 { unit := u, data := leBytes 1 v, origin := o } row) {i : Instr} (hw : i.wf = wfUnit u)
  (hx : exec i s = done s (whenWf i s (directCommand s u 0x1011 1 v o)))
include hp hw hx

/-- A write to DrainRequest is answered with its status and has its effect. -/
theorem drain_next {e : Nat} {t : State} (hr : drainCommand s u (leNat (leBytes 1 v)) = (e, t)) (ht : Within s t) : exec i s = .next (answerSt t o e) := by
  have heffect : directCommand s u 0x1011 1 v o = answerSt t o e := by
    refine (directWrite_acts (by decide) hs hp (writeEffect_common (commonWrite_drain hp))).trans ?_
    rw [show drainCommand s u (leNat (leBytes 1 v)) = (e, t) from hr]
    rfl
  exact settled_next hq (hw.trans hp.wfUnit) heffect hx (ht.trans (.answerSt ..)).undisturbed

theorem drain_completes {d : Nat} (hr : drainCommand s u (leNat (leBytes 1 v)) = (stOk, drainSet s u d)) :
    Completes i s fun t => t.n u 0x101200 = d ∧ t.st u = s.st u ∧ Apart s t :=
  ⟨_, drain_next hs hq hp hw hx hr (.drainSet ..), (answerSt_n ..).trans (drainSet_drain ..), (answerSt_st ..).trans (drainSet_st ..),
    ((Within.drainSet ..).trans (.answerSt ..)).apart⟩

end

section
variable (hp : Passes s 0x1013 { unit := u, data := leBytes 1 1, origin := o } row)
include hp

/-- UnitReset is answered with its status and has its effect. -/
theorem unitReset_next {e : Nat} {t : State} (hr : unitReset s u = (e, t)) (ht : Undisturbed s t) : exec (.unitReset u o) s = .next (answerSt t o e) := by
  have heffect : directCommand s u 0x1013 1 1 o = answerSt t o e := by
    refine (directWrite_acts (by decide) hs hp (writeEffect_common (commonWrite_unitReset hp))).trans ?_
    rw [show unitReset s u = (e, t) from hr]
    rfl
  exact settled_next hq hp.wfUnit heffect rfl (ht.trans (.answerSt ..))

/-- What the reset of a drained unit leaves, once its part is cleared. -/
theorem unitReset_halted {p : State} (hret : s.st u ≠ usRetired) (hd : draining s u = true) (hi : idleForDrain s u = true)
    (hr : unitRestart s u = resetReported p u) (h : UnitHalted s p u) : ∃ t, exec (.unitReset u o) s = .next t ∧ Within p t ∧ t.recorders = p.recorders
      ∧ t.st u = usDisabled ∧ draining t u = false ∧ Counts s t 0 0x101500 ∧ t.axes = s.axes ∧ t.sleeves = s.sleeves := by
  have hw := Within.resetReported p u
  have hsame := resetReported_same p u
  have hdrain : (answerSt (resetReported p u) o stOk).n u 0x101200 = 0 :=
    (answerSt_n ..).trans ((n_of_val (resetReported_val p (by unfold Steady; decide) (by decide))).trans h.drain)
  refine ⟨_, unitReset_next hs hq hp ((unitReset_restarts hret (drainState_idle hd hi)).trans (by rw [hr])) (h.undisturbed.trans hw.undisturbed),
    hw.trans (.answerSt ..), (answerSt_recorders ..).trans hsame.recorders, (answerSt_st ..).trans ((resetReported_st p u).trans h.st), ?_,
    (resetReported_counts p u).of_n h.count (answerSt_n ..), (answerSt_axes ..).trans (hsame.axes.trans h.axes),
    (answerSt_sleeves ..).trans (hsame.sleeves.trans h.sleeves)⟩
  unfold draining
  rw [hdrain]
  rfl

/-- The reset of a drained recorder or CAN controller. -/
theorem unitReset_completes (hret : s.st u ≠ usRetired) (hd : draining s u = true) (hi : idleForDrain s u = true) (hu : Simple u) (hn : NoCluster s u) :
    Completes (.unitReset u o) s fun t => t.st u = usDisabled ∧ draining t u = false ∧ Counts s t 0 0x101500
      ∧ (isRecorder u = true → t.rec' u = {}) ∧ (wfCan u = true → (t.canOf u).slots = [] ∧ (t.canOf u).fifo = []) ∧ t.axes = s.axes ∧ t.sleeves = s.sleeves := by
  have hhalted := unitStopped_halted hu hn
  have hone : ¬ (isRecorder u = true ∧ wfCan u = true) := by
    simp only [isRecorder, wfCan, decide_eq_true_eq]
    omega
  rcases hu with hrec | hcan
  · obtain ⟨t, hnext, -, hrecs, hst, hdrain, hcounts, haxes, hsleeves⟩ :=
      unitReset_halted hs hq hp hret hd hi (unitRestart_recorder (kindOf_recorder hrec)) (hhalted.setRec _)
    exact ⟨t, hnext, hst, hdrain, hcounts, fun _ => (rec_congr hrecs u).trans (setRec_read_self ..), fun hc => absurd ⟨hrec, hc⟩ hone, haxes, hsleeves⟩
  · obtain ⟨t, hnext, hw, -, hst, hdrain, hcounts, haxes, hsleeves⟩ :=
      unitReset_halted hs hq hp hret hd hi (unitRestart_can (wfCan_kind hcan)) hhalted.canReset
    have hempty : t.canOf u = {} := (canOf_congr hw.can u).trans (canReset_can ..)
    exact ⟨t, hnext, hst, hdrain, hcounts, fun hr => absurd ⟨hr, hcan⟩ hone, fun _ => by rw [hempty]; exact ⟨rfl, rfl⟩, haxes, hsleeves⟩

end

end

/-- Settles O59: DrainRequest begins and ends a drain, DRAIN_IDLE, and UnitReset, refused and carried out. -/
theorem drains : Obligations.Drains := by
  intro s u o row hs hq
  refine ⟨fun hp => ⟨fun hret => ?_, fun hret hre hd hrole => ?_⟩, fun hp => ⟨fun hret => ?_, fun hret hre => ?_⟩, fun hu hd hi => ?_, fun hu h => ?_,
    fun hp => ⟨fun hret => ?_, fun hret h => ?_, fun hret hd hi => unitReset_completes hs hq hp hret hd hi⟩⟩
  · exact drain_next hs hq hp rfl rfl ((drainCommand_start s u).trans (if_pos (.inl hret))) (.refl s)
  · exact drain_completes hs hq hp rfl rfl ((drainCommand_start s u).trans (drainStart_begins hret hre hd hrole))
  · exact drain_next hs hq hp rfl rfl ((drainCommand_cancel s u).trans (if_pos (.inl hret))) (.refl s)
  · exact drain_completes hs hq hp rfl rfl ((drainCommand_cancel s u).trans (drainCancel_ends hret hre))
  · exact runs_settled hs hq hu (if_pos (drainState_idle hd hi)) rfl (Within.setV ..).undisturbed
  · exact runs_settled hs hq hu (if_neg (drainState_busy h)) rfl (.refl s)
  · exact unitReset_next hs hq hp (if_pos hret) (.refl s)
  · exact unitReset_next hs hq hp ((if_neg hret).trans (if_pos (drainState_busy h))) (.refl s)

end Sys2Proof.Proofs
end
